-- ==== Sys2Proof/Word.lean ====
section
/-! DEFINITION. The plain data types every other file uses: bytes, byte strings, sparse tables kept as
sorted lists, and the plainest arithmetic on them (R9, R10, R554). -/

namespace Sys2Proof

/-- One byte of a message, a record or a memory. -/
abbrev Byte := BitVec 8

/-- A byte string. -/
abbrev Bytes := List Byte

/-- A table from numbers to values: pairs with strictly rising keys and no pair whose value is the value an
unlisted key reads as (`Sparse.wf`), so that equal tables are equal data. -/
abbrev Sparse (α : Type) := List (Nat × α)

/-- The little-endian bytes of a number, `n` of them (R9). -/
def leBytes : Nat → Nat → Bytes
  | 0, _ => []
  | n + 1, v => BitVec.ofNat 8 v :: leBytes n (v / 256)

/-- The number that little-endian bytes spell (R9). -/
def ofLe : Bytes → Nat
  | [] => 0
  | b :: bs => b.toNat + 256 * ofLe bs

/-- The unsigned code of a signed number in `bits` bits, two's complement (R10). -/
def encInt (bits : Nat) (v : Int) : Nat := (v % (2 ^ bits : Int)).toNat

/-- The signed number of a two's-complement code in `bits` bits (R10). -/
def decInt (bits : Nat) (v : Nat) : Int :=
  if v < 2 ^ (bits - 1) then (v : Int) else (v : Int) - (2 ^ bits : Int)

/-- An unsigned counter that stops at its largest value: every counter the object tables call saturating. -/
def satAdd (bits a b : Nat) : Nat := min (a + b) (2 ^ bits - 1)

/-- A signed number held within the limits of `bits` bits. -/
def satInt (bits : Nat) (v : Int) : Int :=
  max (-(2 ^ (bits - 1) : Int)) (min v ((2 ^ (bits - 1) : Int) - 1))

/-- Bit `i` of a number, bit 0 the least significant (R7). -/
def bit (v i : Nat) : Bool := v.testBit i

/-- A number with bit `i` made `b`. -/
def setBit (v i : Nat) (b : Bool) : Nat :=
  if b then v ||| (1 <<< i) else if v.testBit i then v - 2 ^ i else v

/-- The field [high:low] of a number (R7). -/
def bits (v high low : Nat) : Nat := (v >>> low) % 2 ^ (high + 1 - low)

/-- round(x) of a rational: the nearest integer, an exact half away from zero (R554). -/
def roundHalfAway (q : Rat) : Int :=
  if 0 ≤ q then ⌊q + 1 / 2⌋ else -⌊-q + 1 / 2⌋

/-- One for true, zero for false (R10: the byte of a BOOL). -/
def boolNat (b : Bool) : Nat := if b then 1 else 0

end Sys2Proof
end

