-- ==== Sys2Proof/Machine/Parts.lean ====
section
/-! DEFINITION. Parts of the state that the mirror of a redundant pair carries whole: the crumb ledger, the loop slots
and assemblies, the setting supervisor and the path element. -/

namespace Sys2Proof.Machine

/-- A piece record (R130, Table 2); a free record has stage FFh and keeps its old content. Masses and the
position are binary32 codes. -/
structure Piece where
  crumb : Nat := 0
  origin : Nat := 0
  lat : Nat := 0
  lon : Nat := 0
  width : Nat := 0
  dist : Nat := 0
  intake : Nat := 0
  grain : Nat := 0
  mog : Nat := 0
  x : Nat := 0
  entry : Nat := 0
  second : Nat := 0
  share : Nat := 0
  h : Nat := 0
  res : Nat := 0
  flags : Nat := 0
  stage : Nat := 0xFF
  outlet : Nat := 0
  passes : Nat := 0
  heading : Nat := 0
  quality : Nat := 0
  tstate : Nat := 0
  deriving DecidableEq, Repr

/-- An origin entry (R118): the crumb's origin data and what its pieces have been credited with. The sums are
exact (log entry 21). -/
structure Origin where
  crumb : Nat
  origin : Nat
  lat : Nat
  lon : Nat
  width : Nat
  dist : Nat
  intake : Nat
  heading : Nat
  quality : Nat
  tstate : Nat
  toff : Nat
  flags : Nat := 0
  grain : Rat := 0
  /-- Numerator and denominator of moisture, broken grain and foreign material. -/
  intens : List (Rat × Rat) := [(0, 0), (0, 0), (0, 0)]
  losses : List Rat := [0, 0, 0]
  notMeasured : Rat := 0
  deriving DecidableEq, Repr

/-- A slot of a measurement point (R143). -/
structure Slot where
  /-- Its first tick, below 0 for a slot that began before tick 0. -/
  start : Int
  q : Rat := 0
  count : Nat := 0
  gap : Bool := false
  deriving DecidableEq, Repr

/-- The values of one stage in a run (R133, R157). `t` is binary64, zero when the stage is stopped; the others are
binary32. -/
structure StageRun where
  kind : Nat
  next : List Nat
  t : Nat
  disp : Nat
  g : List Nat
  m : List Nat
  v : Nat
  bad : Bool
  assisted : Bool
  deriving DecidableEq, Repr

/-- A valid position solution, as the ledger keeps it (R128). -/
structure Fix where
  epoch : Nat
  lat : Rat
  lon : Rat
  vEast : Rat
  vNorth : Rat
  speed : Rat
  /-- Degrees, when the heading is known. -/
  heading : Option Rat
  quality : Nat
  deriving DecidableEq, Repr

/-- A page of the yield store (R150); a page that failed write verification has a bad CRC. -/
structure Page where
  seq : Nat
  period : Nat
  pair : Nat
  recs : List Bytes
  ok : Bool := true
  deriving DecidableEq, Repr

/-- The yield store (R150–R152). -/
structure YieldSt where
  /-- Pages by position, 0 to 131071. -/
  pages : Sparse (Option Page) := []
  pos : Nat := 0
  /-- The first page has sequence 1 (DEDUCED, log entry 47). -/
  nextSeq : Nat := 1
  mark : Nat := 0
  open_ : List Bytes := []
  /-- The export ring in DRAM: the pages it holds, newest first (R152). -/
  exported : List Page := []
  /-- The erase block ahead is still to be erased (R151). -/
  eraseDue : Bool := false
  /-- Of the pages written in the command under way: how often each fails write verification first. -/
  fails : List Nat := []
  deriving DecidableEq, Repr

/-- A copy of the ledger in the checkpoint region (R158): the sequence number and the run tick of its header, and the
four bytes of the CRC-32C that the header carries, none until the header is written; then what the copy holds. -/
structure Ckpt where
  seq : Nat
  tick : Nat
  crc : Option Bytes
  recs : Sparse Piece
  origins : Sparse (Option Origin)
  slots : Sparse (List Slot)
  openPage : List Bytes
  next : Nat
  ratio : Nat
  mark : Nat
  /-- End of the latest slot attributed, which the open slots tell (R145). -/
  front : Option Nat
  deriving DecidableEq, Repr

/-- The crumb ledger (R118–R160). -/
structure LedSt where
  recs : Sparse Piece := []
  origins : Sparse (Option Origin) := []
  /-- Slots not yet attributed, oldest first, by point. -/
  slots : Sparse (List Slot) := []
  /-- The first run after an enable, and after a start, is still to come; the tick of the latest enable by a write. -/
  fresh : Bool := true
  startRun : Bool := true
  enabledAt : Option Nat := none
  next : Nat := 0
  ratio : Nat := 0x3EE66666
  /-- The ratio starts from CRB_GRAIN_RATIO again: the tick of a write that no run has taken up yet (R75, R129). -/
  ratioAt : Option Nat := none
  /-- Stage values last applied (R157). -/
  applied : List StageRun := []
  /-- End of the latest slot attributed (R145). -/
  front : Option Nat := none
  /-- CRB_REDUCED stays true until this tick (R140). -/
  reducedUntil : Option Nat := none
  /-- The T4000 period of the latest checkpoint. -/
  ckPeriod : Option Nat := none
  fix : Option Fix := none
  /-- The ledger step overran in this tick (R123). -/
  missed : Bool := false
  /-- Records moved in the run under way. -/
  touched : List Nat := []
  ys : YieldSt := {}
  ckA : Option Ckpt := none
  ckB : Option Ckpt := none
  /-- The copy under way, whose header is still to be written: false A, true B. -/
  ckRun : Option Bool := none
  deriving DecidableEq, Repr

/-- A notch in a slot's measurement path (R169): the settings it was computed with, its coefficients and state,
its last output while in use. All numbers are binary32 codes. -/
structure Notch where
  f0 : Nat := 0
  q : Nat := 0
  depth : Nat := 0
  b0 : Nat := 0
  b1 : Nat := 0
  b2 : Nat := 0
  a2 : Nat := 0
  s1 : Nat := 0
  s2 : Nat := 0
  out : Option Nat := none
  deriving DecidableEq, Repr

/-- A feed-forward term (R173–R175): its value, the tick of its first invalid run, whether it was dropped, the
settings it was computed with. -/
structure FfTerm where
  val : Nat := 0
  since : Option Nat := none
  dropped : Bool := false
  seen : List Nat := []
  deriving DecidableEq, Repr

/-- A loop slot's internal state (R165–R181), binary32 codes. -/
structure FlSt where
  /-- The next run starts from the initial state (R177). -/
  init : Bool := true
  i : Nat := 0
  d : Nat := 0
  dd : Nat := 0
  r : Nat := 0
  u : Nat := 0
  /-- Last valid measurement and setpoint; none before the first. -/
  y : Option Nat := none
  sp : Option Nat := none
  n1 : Notch := {}
  n2 : Notch := {}
  ff1 : FfTerm := {}
  ff2 : FfTerm := {}
  /-- Tick of the first run of the present run of invalid measurements (R179). -/
  pvSince : Option Nat := none
  /-- Fault 01h, 02h or 04h; 03h stands in the mode state (R180). -/
  fault : Nat := 0
  held : Bool := false
  /-- …_STATE of the latest run: 01h, 02h or 03h. -/
  st : Nat := 1
  /-- FL_KD, FL_TF, FL_C and FL_PV_SRC, FL_PV_SCALE, FL_PV_OFFSET of the latest run (R184). -/
  seenD : List Nat := []
  seenPv : List Nat := []
  deriving DecidableEq, Repr

/-- An assembly's latched fault (R191, R192): the …_FAULT it took, and the tick of the evaluation. -/
structure AsSt where
  fault : Option Nat := none
  at_ : Nat := 0
  deriving DecidableEq, Repr

/-- Loop slots and assemblies; `slots` and `asms` list those that have been enabled or joined since the start. -/
structure LoopSt where
  fl : Sparse FlSt := []
  asm : Sparse AsSt := []
  slots : List Nat := []
  asms : List Nat := []
  deriving DecidableEq, Repr

/-- A supervisor window (R208, R209): its opening tick, the eligible crumbs wanted and taken, the origin tick of
the last one, crumbs of the span still open, and the sums. -/
structure Window where
  open_ : Nat
  want : Nat
  taken : Nat := 0
  last : Option Nat := none
  waiting : List Nat := []
  void : Bool := false
  grain : Rat := 0
  losses : List Rat := [0, 0, 0]
  intake : Rat := 0
  /-- Broken grain and foreign material: grain-weighted sum and the grain of the crumbs that carry the field. -/
  broken : Rat × Rat := (0, 0)
  foreign_ : Rat × Rat := (0, 0)
  /-- Tailings: sum and number of valid ticks. -/
  tail : Rat × Nat := (0, 0)
  deriving DecidableEq, Repr

/-- What a complete window gave (R209): the symptoms, none where invalid, and the mean intake. -/
structure WindowResult where
  x : List (Option Rat)
  intake : Rat
  deriving DecidableEq, Repr

/-- The setting supervisor (R207–R216); SUP_STATE stands in its object. -/
structure SupSt where
  window : Option Window := none
  baseline : Option WindowResult := none
  /-- Candidate under trial, and its target's value before the move. -/
  move : Option (Nat × Nat) := none
  tried : Nat := 0
  /-- The tick in which Settle or Rest was entered. -/
  since : Nat := 0
  /-- Settle leads to Baseline in place of Trial. -/
  toBaseline : Bool := false
  /-- Dominant symptom of the previous baseline. -/
  dominant : Option Nat := none
  /-- Targets whose base was written, with the tick of the latest write, until a run resolves it (R75, R214). -/
  baseWritten : List (Nat × Nat) := []
  /-- The ledger has stopped since the last run (R214). -/
  ledgerStopped : Bool := false
  deriving DecidableEq, Repr

/-- The run state of one function with a mode object (R96–R99): consecutive misses, and the mode state that
a write set for the next run. -/
structure ModeRun where
  misses : Nat := 0
  /-- A write, or the first run after a start, sets the state in the function's next run. -/
  pendingSet : Bool := true
  /-- The tick of the first write that no run has taken yet, which a run must start after (R36); none after a start. -/
  since : Option Nat := none
  /-- The tick of the latest write. -/
  last : Option Nat := none
  deriving DecidableEq, Repr

/-- The path element (R200–R205); PATH_STATE stands in its object. -/
structure PathElSt where
  state : Nat := 0
  number : Option Nat := none
  segment : Option Nat := none
  deriving DecidableEq, Repr

end Sys2Proof.Machine
end

