-- ==== Sys2Proof/Syntax.lean ====
section
/-! DEFINITION. The commands of the block, one constructor per row of spec/opcode_table.json, and the operand
records they carry. An operand that the spec's rules compute nothing of (a measured current, a received frame,
a capture) is what the world outside the module does. -/

namespace Sys2Proof

/-- An application write to a writable area, named by the area's …_OFFSET object (R27, R47, R556); `body` holds the
bytes from offset 9 on, after the stamp and the validity byte; `core` is the application core that writes (R27). -/
structure AppWrite where
  area : Nat
  stamp : Nat
  valid : Bool
  body : List (BitVec 8)
  core : Fin 4 := 0
  deriving DecidableEq, Repr

/-- The transports of the dictionary protocol, numbered as R83 numbers them: 0 CAN, 1 to 3 UDP on E0 to E2,
4 UDP on SVC, 5 the loopback path, 6 the pair link. -/
abbrev Transport := Fin 7

/-- The header of a request as the server takes it up (R101), where it came from (R81), and, for a request
that a pair's partner forwards, the level of the originating session (R115). `partner` is what the partner
module answers over the pair link if the request is forwarded to it: nothing when it is unreachable. `oem` is the
status and the answer payload of the OEM application where the request reaches it (R80). -/
structure Req where
  transport : Transport
  source : Nat
  version : Nat
  target : Nat
  session : Nat
  txn : Nat
  forwarded : Option Nat := none
  partner : Option (Nat × List (BitVec 8)) := none
  oem : Nat × List (BitVec 8) := (0, [])
  deriving DecidableEq, Repr

/-- A received message with where it came from (R102). -/
structure MdpMsg where
  transport : Transport
  source : Nat
  bytes : List (BitVec 8)
  deriving DecidableEq, Repr

/-- What the converter and the comparator of one universal input saw in a window (R228): the samples in the unit of the
mode (F32), whether one was at full scale, and the voltage at the comparator as points in the order of time, each the ns
from the window's start and the voltage (F32) from there to the next point. -/
structure UiSample where
  n : Nat
  samples : List Nat := []
  full : Bool := false
  wave : List (Nat × Nat) := []
  deriving DecidableEq, Repr

/-- One loss-sensor input's window: the ADC counts of the samples of the tick that ends which no command has brought
before, and the DC line level, V (R222, R226). -/
structure LsSample where
  n : Nat
  samples : List Int
  dc : Nat
  deriving DecidableEq, Repr

/-- One sensor supply's measurement: volts, milliamperes, in current limit (R238). -/
structure SsSample where
  n : Nat
  v : Nat
  i : Nat
  limit : Bool
  deriving DecidableEq, Repr

/-- One load switch channel's window as its converter and sensors measure it (R254, R255, R258, R260, R279): the mean
current, A, the on-time in µs, the current at which the switch limited where it did, A, the die temperature, °C, and the
output voltage, V (F32). -/
structure ChSample where
  n : Nat
  mean : Rat
  ton : Nat
  limit : Option Rat
  die : Nat
  vout : Nat
  deriving DecidableEq, Repr

/-- One bank's feed over a window: mean and lowest sample, V (R256). -/
structure BankSample where
  b : Nat
  mean : Nat
  low : Nat
  deriving DecidableEq, Repr

/-- One valve channel's window (R299, R315, R319): the converter's count, the mean square current in A² (F32),
the mean coil voltage in V (F32), whether the low pin lay below 2.0 V, whether the stage ran at full duty for
the whole window. -/
structure VdSample where
  n : Nat
  count : Nat
  sq : Nat
  vcoil : Nat
  pinLow : Bool
  full : Bool
  deriving DecidableEq, Repr

/-- One group switch's mean current over a window, A (F32). -/
structure HgSample where
  g : Nat
  current : Nat
  deriving DecidableEq, Repr

/-- FEED-V over a window, mean and lowest sample, and the boost rail, V (F32; R294, R320). -/
structure BstSample where
  feed : Nat
  low : Nat
  rail : Nat
  deriving DecidableEq, Repr

/-- One antenna input over a tick (R328, R329): supply current, mA; in current limit; the gain of each band, dB
(F32). -/
structure AntSample where
  a : Nat
  current : Nat
  limit : Bool
  gains : List Nat
  deriving DecidableEq, Repr

/-- One measurement of an epoch, as the baseband makes it (R336): signal bit of Table 2, antenna, satellite,
pseudorange and carrier phase (binary64), Doppler (F32), C/N0, lock time, flags [4:0] and [7], channel, GLONASS
frequency number, standard deviations (F32), elevation in degrees (F32), used in the solution. -/
structure RawMeas where
  sig : Nat
  ant : Nat
  sat : Nat
  range : Nat
  phase : Nat
  doppler : Nat
  cn0 : Nat
  lock : Nat
  flags : Nat
  chan : Nat
  glo : Nat
  codeStd : Nat
  phaseStd : Nat
  elev : Nat
  used : Bool
  deriving DecidableEq, Repr

/-- A decoded navigation unit (R337): signal bit, antenna, satellite, unit identifier, bits received, whether it is the
second unit of a signal that has two (subframe 3), channel, GLONASS number, the bits. -/
structure NavUnit where
  sig : Nat
  ant : Nat
  sat : Nat
  ident : Nat
  count : Nat
  short : Bool
  chan : Nat
  glo : Nat
  bits : List (BitVec 8)
  deriving DecidableEq, Repr

/-- The partner antenna as solved from stream 1 (R344): the measurements and constellations used, whether SBAS corrections
and carrier phase are in use, the ratio test of fixed ambiguities; the partner epoch, the vector from GNSS-A, m, and the
partner's velocity, m/s (F32). -/
structure MbEst where
  meas : Nat
  systems : Nat
  sbas : Bool
  phase : Bool
  ratio : Option Nat
  epoch : Nat
  east : Nat
  north : Nat
  vEast : Nat
  vNorth : Nat
  deriving DecidableEq, Repr

/-- One system's time offset (R345): the deviation of the estimate; the broadcast value and deviation, when received (F32,
ns). -/
structure IsoEst where
  std : Nat
  broadcast : Option (Nat × Nat)
  deriving DecidableEq, Repr

/-- What the estimation on L5 finds in an epoch (R338–R346): SBAS and base corrections applied, carrier phase in use, the
ratio test of fixed ambiguities; GNSS-A's phase centre (degrees and m, binary64), velocity, deviations (F32); the A→B
vector: fixed, length, azimuth, elevation, deviation; the receiver clock bias of each constellation (GPS, Galileo, BeiDou,
GLONASS, QZSS, SBAS), module time minus system time, ns, with the clock's deviation; the moving baseline at each partner
epoch received; the system offsets in the order of R345; GPS time minus UTC. -/
structure PosEst where
  sbas : Bool
  base : Bool
  phase : Bool
  ratio : Option Nat
  lat : Nat
  lon : Nat
  height : Nat
  vEast : Nat
  vNorth : Nat
  vUp : Nat
  hStd : Nat
  abFixed : Bool
  abLen : Nat
  abAz : Nat
  abEl : Nat
  hdgStd : Nat
  bias : List Int
  errStd : Nat
  mb : List MbEst
  iso : List IsoEst
  utc : Option Int
  deriving DecidableEq, Repr

/-- A CSI-2 long packet as it arrives (R356, R360): data type, samples, whether the header has an uncorrectable
error, whether the payload CRC fails. -/
structure CamLine where
  dt : Nat
  px : List Nat
  ecc : Bool
  crc : Bool
  deriving DecidableEq, Repr

/-- A CAN frame: extended identifier, FD, bit rate switched, ESI recessive, remote; identifier; data (Table 3 of the
bus chapter). -/
structure CanFrame where
  ext : Bool
  fd : Bool := false
  brs : Bool := false
  esi : Bool := false
  remote : Bool := false
  ident : Nat
  data : List (BitVec 8)
  deriving DecidableEq, Repr

/-- A value of the tick image in a mirror: object, value, stamp and validity. -/
structure MirrorVal where
  key : Nat
  val : Nat
  stamp : Nat
  valid : Bool
  deriving DecidableEq, Repr

/-- One load switch channel of the output-stage slice (Table 6 of the pair chapter). -/
structure MirrorCh where
  n : Nat
  duty : Nat
  state : Nat
  retry : Nat
  theta : Nat
  status : Nat
  deriving DecidableEq, Repr

/-- One bank of the output-stage slice. -/
structure MirrorBank where
  b : Nat
  load : Nat
  mask : Nat
  deriving DecidableEq, Repr

/-- One valve channel of the valve slice: target, VD_STATE, VD_FAULT, t_w, t_b, the profile's instants and the waiting
boost request; of the profile's timing also the demand in force, whether it commands on, the injector event in progress
and the length of an event held in 07h. -/
structure MirrorVd where
  n : Nat
  target : Nat
  state : Nat
  fault : Nat
  tw : Nat
  tb : Nat
  boostAt : Nat
  peakFrom : Nat
  waitFrom : Nat
  holdFrom : Nat
  offAt : Option Nat
  waiting : Bool
  demand : Nat
  cmdOn : Bool
  inj : Option (Nat × Nat)
  heldLen : Option Nat
  event : Option (Nat × Option Nat)
  waitIn : Nat
  deriving DecidableEq, Repr

/-- A session as the mirror carries it: its cache holds transaction numbers and statuses (R117). -/
structure MirrorSession where
  num : Nat
  level : Nat
  transport : Transport
  source : Nat
  last : Nat
  newest : Option Nat
  cache : List (Nat × Nat)
  deriving DecidableEq, Repr

/-- The slices of Table 6 of the pair chapter, which follow the header. -/
inductive MirrorSlice where
  | dictionary | loop | replay | outputs | valve | module_ | application | refill
  deriving DecidableEq, Repr

/-- The mirror of one tick, as the standby receives it (R435, R436, Table 6). From a standby it is the mirror reply, the
header alone (R444). -/
structure Mirror where
  tick : Nat
  /-- Header: promise, role, handover, time state, slice list, and the domains on at the active (R427, R462). -/
  promise : Nat
  role : Nat
  handover : Bool := false
  timeState : Nat
  slices : List MirrorSlice := []
  domains : Nat := 0
  /-- Dictionary writes and actions of the tick: object and value (R439). -/
  writes : List (Nat × Bytes) := []
  sessions : List MirrorSession := []
  lastNum : Nat := 0
  /-- Slots that ran, and assemblies (R165). -/
  fl : List (Nat × Machine.FlSt) := []
  /-- For each slot that ran, FL_MODE_STATE, FL_MODE_MISSES and the run state of its mode. -/
  flMode : List (Nat × Nat × Nat × Machine.ModeRun) := []
  asm : List (Nat × Machine.AsSt) := []
  /-- Values and areas read by the ledger, the supervisor and the path element, and which of them ran (48 ledger,
  49 supervisor), whether the ledger step overran (R123); the check code sent with a ledger run (R437). -/
  replay : List MirrorVal := []
  areas : List AppWrite := []
  ran : List Nat := []
  missed : Bool := false
  check : Option Nat := none
  ch : List MirrorCh := []
  bank : List MirrorBank := []
  vd : List MirrorVd := []
  /-- Module slice: path element, heartbeat counter, ISO 11783 state and address, gPTP sequence numbers, operating
  count (R442). -/
  path : Machine.PathElSt := {}
  hb : Nat := 0
  isoState : Nat := 0
  isoAddr : Nat := 0xFE
  seqSync : Sparse Nat := []
  seqAnnounce : Sparse Nat := []
  /-- The E0 address of the clockIdentity (R432). -/
  clock : Nat := 0
  oper : Nat := 0
  /-- The application slice (R439). -/
  app : Option AppWrite := none
  /-- The refill slice (R438): the bytes that have come with it and before it, and the size of the refill. -/
  refill : Option (Nat × Nat) := none
  deriving DecidableEq, Repr

/-- What a refill brings (R438): the active's running values of its RW and RWS objects, its STORE_SEQ, and a snapshot,
with its tick, of the states that the other slices carry one tick at a time. -/
structure Refill where
  vals : List (Nat × Nat) := []
  strs : List (Nat × Bytes) := []
  storeSeq : Nat
  tick : Nat
  led : Machine.LedSt := {}
  sup : Machine.SupSt := {}
  loop : Machine.LoopSt := {}
  snapshot : Mirror
  deriving DecidableEq, Repr

/-- What the start sequence finds outside the stores (R421, R474, R525, R508): the resistance between PAIR-ID and module
signal ground, Ω, none where it is open; whether the sections of image slots A and B pass, whether the hold-up store can
carry 20 ms, whether the read-backs of the migration succeed, and, for a joining module, the partner's release where it
answers. -/
structure StartIn where
  strap : Option Nat
  slotAOk : Bool
  slotBOk : Bool
  holdupOk : Bool
  migrateOk : Bool
  partnerRelease : Option Nat
  deriving DecidableEq, Repr

/-- What one tick boundary brings in: the samples whose capture completes, and what the application writes
before the compute deadline of the tick that begins. -/
structure TickIn where
  ui : List UiSample := []
  ant : List AntSample := []
  ls : List LsSample := []
  ss : List SsSample := []
  ch : List ChSample := []
  bank : List BankSample := []
  vd : List VdSample := []
  hg : List HgSample := []
  bst : Option BstSample := none
  /-- LOGIC-A and LOGIC-B means and the lowest combined sample, V (R470, R476). -/
  supply : Option (Nat × Nat × Nat) := none
  /-- The two base sensors, °C (R549). -/
  base : Option (Nat × Nat) := none
  /-- Junction temperatures of domains in retention, °C (R466). -/
  junction : List (Nat × Nat) := []
  /-- Whether S served the D0 watchdog in the tick that ends (R518). -/
  served : Bool := true
  /-- LOGIC supply at 5.8 V or above throughout the tick that ends (R521). -/
  supplyUp : Bool := true
  app : List AppWrite := []
  /-- The indices that the OEM application has registered, where that has changed (R80). -/
  oem : Option (List Nat) := none
  deriving DecidableEq, Repr

/-- The commands: the rows of spec/opcode_table.json, in its order. -/
inductive Instr where
  /-- TICK_BOUNDARY, R44. -/
  | tickBoundary (inp : TickIn)
  /-- CAPTURE_LATE, R50. -/
  | captureLate (inputs : List Nat)
  /-- COMPUTE_DEADLINE, R49. -/
  | computeDeadline (done : List Nat)
  /-- UNIT_OVERRUN_FAULT, R50. -/
  | unitOverrunFault (unit : Nat)
  /-- ENGINE_OVERRUN_FAULT, R50. -/
  | engineOverrunFault (eng : Fin 6)
  /-- SUPERVISOR_DEADLINE_FAULT, R50. -/
  | supervisorDeadlineFault (offset : Nat)
  /-- APP_WRITE_STALL, R47. -/
  | appWriteStall (w : AppWrite)
  /-- STALLED_WRITE_LAND, R47. -/
  | stalledWriteLand
  /-- APP_WRITE_BLOCKED, R27. -/
  | appWriteBlocked (core : Fin 4) (offset : Nat)
  /-- TICK_ENGINE_RESTART, R51. -/
  | tickEngineRestart (q : Req) (eng : Fin 6)
  /-- ENGINE_RESTART_START, R51. -/
  | engineRestartStart (eng : Fin 6)
  /-- TIME_STEERING_RUN, R61. -/
  | timeSteeringRun
  /-- LOCK_COUNT_COMPLETE, R54. -/
  | lockCountComplete
  /-- HOLDOVER_TIMEOUT, R55. -/
  | holdoverTimeout
  /-- HOLDOVER_END, R55. -/
  | holdoverEnd
  /-- STEP_WINDOW_CLOSE, R56. -/
  | stepWindowClose
  /-- GPTP_SYNC, R68. -/
  | gptpSync (port : Fin 3) (sub : Nat)
  /-- GPTP_ANNOUNCE, R67. -/
  | gptpAnnounce (port : Fin 3)
  /-- GPTP_FOREIGN_RX, R65. -/
  | gptpForeignRx (port : Fin 3)
  /-- GPTP_CONFIG_APPLY, R70. -/
  | gptpConfigApply
  /-- MDP_MESSAGE_RX, R102. -/
  | mdpMessageRx (m : MdpMsg)
  /-- MDP_SEGMENT_RX, R111. -/
  | mdpSegmentRx (ctrl : Fin 8) (ident : Nat) (fd : Bool) (data : List (BitVec 8))
  /-- MDP_SEG_TIMEOUT, R111. -/
  | mdpSegTimeout (client : Fin 32)
  /-- OPEN, R83. -/
  | open_ (q : Req) (level : Nat) (len : Nat) (code : List (BitVec 8))
  /-- CLOSE, R82. -/
  | close_ (q : Req) (extra : List (BitVec 8))
  /-- READ, R104. -/
  | read (q : Req) (index sub offset maxLen : Nat)
  /-- WRITE, R75. -/
  | write (q : Req) (index sub type_ len : Nat) (value : List (BitVec 8))
  /-- KEEPALIVE, R103. -/
  | keepalive (q : Req) (extra : List (BitVec 8))
  /-- SESSION_TIMEOUT, R82. -/
  | sessionTimeout (num : Nat)
  /-- CREDENTIAL_LOCKOUT, R83. -/
  | credentialLockout
  /-- LOCKOUT_END, R83. -/
  | lockoutEnd
  /-- CREDENTIAL_WRITE, R84. -/
  | credentialWrite (q : Req) (which : Fin 2) (code : List (BitVec 8))
  /-- SESS_CLOSE_ALL, R85. -/
  | sessCloseAll (q : Req)
  /-- MDP_TRANSPORT_APPLY, R113. -/
  | mdpTransportApply
  /-- STORE_ALL, R88. -/
  | storeAll (q : Req)
  /-- STORE_GROUP, R88. -/
  | storeGroup (q : Req) (group : Nat)
  /-- STORE_DEFAULTS, R557. -/
  | storeDefaults (q : Req)
  /-- STORE_COMPLETE, R88. -/
  | storeComplete (bad : Option (Fin 2))
  /-- STORE_DEFERRED_BEGIN, R89. -/
  | storeDeferredBegin
  /-- MODE_WRITE, R99. -/
  | modeWrite (q : Req) (key : Nat) (value : Nat)
  /-- ASSISTED_FALLBACK, R98. -/
  | assistedFallback (key : Nat)
  /-- ASSISTED_FAULT, R98. -/
  | assistedFault (key : Nat)
  /-- CRB_ENABLE, R124. -/
  | crbEnable (q : Req)
  /-- CRB_DISABLE, R125. -/
  | crbDisable (q : Req) (fails : List Nat)
  /-- CRB_CLEAR, R126. -/
  | crbClear (q : Req) (fails : List Nat)
  /-- LEDGER_RUN, R122. -/
  | ledgerRun (fails : List Nat)
  /-- CHECKPOINT_COMPLETE, R158. -/
  | checkpointComplete
  /-- CRB_REDUCED_END, R140. -/
  | crbReducedEnd
  /-- YS_SEAL, R152. -/
  | ysSeal (q : Req) (fails : List Nat)
  /-- YS_SET_MARK, R152. -/
  | ysSetMark (q : Req) (seq : Nat)
  /-- SLOT_RUN, R167. -/
  | slotRun (n : Fin 48) (us : Nat)
  /-- FF_TERM_DROP, R175. -/
  | ffTermDrop (n : Fin 48) (term : Fin 2)
  /-- PV_TIMEOUT_FAULT, R179. -/
  | pvTimeoutFault (n : Fin 48)
  /-- UNIT_ENABLE, R176. -/
  | unitEnable (q : Req) (u : Nat)
  /-- UNIT_DISABLE, R181. -/
  | unitDisable (q : Req) (u : Nat)
  /-- UNIT_RESET, R192. -/
  | unitReset (q : Req) (u : Nat)
  /-- TPL_BUILD, R195. -/
  | tplBuild (q : Req)
  /-- TEMPLATE_REMOVE, R198. -/
  | templateRemove (q : Req) (a : Fin 256)
  /-- SUPERVISOR_STEP, R207. -/
  | supervisorStep
  /-- WINDOW_VOID, R208. -/
  | windowVoid
  /-- SETTLE_END, R211. -/
  | settleEnd
  /-- REST_END, R211. -/
  | restEnd
  /-- TGT_BASE_WRITE, R214. -/
  | tgtBaseWrite (q : Req) (t : Fin 5) (value : Nat)
  /-- SUP_LOCK_WRITE, R214. -/
  | supLockWrite (q : Req) (value : Nat)
  /-- SUP_ENABLE_OFF, R214. -/
  | supEnableOff (q : Req)
  /-- SUP_ADOPT, R214. -/
  | supAdopt (q : Req)
  /-- IMPACT_START, R223. -/
  | impactStart (n : Fin 16) (us : Nat) (samples : List Int) (last : Int)
  /-- IMPACT_END, R223. -/
  | impactEnd (n : Fin 16) (us : Nat) (samples : List Int) (last : Int)
  /-- IMPACT_MAX_LEN, R223. -/
  | impactMaxLen (n : Fin 16) (us : Nat) (samples : List Int)
  /-- LS_DETECTOR_RESTART, R225. -/
  | lsDetectorRestart (n : Fin 16)
  /-- UI_MODE_WRITE, R229. -/
  | uiModeWrite (q : Req) (n : Fin 48) (mode : Nat)
  /-- UI_SETTLE_END, R229. -/
  | uiSettleEnd (n : Fin 48)
  /-- SHUNT_DISCONNECT, R232. -/
  | shuntDisconnect (n : Fin 48)
  /-- SHUNT_RECONNECT, R232. -/
  | shuntReconnect (n : Fin 48)
  /-- UI_DEBOUNCE_CHANGE, R233. -/
  | uiDebounceChange (n : Fin 48)
  /-- UI_COUNT_SET, R235. -/
  | uiCountSet (q : Req) (n : Fin 48) (value : Int)
  /-- SS_LIMIT_TRIP, R238. -/
  | ssLimitTrip (n : Fin 4)
  /-- SS_RETRY, R238. -/
  | ssRetry (n : Fin 4)
  /-- SS_REARM, R240. -/
  | ssRearm (q : Req) (n : Fin 4)
  /-- CURRENT_LIMIT_TURNOFF, R257. -/
  | currentLimitTurnoff (n : Fin 128) (us : Nat)
  /-- THERMAL_LATCH_SET, R258. -/
  | thermalLatchSet (n : Fin 128) (temp : Rat)
  /-- THERMAL_LATCH_CLEAR, R258. -/
  | thermalLatchClear (n : Fin 128) (temp : Rat)
  /-- CHANNEL_RESTART, R268. -/
  | channelRestart (n : Fin 128)
  /-- RETRY_RESTORE, R269. -/
  | retryRestore (n : Fin 128)
  /-- CH_REARM, R270. -/
  | chRearm (q : Req) (n : Fin 128)
  /-- BANK_REARM, R270. -/
  | bankRearm (q : Req) (b : Fin 8)
  /-- ASSISTED_FUSE_TRIP, R265. -/
  | assistedFuseTrip (b : Fin 8)
  /-- PWM_PERIOD_START, R253. -/
  | pwmPeriodStart (n : Fin 128)
  /-- SWITCH_OFF_EDGE, R273. -/
  | switchOffEdge (n : Fin 128) (current ton : Nat)
  /-- CH_OL_LEARN, R278. -/
  | chOlLearn (q : Req) (n : Fin 128)
  /-- OL_LEARN_COMPLETE, R278. -/
  | olLearnComplete (n : Fin 128)
  /-- BANK_UNDERVOLTAGE, R281. -/
  | bankUndervoltage (b : Fin 8)
  /-- CHANNEL_RESTORE, R284. -/
  | channelRestore (b : Fin 8) (n : Fin 128)
  /-- DIP_SHED, R286. -/
  | dipShed
  /-- VALVE_EVENT, R307. -/
  | valveEvent (n : Fin 48)
  /-- BOOST_END, R303. -/
  | boostEnd (n : Fin 48) (us : Nat) (current : Rat)
  /-- PEAK_END, R303. -/
  | peakEnd (n : Fin 48) (us : Nat)
  /-- TRANSITION_END, R303. -/
  | transitionEnd (n : Fin 48) (us : Nat) (current : Rat)
  /-- INJECTOR_EVENT_END, R305. -/
  | injectorEventEnd (n : Fin 48) (us : Nat)
  /-- SWITCH_OFF_COMPLETE, R305. -/
  | switchOffComplete (n : Fin 48) (current : Rat)
  /-- PAIR_MIN_OFF_END, R308. -/
  | pairMinOffEnd (n : Fin 48) (us : Nat)
  /-- VD_RETRIGGER, R307. -/
  | vdRetrigger (q : Req) (n : Fin 48)
  /-- STAGE_OVERCURRENT, R318. -/
  | stageOvercurrent (n : Fin 48) (current : Rat)
  /-- GROUP_OVERCURRENT, R318. -/
  | groupOvercurrent (g : Fin 12) (us : Nat × Rat)
  /-- LOW_PIN_CHECK, R319. -/
  | lowPinCheck (n : Fin 48)
  /-- HOLD_OPEN_COIL, R320. -/
  | holdOpenCoil (n : Fin 48)
  /-- VD_REARM, R321. -/
  | vdRearm (q : Req) (n : Fin 48)
  /-- HG_REARM, R321. -/
  | hgRearm (q : Req) (g : Fin 12)
  /-- BOOST_START_FAIL, R294. -/
  | boostStartFail
  /-- BOOST_RETRY, R294. -/
  | boostRetry
  /-- ANT_SHORT, R328. -/
  | antShort (a : Fin 2)
  /-- ANT_RETRY, R328. -/
  | antRetry (a : Fin 2)
  /-- ANT_OPEN, R328. -/
  | antOpen (a : Fin 2)
  /-- MEASUREMENT_EPOCH, R333. -/
  | measurementEpoch (meas : List RawMeas) (unserved : Nat)
  /-- NAV_RECORD_WRITE, R337. -/
  | navRecordWrite (u : NavUnit)
  /-- POSITION_SOLUTION_RUN, R341. -/
  | positionSolutionRun (est : PosEst)
  /-- INTEGRITY_CLEAR, R350. -/
  | integrityClear
  /-- TPULSE, R348. -/
  | tpulse
  /-- TIME_MESSAGE, R349. -/
  | timeMessage
  /-- GNSS_ENABLE, R558. -/
  | gnssEnable (q : Req)
  /-- SIGNAL_MASK_APPLY, R331. -/
  | signalMaskApply
  /-- POS_RATE_APPLY, R333. -/
  | posRateApply
  /-- PORT_ENABLE, R357. -/
  | portEnable (q : Req) (p : Fin 2)
  /-- PORT_TRAINED, R357. -/
  | portTrained (p : Fin 2)
  /-- LINK_DROP, R357. -/
  | linkDrop (p : Fin 2) (ns : Nat)
  /-- PORT_RETRY, R357. -/
  | portRetry (p : Fin 2)
  /-- FRAME_START, R359; `number` is none for a packet whose header has an uncorrectable error (R356). -/
  | frameStart (n : Fin 8) (ns : Nat) (number : Option Nat) (acks : List Bool)
  /-- LINE_PACKET, R360. -/
  | linePacket (n : Fin 8) (l : CamLine)
  /-- FRAME_END, R361; `ns` is none for a packet whose header has an uncorrectable error (R356). -/
  | frameEnd (n : Fin 8) (ns : Option Nat)
  /-- FRAME_TIMEOUT, R361. -/
  | frameTimeout (n : Fin 8)
  /-- STR_ENABLE, R363. -/
  | strEnable (q : Req) (n : Fin 8)
  /-- STR_DISABLE, R361. -/
  | strDisable (q : Req) (n : Fin 8)
  /-- SH_COMMIT, R367. -/
  | shCommit (q : Req) (n : Fin 8)
  /-- COMMIT_COMPLETE, R367. -/
  | commitComplete (n : Fin 8)
  /-- EXP_REQUEST, R370. -/
  | expRequest (q : Req) (n : Fin 8) (block : List (BitVec 8))
  /-- FOCUS_RUN, R376. -/
  | focusRun (n : Fin 8)
  /-- CAN_ENABLE, R382. -/
  | canEnable (q : Req) (c : Fin 8)
  /-- CAN_DISABLE, R382. -/
  | canDisable (q : Req) (c : Fin 8)
  /-- CAN_BUS_JOIN, R382. -/
  | canBusJoin (c : Fin 8)
  /-- CAN_FRAME_RX, R389. -/
  | canFrameRx (c : Fin 8) (f : CanFrame) (sof : Nat) (dram : Bool)
  /-- TX_LOAD, R399. -/
  | txLoad (c : Fin 8) (b : Fin 3)
  /-- TX_CANCEL, R402. -/
  | txCancel (c : Fin 8) (b : Fin 3)
  /-- ARBITRATION, R400. -/
  | arbitration (c : Fin 8)
  /-- TX_ATTEMPT_FAIL, R401. -/
  | txAttemptFail (c : Fin 8) (err : Option (Nat × Bool × Option (Fin 256)))
  /-- CAN_FRAME_SENT, R403. -/
  | canFrameSent (c : Fin 8) (sof : Nat × Bool) (delay : Fin 256)
  /-- BUS_OFF, R407. -/
  | busOff (c : Fin 8)
  /-- BUS_OFF_RECOVERY_END, R407. -/
  | busOffRecoveryEnd (c : Fin 8)
  /-- CAN_RECOVER, R407. -/
  | canRecover (q : Req) (c : Fin 8)
  /-- HEARTBEAT, R409. -/
  | heartbeat
  /-- ADDRESS_CLAIM_START, R412. -/
  | addressClaimStart
  /-- COMPETING_CLAIM_RX, R412. -/
  | competingClaimRx (addr : Fin 256) (name : Nat)
  /-- CLAIM_REQUEST_RX, R412. -/
  | claimRequestRx
  /-- ADDRESS_HELD, R412. -/
  | addressHeld
  /-- ISO_SEND_SLOT, R413. -/
  | isoSendSlot (n : Fin 8) (data : List (BitVec 8))
  /-- TP_RX, R414. -/
  | tpRx (f : CanFrame) (time : Nat)
  /-- DM1_SEND, R415. -/
  | dm1Send
  /-- ETH_FRAME_RX, R418. -/
  | ethFrameRx (p : Fin 4) (fcsOk : Bool) (data : List (BitVec 8))
  /-- ETH_CONFIG_APPLY, R418. -/
  | ethConfigApply
  /-- PAIR_JOIN_TIMEOUT, R425. -/
  | pairJoinTimeout
  /-- LEASE_WORD_SEND, R427. -/
  | leaseWordSend
  /-- LEASE_WORD_RX, R427. -/
  | leaseWordRx (receiver : Bool) (word : Nat)
  /-- LEASE_FRAME_SEND, R428. -/
  | leaseFrameSend
  /-- LEASE_FRAME_RX, R428. -/
  | leaseFrameRx (ctrl : Fin 8) (ident : Nat) (data : List (BitVec 8))
  /-- PAIR_HOLD_BEGIN, R429. -/
  | pairHoldBegin
  /-- TAKEOVER, R430. -/
  | takeover
  /-- PAIR_HOLD_END, R433. -/
  | pairHoldEnd
  /-- MIRROR_COMPLETE, R435. -/
  | mirrorComplete (m : Mirror) (align : Int)
  /-- MIRROR_LATE, R435. -/
  | mirrorLate
  /-- REFILL_COMPLETE, R438. -/
  | refillComplete (r : Refill) (checkOk : Bool)
  /-- PAIR_SWAP_NOW, R441. -/
  | pairSwapNow (q : Req)
  /-- PLANNED_RELEASE, R441. -/
  | plannedRelease
  /-- PERIODIC_SWAP, R442. -/
  | periodicSwap
  /-- SWAP_OVERDUE, R442. -/
  | swapOverdue
  /-- HEALTH_SWAP, R443. -/
  | healthSwap
  /-- PARTNER_ABSENT, R444. -/
  | partnerAbsent
  /-- PAIR_PATH_FAULT, R445. -/
  | pairPathFault (path : Fin 3)
  /-- PAIR_PATH_FAULT_CLEAR, R445. -/
  | pairPathFaultClear (path : Fin 3)
  /-- TWO_ACTIVES, R446. -/
  | twoActives (serial : List (BitVec 8))
  /-- PAIR_RX_TEST, R449. -/
  | pairRxTest (q : Req) (which : Fin 2)
  /-- RX_TEST_END, R449. -/
  | rxTestEnd
  /-- TIME_DISAGREEMENT, R440. -/
  | timeDisagreement
  /-- DOMAIN_TRANSITION_BEGIN, R458. -/
  | domainTransitionBegin (d : Fin 15)
  /-- DOMAIN_TRANSITION_END, R455. -/
  | domainTransitionEnd (d : Fin 15) (us : Nat) (lost : List Nat)
  /-- ACCESS_WAKE, R463. -/
  | accessWake (client : Fin 10) (d : Fin 15)
  /-- ACCESS_VOTE_EXPIRY, R463. -/
  | accessVoteExpiry (client : Fin 10) (d : Fin 15)
  /-- WAKE_CHANGE, R461. -/
  | wakeChange (level : Bool)
  /-- WAKE_HOLD_EXPIRY, R461. -/
  | wakeHoldExpiry
  /-- DOM_RET_ACK, R469. -/
  | domRetAck (q : Req) (d : Fin 15)
  /-- DIP_BEGIN, R471. -/
  | dipBegin
  /-- DIP_SHEDDING, R471. -/
  | dipShedding
  /-- DIP_END, R471. -/
  | dipEnd
  /-- SUPPLY_RESET, R472. -/
  | supplyReset (mv : Nat) (reached : Nat)
  /-- FEED_LOW, R473. -/
  | feedLow (feed : Fin 2)
  /-- FLOOD_WINDOW_END, R485. -/
  | floodWindowEnd (src code : Nat)
  /-- TIME_MARK, R479. -/
  | timeMark
  /-- STARTUP_PHASE_END, R480. -/
  | startupPhaseEnd
  /-- RECOVERY_PHASE_END, R480. -/
  | recoveryPhaseEnd
  /-- REC_CLEAR_CIRC, R489. -/
  | recClearCirc (q : Req)
  /-- REC_CLEAR_KEPT, R489. -/
  | recClearKept (q : Req)
  /-- REC_APP_EVENT, R491. -/
  | recAppEvent (q : Req) (block : List (BitVec 8))
  /-- REC_WINDOW, R487. -/
  | recWindow (q : Req) (offset maxLen : Nat)
  /-- UPD_WAFER, R499. -/
  | updWafer (q : Req) (block : List (BitVec 8))
  /-- VERIFICATION, R503. -/
  | verification (fwSigOk : Bool) (readback : List Bool)
  /-- VERIFICATION_COMPLETE, R503. -/
  | verificationComplete
  /-- UPD_ACTIVATE, R504. -/
  | updActivate (q : Req) (tick : Nat)
  /-- UPD_ACTIVATE_REMOVE, R504. -/
  | updActivateRemove (q : Req)
  /-- ACTIVATION_INTERLOCK, R505. -/
  | activationInterlock
  /-- UPD_CANCEL, R516. -/
  | updCancel (q : Req)
  /-- UPD_CONFIRM, R512. -/
  | updConfirm (q : Req)
  /-- AUTO_CONFIRM, R512. -/
  | autoConfirm
  /-- PROOF_SECOND, R511. -/
  | proofSecond
  /-- UPD_REJECT, R513. -/
  | updReject (q : Req)
  /-- UPD_KEY_WRITE, R516. -/
  | updKeyWrite (q : Req) (slot : Fin 3) (key : List (BitVec 8))
  /-- UPD_KEY_CLEAR, R516. -/
  | updKeyClear (q : Req) (slot : Fin 3)
  /-- POWER_LOSS, R518. -/
  | powerLoss
  /-- SUPERVISOR_MISMATCH, R518. -/
  | supervisorMismatch (addr : Nat)
  /-- WATCHDOG_EXPIRY, R518. -/
  | watchdogExpiry
  /-- MEMORY_ERROR, R518. -/
  | memoryError (addr : Nat)
  /-- RST_COMMAND, R522. -/
  | rstCommand (q : Req)
  /-- RESET_ENTRY, R520. -/
  | resetEntry
  /-- RESET_RELEASE, R521. -/
  | resetRelease (inp : StartIn)
  /-- FIRST_TICK, R526. -/
  | firstTick (ms : Nat) (inp : TickIn)
  /-- ETH_LINK_LOSS, R435. -/
  | ethLinkLoss (p : Fin 5)
  /-- ETH_LINK_UP, R440. -/
  | ethLinkUp (p : Fin 5) (sqi : Nat)
  /-- CAN_BUS_ERROR, R405. -/
  | canBusError (c : Fin 8) (lec : Nat) (eight : Bool)
  /-- ISO_TP_TIMEOUT, R413. -/
  | isoTpTimeout (send : Bool) (n : Fin 8)
  deriving DecidableEq, Repr

end Sys2Proof
end

