-- ==== Sys2Proof/Config.lean ====
section
/-! DEFINITION. What the spec leaves open: opaque constants, with no body, so that nothing can be proved of
their values. Each is named in the assumption log. -/

namespace Sys2Proof.Config

/-- A fresh value the spec leaves open, by the number of the draw (log entry 3). -/
opaque freeValue : Nat → BitVec 64

/-- Sign and payload bits of a quiet NaN an operation answers: IEEE 754 fixes neither (log entry 4). -/
opaque nanBits : BitVec 23

/-- The error of an elementary function in binary64, which the spec names without a bound: by the function's number and
the IEEE codes of its arguments, the result lies one unit in the last place below the nearest number (0), at it (1) or one
unit above it (2) (log entry 5). -/
opaque elemUlp : Nat → BitVec 64 → BitVec 64 → Fin 3

/-- The byte offset, divided by 8, that the firmware of a release chooses for the area whose …_OFFSET object has
the given key, in force where the placing is one that R556 allows (log entry 6). -/
opaque areaSlot (release key : Nat) : Nat

/-- The wavelength, m in binary64, of a signal of Table 2 of the navigation chapter, by its bit number and the
GLONASS frequency number: R350 uses it and the spec states none (log entry 24). -/
opaque wavelength : Nat → BitVec 8 → BitVec 64

/-- The number that names a work unit of L4 or L5 in events 1000h and 1001h: the spec gives none (log entry 25). -/
opaque unitCode : Nat → BitVec 8

/-- What the TCXO model adds to the previous time error, ns, up to the run of a tick: R350 carries the error forward by it
and the spec gives no formula (log entry 80). -/
opaque tcxoCarry : Nat → Int

/-- Identity values set at manufacture or per image (R3, R14; log entry 7): the object with the given key. -/
opaque factory : Nat → BitVec 32
/-- The serial number's characters: the ten digits, then the 26 capitals (R3; log entry 7). -/
opaque factorySerial : Fin 12 → Fin 36
/-- The MAC address of E0; those of the other ports follow it (R417; log entry 7). -/
opaque factoryMac : BitVec 48
/-- Salts and hashes of the credentials set at manufacture, by level (R84; log entry 7). -/
opaque factoryCred : Fin 4 → BitVec 128 × BitVec 256
/-- The manufacturer's Ed25519 public keys (log entry 7). -/
opaque factoryKey : Nat → BitVec 256

/-- The pipeline's open choices (log entry 27): the median of an even number of samples. -/
opaque median : List (BitVec 12) → BitVec 12
/-- The two colours a sample lacks, from the 25 samples around it: channel, colour of the sample, samples, none
outside the frame (R362 stage 4; log entry 27). -/
opaque demosaic : Fin 3 → Fin 3 → List (Option (BitVec 12)) → BitVec 12
/-- A value that is no integer goes up: the stage and the value (R362, R373; log entry 27). -/
opaque roundUp : Nat → Rat → Bool
/-- The chroma that a pair of pixels in 4:2:2 keeps, of the values of the two: Cb where true, Cr where false (R362; log entry
27). -/
opaque chroma : Bool → BitVec 8 → BitVec 8 → BitVec 8
/-- Whether a pixel's Y stands before its chroma value, and whether the first pixel of a pair carries Cb (R362; log entry 27). -/
opaque lumaFirst : Bool
opaque cbFirst : Bool

/-- Ticks between the packets of a broadcast transport session (ISO 11783-3; log entry 28). -/
opaque bamGap : BitVec 8
/-- The receive error counter after a good frame that finds it above 127: 119 plus this (ISO 11898-1; log entry 28). -/
opaque recAfter : Fin 9
/-- What the new image's converter makes of a stored value: the formats from and to, the object and the value (R508;
log entry 30). -/
opaque convert : Nat → Nat → Nat → Nat → BitVec 64
/-- Whether the segments of MDP answers switch the bit rate (R111; log entry 28). -/
opaque mdpBrs : Bool
/-- First address of the addressable DRAM, and whether the Worzotric region lies first in it (R28; log entry 6). -/
opaque dramStart : BitVec 32
/-- The Worzotric region lies below the OEM region (log entry 6). -/
opaque wzFirst : Bool

/-- Addresses in the DRAM region that the running firmware chooses for windows of the given sizes (R28, R364; log entry 6), by
object key. -/
opaque dramBase : List Nat → Nat → BitVec 64
/-- Pages that the yield export ring holds besides the newest (R152; log entry 6). -/
opaque exportPages : BitVec 16

end Sys2Proof.Config
end

