-- ==== Sys2Proof/Machine/Float.lean ====
section
/-! DEFINITION. IEEE 754 binary32 and binary64 arithmetic, exact and then rounded to nearest, ties to even
(R10; R167 fixes that loop sums run left to right in binary32). Numbers are held as their IEEE codes in a
natural number; in between they are exact rationals. -/

namespace Sys2Proof.Machine

/-- A floating-point datum: not a number, an infinity, or a sign and an exact magnitude. -/
inductive Fp where
  | nan
  | inf (neg : Bool)
  | fin (neg : Bool) (mag : Rat)
  deriving DecidableEq, Repr

/-- A binary format: its precision in bits and the width of its exponent field. -/
structure FpFmt where
  prec : Nat
  ebits : Nat
  deriving DecidableEq, Repr

/-- binary32. -/
def f32fmt : FpFmt := ⟨24, 8⟩
/-- binary64. -/
def f64fmt : FpFmt := ⟨53, 11⟩

/-- The exponent of the least bit of a subnormal number. -/
def FpFmt.qmin (f : FpFmt) : Int := 3 - (2 ^ (f.ebits - 1) : Int) - f.prec

/-- The code of the positive infinity. -/
def FpFmt.infCode (f : FpFmt) : Nat := (2 ^ f.ebits - 1) * 2 ^ (f.prec - 1)

/-- 2 to an integer power. -/
def pow2 (e : Int) : Rat :=
  if 0 ≤ e then ((2 ^ e.toNat : Nat) : Rat) else 1 / ((2 ^ (-e).toNat : Nat) : Rat)

/-- The nearest integer to a rational that is not negative, a tie to the even one. -/
def roundEven (q : Rat) : Nat :=
  let n := q.num.toNat
  let r := n / q.den
  let rem2 := 2 * (n % q.den)
  if rem2 < q.den then r else if q.den < rem2 then r + 1 else if r % 2 = 0 then r else r + 1

/-- The largest e with 2^e at most a positive rational. -/
def floorLog2 (q : Rat) : Int :=
  let e0 : Int := (Nat.log2 q.num.toNat : Int) - (Nat.log2 q.den : Int)
  if q < pow2 e0 then e0 - 1 else e0

/-- The code, without its sign, of a magnitude in a format, rounded to nearest even; too large a magnitude
answers the infinity. -/
def FpFmt.magCode (f : FpFmt) (q : Rat) : Nat :=
  if q ≤ 0 then 0 else
    let qe := max (floorLog2 q - (f.prec - 1 : Nat)) f.qmin
    let m := roundEven (q * pow2 (-qe))
    min ((qe - f.qmin).toNat * 2 ^ (f.prec - 1) + m) f.infCode

/-- The bit position of the sign. -/
def FpFmt.signBit (f : FpFmt) : Nat := 2 ^ (f.prec + f.ebits - 1)

/-- The IEEE code of a datum. The sign and the payload of a NaN are free (log entry 4). -/
def FpFmt.encode (f : FpFmt) : Fp → Nat
  | .nan =>
    let p := Config.nanBits.toNat
    (if p.testBit 22 then f.signBit else 0) + f.infCode + 2 ^ (f.prec - 2) + p % 2 ^ 22 % 2 ^ (f.prec - 2)
  | .inf neg => (if neg then f.signBit else 0) + f.infCode
  | .fin neg q => (if neg then f.signBit else 0) + f.magCode q

/-- The datum of an IEEE code. -/
def FpFmt.decode (f : FpFmt) (c : Nat) : Fp :=
  let neg := f.signBit ≤ c
  let m := c % f.signBit
  if m = f.infCode then .inf neg
  else if f.infCode < m then .nan
  else
    let e := m / 2 ^ (f.prec - 1)
    let frac := m % 2 ^ (f.prec - 1)
    if e = 0 then .fin neg ((frac : Rat) * pow2 f.qmin)
    else .fin neg (((2 ^ (f.prec - 1) + frac : Nat) : Rat) * pow2 (f.qmin + (e - 1 : Nat)))

/-- A rational as an exact datum; zero is positive. -/
def Fp.ofRat (q : Rat) : Fp := .fin (q < 0) |q|

/-- The rational value of a finite datum. -/
def Fp.toRat? : Fp → Option Rat
  | .fin neg q => some (if neg then -q else q)
  | _ => none

/-- The rational value, zero for what has none: used only where the caller has checked that it is finite. -/
def Fp.toRat (x : Fp) : Rat := (x.toRat?).getD 0

/-- Finite: neither NaN nor infinity. -/
def Fp.isFinite : Fp → Bool
  | .fin _ _ => true
  | _ => false

/-- The datum with the other sign. -/
def Fp.neg : Fp → Fp
  | .nan => .nan
  | .inf s => .inf (!s)
  | .fin s q => .fin (!s) q

/-- The magnitude. -/
def Fp.abs : Fp → Fp
  | .nan => .nan
  | .inf _ => .inf false
  | .fin _ q => .fin false q

/-- Exact sum, IEEE rules for signs and special data (an exact zero of unlike signs is positive). -/
def Fp.add : Fp → Fp → Fp
  | .nan, _ => .nan
  | _, .nan => .nan
  | .inf a, .inf b => if a = b then .inf a else .nan
  | .inf a, _ => .inf a
  | _, .inf b => .inf b
  | .fin a p, .fin b q =>
    let v := (if a then -p else p) + (if b then -q else q)
    if v = 0 then .fin (a && b) 0 else Fp.ofRat v

/-- Exact product. -/
def Fp.mul : Fp → Fp → Fp
  | .nan, _ => .nan
  | _, .nan => .nan
  | .inf a, .inf b => .inf (xor a b)
  | .inf a, .fin b q => if q = 0 then .nan else .inf (xor a b)
  | .fin a p, .inf b => if p = 0 then .nan else .inf (xor a b)
  | .fin a p, .fin b q => .fin (xor a b) (p * q)

/-- Exact quotient. -/
def Fp.div : Fp → Fp → Fp
  | .nan, _ => .nan
  | _, .nan => .nan
  | .inf _, .inf _ => .nan
  | .inf a, .fin b _ => .inf (xor a b)
  | .fin a _, .inf b => .fin (xor a b) 0
  | .fin a p, .fin b q =>
    if q = 0 then (if p = 0 then .nan else .inf (xor a b)) else .fin (xor a b) (p / q)

/-- Strictly less; false when either is a NaN. -/
def Fp.lt : Fp → Fp → Bool
  | .nan, _ => false
  | _, .nan => false
  | .inf a, .inf b => a && !b
  | .inf a, .fin _ _ => a
  | .fin _ _, .inf b => !b
  | .fin a p, .fin b q => decide ((if a then -p else p) < (if b then -q else q))

/-- At most; false when either is a NaN. -/
def Fp.le : Fp → Fp → Bool
  | .nan, _ => false
  | _, .nan => false
  | .inf a, .inf b => a || !b
  | .inf a, .fin _ _ => a
  | .fin _ _, .inf b => !b
  | .fin a p, .fin b q => decide ((if a then -p else p) ≤ (if b then -q else q))

/-- The whole part of the square root of a number below 4^fuel, one bit at a time. -/
def isqrtGo : Nat → Nat → Nat → Nat
  | 0, _, r => r
  | fuel + 1, n, r =>
    let t := r + 2 ^ fuel
    isqrtGo fuel n (if t * t ≤ n then t else r)

/-- The whole part of a square root. -/
def isqrt (n : Nat) : Nat := isqrtGo (Nat.log2 n / 2 + 1) n 0

/-- A number that lies on the same side of every rounding boundary as the square root of a rational that is
not negative: the root to 80 bits or more, with half a unit added when it is not exact. -/
def sqrtSticky (q : Rat) : Rat :=
  if q ≤ 0 then 0 else
    let k := (160 + Nat.log2 q.den - Nat.log2 q.num.toNat) / 2 + 1
    let n := q.num.toNat * 4 ^ k
    let r := isqrt (n / q.den)
    let exact := r * r * q.den = n
    (if exact then (r : Rat) else (r : Rat) + 1 / 2) / ((2 ^ k : Nat) : Rat)

/-- Square root; of a negative number, a NaN. -/
def Fp.sqrt : Fp → Fp
  | .nan => .nan
  | .inf neg => if neg then .nan else .inf false
  | .fin neg q => if neg && q ≠ 0 then .nan else .fin neg (sqrtSticky q)

/-- A datum from a binary32 code, and back. -/
def fp32 (c : Nat) : Fp := f32fmt.decode c
/-- The binary32 code of a datum, rounded. -/
def enc32 (x : Fp) : Nat := f32fmt.encode x
/-- The binary32 code of a rational, rounded to nearest even. -/
def ratF32 (q : Rat) : Nat := enc32 (Fp.ofRat q)
/-- The binary32 code of a NaN. -/
def nan32 : Nat := enc32 .nan

/-- binary32 sum. -/
def f32add (a b : Nat) : Nat := enc32 ((fp32 a).add (fp32 b))
/-- binary32 difference. -/
def f32sub (a b : Nat) : Nat := enc32 ((fp32 a).add (fp32 b).neg)
/-- binary32 product. -/
def f32mul (a b : Nat) : Nat := enc32 ((fp32 a).mul (fp32 b))
/-- binary32 quotient. -/
def f32div (a b : Nat) : Nat := enc32 ((fp32 a).div (fp32 b))
/-- binary32 square root. -/
def f32sqrt (a : Nat) : Nat := enc32 (fp32 a).sqrt
/-- binary32 with the sign turned. -/
def f32neg (a : Nat) : Nat := enc32 (fp32 a).neg
/-- binary32 magnitude. -/
def f32abs (a : Nat) : Nat := enc32 (fp32 a).abs
/-- binary32 strictly less. -/
def f32lt (a b : Nat) : Bool := (fp32 a).lt (fp32 b)
/-- binary32 at most. -/
def f32le (a b : Nat) : Bool := (fp32 a).le (fp32 b)
/-- The lesser of two binary32 numbers: the first unless the second is less. -/
def f32min (a b : Nat) : Nat := if f32lt b a then b else a
/-- The greater of two binary32 numbers: the first unless the second is greater. -/
def f32max (a b : Nat) : Nat := if f32lt a b then b else a
/-- A binary32 number held between two bounds. -/
def f32clamp (lo hi x : Nat) : Nat := f32max lo (f32min hi x)
/-- Finite: neither NaN nor infinity (R72 refuses a write of any other). -/
def f32finite (a : Nat) : Bool := (fp32 a).isFinite
/-- The rational value of a finite binary32 number. -/
def f32rat (a : Nat) : Rat := (fp32 a).toRat
/-- Minus one, zero or one by the sign, as binary32. -/
def f32sign (a : Nat) : Nat := if f32lt 0 a then 0x3F800000 else if f32lt a 0 then 0xBF800000 else 0

/-- A datum from a binary64 code. -/
def fp64 (c : Nat) : Fp := f64fmt.decode c
/-- The binary64 code of a datum, rounded. -/
def enc64 (x : Fp) : Nat := f64fmt.encode x
/-- The binary64 code of a rational, rounded. -/
def ratF64 (q : Rat) : Nat := enc64 (Fp.ofRat q)

/-- binary64 sum. -/
def f64add (a b : Nat) : Nat := enc64 ((fp64 a).add (fp64 b))
/-- binary64 difference. -/
def f64sub (a b : Nat) : Nat := enc64 ((fp64 a).add (fp64 b).neg)
/-- binary64 product. -/
def f64mul (a b : Nat) : Nat := enc64 ((fp64 a).mul (fp64 b))
/-- binary64 quotient. -/
def f64div (a b : Nat) : Nat := enc64 ((fp64 a).div (fp64 b))
/-- binary64 square root. -/
def f64sqrt (a : Nat) : Nat := enc64 (fp64 a).sqrt
/-- A binary32 number in binary64. -/
def f64of32 (a : Nat) : Nat := enc64 (fp32 a)
/-- A binary64 number rounded to binary32. -/
def f64to32 (a : Nat) : Nat := enc32 (fp64 a)

end Sys2Proof.Machine
end

