-- ==== Sys2Proof/Machine/Elem.lean ====
section
/-! DEFINITION. Elementary functions in binary64: the exact value of the function, computed in fixed point to more than
300 bits, is rounded to nearest; the unit in the last place that the spec leaves open is free (log entry 5). -/

namespace Sys2Proof.Machine

/-- One in fixed point, 320 bits after the point. -/
def fxOne : Int := ((2 ^ 320 : Nat) : Int)

/-- π in fixed point. -/
def fxPi : Int := 0x3243f6a8885a308d313198a2e03707344a4093822299f31d0082efa98ec4e6c89452821e638d01377

/-- The natural logarithm of 2 in fixed point. -/
def fxLn2 : Int := 0xb17217f7d1cf79abc9e3b39803f2f6af40f343267298b62d8a0d175b8baafa2be7b876206debac98

/-- A rational in fixed point, rounded down. -/
def toFx (q : Rat) : Int := q.num * fxOne / q.den

/-- The rational that a fixed-point number spells. -/
def ofFx (x : Int) : Rat := (x : Rat) / (fxOne : Rat)

/-- Product in fixed point. -/
def fxMul (a b : Int) : Int := a * b / fxOne

/-- The sum of t·r/n, t·r²/(n·(n+1)), … and `acc`: the series of the exponential. -/
def expGo : Nat → Nat → Int → Int → Int → Int
  | 0, _, _, _, acc => acc
  | fuel + 1, n, r, t, acc =>
    let t := fxMul t r / (n : Int)
    expGo fuel (n + 1) r t (acc + t)

/-- The alternating series of sine and cosine from the term t, with r2 the argument squared. -/
def trigGo : Nat → Nat → Int → Int → Int → Int
  | 0, _, _, _, acc => acc
  | fuel + 1, n, r2, t, acc =>
    let t := -(fxMul t r2) / ((n * (n + 1) : Nat) : Int)
    trigGo fuel (n + 2) r2 t (acc + t)

/-- The series t/n + t·m/(n+2) + …: of the arctangent with m = −t², of its hyperbolic form with m = t². -/
def oddGo : Nat → Nat → Int → Int → Int → Int
  | 0, _, _, _, acc => acc
  | fuel + 1, n, m, t, acc => oddGo fuel (n + 2) m (fxMul t m) (acc + t / (n : Int))

/-- e to a fixed-point power, as a rational; beyond the range of binary64 the exponent is held at its edge. -/
def expFx (x : Int) : Rat :=
  let n := max (-1200) (min 1200 (x / fxLn2))
  ofFx (expGo 90 1 (x % fxLn2) fxOne fxOne) * pow2 n

/-- The natural logarithm of a positive rational, in fixed point. -/
def lnFx (q : Rat) : Int :=
  let e := floorLog2 q
  let m := q * pow2 (-e)
  let z := toFx ((m - 1) / (m + 1))
  2 * oddGo 110 1 (fxMul z z) z 0 + e * fxLn2

/-- Sine and cosine of an angle. -/
def sinCos (q : Rat) : Rat × Rat :=
  let half := fxPi / 2
  let x := toFx q
  let n := (x + half / 2) / half
  let r := x - n * half
  let r2 := fxMul r r
  let sn := ofFx (trigGo 45 2 r2 r r)
  let cs := ofFx (trigGo 45 1 r2 fxOne fxOne)
  match (n % 4).toNat with
  | 0 => (sn, cs)
  | 1 => (cs, -sn)
  | 2 => (-sn, -cs)
  | _ => (-cs, sn)

/-- tan(x/2) from tan x, in fixed point. -/
def fxHalve (t : Int) : Int :=
  t * fxOne / (fxOne + (isqrt (fxOne * fxOne + t * t).toNat : Int))

/-- The arctangent of a fixed-point number from 0 to 1. -/
def atanFx (t : Int) : Int :=
  let h := fxHalve (fxHalve (fxHalve t))
  8 * oddGo 60 1 (-(fxMul h h)) h 0

/-- Arguments so near 0 that the first term of the series is the nearest number. -/
def tiny (q : Rat) : Bool := decide (|q| < pow2 (-60))

/-- Sine. -/
def sinR (q : Rat) : Rat := if tiny q then q else (sinCos q).1
/-- Cosine. -/
def cosR (q : Rat) : Rat := (sinCos q).2
/-- Tangent. -/
def tanR (q : Rat) : Rat := if tiny q then q else (sinCos q).1 / (sinCos q).2

/-- Arctangent of a quotient from 0 to 1. -/
def atanR (q : Rat) : Rat := if tiny q then q else ofFx (atanFx (toFx q))

/-- The angle of the vector (x, y) in (−π, π]. -/
def atan2R (y x : Rat) : Rat :=
  let pi := ofFx fxPi
  let a := if |y| ≤ |x| then (if x = 0 then 0 else atanR (|y| / |x|)) else pi / 2 - atanR (|x| / |y|)
  let a := if x < 0 then pi - a else a
  if y < 0 then -a else a

/-- A power of a base that is not negative. -/
def powR (x y : Rat) : Rat :=
  if y = 0 then 1 else if x ≤ 0 then 0 else expFx (y.num * lnFx x / y.den)

/-- The binary64 code of the exact value v of function number f: the nearest number, or one unit in the last place beside
it; the values 0 and 1 are exact (log entry 5). -/
def near64 (f : Nat) (a b : Nat) (v : Rat) : Nat :=
  let c := ratF64 v
  if v = 0 ∨ v = 1 ∨ f64fmt.infCode ≤ c % f64fmt.signBit then c
  else c + (Config.elemUlp f (BitVec.ofNat 64 a) (BitVec.ofNat 64 b)).val - 1

/-- An elementary function of one binary64 number; a NaN for an argument that is not finite. -/
def elem64 (f : Nat) (g : Rat → Rat) (a : Nat) : Nat :=
  match (fp64 a).toRat? with
  | some q => near64 f a 0 (g q)
  | none => enc64 .nan

/-- An elementary function of two binary64 numbers. -/
def elem64₂ (f : Nat) (g : Rat → Rat → Rat) (a b : Nat) : Nat :=
  match (fp64 a).toRat?, (fp64 b).toRat? with
  | some p, some q => near64 f a b (g p q)
  | _, _ => enc64 .nan

/-- Tangent in binary64. -/
def f64tan (a : Nat) : Nat := elem64 0 tanR a
/-- Exponential in binary64. -/
def f64exp (a : Nat) : Nat := elem64 1 (fun q => expFx (toFx q)) a
/-- Sine in binary64. -/
def f64sin (a : Nat) : Nat := elem64 2 sinR a
/-- Cosine in binary64. -/
def f64cos (a : Nat) : Nat := elem64 3 cosR a
/-- Angle of a vector in binary64. -/
def f64atan2 (y x : Nat) : Nat := elem64₂ 4 atan2R y x
/-- Power in binary64. -/
def f64pow (x y : Nat) : Nat := elem64₂ 5 powR x y

/-- The value of a binary64 code. -/
def f64rat (a : Nat) : Rat := (fp64 a).toRat

/-- A rational rounded to binary64. -/
def rd64 (q : Rat) : Rat := f64rat (ratF64 q)

/-- √(x² + y²) in binary64. -/
def f64hypot (x y : Nat) : Nat := elem64₂ 6 (fun p q => sqrtSticky (p * p + q * q)) x y

/-- binary64 sum of two binary64 numbers given as rationals. -/
def add64 (a b : Rat) : Rat := rd64 (a + b)
/-- binary64 difference. -/
def sub64 (a b : Rat) : Rat := rd64 (a - b)
/-- binary64 product. -/
def mul64 (a b : Rat) : Rat := rd64 (a * b)
/-- binary64 quotient by a number that is not 0. -/
def div64 (a b : Rat) : Rat := rd64 (a / b)
/-- √(x² + y²) of two rationals, through binary64. -/
def hypotQ (x y : Rat) : Rat := f64rat (f64hypot (ratF64 x) (ratF64 y))

/-- The sine of a rational, through binary64. -/
def sinQ (q : Rat) : Rat := f64rat (f64sin (ratF64 q))
/-- The cosine of a rational, through binary64. -/
def cosQ (q : Rat) : Rat := f64rat (f64cos (ratF64 q))
/-- The angle of a vector, through binary64. -/
def atan2Q (y x : Rat) : Rat := f64rat (f64atan2 (ratF64 y) (ratF64 x))
/-- A power, through binary64. -/
def powQ (x y : Rat) : Rat := f64rat (f64pow (ratF64 x) (ratF64 y))

end Sys2Proof.Machine
end

