-- ==== Sys2Proof/Machine/Objects.lean ====
section
/-! DEFINITION. The object dictionary's tables: every object's type, access kind, write level, default and the
limits its description gives (R14, R71–R74, R79). Rows and names are those of the object tables of the
chapters; checks that relate one object to another stand with the chapter's own operations. -/

namespace Sys2Proof.Machine

/-- The types of Table 1 of the dictionary chapter (R72). -/
inductive Ty where
  | bool | u8 | u16 | u32 | u64 | i16 | i32 | f32 | time64 | str | block
  deriving DecidableEq, Repr

/-- The type code the protocol carries (R72). -/
def Ty.code : Ty → Nat
  | .bool => 1 | .u8 => 2 | .u16 => 3 | .u32 => 4 | .u64 => 5 | .i16 => 6 | .i32 => 7 | .f32 => 8
  | .time64 => 9 | .str => 0xA | .block => 0xB

/-- The size in bytes; zero for the two types without a fixed one (R72). -/
def Ty.size : Ty → Nat
  | .bool => 1 | .u8 => 1 | .u16 => 2 | .u32 => 4 | .u64 => 8 | .i16 => 2 | .i32 => 4 | .f32 => 4
  | .time64 => 8 | .str => 0 | .block => 0

/-- A string or a block, held as bytes. -/
def Ty.isBlob : Ty → Bool
  | .str => true | .block => true | _ => false

/-- The access kinds of R73. -/
inductive Access where
  | ro | rw | wo | rws | cmd
  deriving DecidableEq, Repr

/-- The limits an object's description puts on a written value. -/
inductive Chk where
  /-- Any code of the type. -/
  | any
  /-- From lo to hi. -/
  | range (lo hi : Nat)
  /-- The value v, or from lo to hi. -/
  | orElse (v lo hi : Nat)
  /-- One of a list. -/
  | oneOf (vs : List Nat)
  /-- No bit outside the mask (R8). -/
  | mask (m : Nat)
  /-- Signed, from lo to hi. -/
  | irange (lo hi : Int)
  /-- F32 from lo to hi. -/
  | frange (lo hi : Rat)
  /-- F32 zero, or from lo to hi. -/
  | fz (lo hi : Rat)
  /-- F32 above zero. -/
  | fgt0
  /-- F32 zero or above. -/
  | fge0
  /-- A string with its length from lo to hi. -/
  | str (lo hi : Nat)
  /-- A credential code: 6 to 12 characters 0–9 and A–Z (R83). -/
  | code
  /-- A block of exactly n bytes. -/
  | block (n : Nat)
  /-- A block of lo to hi bytes. -/
  | blockIn (lo hi : Nat)
  deriving DecidableEq, Repr

/-- One row of an object table: sub-indices lo to hi, type, access, write level, default, limits. -/
structure ObjRow where
  lo : Nat
  hi : Nat
  ty : Ty
  acc : Access
  lvl : Nat
  dflt : Nat
  chk : Chk
  deriving DecidableEq, Repr

/-- The objects of index 1000h (R3). -/
def tab1000 : List ObjRow := [
  ⟨0x1, 0x1, .str, .ro, 1, 0, .any⟩,
  ⟨0x2, 0x2, .u8, .ro, 1, 0, .any⟩,
  ⟨0x3, 0x3, .u32, .ro, 1, 0, .any⟩,
  ⟨0x4, 0x4, .str, .ro, 1, 0, .any⟩,
  ⟨0x5, 0x5, .u8, .ro, 1, 0, .any⟩]

/-- The objects of index 1010h (R113). -/
def tab1010 : List ObjRow := [
  ⟨0x1, 0x1, .u8, .rws, 1, 255, .orElse 255 0 7⟩,
  ⟨0x2, 0x2, .u32, .rws, 1, 0x1f800000, .mask 0x1FFFE000⟩,
  ⟨0x3, 0x3, .u8, .rws, 1, 1, .range 1 127⟩,
  ⟨0x4, 0x4, .u8, .rws, 1, 8, .mask 15⟩,
  ⟨0x5, 0x5, .u16, .rws, 1, 0xbcac, .range 1024 65535⟩,
  ⟨0x6, 0x6, .u16, .rws, 1, 400, .range 40 4000⟩,
  ⟨0x7, 0x7, .u32, .ro, 1, 0, .any⟩,
  ⟨0x8, 0x8, .u32, .ro, 1, 0, .any⟩,
  ⟨0x9, 0x9, .u32, .ro, 1, 0, .any⟩]

/-- The objects of index 1100h (R85). -/
def tab1100 : List ObjRow := [
  ⟨0x1, 0x1, .u16, .rws, 1, 30, .range 5 3600⟩,
  ⟨0x2, 0x2, .u8, .ro, 1, 0, .any⟩,
  ⟨0x3, 0x3, .u16, .ro, 1, 0, .any⟩,
  ⟨0x4, 0x4, .u8, .ro, 1, 0, .any⟩,
  ⟨0x5, 0x5, .u32, .ro, 1, 0, .any⟩,
  ⟨0x6, 0x6, .u16, .ro, 1, 0, .any⟩,
  ⟨0x7, 0x7, .u8, .cmd, 2, 0, .range 1 1⟩]

/-- The objects of index 1110h (R85). -/
def tab1110 : List ObjRow := [
  ⟨0x1, 0x1, .str, .wo, 1, 0, .code⟩,
  ⟨0x2, 0x2, .str, .wo, 2, 0, .code⟩,
  ⟨0x3, 0x3, .u32, .ro, 1, 0, .any⟩]

/-- The objects of index 1F00h (R93). -/
def tab1F00 : List ObjRow := [
  ⟨0x1, 0x1, .u16, .cmd, 1, 0, .range 1 1⟩,
  ⟨0x2, 0x2, .u8, .ro, 1, 0, .any⟩,
  ⟨0x3, 0x3, .u8, .cmd, 1, 0, .range 1 8⟩,
  ⟨0x4, 0x4, .u32, .ro, 1, 0, .any⟩,
  ⟨0x5, 0x5, .u8, .ro, 1, 255, .any⟩,
  ⟨0x6, 0x6, .bool, .ro, 1, 0, .any⟩,
  ⟨0x7, 0x7, .u16, .cmd, 2, 0, .range 1 1⟩,
  ⟨0x8, 0x8, .u64, .ro, 1, 0, .any⟩]

/-- The objects of index 2000h (R52). -/
def tab2000 : List ObjRow := [
  ⟨0x1, 0x1, .u64, .ro, 1, 0, .any⟩,
  ⟨0x2, 0x2, .u32, .ro, 1, 0, .any⟩,
  ⟨0x3, 0x3, .u64, .ro, 1, 0, .any⟩,
  ⟨0x4, 0x4, .u8, .rws, 1, 3, .range 2 8⟩,
  ⟨0x5, 0x5, .u16, .rws, 1, 16, .range 4 64⟩,
  ⟨0x6, 0x6, .u8, .ro, 1, 0, .any⟩,
  ⟨0x7, 0x7, .u8, .cmd, 2, 0, .range 0 5⟩,
  ⟨0x8, 0x8, .u32, .ro, 1, 0, .any⟩,
  ⟨0x9, 0x9, .u32, .ro, 1, 0, .any⟩,
  ⟨0xa, 0xf, .u32, .ro, 1, 0, .any⟩,
  ⟨0x10, 0x15, .u16, .ro, 1, 0, .any⟩]

/-- The objects of index 2010h (R64). -/
def tab2010 : List ObjRow := [
  ⟨0x1, 0x1, .time64, .ro, 1, 0, .any⟩,
  ⟨0x2, 0x2, .u8, .ro, 1, 0, .any⟩,
  ⟨0x3, 0x3, .u32, .ro, 1, 0xffffffff, .any⟩,
  ⟨0x4, 0x4, .i32, .ro, 1, 0, .any⟩,
  ⟨0x5, 0x5, .i16, .ro, 1, 0, .any⟩,
  ⟨0x6, 0x6, .u8, .rws, 1, 0, .range 0 1⟩,
  ⟨0x7, 0x7, .u32, .rws, 1, 0x3a980, .range 4000 2400000⟩,
  ⟨0x8, 0x8, .u32, .ro, 1, 0, .any⟩,
  ⟨0x9, 0x9, .bool, .ro, 1, 0, .any⟩,
  ⟨0xa, 0xa, .u64, .ro, 1, 0, .any⟩,
  ⟨0xb, 0xb, .u64, .ro, 1, 0, .any⟩]

/-- The objects of index 2100h (R476). -/
def tab2100 : List ObjRow := [
  ⟨0x1, 0x1, .u32, .ro, 1, 0, .any⟩,
  ⟨0x2, 0x2, .u16, .rws, 1, 400, .range 40 40000⟩,
  ⟨0x3, 0x3, .u16, .rws, 1, 0, .mask 0x7FFC⟩,
  ⟨0x4, 0x4, .u32, .rws, 1, 0xfa0, .range 0 2400000⟩,
  ⟨0x5, 0x5, .bool, .ro, 1, 0, .any⟩,
  ⟨0x6, 0x6, .u32, .ro, 1, 0, .any⟩]

/-- The objects of index 2110h + d (R476). -/
def tab2110 : List ObjRow := [
  ⟨0x1, 0x1, .u8, .ro, 1, 0, .any⟩,
  ⟨0x2, 0x2, .u8, .ro, 1, 0, .any⟩,
  ⟨0x3, 0x3, .u8, .ro, 1, 255, .any⟩,
  ⟨0x4, 0x4, .u32, .ro, 1, 0, .any⟩,
  ⟨0x5, 0x5, .u8, .rws, 2, 0, .range 0 2⟩,
  ⟨0x6, 0x6, .u8, .ro, 1, 255, .any⟩,
  ⟨0x7, 0x7, .u64, .ro, 1, 0, .any⟩,
  ⟨0x8, 0x8, .u32, .ro, 1, 0, .any⟩,
  ⟨0x9, 0x9, .u16, .ro, 1, 0, .any⟩,
  ⟨0xa, 0xa, .u64, .ro, 1, 0, .any⟩,
  ⟨0xb, 0xb, .u32, .ro, 1, 0, .any⟩,
  ⟨0xc, 0xc, .u32, .ro, 1, 0, .any⟩,
  ⟨0xd, 0xd, .i16, .ro, 1, 0, .any⟩,
  ⟨0xe, 0xe, .u16, .ro, 1, 0, .any⟩,
  ⟨0xf, 0xf, .u8, .cmd, 2, 0, .range 1 1⟩,
  ⟨0x10, 0x10, .u64, .ro, 1, 0, .any⟩]

/-- The objects of index 2180h (R476). -/
def tab2180 : List ObjRow := [
  ⟨0x1, 0x1, .u8, .rws, 1, 0, .oneOf [0, 1]⟩,
  ⟨0x2, 0x2, .f32, .rws, 1, 0, .fz 7 20⟩,
  ⟨0x3, 0x3, .f32, .ro, 1, 0x41000000, .any⟩,
  ⟨0x4, 0x4, .f32, .ro, 1, 0, .any⟩,
  ⟨0x5, 0x5, .f32, .ro, 1, 0, .any⟩,
  ⟨0x6, 0x6, .f32, .ro, 1, 0, .any⟩,
  ⟨0x7, 0x7, .u8, .ro, 1, 0, .any⟩,
  ⟨0x8, 0x8, .u32, .ro, 1, 0, .any⟩,
  ⟨0x9, 0x9, .f32, .ro, 1, 0, .any⟩,
  ⟨0xa, 0xa, .u32, .ro, 1, 0, .any⟩,
  ⟨0xb, 0xb, .bool, .ro, 1, 0, .any⟩,
  ⟨0xc, 0xc, .u8, .ro, 1, 0, .any⟩]

/-- The objects of index 21E0h (R550). -/
def tab21E0 : List ObjRow := [
  ⟨0x1, 0x1, .f32, .ro, 1, 0, .any⟩,
  ⟨0x2, 0x2, .u8, .ro, 1, 0, .any⟩,
  ⟨0x3, 0x3, .f32, .ro, 1, 0, .any⟩,
  ⟨0x4, 0x4, .u32, .ro, 1, 0, .any⟩,
  ⟨0x5, 0x5, .u16, .ro, 1, 0x640, .any⟩]

/-- The objects of index 21F0h (R531). -/
def tab21F0 : List ObjRow := [
  ⟨0x1, 0x1, .u8, .ro, 1, 0, .any⟩,
  ⟨0x2, 0x2, .u32, .ro, 1, 0, .any⟩,
  ⟨0x3, 0x3, .u64, .ro, 1, 0, .any⟩,
  ⟨0x4, 0x4, .u16, .ro, 1, 0, .any⟩,
  ⟨0x5, 0x5, .u32, .ro, 1, 0, .any⟩,
  ⟨0x6, 0x6, .u16, .cmd, 2, 0, .range 1 1⟩]

/-- The objects of index 2200h (R491). -/
def tab2200 : List ObjRow := [
  ⟨0x1, 0x1, .u32, .ro, 1, 0xffffffff, .any⟩,
  ⟨0x2, 0x2, .u32, .ro, 1, 0xffffffff, .any⟩,
  ⟨0x3, 0x3, .u16, .ro, 1, 0, .any⟩,
  ⟨0x4, 0x4, .u8, .ro, 1, 1, .any⟩,
  ⟨0x5, 0x5, .bool, .rw, 2, 0, .any⟩,
  ⟨0x6, 0x6, .u32, .rw, 1, 0, .any⟩,
  ⟨0x7, 0x7, .block, .ro, 1, 0, .any⟩,
  ⟨0x8, 0x8, .u32, .ro, 1, 0, .any⟩,
  ⟨0x9, 0x9, .u32, .ro, 1, 0, .any⟩,
  ⟨0xa, 0xa, .u32, .ro, 1, 0, .any⟩,
  ⟨0xb, 0xb, .u8, .cmd, 2, 0, .range 1 1⟩,
  ⟨0xc, 0xc, .u8, .cmd, 3, 0, .range 1 1⟩,
  ⟨0xd, 0xd, .u32, .ro, 1, 0, .any⟩,
  ⟨0xe, 0xe, .u32, .ro, 1, 0, .any⟩,
  ⟨0xf, 0xf, .u8, .rws, 1, 4, .range 1 64⟩,
  ⟨0x10, 0x10, .u16, .rws, 1, 600, .range 60 3600⟩,
  ⟨0x11, 0x11, .block, .cmd, 1, 0, .block 16⟩,
  ⟨0x12, 0x12, .u32, .ro, 1, 0, .any⟩,
  ⟨0x13, 0x13, .u16, .ro, 1, 0, .any⟩]

/-- The objects of index 2300h (R516). -/
def tab2300 : List ObjRow := [
  ⟨0x1, 0x1, .u8, .ro, 1, 0, .any⟩,
  ⟨0x2, 0x2, .u8, .ro, 1, 0, .any⟩,
  ⟨0x3, 0x3, .u32, .ro, 1, 0, .any⟩,
  ⟨0x4, 0x4, .u32, .ro, 1, 0, .any⟩,
  ⟨0x5, 0x5, .u32, .ro, 1, 0, .any⟩,
  ⟨0x6, 0x6, .block, .wo, 1, 0, .blockIn 17 1040⟩,
  ⟨0x7, 0x7, .block, .ro, 1, 0, .any⟩,
  ⟨0x8, 0x8, .u32, .ro, 1, 0, .any⟩,
  ⟨0x9, 0x9, .u8, .ro, 1, 0, .any⟩,
  ⟨0xa, 0xa, .u64, .cmd, 1, 0, .any⟩,
  ⟨0xb, 0xb, .u64, .ro, 1, 0, .any⟩,
  ⟨0xc, 0xc, .u8, .cmd, 1, 0, .range 1 1⟩,
  ⟨0xd, 0xd, .u32, .rws, 1, 0, .any⟩,
  ⟨0xe, 0xe, .u16, .rws, 1, 0xfa0, .range 400 40000⟩,
  ⟨0xf, 0xf, .u8, .rws, 1, 8, .range 1 72⟩,
  ⟨0x10, 0x10, .u8, .rws, 1, 2, .range 0 10⟩,
  ⟨0x11, 0x11, .u8, .rws, 1, 2, .range 1 10⟩,
  ⟨0x12, 0x12, .u8, .rws, 1, 0, .oneOf [0, 1]⟩,
  ⟨0x13, 0x13, .u8, .cmd, 1, 0, .range 1 1⟩,
  ⟨0x14, 0x14, .u8, .cmd, 2, 0, .range 1 1⟩,
  ⟨0x15, 0x15, .u32, .ro, 1, 0, .any⟩,
  ⟨0x16, 0x16, .u8, .ro, 1, 0, .any⟩,
  ⟨0x17, 0x17, .u8, .ro, 1, 0, .any⟩,
  ⟨0x18, 0x18, .u32, .ro, 1, 0, .any⟩,
  ⟨0x19, 0x19, .u32, .ro, 1, 0, .any⟩,
  ⟨0x1a, 0x1a, .u32, .ro, 1, 0, .any⟩,
  ⟨0x1b, 0x1b, .u32, .ro, 1, 0, .any⟩,
  ⟨0x1c, 0x1c, .u32, .ro, 1, 0, .any⟩]

/-- The objects of index 2301h (R516). -/
def tab2301 : List ObjRow := [
  ⟨0x1, 0x1, .block, .ro, 1, 0, .any⟩,
  ⟨0x2, 0x4, .block, .rw, 2, 0, .block 32⟩,
  ⟨0x5, 0x5, .u8, .cmd, 3, 0, .range 1 3⟩]

/-- The objects of index 2400h (R451). -/
def tab2400 : List ObjRow := [
  ⟨0x1, 0x1, .bool, .rws, 2, 0, .any⟩,
  ⟨0x2, 0x2, .u8, .rws, 2, 8, .range 4 64⟩,
  ⟨0x3, 0x3, .u16, .rws, 2, 64, .range 0 4000⟩,
  ⟨0x4, 0x4, .u8, .rws, 1, 255, .orElse 255 0 7⟩,
  ⟨0x5, 0x5, .u32, .rws, 1, 256, .mask 0x1FFFFFFE⟩,
  ⟨0x6, 0x6, .u8, .rws, 1, 8, .range 1 72⟩,
  ⟨0x7, 0x7, .bool, .rw, 1, 0, .any⟩,
  ⟨0x8, 0x8, .u8, .cmd, 2, 0, .range 1 1⟩,
  ⟨0x9, 0x9, .bool, .rws, 1, 1, .any⟩,
  ⟨0xa, 0xa, .u16, .rws, 1, 5, .range 1 1000⟩,
  ⟨0xb, 0xb, .u8, .cmd, 2, 0, .oneOf [1, 2]⟩,
  ⟨0xc, 0xc, .u32, .ro, 1, 0, .any⟩,
  ⟨0xd, 0xd, .u32, .ro, 1, 0, .any⟩]

/-- The objects of index 2401h (R452). -/
def tab2401 : List ObjRow := [
  ⟨0x1, 0x1, .u8, .ro, 1, 0, .any⟩,
  ⟨0x2, 0x2, .u8, .ro, 1, 0, .any⟩,
  ⟨0x3, 0x3, .u64, .ro, 1, 0, .any⟩,
  ⟨0x4, 0x4, .u8, .ro, 1, 0, .any⟩,
  ⟨0x5, 0x5, .u16, .ro, 1, 0, .any⟩,
  ⟨0x6, 0x6, .u8, .ro, 1, 2, .any⟩,
  ⟨0x7, 0x7, .u32, .ro, 1, 0, .any⟩,
  ⟨0x8, 0x8, .u32, .ro, 1, 0, .any⟩,
  ⟨0x9, 0x9, .u16, .ro, 1, 0, .any⟩,
  ⟨0xa, 0xa, .u32, .ro, 1, 0, .any⟩,
  ⟨0xb, 0xb, .u32, .ro, 1, 0, .any⟩,
  ⟨0xc, 0xc, .u32, .ro, 1, 0, .any⟩,
  ⟨0xd, 0xd, .u32, .ro, 1, 0, .any⟩,
  ⟨0xe, 0xe, .u8, .ro, 1, 0, .any⟩,
  ⟨0xf, 0xf, .i16, .ro, 1, 0, .any⟩,
  ⟨0x10, 0x10, .i32, .ro, 1, 0, .any⟩,
  ⟨0x11, 0x11, .u32, .ro, 1, 0, .any⟩,
  ⟨0x12, 0x12, .u32, .ro, 1, 0, .any⟩,
  ⟨0x13, 0x13, .u8, .ro, 1, 0, .any⟩,
  ⟨0x14, 0x14, .u32, .ro, 1, 0, .any⟩]

/-- The objects of index 3000h + n (R290). -/
def tab3000 : List ObjRow := [
  ⟨0x1, 0x1, .bool, .rws, 1, 0, .any⟩,
  ⟨0x2, 0x2, .u8, .ro, 1, 0, .any⟩,
  ⟨0x3, 0x3, .u8, .rws, 1, 0, .range 0 2⟩,
  ⟨0x4, 0x4, .f32, .rw, 1, 0, .frange 0 100⟩,
  ⟨0x5, 0x5, .f32, .ro, 1, 0, .any⟩,
  ⟨0x6, 0x6, .u16, .ro, 1, 0, .any⟩,
  ⟨0x7, 0x7, .u8, .ro, 1, 0, .any⟩,
  ⟨0x8, 0x8, .u16, .ro, 1, 0, .any⟩,
  ⟨0x9, 0x9, .u16, .rws, 1, 400, .range 1 40000⟩,
  ⟨0xa, 0xa, .u8, .rws, 1, 0, .range 0 2⟩,
  ⟨0xb, 0xb, .f32, .rws, 1, 0, .frange 0 100⟩,
  ⟨0xc, 0xc, .f32, .ro, 1, 0, .any⟩,
  ⟨0xd, 0xd, .u32, .ro, 1, 0, .any⟩,
  ⟨0xe, 0xe, .f32, .ro, 1, 0, .any⟩,
  ⟨0xf, 0xf, .u64, .ro, 1, 0, .any⟩,
  ⟨0x10, 0x10, .u8, .rws, 1, 0, .range 0 9⟩,
  ⟨0x11, 0x11, .u8, .rws, 1, 1, .range 0 4⟩,
  ⟨0x12, 0x12, .f32, .rws, 1, 0x3f800000, .frange 1 3⟩,
  ⟨0x13, 0x13, .u32, .rws, 1, 0, .any⟩,
  ⟨0x14, 0x14, .f32, .rws, 1, 0x42700000, .frange (-40) 150⟩,
  ⟨0x15, 0x15, .f32, .rws, 1, 0x41a00000, .frange 5 100⟩,
  ⟨0x16, 0x16, .f32, .rws, 1, 0x41a00000, .frange 0 100⟩,
  ⟨0x17, 0x17, .f32, .ro, 1, 0, .any⟩,
  ⟨0x18, 0x18, .f32, .ro, 1, 0, .any⟩,
  ⟨0x19, 0x19, .u8, .rws, 1, 3, .range 0 15⟩,
  ⟨0x1a, 0x1a, .u16, .rws, 1, 400, .range 40 40000⟩,
  ⟨0x1b, 0x1b, .u8, .ro, 1, 3, .any⟩,
  ⟨0x1c, 0x1c, .u8, .cmd, 1, 0, .range 1 1⟩,
  ⟨0x1d, 0x1d, .u32, .ro, 1, 0, .any⟩,
  ⟨0x1e, 0x1e, .u8, .ro, 1, 0, .any⟩,
  ⟨0x1f, 0x1f, .f32, .ro, 1, 0, .any⟩,
  ⟨0x20, 0x20, .u16, .rws, 1, 0, .orElse 0 10 160⟩,
  ⟨0x21, 0x21, .u16, .rws, 1, 0, .range 0 159⟩,
  ⟨0x22, 0x22, .f32, .rws, 1, 0, .frange 0 10000⟩,
  ⟨0x23, 0x23, .bool, .rws, 1, 0, .any⟩,
  ⟨0x24, 0x24, .f32, .ro, 1, 0, .any⟩,
  ⟨0x25, 0x25, .u8, .rws, 1, 4, .range 0 7⟩,
  ⟨0x26, 0x26, .bool, .rws, 1, 0, .any⟩,
  ⟨0x27, 0x27, .bool, .rws, 1, 0, .any⟩,
  ⟨0x28, 0x28, .f32, .rws, 1, 0, .frange 0 80⟩,
  ⟨0x29, 0x29, .f32, .rws, 1, 0x3e19999a, .frange (1/50) (9/10)⟩,
  ⟨0x2a, 0x2a, .u16, .rws, 1, 40, .range 1 4000⟩,
  ⟨0x2b, 0x2b, .u8, .cmd, 1, 0, .range 1 1⟩,
  ⟨0x2c, 0x2c, .bool, .rws, 1, 0, .any⟩,
  ⟨0x2d, 0x2d, .u32, .rws, 1, 0x9c40, .range 400 2400000⟩]

/-- The objects of index 3100h + b (R291). -/
def tab3100 : List ObjRow := [
  ⟨0x1, 0x1, .f32, .rws, 1, 0x42200000, .frange 5 40⟩,
  ⟨0x2, 0x2, .f32, .rws, 1, 0x41200000, .frange 1 600⟩,
  ⟨0x3, 0x3, .f32, .rws, 1, 0x3f4ccccd, .frange (1/10) (19/20)⟩,
  ⟨0x4, 0x4, .u16, .rws, 1, 400, .range 40 40000⟩,
  ⟨0x5, 0x5, .f32, .rws, 1, 0x3fc00000, .frange (1/2) 10⟩,
  ⟨0x6, 0x6, .f32, .rws, 1, 0x41000000, .frange 6 30⟩,
  ⟨0x7, 0x7, .f32, .ro, 1, 0, .any⟩,
  ⟨0x8, 0x8, .f32, .ro, 1, 0, .any⟩,
  ⟨0x9, 0x9, .f32, .ro, 1, 0, .any⟩,
  ⟨0xa, 0xa, .f32, .ro, 1, 0, .any⟩,
  ⟨0xb, 0xb, .u16, .ro, 1, 0, .any⟩,
  ⟨0xc, 0xc, .u32, .ro, 1, 0, .any⟩,
  ⟨0xd, 0xd, .u16, .ro, 1, 0, .any⟩,
  ⟨0xe, 0xe, .u32, .ro, 1, 0, .any⟩,
  ⟨0xf, 0xf, .u8, .cmd, 1, 0, .range 1 1⟩,
  ⟨0x10, 0x10, .u8, .rws, 1, 0, .range 0 2⟩,
  ⟨0x11, 0x11, .u8, .ro, 1, 0, .any⟩,
  ⟨0x12, 0x12, .u32, .ro, 1, 0, .any⟩,
  ⟨0x13, 0x13, .u32, .ro, 1, 0, .any⟩]

/-- The objects of index 3800h + n (R327). -/
def tab3800 : List ObjRow := [
  ⟨0x1, 0x1, .bool, .rws, 1, 0, .any⟩,
  ⟨0x2, 0x2, .u8, .rws, 1, 0, .oneOf [0, 1, 2]⟩,
  ⟨0x3, 0x3, .bool, .rws, 1, 0, .any⟩,
  ⟨0x4, 0x4, .u8, .rws, 1, 0, .range 0 2⟩,
  ⟨0x5, 0x5, .f32, .rw, 1, 0, .any⟩,
  ⟨0x6, 0x6, .f32, .ro, 1, 0, .any⟩,
  ⟨0x7, 0x7, .u32, .ro, 1, 0, .any⟩,
  ⟨0x8, 0x8, .u16, .rws, 1, 400, .range 1 40000⟩,
  ⟨0x9, 0x9, .u8, .rws, 1, 0, .range 0 2⟩,
  ⟨0xa, 0xa, .f32, .rws, 1, 0, .frange 0 5⟩,
  ⟨0xb, 0xb, .u8, .cmd, 1, 0, .range 1 1⟩,
  ⟨0x10, 0x10, .f32, .rws, 1, 0x40000000, .frange (1/2) 16⟩,
  ⟨0x11, 0x11, .u16, .rws, 1, 0, .range 0 2000⟩,
  ⟨0x12, 0x12, .u16, .rws, 1, 0, .range 0 20000⟩,
  ⟨0x13, 0x13, .u8, .rws, 1, 0, .oneOf [0, 1]⟩,
  ⟨0x14, 0x14, .f32, .rws, 1, 0x3f800000, .frange (1/10) 5⟩,
  ⟨0x15, 0x15, .f32, .rws, 1, 0x3f000000, .any⟩,
  ⟨0x16, 0x16, .u8, .rws, 1, 0, .oneOf [0, 1]⟩,
  ⟨0x17, 0x17, .f32, .rws, 1, 0x40200000, .frange (1/10) 5⟩,
  ⟨0x18, 0x18, .u16, .rws, 1, 0, .orElse 0 50 400⟩,
  ⟨0x19, 0x19, .f32, .rws, 1, 0, .frange 0 (1/2)⟩,
  ⟨0x1a, 0x1a, .u16, .rws, 1, 0x3e8, .range 100 50000⟩,
  ⟨0x20, 0x20, .f32, .rws, 1, 0x41200000, .frange (1/2) 200⟩,
  ⟨0x21, 0x21, .f32, .rws, 1, 0x41a00000, .frange (1/10) 1000⟩,
  ⟨0x22, 0x22, .f32, .rws, 1, 0x43960000, .frange 1 20000⟩,
  ⟨0x23, 0x23, .f32, .rws, 1, 0x40000000, .frange (1/20) 50⟩,
  ⟨0x24, 0x24, .f32, .rws, 1, 0x40800000, .frange (1/20) 50⟩,
  ⟨0x25, 0x25, .u32, .rws, 1, 0, .any⟩,
  ⟨0x26, 0x26, .f32, .rws, 1, 0x42700000, .frange (-40) 150⟩,
  ⟨0x27, 0x27, .f32, .rws, 1, 0x431b0000, .frange 60 220⟩,
  ⟨0x28, 0x28, .f32, .rws, 1, 0x43340000, .frange 70 240⟩,
  ⟨0x29, 0x29, .f32, .rws, 1, 0x3d4ccccd, .frange 0 1⟩,
  ⟨0x2a, 0x2a, .u8, .cmd, 1, 0, .range 1 1⟩,
  ⟨0x2b, 0x2b, .f32, .rws, 1, 0x41a00000, .frange 0 100⟩,
  ⟨0x30, 0x30, .f32, .ro, 1, 0, .any⟩,
  ⟨0x31, 0x31, .u8, .ro, 1, 0, .any⟩,
  ⟨0x32, 0x32, .u16, .ro, 1, 0, .any⟩,
  ⟨0x33, 0x33, .u64, .ro, 1, 0, .any⟩,
  ⟨0x34, 0x34, .f32, .ro, 1, nan32, .any⟩,
  ⟨0x35, 0x35, .f32, .ro, 1, 0, .any⟩,
  ⟨0x36, 0x36, .f32, .ro, 1, 0, .any⟩,
  ⟨0x37, 0x37, .u32, .ro, 1, 0, .any⟩,
  ⟨0x38, 0x38, .u32, .ro, 1, 0, .any⟩,
  ⟨0x39, 0x39, .u32, .ro, 1, 0, .any⟩,
  ⟨0x3a, 0x3a, .u8, .ro, 1, 0, .any⟩,
  ⟨0x3b, 0x3b, .u16, .ro, 1, 0, .any⟩,
  ⟨0x3c, 0x3c, .u16, .ro, 1, 0, .any⟩]

/-- The objects of index 3880h + g (R327). -/
def tab3880 : List ObjRow := [
  ⟨0x1, 0x1, .u8, .ro, 1, 0, .any⟩,
  ⟨0x2, 0x2, .u8, .ro, 1, 255, .any⟩,
  ⟨0x3, 0x3, .u8, .ro, 1, 255, .any⟩,
  ⟨0x4, 0x4, .u32, .ro, 1, 0, .any⟩,
  ⟨0x5, 0x5, .u32, .ro, 1, 0, .any⟩,
  ⟨0x6, 0x6, .u16, .ro, 1, 0, .any⟩,
  ⟨0x7, 0x7, .u16, .ro, 1, 0, .any⟩,
  ⟨0x8, 0x8, .f32, .ro, 1, 0, .any⟩,
  ⟨0x9, 0x9, .u8, .ro, 1, 0, .any⟩,
  ⟨0xa, 0xa, .u8, .cmd, 1, 0, .range 1 1⟩,
  ⟨0x20, 0x20, .u8, .ro, 1, 0, .any⟩,
  ⟨0x21, 0x21, .f32, .ro, 1, 0, .any⟩,
  ⟨0x22, 0x22, .f32, .ro, 1, 0, .any⟩,
  ⟨0x23, 0x23, .u32, .ro, 1, 0, .any⟩,
  ⟨0x24, 0x24, .f32, .rws, 1, 0x3fc00000, .frange (1/2) 10⟩]

/-- The objects of index 4010h + n (R227). -/
def tab4010 : List ObjRow := [
  ⟨0x1, 0x1, .bool, .rws, 1, 0, .any⟩,
  ⟨0x2, 0x2, .f32, .rws, 1, 0x459c4000, .frange 1000 50000⟩,
  ⟨0x3, 0x3, .f32, .rws, 1, 0x471c4000, .frange 0 100000⟩,
  ⟨0x4, 0x4, .u8, .rws, 1, 0, .range 0 2⟩,
  ⟨0x5, 0x5, .u16, .rws, 1, 50, .range 8 2000⟩,
  ⟨0x6, 0x6, .u16, .rws, 1, 0x7d0, .range 1 32767⟩,
  ⟨0x7, 0x7, .f32, .rws, 1, 0x3f000000, .frange (1/10) 1⟩,
  ⟨0x8, 0x8, .u16, .rws, 1, 100, .range 0 5000⟩,
  ⟨0x9, 0x9, .u16, .rws, 1, 0x7d0, .range 20 20000⟩,
  ⟨0xa, 0xa, .f32, .rws, 1, 0x3f800000, .fgt0⟩,
  ⟨0xb, 0xb, .bool, .rws, 1, 0, .any⟩,
  ⟨0x10, 0x10, .u16, .ro, 1, 0, .any⟩,
  ⟨0x11, 0x11, .f32, .ro, 1, 0, .any⟩,
  ⟨0x12, 0x12, .u16, .ro, 1, 0, .any⟩,
  ⟨0x13, 0x13, .block, .ro, 1, 0, .any⟩,
  ⟨0x14, 0x14, .u16, .ro, 1, 0, .any⟩,
  ⟨0x15, 0x15, .u64, .ro, 1, 0, .any⟩,
  ⟨0x16, 0x16, .u32, .ro, 1, 0, .any⟩,
  ⟨0x17, 0x17, .u32, .ro, 1, 0, .any⟩,
  ⟨0x18, 0x18, .u32, .ro, 1, 0, .any⟩,
  ⟨0x19, 0x19, .f32, .ro, 1, 0, .any⟩]

/-- The objects of index 4040h + n (R237). -/
def tab4040 : List ObjRow := [
  ⟨0x1, 0x1, .u8, .rws, 1, 0, .range 0 7⟩,
  ⟨0x2, 0x2, .u16, .rws, 1, 0, .range 0 4000⟩,
  ⟨0x3, 0x3, .f32, .rws, 1, 0x3f800000, .any⟩,
  ⟨0x4, 0x4, .f32, .rws, 1, 0, .any⟩,
  ⟨0x5, 0x5, .f32, .rws, 1, 0xf149f2ca, .any⟩,
  ⟨0x6, 0x6, .f32, .rws, 1, 0x7149f2ca, .any⟩,
  ⟨0x7, 0x7, .u8, .rws, 1, 255, .orElse 255 0 3⟩,
  ⟨0x8, 0x8, .bool, .rws, 1, 0, .any⟩,
  ⟨0x9, 0x9, .u8, .rws, 1, 0, .range 0 2⟩,
  ⟨0xa, 0xa, .f32, .rws, 1, 0x40200000, .frange (1/2) 20⟩,
  ⟨0xb, 0xb, .u16, .rws, 1, 0, .range 0 400⟩,
  ⟨0xc, 0xc, .u16, .rws, 1, 4, .range 1 4000⟩,
  ⟨0xd, 0xd, .u32, .rws, 1, 0xfa0, .range 4 40000⟩,
  ⟨0xe, 0xe, .i32, .cmd, 1, 0, .any⟩,
  ⟨0x10, 0x10, .f32, .ro, 1, 0, .any⟩,
  ⟨0x11, 0x11, .f32, .ro, 1, 0, .any⟩,
  ⟨0x12, 0x12, .i32, .ro, 1, 0, .any⟩,
  ⟨0x13, 0x13, .u16, .ro, 1, 0, .any⟩,
  ⟨0x14, 0x14, .u64, .ro, 1, 0, .any⟩,
  ⟨0x15, 0x15, .u32, .ro, 1, 0, .any⟩]

/-- The objects of index 4080h + n (R240). -/
def tab4080 : List ObjRow := [
  ⟨0x1, 0x1, .bool, .rws, 1, 0, .any⟩,
  ⟨0x2, 0x2, .u8, .rws, 1, 0, .oneOf [0, 1]⟩,
  ⟨0x3, 0x3, .u16, .rws, 1, 0xfa0, .range 400 40000⟩,
  ⟨0x4, 0x4, .u8, .rws, 1, 3, .range 0 10⟩,
  ⟨0x5, 0x5, .u8, .cmd, 1, 0, .range 1 1⟩,
  ⟨0x6, 0x6, .u8, .ro, 1, 0, .any⟩,
  ⟨0x7, 0x7, .f32, .ro, 1, 0, .any⟩,
  ⟨0x8, 0x8, .f32, .ro, 1, 0, .any⟩,
  ⟨0x9, 0x9, .u32, .ro, 1, 0, .any⟩,
  ⟨0xa, 0xa, .u8, .ro, 1, 3, .any⟩]

/-- The objects of index 40C0h + n (R242). -/
def tab40C0 : List ObjRow := [
  ⟨0x1, 0x1, .bool, .rws, 1, 0, .any⟩,
  ⟨0x2, 0x2, .u16, .rws, 1, 400, .range 1 40000⟩,
  ⟨0x3, 0x3, .u32, .ro, 1, 0, .any⟩,
  ⟨0x10, 0x10, .f32, .ro, 1, 0, .any⟩,
  ⟨0x11, 0x11, .u64, .ro, 1, 0, .any⟩,
  ⟨0x12, 0x12, .u32, .ro, 1, 0, .any⟩]

/-- The objects of index 4800h (R126). -/
def tab4800 : List ObjRow := [
  ⟨0x1, 0x1, .bool, .rws, 1, 0, .any⟩,
  ⟨0x2, 0x2, .u8, .rws, 1, 0, .range 0 2⟩,
  ⟨0x3, 0x3, .u8, .ro, 1, 0, .any⟩,
  ⟨0x4, 0x4, .u32, .ro, 1, 0, .any⟩,
  ⟨0x5, 0x5, .u16, .rws, 1, 80, .range 20 1000⟩,
  ⟨0x6, 0x6, .u16, .rws, 1, 0, .any⟩,
  ⟨0x7, 0x7, .u8, .ro, 1, 0, .any⟩,
  ⟨0x8, 0x8, .u16, .ro, 1, 0, .any⟩,
  ⟨0x9, 0x9, .u16, .ro, 1, 0, .any⟩,
  ⟨0xa, 0xa, .u16, .ro, 1, 0, .any⟩,
  ⟨0xb, 0xb, .bool, .ro, 1, 0, .any⟩,
  ⟨0xc, 0xc, .u32, .ro, 1, 0, .any⟩,
  ⟨0xd, 0xd, .u32, .ro, 1, 0, .any⟩,
  ⟨0xe, 0xe, .u32, .rws, 1, 0, .any⟩,
  ⟨0xf, 0xf, .u32, .rws, 1, 0, .any⟩,
  ⟨0x10, 0x10, .u16, .rws, 1, 0, .range 0 20000⟩,
  ⟨0x11, 0x11, .u32, .rws, 1, 0, .any⟩,
  ⟨0x12, 0x12, .i32, .rws, 1, 0, .any⟩,
  ⟨0x13, 0x13, .i32, .rws, 1, 0, .any⟩,
  ⟨0x14, 0x14, .u32, .rws, 1, 0, .any⟩,
  ⟨0x15, 0x15, .u16, .rws, 1, 0xfa0, .range 80 40000⟩,
  ⟨0x16, 0x16, .f32, .rws, 1, 0x3ee66666, .frange (1/20) (19/20)⟩,
  ⟨0x17, 0x17, .u16, .rws, 1, 0, .orElse 0 10 3600⟩,
  ⟨0x18, 0x18, .f32, .ro, 1, 0x3ee66666, .any⟩,
  ⟨0x19, 0x19, .f32, .rws, 1, 0x3f000000, .frange 0 100⟩,
  ⟨0x1a, 0x1a, .u16, .rws, 1, 60, .range 5 60⟩,
  ⟨0x1b, 0x1b, .u16, .rws, 1, 0xfa0, .range 160 8000⟩,
  ⟨0x1c, 0x1c, .f32, .ro, 1, 0, .any⟩,
  ⟨0x1d, 0x1d, .f32, .ro, 1, 0, .any⟩,
  ⟨0x1e, 0x1e, .u8, .ro, 1, 0, .any⟩,
  ⟨0x1f, 0x1f, .u32, .rws, 1, 0xe10, .range 0 86400⟩,
  ⟨0x20, 0x20, .u8, .cmd, 1, 0, .range 1 1⟩,
  ⟨0x21, 0x21, .block, .ro, 1, 0, .any⟩,
  ⟨0x22, 0x22, .u32, .ro, 1, 0, .any⟩]

/-- The objects of index 4810h + s (R132). -/
def tab4810 : List ObjRow := [
  ⟨0x1, 0x1, .u8, .rws, 1, 0, .range 0 5⟩,
  ⟨0x2, 0x2, .u32, .rws, 1, 0xffffff, .mask 0xFFFFFF⟩,
  ⟨0x3, 0x3, .f32, .rws, 1, 0x3f800000, .frange 0 1⟩,
  ⟨0x4, 0x4, .f32, .rws, 1, 0, .frange 0 1⟩,
  ⟨0x5, 0x5, .f32, .rws, 1, 0x3f800000, .frange 0 1⟩,
  ⟨0x6, 0x6, .f32, .rws, 1, 0, .frange 0 1⟩,
  ⟨0x7, 0x7, .u32, .rws, 1, 0, .any⟩,
  ⟨0x8, 0x8, .f32, .rws, 1, 0, .any⟩,
  ⟨0x9, 0x9, .f32, .rws, 1, 0x3f800000, .fgt0⟩,
  ⟨0xa, 0xa, .f32, .rws, 1, 0, .frange 0 60⟩,
  ⟨0xb, 0xb, .f32, .rws, 1, 0, .fge0⟩,
  ⟨0xc, 0xc, .f32, .rws, 1, 0, .frange 0 1⟩,
  ⟨0xd, 0xd, .f32, .ro, 1, 0, .any⟩,
  ⟨0xe, 0xe, .f32, .ro, 1, 0, .any⟩,
  ⟨0xf, 0xf, .u16, .ro, 1, 0, .any⟩,
  ⟨0x10, 0x10, .f32, .ro, 1, 0, .any⟩,
  ⟨0x11, 0x11, .f32, .ro, 1, 0, .any⟩]

/-- The objects of index 4830h + m (R142). -/
def tab4830 : List ObjRow := [
  ⟨0x1, 0x1, .u8, .rws, 1, 0, .oneOf [0, 1, 2, 3, 4, 5, 6, 7]⟩,
  ⟨0x2, 0x2, .u8, .rws, 1, 255, .orElse 255 0 23⟩,
  ⟨0x3, 0x3, .u32, .rws, 1, 0, .any⟩,
  ⟨0x4, 0x4, .f32, .rws, 1, 0x3f800000, .any⟩,
  ⟨0x5, 0x5, .u16, .rws, 1, 0, .range 0 4000⟩,
  ⟨0x6, 0x6, .u8, .rws, 1, 0, .range 0 2⟩,
  ⟨0x7, 0x7, .f32, .ro, 1, 0, .any⟩,
  ⟨0x8, 0x8, .f32, .ro, 1, 0, .any⟩,
  ⟨0x9, 0x9, .u32, .ro, 1, 0, .any⟩]

/-- The objects of index 4840h (R155). -/
def tab4840 : List ObjRow := [
  ⟨0x1, 0x1, .u8, .rws, 1, 16, .range 1 16⟩,
  ⟨0x2, 0x2, .u8, .rws, 1, 5, .range 1 50⟩,
  ⟨0x3, 0x3, .u32, .rws, 1, 0xfffffe, .mask 0xFFFFFF⟩]

/-- The objects of index 4850h + s (R155). -/
def tab4850 : List ObjRow := [
  ⟨0x1, 0x1, .u64, .ro, 1, 0, .any⟩,
  ⟨0x2, 0x2, .bool, .ro, 1, 0, .any⟩,
  ⟨0x10, 0x1f, .f32, .ro, 1, 0, .any⟩,
  ⟨0x20, 0x2f, .f32, .ro, 1, 0, .any⟩]

/-- The objects of index 4870h (R152). -/
def tab4870 : List ObjRow := [
  ⟨0x1, 0x1, .u32, .ro, 1, 0, .any⟩,
  ⟨0x2, 0x2, .u32, .ro, 1, 0, .any⟩,
  ⟨0x3, 0x3, .u32, .ro, 1, 0, .any⟩,
  ⟨0x4, 0x4, .u32, .cmd, 1, 0, .any⟩,
  ⟨0x5, 0x5, .u8, .rws, 1, 0, .oneOf [0, 1]⟩,
  ⟨0x6, 0x6, .u32, .rw, 1, 0, .any⟩,
  ⟨0x7, 0x7, .block, .ro, 1, 0, .any⟩,
  ⟨0x8, 0x8, .u32, .ro, 1, 0, .any⟩,
  ⟨0x9, 0x9, .u8, .ro, 1, 0, .any⟩,
  ⟨0xa, 0xa, .u8, .cmd, 1, 0, .range 1 1⟩]

/-- The objects of index 5000h + n (R186). -/
def tab5000 : List ObjRow := [
  ⟨0x1, 0x1, .u8, .ro, 1, 0, .any⟩,
  ⟨0x2, 0x2, .u8, .rws, 1, 0, .range 0 2⟩,
  ⟨0x3, 0x3, .u8, .ro, 1, 0, .any⟩,
  ⟨0x4, 0x4, .u32, .ro, 1, 0, .any⟩,
  ⟨0x5, 0x5, .u16, .rws, 1, 8, .any⟩,
  ⟨0x6, 0x6, .u16, .rws, 1, 0, .any⟩,
  ⟨0x7, 0x7, .u32, .rws, 1, 0, .any⟩,
  ⟨0x8, 0x8, .f32, .rws, 1, 0x3f800000, .any⟩,
  ⟨0x9, 0x9, .f32, .rws, 1, 0, .any⟩,
  ⟨0xa, 0xa, .u16, .rws, 1, 40, .range 1 40000⟩,
  ⟨0xb, 0xb, .u16, .rws, 1, 400, .range 0 40000⟩,
  ⟨0xc, 0xc, .f32, .rws, 1, 0xf149f2ca, .any⟩,
  ⟨0xd, 0xd, .f32, .rws, 1, 0x7149f2ca, .any⟩,
  ⟨0xe, 0xe, .f32, .rws, 1, 0, .fge0⟩,
  ⟨0xf, 0xf, .u16, .ro, 1, 0, .any⟩,
  ⟨0x10, 0x10, .bool, .rws, 1, 0, .any⟩,
  ⟨0x11, 0x11, .bool, .rw, 1, 0, .any⟩,
  ⟨0x12, 0x12, .u32, .rws, 1, 0, .any⟩,
  ⟨0x13, 0x13, .u8, .rws, 1, 0, .range 0 2⟩,
  ⟨0x14, 0x14, .u32, .rws, 1, 0, .any⟩,
  ⟨0x15, 0x15, .f32, .rw, 1, 0, .any⟩,
  ⟨0x16, 0x16, .f32, .ro, 1, 0, .any⟩,
  ⟨0x17, 0x17, .u64, .ro, 1, 0, .any⟩,
  ⟨0x18, 0x18, .f32, .ro, 1, 0, .any⟩,
  ⟨0x19, 0x19, .f32, .ro, 1, 0, .any⟩,
  ⟨0x1a, 0x1a, .u8, .ro, 1, 0, .any⟩,
  ⟨0x1b, 0x1b, .u32, .ro, 1, 0, .any⟩,
  ⟨0x1c, 0x1c, .u32, .ro, 1, 0, .any⟩,
  ⟨0x1d, 0x1d, .u8, .cmd, 1, 0, .range 1 1⟩,
  ⟨0x1e, 0x1e, .u16, .ro, 1, 0xffff, .any⟩,
  ⟨0x20, 0x20, .f32, .rws, 1, 0, .any⟩,
  ⟨0x21, 0x21, .f32, .rws, 1, 0, .any⟩,
  ⟨0x22, 0x22, .f32, .rws, 1, 0, .any⟩,
  ⟨0x23, 0x23, .f32, .rws, 1, 0, .frange 0 10⟩,
  ⟨0x24, 0x24, .f32, .rws, 1, 0x3f800000, .frange 0 1⟩,
  ⟨0x25, 0x25, .f32, .rws, 1, 0, .frange 0 1⟩,
  ⟨0x26, 0x26, .f32, .rws, 1, 0, .any⟩,
  ⟨0x27, 0x27, .f32, .rws, 1, 0xf149f2ca, .any⟩,
  ⟨0x28, 0x28, .f32, .rws, 1, 0x7149f2ca, .any⟩,
  ⟨0x29, 0x29, .f32, .rws, 1, 0, .any⟩,
  ⟨0x2a, 0x2a, .f32, .rws, 1, 0, .any⟩,
  ⟨0x2b, 0x2b, .f32, .rws, 1, 0, .fge0⟩,
  ⟨0x2c, 0x2c, .u32, .rws, 1, 0, .any⟩,
  ⟨0x2d, 0x2d, .f32, .rws, 1, 0, .any⟩,
  ⟨0x2e, 0x2e, .f32, .rws, 1, 0, .any⟩,
  ⟨0x2f, 0x2f, .f32, .rws, 1, 0x3f800000, .frange (1/2) 20⟩,
  ⟨0x30, 0x30, .f32, .rws, 1, 0x41a00000, .frange 0 60⟩,
  ⟨0x31, 0x31, .f32, .rws, 1, 0, .any⟩,
  ⟨0x32, 0x32, .f32, .rws, 1, 0x3f800000, .frange (1/2) 20⟩,
  ⟨0x33, 0x33, .f32, .rws, 1, 0x41a00000, .frange 0 60⟩,
  ⟨0x34, 0x34, .u8, .rws, 1, 255, .orElse 255 1 23⟩,
  ⟨0x35, 0x35, .u8, .rws, 1, 0, .range 0 1⟩,
  ⟨0x36, 0x36, .u16, .rws, 1, 0, .any⟩,
  ⟨0x37, 0x37, .f32, .rws, 1, 0, .any⟩,
  ⟨0x38, 0x38, .f32, .rws, 1, 0, .any⟩,
  ⟨0x39, 0x39, .u32, .rws, 1, 0, .any⟩,
  ⟨0x3a, 0x3a, .f32, .rws, 1, 0, .any⟩,
  ⟨0x3b, 0x3b, .f32, .rws, 1, 0, .any⟩,
  ⟨0x3c, 0x3c, .u16, .rws, 1, 400, .range 1 40000⟩,
  ⟨0x3d, 0x3d, .f32, .ro, 1, 0, .any⟩,
  ⟨0x3e, 0x3e, .f32, .ro, 1, 0, .any⟩,
  ⟨0x3f, 0x3f, .u16, .ro, 1, 0, .any⟩,
  ⟨0x40, 0x40, .u32, .ro, 1, 0, .any⟩,
  ⟨0x41, 0x41, .u32, .ro, 1, 0, .any⟩]

/-- The objects of index 5100h (R217). -/
def tab5100 : List ObjRow := [
  ⟨0x1, 0x1, .u8, .rws, 1, 0, .range 0 2⟩,
  ⟨0x2, 0x2, .u8, .ro, 1, 0, .any⟩,
  ⟨0x3, 0x3, .u32, .ro, 1, 0, .any⟩,
  ⟨0x4, 0x4, .bool, .rws, 1, 0, .any⟩,
  ⟨0x5, 0x5, .u16, .rws, 1, 1, .range 0 3999⟩,
  ⟨0x6, 0x6, .u8, .ro, 1, 0, .any⟩,
  ⟨0x7, 0x7, .u32, .rws, 1, 0x4e20, .range 4000 240000⟩,
  ⟨0x8, 0x8, .u32, .rws, 1, 0x13880, .range 20000 480000⟩,
  ⟨0x9, 0x9, .u32, .rws, 1, 0xafc80, .range 80000 2400000⟩,
  ⟨0xa, 0xa, .f32, .rws, 1, 0x3ca3d70a, .frange 0 (1/2)⟩,
  ⟨0xb, 0xb, .f32, .rws, 1, 0x40a00000, .any⟩,
  ⟨0xc, 0xc, .f32, .rws, 1, 0x3e19999a, .frange (1/100) 1⟩,
  ⟨0xd, 0xd, .u32, .rws, 1, 0x124f80, .any⟩,
  ⟨0xe, 0xe, .u8, .rws, 1, 0, .mask 31⟩,
  ⟨0xf, 0xf, .u32, .rws, 1, 0, .any⟩,
  ⟨0x10, 0x10, .u16, .rws, 1, 0x1f40, .range 0 40000⟩,
  ⟨0x11, 0x11, .f32, .ro, 1, 0, .any⟩,
  ⟨0x12, 0x12, .f32, .ro, 1, 0, .any⟩,
  ⟨0x13, 0x13, .u8, .ro, 1, 255, .any⟩,
  ⟨0x14, 0x14, .u8, .ro, 1, 255, .any⟩,
  ⟨0x15, 0x15, .u16, .ro, 1, 0, .any⟩,
  ⟨0x16, 0x16, .u32, .ro, 1, 0, .any⟩,
  ⟨0x17, 0x17, .u32, .ro, 1, 0, .any⟩,
  ⟨0x18, 0x18, .u32, .ro, 1, 0, .any⟩,
  ⟨0x19, 0x19, .u16, .ro, 1, 0, .any⟩,
  ⟨0x1a, 0x1a, .u8, .cmd, 2, 0, .range 1 1⟩,
  ⟨0x1b, 0x1b, .u32, .ro, 1, 0, .any⟩]

/-- The objects of index 5110h + i (R217). -/
def tab5110 : List ObjRow := [
  ⟨0x1, 0x1, .f32, .rws, 1, 0x3f800000, .frange 0 10⟩,
  ⟨0x2, 0x2, .f32, .rws, 1, 0, .fgt0⟩,
  ⟨0x3, 0x3, .f32, .ro, 1, nan32, .any⟩,
  ⟨0x4, 0x4, .f32, .ro, 1, nan32, .any⟩]

/-- The objects of index 5120h + t (R217). -/
def tab5120 : List ObjRow := [
  ⟨0x1, 0x1, .f32, .rws, 1, 0, .any⟩,
  ⟨0x2, 0x2, .f32, .rws, 1, 0, .any⟩,
  ⟨0x3, 0x3, .f32, .rws, 1, 0, .any⟩,
  ⟨0x4, 0x4, .f32, .rws, 1, 0, .fgt0⟩,
  ⟨0x5, 0x5, .f32, .ro, 1, 0, .any⟩]

/-- The objects of index 5140h (R206). -/
def tab5140 : List ObjRow := [
  ⟨0x1, 0x1, .bool, .rws, 1, 0, .any⟩,
  ⟨0x2, 0x2, .u32, .rws, 1, 0, .any⟩,
  ⟨0x3, 0x3, .u32, .rws, 1, 0, .any⟩,
  ⟨0x4, 0x4, .f32, .rws, 1, 0x40600000, .frange 1 10⟩,
  ⟨0x5, 0x5, .u8, .rws, 1, 1, .range 0 1⟩,
  ⟨0x6, 0x6, .f32, .rws, 1, 0x40000000, .frange 0 20⟩,
  ⟨0x7, 0x7, .f32, .rws, 1, 0x3f000000, .frange 0 5⟩,
  ⟨0x8, 0x8, .f32, .rws, 1, 0x3d4ccccd, .frange 0 5⟩,
  ⟨0x9, 0x9, .f32, .rws, 1, 0x3e99999a, .frange 0 20⟩,
  ⟨0xa, 0xa, .f32, .rws, 1, 0x3e19999a, .frange (1/100) 1⟩,
  ⟨0xb, 0xb, .u16, .rws, 1, 0xfa0, .range 400 40000⟩,
  ⟨0xc, 0xc, .u8, .rws, 1, 0, .any⟩,
  ⟨0xd, 0xd, .f32, .rws, 1, 0x3f800000, .any⟩,
  ⟨0xe, 0xe, .f32, .rws, 1, 0x40000000, .any⟩,
  ⟨0xf, 0xf, .f32, .rws, 1, 0x41f00000, .frange 1 90⟩,
  ⟨0x10, 0x10, .u8, .rws, 1, 255, .orElse 255 0 47⟩,
  ⟨0x11, 0x11, .u32, .ro, 1, 0, .any⟩]

/-- The objects of index 5141h (R206). -/
def tab5141 : List ObjRow := [
  ⟨0x1, 0x1, .u8, .ro, 1, 0, .any⟩,
  ⟨0x2, 0x2, .u8, .ro, 1, 0, .any⟩,
  ⟨0x3, 0x3, .f32, .ro, 1, 0, .any⟩,
  ⟨0x4, 0x4, .f32, .ro, 1, 0, .any⟩,
  ⟨0x5, 0x5, .f32, .ro, 1, 0, .any⟩,
  ⟨0x6, 0x6, .f32, .ro, 1, 0, .any⟩,
  ⟨0x7, 0x7, .u8, .ro, 1, 255, .any⟩,
  ⟨0x8, 0x8, .f32, .ro, 1, 0, .any⟩,
  ⟨0x9, 0x9, .u16, .ro, 1, 0, .any⟩,
  ⟨0xa, 0xa, .u64, .ro, 1, 0, .any⟩,
  ⟨0xb, 0xb, .u32, .ro, 1, 0, .any⟩]

/-- The objects of index 5180h (R197). -/
def tab5180 : List ObjRow := [
  ⟨0x1, 0x1, .u16, .rw, 2, 0, .any⟩,
  ⟨0x2, 0x2, .u8, .rw, 2, 0, .range 0 255⟩,
  ⟨0x3, 0x3, .u8, .rw, 2, 255, .any⟩,
  ⟨0x4, 0x4, .u8, .rw, 2, 255, .any⟩,
  ⟨0x5, 0x5, .u32, .rw, 2, 0, .any⟩,
  ⟨0x6, 0x6, .u32, .rw, 2, 0, .any⟩,
  ⟨0x7, 0x7, .u32, .rw, 2, 0, .any⟩,
  ⟨0x8, 0x8, .u32, .rw, 2, 0, .any⟩,
  ⟨0x9, 0x9, .u8, .rw, 2, 255, .any⟩,
  ⟨0xa, 0xa, .u8, .cmd, 2, 0, .range 1 1⟩,
  ⟨0xb, 0xb, .u8, .ro, 1, 0, .any⟩]

/-- The objects of index 6000h (R341). -/
def tab6000 : List ObjRow := [
  ⟨0x1, 0x1, .u8, .rws, 1, 0, .range 0 2⟩,
  ⟨0x2, 0x2, .u8, .ro, 1, 0, .any⟩,
  ⟨0x3, 0x3, .u32, .ro, 1, 0, .any⟩,
  ⟨0x4, 0x4, .bool, .rws, 1, 1, .any⟩,
  ⟨0x5, 0x5, .u8, .rws, 1, 4, .range 0 4⟩,
  ⟨0x6, 0x6, .i32, .rws, 1, 0, .any⟩,
  ⟨0x7, 0x7, .i32, .rws, 1, 0, .any⟩,
  ⟨0x8, 0x8, .i32, .rws, 1, 0, .any⟩,
  ⟨0x9, 0x9, .f32, .rws, 1, 0, .fz (1/2) 5⟩,
  ⟨0xa, 0xa, .f32, .rws, 1, 0x42b40000, .frange 0 360⟩,
  ⟨0xb, 0xb, .f32, .rws, 1, 0x3f000000, .frange (1/10) 5⟩,
  ⟨0xc, 0xc, .u32, .rws, 1, 0, .any⟩,
  ⟨0xd, 0xd, .u32, .rws, 1, 0x3a980, .range 0 2400000⟩,
  ⟨0xe, 0xe, .f32, .rws, 1, 0x41200000, .frange 0 30⟩,
  ⟨0xf, 0xf, .f32, .rws, 1, 0x40400000, .frange (3/2) 10⟩,
  ⟨0x10, 0x10, .u32, .ro, 1, 0, .any⟩]

/-- The objects of index 6010h + a (R329). -/
def tab6010 : List ObjRow := [
  ⟨0x1, 0x1, .bool, .rws, 1, 1, .any⟩,
  ⟨0x2, 0x2, .u8, .ro, 1, 0, .any⟩,
  ⟨0x3, 0x3, .f32, .ro, 1, 0, .any⟩,
  ⟨0x4, 0x6, .f32, .ro, 1, 0, .any⟩,
  ⟨0x7, 0x7, .u32, .ro, 1, 0, .any⟩]

/-- The objects of index 6020h (R331). -/
def tab6020 : List ObjRow := [
  ⟨0x1, 0x1, .u32, .rws, 1, 0x3ffff, .mask 0x3FFFF⟩,
  ⟨0x2, 0x2, .u32, .rws, 1, 0x3ffff, .mask 0x3FFFF⟩,
  ⟨0x3, 0x3, .u32, .ro, 1, 0, .any⟩,
  ⟨0x4, 0x4, .u32, .ro, 1, 0, .any⟩,
  ⟨0x5, 0x5, .u16, .ro, 1, 0, .any⟩,
  ⟨0x6, 0x6, .u16, .ro, 1, 0, .any⟩]

/-- The objects of index 6030h (R345). -/
def tab6030 : List ObjRow := [
  ⟨0x1, 0x4, .f32, .ro, 1, nan32, .any⟩,
  ⟨0x5, 0x8, .f32, .ro, 1, nan32, .any⟩,
  ⟨0x9, 0xc, .u8, .ro, 1, 0, .any⟩]

/-- The objects of index 6040h (R341). -/
def tab6040 : List ObjRow := [
  ⟨0x1, 0x1, .u64, .ro, 1, 0, .any⟩,
  ⟨0x2, 0x2, .u64, .ro, 1, 0, .any⟩,
  ⟨0x3, 0x3, .u8, .ro, 1, 0, .any⟩,
  ⟨0x4, 0x4, .i32, .ro, 1, 0, .any⟩,
  ⟨0x5, 0x5, .i16, .ro, 1, 0, .any⟩,
  ⟨0x6, 0x6, .i32, .ro, 1, 0, .any⟩,
  ⟨0x7, 0x7, .i16, .ro, 1, 0, .any⟩,
  ⟨0x8, 0x8, .i32, .ro, 1, 0, .any⟩,
  ⟨0x9, 0x9, .f32, .ro, 1, 0, .any⟩,
  ⟨0xa, 0xa, .f32, .ro, 1, 0, .any⟩,
  ⟨0xb, 0xb, .f32, .ro, 1, 0, .any⟩,
  ⟨0xc, 0xc, .f32, .ro, 1, 0, .any⟩,
  ⟨0xd, 0xd, .f32, .ro, 1, nan32, .any⟩,
  ⟨0xe, 0xe, .u8, .ro, 1, 0, .any⟩,
  ⟨0xf, 0xf, .f32, .ro, 1, nan32, .any⟩,
  ⟨0x10, 0x10, .f32, .ro, 1, 0, .any⟩,
  ⟨0x11, 0x11, .f32, .ro, 1, nan32, .any⟩,
  ⟨0x12, 0x12, .u8, .ro, 1, 0, .any⟩,
  ⟨0x13, 0x13, .u32, .ro, 1, 0xffffffff, .any⟩,
  ⟨0x14, 0x14, .u16, .ro, 1, 0, .any⟩]

/-- The objects of index 6070h (R344). -/
def tab6070 : List ObjRow := [
  ⟨0x1, 0x1, .u32, .ro, 1, 0, .any⟩,
  ⟨0x2, 0x2, .u32, .rws, 1, 0x9c40, .range 4000 240000⟩,
  ⟨0x3, 0x3, .u32, .ro, 1, 0, .any⟩,
  ⟨0x4, 0x4, .u32, .ro, 1, 0, .any⟩,
  ⟨0x5, 0x5, .u16, .ro, 1, 0xffff, .any⟩,
  ⟨0x10, 0x10, .bool, .rws, 1, 0, .any⟩,
  ⟨0x11, 0x11, .i32, .rws, 1, 0, .any⟩,
  ⟨0x12, 0x12, .i32, .rws, 1, 0, .any⟩,
  ⟨0x13, 0x13, .f32, .rws, 1, 0x43870000, .any⟩,
  ⟨0x14, 0x14, .u16, .rws, 1, 400, .range 80 4000⟩,
  ⟨0x15, 0x15, .u8, .rws, 1, 4, .any⟩,
  ⟨0x16, 0x16, .f32, .ro, 1, 0, .any⟩,
  ⟨0x17, 0x17, .f32, .ro, 1, 0, .any⟩,
  ⟨0x18, 0x18, .u8, .ro, 1, 0, .any⟩,
  ⟨0x19, 0x19, .u16, .ro, 1, 0xffff, .any⟩]

/-- The objects of index 6080h (R351). -/
def tab6080 : List ObjRow := [
  ⟨0x1, 0x1, .u8, .ro, 1, 0, .any⟩,
  ⟨0x2, 0x2, .u8, .ro, 1, 0, .any⟩,
  ⟨0x3, 0x3, .u8, .rws, 1, 63, .mask 63⟩,
  ⟨0x4, 0x4, .f32, .rws, 1, 0x40c00000, .frange 1 30⟩,
  ⟨0x5, 0x5, .f32, .rws, 1, 0x42300000, .frange 30 55⟩,
  ⟨0x6, 0x6, .f32, .rws, 1, 0x3fc00000, .frange (1/10) 10⟩,
  ⟨0x7, 0x7, .f32, .rws, 1, 0x3f800000, .frange (1/10) 10⟩,
  ⟨0x8, 0x8, .f32, .rws, 1, 0x40a00000, .frange 1 100⟩,
  ⟨0x9, 0x9, .f32, .rws, 1, 0x447a0000, .frange 100 100000⟩,
  ⟨0xa, 0xa, .f32, .rws, 1, 0x3d4ccccd, .frange (1/100) (1/5)⟩,
  ⟨0xb, 0xb, .u8, .rws, 1, 5, .range 4 12⟩,
  ⟨0xc, 0xc, .u8, .rws, 1, 5, .range 1 50⟩,
  ⟨0xd, 0xd, .u32, .rws, 1, 0x3a980, .range 4000 2400000⟩,
  ⟨0xe, 0xe, .u32, .ro, 1, 0, .any⟩]

/-- The objects of index 6090h (R349). -/
def tab6090 : List ObjRow := [
  ⟨0x1, 0x1, .bool, .rws, 1, 1, .any⟩,
  ⟨0x2, 0x2, .u16, .rws, 1, 0xfa0, .oneOf [40, 400, 4000]⟩,
  ⟨0x3, 0x3, .u16, .rws, 1, 0x3e8, .any⟩,
  ⟨0x4, 0x4, .u8, .rws, 1, 28, .mask 63⟩,
  ⟨0x5, 0x5, .u8, .rws, 1, 255, .orElse 255 0 7⟩,
  ⟨0x6, 0x6, .u32, .rws, 1, 0x1f600000, .mask 0x1FFFFFFF⟩,
  ⟨0x7, 0x7, .u8, .rws, 1, 0, .mask 7⟩,
  ⟨0x8, 0x8, .u16, .rws, 1, 0xbcb6, .range 1024 65535⟩,
  ⟨0x9, 0x9, .u32, .ro, 1, 0, .any⟩]

/-- The objects of index 60A0h (R337). -/
def tab60A0 : List ObjRow := [
  ⟨0x1, 0x1, .bool, .rws, 1, 1, .any⟩,
  ⟨0x2, 0x2, .bool, .rws, 1, 1, .any⟩,
  ⟨0x3, 0x3, .u32, .ro, 1, 0xffffffff, .any⟩,
  ⟨0x4, 0x4, .u64, .ro, 1, 0, .any⟩,
  ⟨0x5, 0x5, .u32, .rw, 1, 0, .any⟩,
  ⟨0x6, 0x6, .block, .ro, 1, 0, .any⟩]

/-- The objects of index 6800h + p (R357). -/
def tab6800 : List ObjRow := [
  ⟨0x1, 0x1, .bool, .rws, 1, 0, .any⟩,
  ⟨0x2, 0x2, .u8, .rws, 1, 3, .oneOf [1, 2, 3]⟩,
  ⟨0x3, 0x3, .u8, .ro, 1, 0, .any⟩,
  ⟨0x4, 0x4, .u32, .ro, 1, 0, .any⟩,
  ⟨0x5, 0x5, .u32, .ro, 1, 0, .any⟩,
  ⟨0x6, 0x6, .u32, .ro, 1, 0, .any⟩,
  ⟨0x7, 0x7, .u32, .ro, 1, 0, .any⟩]

/-- The objects of index 6810h + s (R377). -/
def tab6810 : List ObjRow := [
  ⟨0x1, 0x1, .u8, .rws, 1, 0, .range 0 2⟩,
  ⟨0x2, 0x2, .u8, .ro, 1, 0, .any⟩,
  ⟨0x3, 0x3, .u32, .ro, 1, 0, .any⟩,
  ⟨0x4, 0x4, .bool, .rws, 1, 0, .any⟩,
  ⟨0x5, 0x5, .u8, .rws, 1, 0, .range 0 39⟩,
  ⟨0x6, 0x6, .u8, .rws, 1, 12, .range 0 127⟩,
  ⟨0x7, 0x7, .u16, .rws, 1, 0, .any⟩,
  ⟨0x8, 0x8, .u8, .rws, 1, 2, .range 1 2⟩,
  ⟨0x9, 0x9, .u16, .rws, 1, 0, .any⟩,
  ⟨0xa, 0xa, .u16, .rws, 1, 0x3ff, .any⟩,
  ⟨0xb, 0xb, .u16, .rws, 1, 512, .any⟩,
  ⟨0xc, 0xc, .u16, .rws, 1, 64, .range 1 1024⟩,
  ⟨0xd, 0xd, .u16, .rws, 1, 2, .range 1 64⟩,
  ⟨0xe, 0xe, .f32, .rws, 1, 0x3d4ccccd, .frange (1/100) (1/2)⟩,
  ⟨0xf, 0xf, .f32, .rws, 1, 0x3f333333, .frange (1/10) (99/100)⟩,
  ⟨0x10, 0x10, .u8, .rws, 1, 1, .range 1 4⟩,
  ⟨0x11, 0x11, .u8, .ro, 1, 0, .any⟩,
  ⟨0x12, 0x12, .u16, .ro, 1, 0, .any⟩,
  ⟨0x13, 0x13, .f32, .ro, 1, 0, .any⟩,
  ⟨0x14, 0x14, .u32, .ro, 1, 0, .any⟩]

/-- The objects of index 6820h + s (R377). -/
def tab6820 : List ObjRow := [
  ⟨0x1, 0x1, .bool, .rws, 1, 0, .any⟩,
  ⟨0x2, 0x2, .u8, .rws, 1, 43, .range 42 44⟩,
  ⟨0x3, 0x3, .u8, .rws, 1, 0, .oneOf [0, 1, 2, 3, 4]⟩,
  ⟨0x4, 0x4, .u16, .rws, 1, 0x780, .range 64 4096⟩,
  ⟨0x5, 0x5, .u16, .rws, 1, 0x438, .range 48 3072⟩,
  ⟨0x6, 0x6, .u16, .rws, 1, 0x780, .range 16 4096⟩,
  ⟨0x7, 0x7, .u16, .rws, 1, 0x438, .range 12 3072⟩,
  ⟨0x8, 0x8, .u8, .rws, 1, 0, .range 0 2⟩,
  ⟨0x9, 0x9, .f32, .rws, 1, 0x41f00000, .frange 1 120⟩,
  ⟨0xa, 0xa, .u16, .rws, 1, 400, .range 40 40000⟩,
  ⟨0xb, 0xb, .u8, .ro, 1, 0, .any⟩,
  ⟨0xc, 0xc, .u64, .ro, 1, 0, .any⟩,
  ⟨0xd, 0xd, .u32, .ro, 1, 0, .any⟩,
  ⟨0xe, 0xe, .u32, .ro, 1, 0, .any⟩,
  ⟨0xf, 0xf, .u8, .ro, 1, 255, .any⟩,
  ⟨0x10, 0x10, .u32, .ro, 1, 0, .any⟩,
  ⟨0x11, 0x11, .u8, .ro, 1, 255, .any⟩,
  ⟨0x12, 0x12, .u32, .ro, 1, 0xffffffff, .any⟩,
  ⟨0x13, 0x13, .u64, .ro, 1, 0, .any⟩,
  ⟨0x14, 0x14, .block, .ro, 1, 0, .any⟩,
  ⟨0x15, 0x15, .block, .ro, 1, 0, .any⟩,
  ⟨0x16, 0x16, .u32, .ro, 1, 0, .any⟩,
  ⟨0x17, 0x17, .u32, .ro, 1, 0, .any⟩,
  ⟨0x18, 0x18, .u32, .ro, 1, 0, .any⟩,
  ⟨0x19, 0x19, .u32, .ro, 1, 0, .any⟩,
  ⟨0x1a, 0x1a, .u32, .ro, 1, 0, .any⟩]

/-- The objects of index 6830h + s (R377). -/
def tab6830 : List ObjRow := [
  ⟨0x1, 0x4, .u16, .rws, 1, 256, .any⟩,
  ⟨0x5, 0x5, .u16, .rws, 1, 0, .orElse 0 1 4095⟩,
  ⟨0x6, 0x6, .block, .rws, 1, 0, .block 36⟩,
  ⟨0x7, 0x7, .f32, .rws, 1, 0x400ccccd, .frange 1 3⟩,
  ⟨0x8, 0x8, .block, .rws, 1, 0, .block 8⟩,
  ⟨0x9, 0x9, .block, .rws, 1, 0, .block 8⟩,
  ⟨0xa, 0xa, .block, .rws, 1, 0, .block 8⟩,
  ⟨0xb, 0xb, .block, .rws, 1, 0, .block 112⟩,
  ⟨0xc, 0xc, .u8, .cmd, 1, 0, .range 1 1⟩,
  ⟨0xd, 0xd, .u16, .ro, 1, 0, .any⟩,
  ⟨0xe, 0xe, .u16, .ro, 1, 0, .any⟩]

/-- The objects of index 6840h + s (R377). -/
def tab6840 : List ObjRow := [
  ⟨0x1, 0x1, .u8, .rws, 1, 16, .range 0 127⟩,
  ⟨0x2, 0x2, .u16, .rws, 1, 0, .any⟩,
  ⟨0x3, 0x3, .u8, .rws, 1, 2, .range 1 4⟩,
  ⟨0x4, 0x4, .u16, .rws, 1, 0, .any⟩,
  ⟨0x5, 0x5, .u8, .rws, 1, 0, .range 0 2⟩,
  ⟨0x6, 0x6, .u8, .rws, 1, 2, .range 1 4⟩,
  ⟨0x7, 0x7, .u32, .rws, 1, 0x3e8, .any⟩,
  ⟨0x8, 0x8, .u16, .rws, 1, 0, .any⟩,
  ⟨0x9, 0x9, .block, .cmd, 1, 0, .block 8⟩,
  ⟨0xa, 0xa, .u32, .ro, 1, 0, .any⟩,
  ⟨0xb, 0xb, .u16, .ro, 1, 0xffff, .any⟩,
  ⟨0xc, 0xc, .u32, .ro, 1, 0, .any⟩,
  ⟨0xd, 0xd, .u32, .ro, 1, 0, .any⟩]

/-- The objects of index 6850h + s (R377). -/
def tab6850 : List ObjRow := [
  ⟨0x1, 0x1, .u8, .rws, 1, 127, .any⟩,
  ⟨0x2, 0x2, .u8, .rws, 1, 0, .any⟩,
  ⟨0x3, 0x3, .u8, .rws, 1, 0, .any⟩,
  ⟨0x4, 0x4, .u8, .rws, 1, 8, .range 1 16⟩,
  ⟨0x5, 0x5, .u32, .rws, 1, 0x186a0, .any⟩,
  ⟨0x6, 0x6, .u16, .rws, 1, 0xfa0, .range 400 40000⟩,
  ⟨0x7, 0x7, .f32, .rws, 1, 0x3f800000, .frange 0 10⟩,
  ⟨0x8, 0x8, .f32, .rws, 1, 0x3f800000, .frange 0 10⟩,
  ⟨0x10, 0x10, .f32, .ro, 1, 0, .any⟩,
  ⟨0x11, 0x11, .f32, .ro, 1, 0, .any⟩]

/-- The objects of index 7000h + c (R408). -/
def tab7000 : List ObjRow := [
  ⟨0x1, 0x1, .bool, .rws, 1, 0, .any⟩,
  ⟨0x2, 0x2, .bool, .rws, 1, 0, .any⟩,
  ⟨0x3, 0x3, .u16, .rws, 1, 2, .range 1 32⟩,
  ⟨0x4, 0x4, .u16, .rws, 1, 139, .range 2 256⟩,
  ⟨0x5, 0x5, .u8, .rws, 1, 20, .range 2 128⟩,
  ⟨0x6, 0x6, .u8, .rws, 1, 20, .range 1 128⟩,
  ⟨0x7, 0x7, .u8, .rws, 1, 1, .range 1 32⟩,
  ⟨0x8, 0x8, .u8, .rws, 1, 29, .range 1 32⟩,
  ⟨0x9, 0x9, .u8, .rws, 1, 10, .range 1 16⟩,
  ⟨0xa, 0xa, .u8, .rws, 1, 10, .range 1 16⟩,
  ⟨0xb, 0xb, .bool, .rws, 1, 1, .any⟩,
  ⟨0xc, 0xc, .u8, .rws, 1, 30, .range 0 127⟩,
  ⟨0xd, 0xd, .bool, .rws, 1, 0, .any⟩,
  ⟨0xe, 0xe, .bool, .rws, 1, 0, .any⟩,
  ⟨0xf, 0xf, .u8, .rws, 1, 0, .oneOf [0, 1]⟩,
  ⟨0x10, 0x10, .u8, .rws, 1, 0, .mask 7⟩,
  ⟨0x11, 0x11, .u8, .rws, 1, 0, .oneOf [0, 1]⟩,
  ⟨0x12, 0x12, .u8, .cmd, 1, 0, .range 1 1⟩,
  ⟨0x13, 0x13, .u32, .ro, 1, 0x3d090, .any⟩,
  ⟨0x14, 0x14, .u32, .ro, 1, 0x1e8480, .any⟩,
  ⟨0x15, 0x15, .u8, .ro, 1, 0, .any⟩,
  ⟨0x16, 0x16, .u16, .ro, 1, 0, .any⟩,
  ⟨0x17, 0x17, .u8, .ro, 1, 0, .any⟩,
  ⟨0x18, 0x18, .u8, .ro, 1, 0, .any⟩,
  ⟨0x19, 0x19, .u32, .ro, 1, 0, .any⟩,
  ⟨0x1a, 0x1a, .u32, .ro, 1, 0xffffffff, .any⟩,
  ⟨0x1b, 0x1b, .u64, .ro, 1, 0, .any⟩,
  ⟨0x1c, 0x1c, .u32, .ro, 1, 0, .any⟩,
  ⟨0x1d, 0x1d, .u32, .ro, 1, 0, .any⟩,
  ⟨0x1e, 0x1e, .u32, .ro, 1, 0, .any⟩,
  ⟨0x1f, 0x1f, .u32, .ro, 1, 0, .any⟩,
  ⟨0x20, 0x20, .u32, .rw, 1, 0, .any⟩,
  ⟨0x21, 0x21, .block, .ro, 1, 0, .any⟩,
  ⟨0x22, 0x22, .u32, .ro, 1, 0, .any⟩,
  ⟨0x23, 0x23, .u8, .ro, 1, 0, .any⟩,
  ⟨0x24, 0x24, .u8, .ro, 1, 0, .any⟩,
  ⟨0x25, 0x25, .u32, .ro, 1, 0, .any⟩,
  ⟨0x26, 0x26, .u32, .ro, 1, 0, .any⟩,
  ⟨0x30, 0x30, .u8, .ro, 1, 0, .any⟩,
  ⟨0x31, 0x31, .u8, .ro, 1, 0, .any⟩,
  ⟨0x32, 0x32, .u64, .ro, 1, 0, .any⟩,
  ⟨0x33, 0x33, .time64, .ro, 1, 0, .any⟩,
  ⟨0x34, 0x34, .u8, .ro, 1, 0, .any⟩,
  ⟨0x35, 0x35, .u8, .ro, 1, 0, .any⟩,
  ⟨0x36, 0x36, .u64, .ro, 1, 0, .any⟩,
  ⟨0x37, 0x37, .time64, .ro, 1, 0, .any⟩,
  ⟨0x38, 0x38, .u8, .ro, 1, 0, .any⟩,
  ⟨0x39, 0x39, .u8, .ro, 1, 0, .any⟩,
  ⟨0x3a, 0x3a, .u64, .ro, 1, 0, .any⟩,
  ⟨0x3b, 0x3b, .time64, .ro, 1, 0, .any⟩]

/-- The objects of index 7060h (R416). -/
def tab7060 : List ObjRow := [
  ⟨0x1, 0x1, .u8, .rws, 1, 255, .orElse 255 0 7⟩,
  ⟨0x2, 0x2, .u64, .rws, 1, 0, .any⟩,
  ⟨0x3, 0x3, .u8, .rws, 1, 128, .range 0 253⟩,
  ⟨0x4, 0x4, .u8, .ro, 1, 254, .any⟩,
  ⟨0x5, 0x5, .u8, .ro, 1, 0, .any⟩,
  ⟨0x6, 0x6, .u32, .ro, 1, 0, .any⟩,
  ⟨0x7, 0x7, .u64, .ro, 1, 0, .any⟩,
  ⟨0x8, 0x8, .u32, .ro, 1, 0xffffffff, .any⟩,
  ⟨0x9, 0x9, .u32, .rws, 1, 0x10000, .range 1786 1048576⟩,
  ⟨0xa, 0xa, .u32, .ro, 1, 0, .any⟩,
  ⟨0xb, 0xb, .u32, .ro, 1, 0, .any⟩,
  ⟨0x10, 0x17, .u16, .ro, 1, 0, .any⟩]

/-- The objects of index 7080h (R416). -/
def tab7080 : List ObjRow := [
  ⟨0x1, 0x1, .u8, .rws, 1, 0, .range 0 2⟩,
  ⟨0x2, 0x2, .u8, .ro, 1, 0, .any⟩,
  ⟨0x3, 0x3, .u32, .ro, 1, 0, .any⟩,
  ⟨0x4, 0x4, .bool, .rws, 1, 0, .any⟩,
  ⟨0x5, 0x5, .u16, .rws, 1, 7, .range 0 3999⟩,
  ⟨0x6, 0x6, .u8, .ro, 1, 0, .any⟩,
  ⟨0x7, 0x7, .u32, .ro, 1, 0, .any⟩]

/-- The objects of index 7090h + d (R416). -/
def tab7090 : List ObjRow := [
  ⟨0x1, 0x1, .u32, .rws, 1, 0, .any⟩,
  ⟨0x2, 0x2, .u32, .rws, 1, 0, .range 0 524287⟩,
  ⟨0x3, 0x3, .u8, .rws, 1, 0, .range 0 31⟩,
  ⟨0x4, 0x4, .u8, .rws, 1, 0, .any⟩,
  ⟨0x5, 0x5, .bool, .ro, 1, 0, .any⟩,
  ⟨0x6, 0x6, .u8, .ro, 1, 0, .any⟩]

/-- The objects of index 7800h + p (R418). -/
def tab7800 : List ObjRow := [
  ⟨0x1, 0x1, .bool, .rws, 1, 0, .any⟩,
  ⟨0x2, 0x2, .u8, .rws, 1, 1, .oneOf [0, 1]⟩,
  ⟨0x3, 0x3, .u32, .rws, 1, 0, .any⟩,
  ⟨0x4, 0x4, .u32, .rws, 1, 0xffffff00, .any⟩,
  ⟨0x5, 0x5, .u64, .ro, 1, 0, .any⟩,
  ⟨0x6, 0x6, .u8, .ro, 1, 0, .any⟩,
  ⟨0x7, 0x7, .u8, .ro, 1, 255, .any⟩,
  ⟨0x8, 0x8, .u32, .ro, 1, 0, .any⟩,
  ⟨0x9, 0x9, .u32, .ro, 1, 0, .any⟩,
  ⟨0xa, 0xa, .u32, .ro, 1, 0, .any⟩,
  ⟨0xb, 0xb, .u32, .ro, 1, 0, .any⟩]

/-- The objects of index 7840h (R69). -/
def tab7840 : List ObjRow := [
  ⟨0x1, 0x1, .u8, .rws, 1, 7, .mask 7⟩,
  ⟨0x2, 0x2, .u8, .rws, 1, 0, .range 0 127⟩,
  ⟨0x3, 0x3, .i16, .rws, 1, 0xfffd, .irange (-5) (0)⟩,
  ⟨0x4, 0x4, .i16, .rws, 1, 0, .irange (-3) (3)⟩,
  ⟨0x5, 0x5, .u8, .rws, 1, 246, .any⟩,
  ⟨0x6, 0x6, .u8, .ro, 1, 248, .any⟩,
  ⟨0x7, 0x7, .u32, .ro, 1, 0, .any⟩,
  ⟨0x8, 0x8, .i16, .ro, 1, 37, .any⟩]

/-- The objects of index 7850h (R410). -/
def tab7850 : List ObjRow := [
  ⟨0x1, 0x1, .u16, .rws, 1, 400, .range 40 4000⟩,
  ⟨0x2, 0x2, .u16, .rws, 1, 3, .any⟩,
  ⟨0x3, 0x3, .u8, .rws, 1, 0, .any⟩,
  ⟨0x4, 0x4, .u32, .rws, 1, 0x1f400000, .mask 0x1FFFFFFF⟩,
  ⟨0x5, 0x5, .u8, .rws, 1, 0, .mask 7⟩,
  ⟨0x6, 0x6, .u16, .rws, 1, 0xbcc0, .range 1024 65535⟩,
  ⟨0x7, 0x7, .u16, .ro, 1, 0, .any⟩]

/-- The objects of index 8000h + 16 a + 0, assembly a. -/
def tab8000_0 : List ObjRow := [
  ⟨0x1, 0x1, .str, .rws, 1, 0, .str 0 16⟩,
  ⟨0x2, 0x2, .u16, .rws, 1, 0xffff, .any⟩,
  ⟨0x3, 0x3, .u16, .rws, 1, 0xffff, .any⟩,
  ⟨0x4, 0x4, .u8, .rws, 1, 0, .range 0 1⟩,
  ⟨0x5, 0x5, .u16, .ro, 1, 0, .any⟩,
  ⟨0x6, 0x6, .u8, .ro, 1, 0, .any⟩,
  ⟨0x10, 0x10, .bool, .rws, 1, 0, .any⟩,
  ⟨0x11, 0x11, .bool, .rw, 1, 0, .any⟩,
  ⟨0x12, 0x12, .u32, .rws, 1, 0, .any⟩,
  ⟨0x13, 0x13, .u8, .rws, 1, 0, .range 0 2⟩,
  ⟨0x14, 0x14, .u32, .rws, 1, 0, .any⟩,
  ⟨0x15, 0x15, .f32, .rw, 1, 0, .any⟩,
  ⟨0x16, 0x16, .f32, .ro, 1, 0, .any⟩,
  ⟨0x17, 0x17, .u64, .ro, 1, 0, .any⟩,
  ⟨0x18, 0x18, .f32, .ro, 1, 0, .any⟩,
  ⟨0x19, 0x19, .f32, .ro, 1, 0, .any⟩,
  ⟨0x1a, 0x1a, .u8, .ro, 1, 0, .any⟩,
  ⟨0x1b, 0x1b, .u32, .ro, 1, 0, .any⟩,
  ⟨0x1c, 0x1c, .u32, .ro, 1, 0, .any⟩,
  ⟨0x1d, 0x1d, .u8, .cmd, 1, 0, .range 1 1⟩,
  ⟨0x1e, 0x1e, .u16, .ro, 1, 0xffff, .any⟩]

/-- The objects of index 8000h + 16 a + 1, assembly a. -/
def tab8000_1 : List ObjRow := [
  ⟨0x1, 0x40, .u16, .rws, 1, 0xffff, .any⟩]

/-- The objects of index 8000h + 16 a + 2, assembly a. -/
def tab8000_2 : List ObjRow := [
  ⟨0x1, 0x40, .bool, .rws, 1, 1, .any⟩]

/-- The objects of index 8000h + 16 a + 3, assembly a. -/
def tab8000_3 : List ObjRow := [
  ⟨0x1, 0x1, .u16, .rws, 2, 0, .any⟩,
  ⟨0x2, 0x2, .u8, .ro, 1, 1, .any⟩,
  ⟨0x3, 0x3, .u8, .ro, 1, 255, .any⟩,
  ⟨0x4, 0x4, .u64, .ro, 1, 0, .any⟩]

/-- The table of an index, none where no chapter defines the index (R79). -/
def tableOf (ix : Nat) : Option (List ObjRow) :=
  if 0x8000 ≤ ix ∧ ix ≤ 0x8FFF then
    match (ix - 0x8000) % 16 with
    | 0 => some tab8000_0
    | 1 => some tab8000_1
    | 2 => some tab8000_2
    | 3 => some tab8000_3
    | _ => none
  else
  if ix < 0x4870 then
    if ix < 0x2400 then
      if ix < 0x2100 then
        if ix < 0x1110 then
          if ix < 0x1010 then
            if ix = 0x1000 then some tab1000 else none
          else
            if ix < 0x1100 then
              if ix = 0x1010 then some tab1010 else none
            else
              if ix = 0x1100 then some tab1100 else none
        else
          if ix < 0x2000 then
            if ix < 0x1F00 then
              if ix = 0x1110 then some tab1110 else none
            else
              if ix = 0x1F00 then some tab1F00 else none
          else
            if ix < 0x2010 then
              if ix = 0x2000 then some tab2000 else none
            else
              if ix = 0x2010 then some tab2010 else none
      else
        if ix < 0x21F0 then
          if ix < 0x2180 then
            if ix < 0x2110 then
              if ix = 0x2100 then some tab2100 else none
            else
              if 0x2110 ≤ ix ∧ ix ≤ 0x211E then some tab2110 else none
          else
            if ix < 0x21E0 then
              if ix = 0x2180 then some tab2180 else none
            else
              if ix = 0x21E0 then some tab21E0 else none
        else
          if ix < 0x2300 then
            if ix < 0x2200 then
              if ix = 0x21F0 then some tab21F0 else none
            else
              if ix = 0x2200 then some tab2200 else none
          else
            if ix < 0x2301 then
              if ix = 0x2300 then some tab2300 else none
            else
              if ix = 0x2301 then some tab2301 else none
    else
      if ix < 0x4040 then
        if ix < 0x3100 then
          if ix < 0x2401 then
            if ix = 0x2400 then some tab2400 else none
          else
            if ix < 0x3000 then
              if ix = 0x2401 then some tab2401 else none
            else
              if 0x3000 ≤ ix ∧ ix ≤ 0x307F then some tab3000 else none
        else
          if ix < 0x3880 then
            if ix < 0x3800 then
              if 0x3100 ≤ ix ∧ ix ≤ 0x3107 then some tab3100 else none
            else
              if 0x3800 ≤ ix ∧ ix ≤ 0x382F then some tab3800 else none
          else
            if ix < 0x4010 then
              if 0x3880 ≤ ix ∧ ix ≤ 0x388B then some tab3880 else none
            else
              if 0x4010 ≤ ix ∧ ix ≤ 0x401F then some tab4010 else none
      else
        if ix < 0x4810 then
          if ix < 0x40C0 then
            if ix < 0x4080 then
              if 0x4040 ≤ ix ∧ ix ≤ 0x406F then some tab4040 else none
            else
              if 0x4080 ≤ ix ∧ ix ≤ 0x4083 then some tab4080 else none
          else
            if ix < 0x4800 then
              if 0x40C0 ≤ ix ∧ ix ≤ 0x40DF then some tab40C0 else none
            else
              if ix = 0x4800 then some tab4800 else none
        else
          if ix < 0x4840 then
            if ix < 0x4830 then
              if 0x4810 ≤ ix ∧ ix ≤ 0x4827 then some tab4810 else none
            else
              if 0x4830 ≤ ix ∧ ix ≤ 0x4837 then some tab4830 else none
          else
            if ix < 0x4850 then
              if ix = 0x4840 then some tab4840 else none
            else
              if 0x4850 ≤ ix ∧ ix ≤ 0x4867 then some tab4850 else none
  else
    if ix < 0x6090 then
      if ix < 0x5180 then
        if ix < 0x5110 then
          if ix < 0x5000 then
            if ix = 0x4870 then some tab4870 else none
          else
            if ix < 0x5100 then
              if 0x5000 ≤ ix ∧ ix ≤ 0x502F then some tab5000 else none
            else
              if ix = 0x5100 then some tab5100 else none
        else
          if ix < 0x5140 then
            if ix < 0x5120 then
              if 0x5110 ≤ ix ∧ ix ≤ 0x5114 then some tab5110 else none
            else
              if 0x5120 ≤ ix ∧ ix ≤ 0x5124 then some tab5120 else none
          else
            if ix < 0x5141 then
              if ix = 0x5140 then some tab5140 else none
            else
              if ix = 0x5141 then some tab5141 else none
      else
        if ix < 0x6030 then
          if ix < 0x6010 then
            if ix < 0x6000 then
              if ix = 0x5180 then some tab5180 else none
            else
              if ix = 0x6000 then some tab6000 else none
          else
            if ix < 0x6020 then
              if 0x6010 ≤ ix ∧ ix ≤ 0x6011 then some tab6010 else none
            else
              if ix = 0x6020 then some tab6020 else none
        else
          if ix < 0x6070 then
            if ix < 0x6040 then
              if ix = 0x6030 then some tab6030 else none
            else
              if ix = 0x6040 then some tab6040 else none
          else
            if ix < 0x6080 then
              if ix = 0x6070 then some tab6070 else none
            else
              if ix = 0x6080 then some tab6080 else none
    else
      if ix < 0x6850 then
        if ix < 0x6810 then
          if ix < 0x60A0 then
            if ix = 0x6090 then some tab6090 else none
          else
            if ix < 0x6800 then
              if ix = 0x60A0 then some tab60A0 else none
            else
              if 0x6800 ≤ ix ∧ ix ≤ 0x6801 then some tab6800 else none
        else
          if ix < 0x6830 then
            if ix < 0x6820 then
              if 0x6810 ≤ ix ∧ ix ≤ 0x6817 then some tab6810 else none
            else
              if 0x6820 ≤ ix ∧ ix ≤ 0x6827 then some tab6820 else none
          else
            if ix < 0x6840 then
              if 0x6830 ≤ ix ∧ ix ≤ 0x6837 then some tab6830 else none
            else
              if 0x6840 ≤ ix ∧ ix ≤ 0x6847 then some tab6840 else none
      else
        if ix < 0x7090 then
          if ix < 0x7060 then
            if ix < 0x7000 then
              if 0x6850 ≤ ix ∧ ix ≤ 0x6857 then some tab6850 else none
            else
              if 0x7000 ≤ ix ∧ ix ≤ 0x7007 then some tab7000 else none
          else
            if ix < 0x7080 then
              if ix = 0x7060 then some tab7060 else none
            else
              if ix = 0x7080 then some tab7080 else none
        else
          if ix < 0x7840 then
            if ix < 0x7800 then
              if 0x7090 ≤ ix ∧ ix ≤ 0x70AF then some tab7090 else none
            else
              if 0x7800 ≤ ix ∧ ix ≤ 0x7804 then some tab7800 else none
          else
            if ix < 0x7850 then
              if ix = 0x7840 then some tab7840 else none
            else
              if ix = 0x7850 then some tab7850 else none

/-- The key of an object: index times 256 plus sub-index (R71). -/
def objKey (ix sub : Nat) : Nat := ix * 256 + sub

/-- The row of an object that a table lists. -/
def rowOf (key : Nat) : Option ObjRow :=
  (tableOf (key / 256)).bind fun t => t.find? fun r => decide (r.lo ≤ key % 256 ∧ key % 256 ≤ r.hi)

namespace Obj

/-- ID_PART_NUMBER. -/
abbrev ID_PART_NUMBER : Nat := 0x1000 * 256 + 0x1
/-- ID_HW_ISSUE. -/
abbrev ID_HW_ISSUE : Nat := 0x1000 * 256 + 0x2
/-- ID_FW_RELEASE. -/
abbrev ID_FW_RELEASE : Nat := 0x1000 * 256 + 0x3
/-- ID_SERIAL. -/
abbrev ID_SERIAL : Nat := 0x1000 * 256 + 0x4
/-- ID_IMAGE_SLOT. -/
abbrev ID_IMAGE_SLOT : Nat := 0x1000 * 256 + 0x5
/-- MDP_CAN_CTRL. -/
abbrev MDP_CAN_CTRL : Nat := 0x1010 * 256 + 0x1
/-- MDP_CAN_BASE. -/
abbrev MDP_CAN_BASE : Nat := 0x1010 * 256 + 0x2
/-- MDP_NODE. -/
abbrev MDP_NODE : Nat := 0x1010 * 256 + 0x3
/-- MDP_UDP_PORTS. -/
abbrev MDP_UDP_PORTS : Nat := 0x1010 * 256 + 0x4
/-- MDP_UDP_PORT. -/
abbrev MDP_UDP_PORT : Nat := 0x1010 * 256 + 0x5
/-- MDP_SEG_TIMEOUT. -/
abbrev MDP_SEG_TIMEOUT : Nat := 0x1010 * 256 + 0x6
/-- MDP_RX_BAD. -/
abbrev MDP_RX_BAD : Nat := 0x1010 * 256 + 0x7
/-- MDP_CACHED. -/
abbrev MDP_CACHED : Nat := 0x1010 * 256 + 0x8
/-- MDP_STALE. -/
abbrev MDP_STALE : Nat := 0x1010 * 256 + 0x9
/-- SESS_TIMEOUT. -/
abbrev SESS_TIMEOUT : Nat := 0x1100 * 256 + 0x1
/-- SESS_OPEN. -/
abbrev SESS_OPEN : Nat := 0x1100 * 256 + 0x2
/-- SESS_OWN. -/
abbrev SESS_OWN : Nat := 0x1100 * 256 + 0x3
/-- SESS_OWN_LEVEL. -/
abbrev SESS_OWN_LEVEL : Nat := 0x1100 * 256 + 0x4
/-- SESS_CRED_FAILS. -/
abbrev SESS_CRED_FAILS : Nat := 0x1100 * 256 + 0x5
/-- SESS_LOCKOUT. -/
abbrev SESS_LOCKOUT : Nat := 0x1100 * 256 + 0x6
/-- SESS_CLOSE_ALL. -/
abbrev SESS_CLOSE_ALL : Nat := 0x1100 * 256 + 0x7
/-- CRED_L1. -/
abbrev CRED_L1 : Nat := 0x1110 * 256 + 0x1
/-- CRED_L2. -/
abbrev CRED_L2 : Nat := 0x1110 * 256 + 0x2
/-- CRED_CHANGES. -/
abbrev CRED_CHANGES : Nat := 0x1110 * 256 + 0x3
/-- STORE_ALL. -/
abbrev STORE_ALL : Nat := 0x1F00 * 256 + 0x1
/-- STORE_STATUS. -/
abbrev STORE_STATUS : Nat := 0x1F00 * 256 + 0x2
/-- STORE_GROUP. -/
abbrev STORE_GROUP : Nat := 0x1F00 * 256 + 0x3
/-- STORE_SEQ. -/
abbrev STORE_SEQ : Nat := 0x1F00 * 256 + 0x4
/-- STORE_AREA. -/
abbrev STORE_AREA : Nat := 0x1F00 * 256 + 0x5
/-- STORE_CHANGED. -/
abbrev STORE_CHANGED : Nat := 0x1F00 * 256 + 0x6
/-- STORE_DEFAULTS. -/
abbrev STORE_DEFAULTS : Nat := 0x1F00 * 256 + 0x7
/-- STORE_LAST_TICK. -/
abbrev STORE_LAST_TICK : Nat := 0x1F00 * 256 + 0x8
/-- TICK_INDEX. -/
abbrev TICK_INDEX : Nat := 0x2000 * 256 + 0x1
/-- TICK_OVERRUNS. -/
abbrev TICK_OVERRUNS : Nat := 0x2000 * 256 + 0x2
/-- TICK_LAST_OVERRUN. -/
abbrev TICK_LAST_OVERRUN : Nat := 0x2000 * 256 + 0x3
/-- TICK_ESC_CONSEC. -/
abbrev TICK_ESC_CONSEC : Nat := 0x2000 * 256 + 0x4
/-- TICK_ESC_WINDOW. -/
abbrev TICK_ESC_WINDOW : Nat := 0x2000 * 256 + 0x5
/-- TICK_ENGINE_FAULT. -/
abbrev TICK_ENGINE_FAULT : Nat := 0x2000 * 256 + 0x6
/-- TICK_ENGINE_RESTART. -/
abbrev TICK_ENGINE_RESTART : Nat := 0x2000 * 256 + 0x7
/-- TICK_CAPTURE_LATE. -/
abbrev TICK_CAPTURE_LATE : Nat := 0x2000 * 256 + 0x8
/-- TICK_APP_STALLS. -/
abbrev TICK_APP_STALLS : Nat := 0x2000 * 256 + 0x9
/-- TICK_OVR. -/
abbrev TICK_OVR (i : Nat) : Nat := 0x2000 * 256 + (0xa + i)
/-- TICK_PEAK. -/
abbrev TICK_PEAK (i : Nat) : Nat := 0x2000 * 256 + (0x10 + i)
/-- TIME_NOW. -/
abbrev TIME_NOW : Nat := 0x2010 * 256 + 0x1
/-- TIME_STATE. -/
abbrev TIME_STATE : Nat := 0x2010 * 256 + 0x2
/-- TIME_ERR_EST. -/
abbrev TIME_ERR_EST : Nat := 0x2010 * 256 + 0x3
/-- TIME_OFFSET_US. -/
abbrev TIME_OFFSET_US : Nat := 0x2010 * 256 + 0x4
/-- TIME_SLEW. -/
abbrev TIME_SLEW : Nat := 0x2010 * 256 + 0x5
/-- TIME_START_POLICY. -/
abbrev TIME_START_POLICY : Nat := 0x2010 * 256 + 0x6
/-- TIME_STEP_WINDOW. -/
abbrev TIME_STEP_WINDOW : Nat := 0x2010 * 256 + 0x7
/-- TIME_HOLDOVER_S. -/
abbrev TIME_HOLDOVER_S : Nat := 0x2010 * 256 + 0x8
/-- TIME_D0_VALID. -/
abbrev TIME_D0_VALID : Nat := 0x2010 * 256 + 0x9
/-- TIME_STEP_OLD. -/
abbrev TIME_STEP_OLD : Nat := 0x2010 * 256 + 0xa
/-- TIME_STEP_NEW. -/
abbrev TIME_STEP_NEW : Nat := 0x2010 * 256 + 0xb
/-- PWR_APP_OFFSET. -/
abbrev PWR_APP_OFFSET : Nat := 0x2100 * 256 + 0x1
/-- PWR_ACCESS_HOLD. -/
abbrev PWR_ACCESS_HOLD : Nat := 0x2100 * 256 + 0x2
/-- PWR_EXT_MASK. -/
abbrev PWR_EXT_MASK : Nat := 0x2100 * 256 + 0x3
/-- PWR_EXT_HOLD. -/
abbrev PWR_EXT_HOLD : Nat := 0x2100 * 256 + 0x4
/-- PWR_WAKE_IN. -/
abbrev PWR_WAKE_IN : Nat := 0x2100 * 256 + 0x5
/-- PWR_RET_LOST_TOTAL. -/
abbrev PWR_RET_LOST_TOTAL : Nat := 0x2100 * 256 + 0x6
/-- DOM_STATE. -/
abbrev DOM_STATE (d : Nat) : Nat := (0x2110 + d) * 256 + 0x1
/-- DOM_ALLOWED. -/
abbrev DOM_ALLOWED (d : Nat) : Nat := (0x2110 + d) * 256 + 0x2
/-- DOM_PENDING. -/
abbrev DOM_PENDING (d : Nat) : Nat := (0x2110 + d) * 256 + 0x3
/-- DOM_VOTES. -/
abbrev DOM_VOTES (d : Nat) : Nat := (0x2110 + d) * 256 + 0x4
/-- DOM_SERVICE_VOTE. -/
abbrev DOM_SERVICE_VOTE (d : Nat) : Nat := (0x2110 + d) * 256 + 0x5
/-- DOM_WAKE_SRC. -/
abbrev DOM_WAKE_SRC (d : Nat) : Nat := (0x2110 + d) * 256 + 0x6
/-- DOM_WAKE_TICK. -/
abbrev DOM_WAKE_TICK (d : Nat) : Nat := (0x2110 + d) * 256 + 0x7
/-- DOM_WAKES. -/
abbrev DOM_WAKES (d : Nat) : Nat := (0x2110 + d) * 256 + 0x8
/-- DOM_LAST_US. -/
abbrev DOM_LAST_US (d : Nat) : Nat := (0x2110 + d) * 256 + 0x9
/-- DOM_RET_LOST. -/
abbrev DOM_RET_LOST (d : Nat) : Nat := (0x2110 + d) * 256 + 0xa
/-- DOM_RET_LOST_N. -/
abbrev DOM_RET_LOST_N (d : Nat) : Nat := (0x2110 + d) * 256 + 0xb
/-- DOM_REPLACED. -/
abbrev DOM_REPLACED (d : Nat) : Nat := (0x2110 + d) * 256 + 0xc
/-- DOM_BODY_BIAS_MV. -/
abbrev DOM_BODY_BIAS_MV (d : Nat) : Nat := (0x2110 + d) * 256 + 0xd
/-- DOM_ARRAY_MV. -/
abbrev DOM_ARRAY_MV (d : Nat) : Nat := (0x2110 + d) * 256 + 0xe
/-- DOM_RET_ACK. -/
abbrev DOM_RET_ACK (d : Nat) : Nat := (0x2110 + d) * 256 + 0xf
/-- DOM_CODE_BANKS. -/
abbrev DOM_CODE_BANKS (d : Nat) : Nat := (0x2110 + d) * 256 + 0x10
/-- SUPPLY_SYSTEM. -/
abbrev SUPPLY_SYSTEM : Nat := 0x2180 * 256 + 0x1
/-- SUPPLY_WARN. -/
abbrev SUPPLY_WARN : Nat := 0x2180 * 256 + 0x2
/-- SUPPLY_WARN_NOW. -/
abbrev SUPPLY_WARN_NOW : Nat := 0x2180 * 256 + 0x3
/-- SUPPLY_V_A. -/
abbrev SUPPLY_V_A : Nat := 0x2180 * 256 + 0x4
/-- SUPPLY_V_B. -/
abbrev SUPPLY_V_B : Nat := 0x2180 * 256 + 0x5
/-- SUPPLY_V_MIN. -/
abbrev SUPPLY_V_MIN : Nat := 0x2180 * 256 + 0x6
/-- SUPPLY_STATE. -/
abbrev SUPPLY_STATE : Nat := 0x2180 * 256 + 0x7
/-- SUPPLY_DIPS. -/
abbrev SUPPLY_DIPS : Nat := 0x2180 * 256 + 0x8
/-- SUPPLY_DIP_MIN. -/
abbrev SUPPLY_DIP_MIN : Nat := 0x2180 * 256 + 0x9
/-- SUPPLY_DIP_TICKS. -/
abbrev SUPPLY_DIP_TICKS : Nat := 0x2180 * 256 + 0xa
/-- SUPPLY_HOLDUP_OK. -/
abbrev SUPPLY_HOLDUP_OK : Nat := 0x2180 * 256 + 0xb
/-- SUPPLY_FEED_FLAGS. -/
abbrev SUPPLY_FEED_FLAGS : Nat := 0x2180 * 256 + 0xc
/-- THERM_BASE_TEMP. -/
abbrev THERM_BASE_TEMP : Nat := 0x21E0 * 256 + 0x1
/-- THERM_STATE. -/
abbrev THERM_STATE : Nat := 0x21E0 * 256 + 0x2
/-- THERM_BASE_PEAK. -/
abbrev THERM_BASE_PEAK : Nat := 0x21E0 * 256 + 0x3
/-- THERM_HOT_TICKS. -/
abbrev THERM_HOT_TICKS : Nat := 0x21E0 * 256 + 0x4
/-- THERM_APP_CLOCK. -/
abbrev THERM_APP_CLOCK : Nat := 0x21E0 * 256 + 0x5
/-- RST_CAUSE. -/
abbrev RST_CAUSE : Nat := 0x21F0 * 256 + 0x1
/-- RST_DETAIL. -/
abbrev RST_DETAIL : Nat := 0x21F0 * 256 + 0x2
/-- RST_ENTRY_TICK. -/
abbrev RST_ENTRY_TICK : Nat := 0x21F0 * 256 + 0x3
/-- RST_START_MS. -/
abbrev RST_START_MS : Nat := 0x21F0 * 256 + 0x4
/-- RST_COUNT. -/
abbrev RST_COUNT : Nat := 0x21F0 * 256 + 0x5
/-- RST_COMMAND. -/
abbrev RST_COMMAND : Nat := 0x21F0 * 256 + 0x6
/-- REC_NEWEST. -/
abbrev REC_NEWEST : Nat := 0x2200 * 256 + 0x1
/-- REC_OLDEST. -/
abbrev REC_OLDEST : Nat := 0x2200 * 256 + 0x2
/-- REC_KEPT_USED. -/
abbrev REC_KEPT_USED : Nat := 0x2200 * 256 + 0x3
/-- REC_PHASE. -/
abbrev REC_PHASE : Nat := 0x2200 * 256 + 0x4
/-- REC_TEST. -/
abbrev REC_TEST : Nat := 0x2200 * 256 + 0x5
/-- REC_CURSOR. -/
abbrev REC_CURSOR : Nat := 0x2200 * 256 + 0x6
/-- REC_WINDOW. -/
abbrev REC_WINDOW : Nat := 0x2200 * 256 + 0x7
/-- REC_LOST. -/
abbrev REC_LOST : Nat := 0x2200 * 256 + 0x8
/-- REC_SUPPRESSED. -/
abbrev REC_SUPPRESSED : Nat := 0x2200 * 256 + 0x9
/-- REC_SPILLED. -/
abbrev REC_SPILLED : Nat := 0x2200 * 256 + 0xa
/-- REC_CLEAR_CIRC. -/
abbrev REC_CLEAR_CIRC : Nat := 0x2200 * 256 + 0xb
/-- REC_CLEAR_KEPT. -/
abbrev REC_CLEAR_KEPT : Nat := 0x2200 * 256 + 0xc
/-- REC_OP_SECONDS. -/
abbrev REC_OP_SECONDS : Nat := 0x2200 * 256 + 0xd
/-- REC_POWER_CYCLES. -/
abbrev REC_POWER_CYCLES : Nat := 0x2200 * 256 + 0xe
/-- REC_FLOOD_LIMIT. -/
abbrev REC_FLOOD_LIMIT : Nat := 0x2200 * 256 + 0xf
/-- REC_MARK_SECONDS. -/
abbrev REC_MARK_SECONDS : Nat := 0x2200 * 256 + 0x10
/-- REC_APP_EVENT. -/
abbrev REC_APP_EVENT : Nat := 0x2200 * 256 + 0x11
/-- REC_CRC_BAD. -/
abbrev REC_CRC_BAD : Nat := 0x2200 * 256 + 0x12
/-- REC_QUEUE_PEAK. -/
abbrev REC_QUEUE_PEAK : Nat := 0x2200 * 256 + 0x13
/-- UPD_STATE. -/
abbrev UPD_STATE : Nat := 0x2300 * 256 + 0x1
/-- UPD_RESULT. -/
abbrev UPD_RESULT : Nat := 0x2300 * 256 + 0x2
/-- UPD_PACKAGE. -/
abbrev UPD_PACKAGE : Nat := 0x2300 * 256 + 0x3
/-- UPD_WAFERS_TOTAL. -/
abbrev UPD_WAFERS_TOTAL : Nat := 0x2300 * 256 + 0x4
/-- UPD_WAFERS_HELD. -/
abbrev UPD_WAFERS_HELD : Nat := 0x2300 * 256 + 0x5
/-- UPD_WAFER. -/
abbrev UPD_WAFER : Nat := 0x2300 * 256 + 0x6
/-- UPD_BITMAP. -/
abbrev UPD_BITMAP : Nat := 0x2300 * 256 + 0x7
/-- UPD_FIRST_MISSING. -/
abbrev UPD_FIRST_MISSING : Nat := 0x2300 * 256 + 0x8
/-- UPD_PROGRESS. -/
abbrev UPD_PROGRESS : Nat := 0x2300 * 256 + 0x9
/-- UPD_ACTIVATE. -/
abbrev UPD_ACTIVATE : Nat := 0x2300 * 256 + 0xa
/-- UPD_ACT_TICK. -/
abbrev UPD_ACT_TICK : Nat := 0x2300 * 256 + 0xb
/-- UPD_CANCEL. -/
abbrev UPD_CANCEL : Nat := 0x2300 * 256 + 0xc
/-- UPD_PARKED_SRC. -/
abbrev UPD_PARKED_SRC : Nat := 0x2300 * 256 + 0xd
/-- UPD_PARK_TICKS. -/
abbrev UPD_PARK_TICKS : Nat := 0x2300 * 256 + 0xe
/-- UPD_PROOF_HOURS. -/
abbrev UPD_PROOF_HOURS : Nat := 0x2300 * 256 + 0xf
/-- UPD_PROOF_CYCLES. -/
abbrev UPD_PROOF_CYCLES : Nat := 0x2300 * 256 + 0x10
/-- UPD_BAD_LIMIT. -/
abbrev UPD_BAD_LIMIT : Nat := 0x2300 * 256 + 0x11
/-- UPD_CONFIRM_MODE. -/
abbrev UPD_CONFIRM_MODE : Nat := 0x2300 * 256 + 0x12
/-- UPD_CONFIRM. -/
abbrev UPD_CONFIRM : Nat := 0x2300 * 256 + 0x13
/-- UPD_REJECT. -/
abbrev UPD_REJECT : Nat := 0x2300 * 256 + 0x14
/-- UPD_PROOF_SECONDS. -/
abbrev UPD_PROOF_SECONDS : Nat := 0x2300 * 256 + 0x15
/-- UPD_PROOF_STARTS. -/
abbrev UPD_PROOF_STARTS : Nat := 0x2300 * 256 + 0x16
/-- UPD_BAD_STARTS. -/
abbrev UPD_BAD_STARTS : Nat := 0x2300 * 256 + 0x17
/-- UPD_NEW_RELEASE. -/
abbrev UPD_NEW_RELEASE : Nat := 0x2300 * 256 + 0x18
/-- UPD_OLD_RELEASE. -/
abbrev UPD_OLD_RELEASE : Nat := 0x2300 * 256 + 0x19
/-- UPD_FLOOR. -/
abbrev UPD_FLOOR : Nat := 0x2300 * 256 + 0x1a
/-- UPD_WAFER_BAD. -/
abbrev UPD_WAFER_BAD : Nat := 0x2300 * 256 + 0x1b
/-- UPD_GROUP_FAILS. -/
abbrev UPD_GROUP_FAILS : Nat := 0x2300 * 256 + 0x1c
/-- UPD_KEY_0. -/
abbrev UPD_KEY_0 : Nat := 0x2301 * 256 + 0x1
/-- UPD_KEY. -/
abbrev UPD_KEY (i : Nat) : Nat := 0x2301 * 256 + (0x2 + i)
/-- UPD_KEY_CLEAR. -/
abbrev UPD_KEY_CLEAR : Nat := 0x2301 * 256 + 0x5
/-- PAIR_ENABLE. -/
abbrev PAIR_ENABLE : Nat := 0x2400 * 256 + 0x1
/-- PAIR_LEASE. -/
abbrev PAIR_LEASE : Nat := 0x2400 * 256 + 0x2
/-- PAIR_HOLD_LIMIT. -/
abbrev PAIR_HOLD_LIMIT : Nat := 0x2400 * 256 + 0x3
/-- PAIR_CAN. -/
abbrev PAIR_CAN : Nat := 0x2400 * 256 + 0x4
/-- PAIR_CAN_ID. -/
abbrev PAIR_CAN_ID : Nat := 0x2400 * 256 + 0x5
/-- PAIR_SWAP_HOURS. -/
abbrev PAIR_SWAP_HOURS : Nat := 0x2400 * 256 + 0x6
/-- PAIR_SWAP_WINDOW. -/
abbrev PAIR_SWAP_WINDOW : Nat := 0x2400 * 256 + 0x7
/-- PAIR_SWAP_NOW. -/
abbrev PAIR_SWAP_NOW : Nat := 0x2400 * 256 + 0x8
/-- PAIR_HEALTH_SWAP. -/
abbrev PAIR_HEALTH_SWAP : Nat := 0x2400 * 256 + 0x9
/-- PAIR_TIME_TOL. -/
abbrev PAIR_TIME_TOL : Nat := 0x2400 * 256 + 0xa
/-- PAIR_RX_TEST. -/
abbrev PAIR_RX_TEST : Nat := 0x2400 * 256 + 0xb
/-- PAIR_APP_OUT_OFFSET. -/
abbrev PAIR_APP_OUT_OFFSET : Nat := 0x2400 * 256 + 0xc
/-- PAIR_APP_IN_OFFSET. -/
abbrev PAIR_APP_IN_OFFSET : Nat := 0x2400 * 256 + 0xd
/-- PAIR_ID. -/
abbrev PAIR_ID : Nat := 0x2401 * 256 + 0x1
/-- PAIR_STATE. -/
abbrev PAIR_STATE : Nat := 0x2401 * 256 + 0x2
/-- PAIR_PROMISE. -/
abbrev PAIR_PROMISE : Nat := 0x2401 * 256 + 0x3
/-- PAIR_PATHS. -/
abbrev PAIR_PATHS : Nat := 0x2401 * 256 + 0x4
/-- PAIR_STATUS. -/
abbrev PAIR_STATUS : Nat := 0x2401 * 256 + 0x5
/-- PAIR_GUARD_NOW. -/
abbrev PAIR_GUARD_NOW : Nat := 0x2401 * 256 + 0x6
/-- PAIR_TAKEOVERS. -/
abbrev PAIR_TAKEOVERS : Nat := 0x2401 * 256 + 0x7
/-- PAIR_SWAPS. -/
abbrev PAIR_SWAPS : Nat := 0x2401 * 256 + 0x8
/-- PAIR_LAST_GAP. -/
abbrev PAIR_LAST_GAP : Nat := 0x2401 * 256 + 0x9
/-- PAIR_SWAP_DUE. -/
abbrev PAIR_SWAP_DUE : Nat := 0x2401 * 256 + 0xa
/-- PAIR_HOLDS. -/
abbrev PAIR_HOLDS : Nat := 0x2401 * 256 + 0xb
/-- PAIR_MIRROR_LATE. -/
abbrev PAIR_MIRROR_LATE : Nat := 0x2401 * 256 + 0xc
/-- PAIR_REFILLS. -/
abbrev PAIR_REFILLS : Nat := 0x2401 * 256 + 0xd
/-- PAIR_FILL. -/
abbrev PAIR_FILL : Nat := 0x2401 * 256 + 0xe
/-- PAIR_ALIGN_NS. -/
abbrev PAIR_ALIGN_NS : Nat := 0x2401 * 256 + 0xf
/-- PAIR_TIME_DIFF. -/
abbrev PAIR_TIME_DIFF : Nat := 0x2401 * 256 + 0x10
/-- PAIR_PATH_FAULTS. -/
abbrev PAIR_PATH_FAULTS : Nat := 0x2401 * 256 + 0x11
/-- PAIR_CAN_LATE. -/
abbrev PAIR_CAN_LATE : Nat := 0x2401 * 256 + 0x12
/-- PAIR_RX_RESULT. -/
abbrev PAIR_RX_RESULT : Nat := 0x2401 * 256 + 0x13
/-- PAIR_SPLITS. -/
abbrev PAIR_SPLITS : Nat := 0x2401 * 256 + 0x14
/-- CH_ENABLE. -/
abbrev CH_ENABLE (n : Nat) : Nat := (0x3000 + n) * 256 + 0x1
/-- CH_CLASS. -/
abbrev CH_CLASS (n : Nat) : Nat := (0x3000 + n) * 256 + 0x2
/-- CH_SOURCE. -/
abbrev CH_SOURCE (n : Nat) : Nat := (0x3000 + n) * 256 + 0x3
/-- CH_DEMAND. -/
abbrev CH_DEMAND (n : Nat) : Nat := (0x3000 + n) * 256 + 0x4
/-- CH_CURRENT. -/
abbrev CH_CURRENT (n : Nat) : Nat := (0x3000 + n) * 256 + 0x5
/-- CH_CURRENT_RAW. -/
abbrev CH_CURRENT_RAW (n : Nat) : Nat := (0x3000 + n) * 256 + 0x6
/-- CH_FUSE_STATE. -/
abbrev CH_FUSE_STATE (n : Nat) : Nat := (0x3000 + n) * 256 + 0x7
/-- CH_STATUS. -/
abbrev CH_STATUS (n : Nat) : Nat := (0x3000 + n) * 256 + 0x8
/-- CH_CMD_MAX_AGE. -/
abbrev CH_CMD_MAX_AGE (n : Nat) : Nat := (0x3000 + n) * 256 + 0x9
/-- CH_FALLBACK. -/
abbrev CH_FALLBACK (n : Nat) : Nat := (0x3000 + n) * 256 + 0xa
/-- CH_FALLBACK_DUTY. -/
abbrev CH_FALLBACK_DUTY (n : Nat) : Nat := (0x3000 + n) * 256 + 0xb
/-- CH_LOOP_CMD. -/
abbrev CH_LOOP_CMD (n : Nat) : Nat := (0x3000 + n) * 256 + 0xc
/-- CH_APP_OFFSET. -/
abbrev CH_APP_OFFSET (n : Nat) : Nat := (0x3000 + n) * 256 + 0xd
/-- CH_DUTY_NOW. -/
abbrev CH_DUTY_NOW (n : Nat) : Nat := (0x3000 + n) * 256 + 0xe
/-- CH_STAMP. -/
abbrev CH_STAMP (n : Nat) : Nat := (0x3000 + n) * 256 + 0xf
/-- CH_WIRE_CSA. -/
abbrev CH_WIRE_CSA (n : Nat) : Nat := (0x3000 + n) * 256 + 0x10
/-- CH_WIRE_CLASS. -/
abbrev CH_WIRE_CLASS (n : Nat) : Nat := (0x3000 + n) * 256 + 0x11
/-- CH_BUNDLE. -/
abbrev CH_BUNDLE (n : Nat) : Nat := (0x3000 + n) * 256 + 0x12
/-- CH_AMB_SRC. -/
abbrev CH_AMB_SRC (n : Nat) : Nat := (0x3000 + n) * 256 + 0x13
/-- CH_AMB_DEF. -/
abbrev CH_AMB_DEF (n : Nat) : Nat := (0x3000 + n) * 256 + 0x14
/-- CH_RESTART_MARGIN. -/
abbrev CH_RESTART_MARGIN (n : Nat) : Nat := (0x3000 + n) * 256 + 0x15
/-- CH_START_RISE. -/
abbrev CH_START_RISE (n : Nat) : Nat := (0x3000 + n) * 256 + 0x16
/-- CH_WIRE_TEMP. -/
abbrev CH_WIRE_TEMP (n : Nat) : Nat := (0x3000 + n) * 256 + 0x17
/-- CH_WIRE_RISE. -/
abbrev CH_WIRE_RISE (n : Nat) : Nat := (0x3000 + n) * 256 + 0x18
/-- CH_RETRIES. -/
abbrev CH_RETRIES (n : Nat) : Nat := (0x3000 + n) * 256 + 0x19
/-- CH_RETRY_DELAY. -/
abbrev CH_RETRY_DELAY (n : Nat) : Nat := (0x3000 + n) * 256 + 0x1a
/-- CH_RETRY_LEFT. -/
abbrev CH_RETRY_LEFT (n : Nat) : Nat := (0x3000 + n) * 256 + 0x1b
/-- CH_REARM. -/
abbrev CH_REARM (n : Nat) : Nat := (0x3000 + n) * 256 + 0x1c
/-- CH_TRIPS. -/
abbrev CH_TRIPS (n : Nat) : Nat := (0x3000 + n) * 256 + 0x1d
/-- CH_LAST_TRIP. -/
abbrev CH_LAST_TRIP (n : Nat) : Nat := (0x3000 + n) * 256 + 0x1e
/-- CH_DIE_TEMP. -/
abbrev CH_DIE_TEMP (n : Nat) : Nat := (0x3000 + n) * 256 + 0x1f
/-- CH_PWM_PERIOD. -/
abbrev CH_PWM_PERIOD (n : Nat) : Nat := (0x3000 + n) * 256 + 0x20
/-- CH_PWM_PHASE. -/
abbrev CH_PWM_PHASE (n : Nat) : Nat := (0x3000 + n) * 256 + 0x21
/-- CH_L_LOAD. -/
abbrev CH_L_LOAD (n : Nat) : Nat := (0x3000 + n) * 256 + 0x22
/-- CH_FREEWHEEL. -/
abbrev CH_FREEWHEEL (n : Nat) : Nat := (0x3000 + n) * 256 + 0x23
/-- CH_E_OFF. -/
abbrev CH_E_OFF (n : Nat) : Nat := (0x3000 + n) * 256 + 0x24
/-- CH_PRIORITY. -/
abbrev CH_PRIORITY (n : Nat) : Nat := (0x3000 + n) * 256 + 0x25
/-- CH_FINE. -/
abbrev CH_FINE (n : Nat) : Nat := (0x3000 + n) * 256 + 0x26
/-- CH_OL_ON. -/
abbrev CH_OL_ON (n : Nat) : Nat := (0x3000 + n) * 256 + 0x27
/-- CH_OL_EXPECT. -/
abbrev CH_OL_EXPECT (n : Nat) : Nat := (0x3000 + n) * 256 + 0x28
/-- CH_OL_TOL. -/
abbrev CH_OL_TOL (n : Nat) : Nat := (0x3000 + n) * 256 + 0x29
/-- CH_OL_FILTER. -/
abbrev CH_OL_FILTER (n : Nat) : Nat := (0x3000 + n) * 256 + 0x2a
/-- CH_OL_LEARN. -/
abbrev CH_OL_LEARN (n : Nat) : Nat := (0x3000 + n) * 256 + 0x2b
/-- CH_OL_OFF. -/
abbrev CH_OL_OFF (n : Nat) : Nat := (0x3000 + n) * 256 + 0x2c
/-- CH_RETRY_RESET. -/
abbrev CH_RETRY_RESET (n : Nat) : Nat := (0x3000 + n) * 256 + 0x2d
/-- BANK_RATING. -/
abbrev BANK_RATING (b : Nat) : Nat := (0x3100 + b) * 256 + 0x1
/-- BANK_TAU. -/
abbrev BANK_TAU (b : Nat) : Nat := (0x3100 + b) * 256 + 0x2
/-- BANK_RESTORE. -/
abbrev BANK_RESTORE (b : Nat) : Nat := (0x3100 + b) * 256 + 0x3
/-- BANK_RESTORE_GAP. -/
abbrev BANK_RESTORE_GAP (b : Nat) : Nat := (0x3100 + b) * 256 + 0x4
/-- BANK_SAG_DV. -/
abbrev BANK_SAG_DV (b : Nat) : Nat := (0x3100 + b) * 256 + 0x5
/-- BANK_UV_LEVEL. -/
abbrev BANK_UV_LEVEL (b : Nat) : Nat := (0x3100 + b) * 256 + 0x6
/-- BANK_CURRENT. -/
abbrev BANK_CURRENT (b : Nat) : Nat := (0x3100 + b) * 256 + 0x7
/-- BANK_FEED_V. -/
abbrev BANK_FEED_V (b : Nat) : Nat := (0x3100 + b) * 256 + 0x8
/-- BANK_FEED_MIN. -/
abbrev BANK_FEED_MIN (b : Nat) : Nat := (0x3100 + b) * 256 + 0x9
/-- BANK_LOAD. -/
abbrev BANK_LOAD (b : Nat) : Nat := (0x3100 + b) * 256 + 0xa
/-- BANK_STATUS. -/
abbrev BANK_STATUS (b : Nat) : Nat := (0x3100 + b) * 256 + 0xb
/-- BANK_SHEDS. -/
abbrev BANK_SHEDS (b : Nat) : Nat := (0x3100 + b) * 256 + 0xc
/-- BANK_SHED_MASK. -/
abbrev BANK_SHED_MASK (b : Nat) : Nat := (0x3100 + b) * 256 + 0xd
/-- BANK_SAGS. -/
abbrev BANK_SAGS (b : Nat) : Nat := (0x3100 + b) * 256 + 0xe
/-- BANK_REARM. -/
abbrev BANK_REARM (b : Nat) : Nat := (0x3100 + b) * 256 + 0xf
/-- BANK_FUSE_MODE. -/
abbrev BANK_FUSE_MODE (b : Nat) : Nat := (0x3100 + b) * 256 + 0x10
/-- BANK_FUSE_MODE_STATE. -/
abbrev BANK_FUSE_MODE_STATE (b : Nat) : Nat := (0x3100 + b) * 256 + 0x11
/-- BANK_FUSE_MODE_MISSES. -/
abbrev BANK_FUSE_MODE_MISSES (b : Nat) : Nat := (0x3100 + b) * 256 + 0x12
/-- BANK_ASSIST_OFFSET. -/
abbrev BANK_ASSIST_OFFSET (b : Nat) : Nat := (0x3100 + b) * 256 + 0x13
/-- VD_ENABLE. -/
abbrev VD_ENABLE (n : Nat) : Nat := (0x3800 + n) * 256 + 0x1
/-- VD_KIND. -/
abbrev VD_KIND (n : Nat) : Nat := (0x3800 + n) * 256 + 0x2
/-- VD_PARALLEL. -/
abbrev VD_PARALLEL (n : Nat) : Nat := (0x3800 + n) * 256 + 0x3
/-- VD_SOURCE. -/
abbrev VD_SOURCE (n : Nat) : Nat := (0x3800 + n) * 256 + 0x4
/-- VD_DEMAND. -/
abbrev VD_DEMAND (n : Nat) : Nat := (0x3800 + n) * 256 + 0x5
/-- VD_LOOP_CMD. -/
abbrev VD_LOOP_CMD (n : Nat) : Nat := (0x3800 + n) * 256 + 0x6
/-- VD_APP_OFFSET. -/
abbrev VD_APP_OFFSET (n : Nat) : Nat := (0x3800 + n) * 256 + 0x7
/-- VD_CMD_MAX_AGE. -/
abbrev VD_CMD_MAX_AGE (n : Nat) : Nat := (0x3800 + n) * 256 + 0x8
/-- VD_FALLBACK. -/
abbrev VD_FALLBACK (n : Nat) : Nat := (0x3800 + n) * 256 + 0x9
/-- VD_FALLBACK_I. -/
abbrev VD_FALLBACK_I (n : Nat) : Nat := (0x3800 + n) * 256 + 0xa
/-- VD_RETRIGGER. -/
abbrev VD_RETRIGGER (n : Nat) : Nat := (0x3800 + n) * 256 + 0xb
/-- VD_I_PEAK. -/
abbrev VD_I_PEAK (n : Nat) : Nat := (0x3800 + n) * 256 + 0x10
/-- VD_BOOST_TIME. -/
abbrev VD_BOOST_TIME (n : Nat) : Nat := (0x3800 + n) * 256 + 0x11
/-- VD_PEAK_TIME. -/
abbrev VD_PEAK_TIME (n : Nat) : Nat := (0x3800 + n) * 256 + 0x12
/-- VD_TRANS_DECAY. -/
abbrev VD_TRANS_DECAY (n : Nat) : Nat := (0x3800 + n) * 256 + 0x13
/-- VD_I_HOLD. -/
abbrev VD_I_HOLD (n : Nat) : Nat := (0x3800 + n) * 256 + 0x14
/-- VD_I_HOLD_MIN. -/
abbrev VD_I_HOLD_MIN (n : Nat) : Nat := (0x3800 + n) * 256 + 0x15
/-- VD_OFF_DECAY. -/
abbrev VD_OFF_DECAY (n : Nat) : Nat := (0x3800 + n) * 256 + 0x16
/-- VD_I_MAX. -/
abbrev VD_I_MAX (n : Nat) : Nat := (0x3800 + n) * 256 + 0x17
/-- VD_DITHER_F. -/
abbrev VD_DITHER_F (n : Nat) : Nat := (0x3800 + n) * 256 + 0x18
/-- VD_DITHER_A. -/
abbrev VD_DITHER_A (n : Nat) : Nat := (0x3800 + n) * 256 + 0x19
/-- VD_MIN_OFF. -/
abbrev VD_MIN_OFF (n : Nat) : Nat := (0x3800 + n) * 256 + 0x1a
/-- VD_R20. -/
abbrev VD_R20 (n : Nat) : Nat := (0x3800 + n) * 256 + 0x20
/-- VD_C_W. -/
abbrev VD_C_W (n : Nat) : Nat := (0x3800 + n) * 256 + 0x21
/-- VD_C_B. -/
abbrev VD_C_B (n : Nat) : Nat := (0x3800 + n) * 256 + 0x22
/-- VD_R_WB. -/
abbrev VD_R_WB (n : Nat) : Nat := (0x3800 + n) * 256 + 0x23
/-- VD_R_BA. -/
abbrev VD_R_BA (n : Nat) : Nat := (0x3800 + n) * 256 + 0x24
/-- VD_AMB_SRC. -/
abbrev VD_AMB_SRC (n : Nat) : Nat := (0x3800 + n) * 256 + 0x25
/-- VD_AMB_DEF. -/
abbrev VD_AMB_DEF (n : Nat) : Nat := (0x3800 + n) * 256 + 0x26
/-- VD_T_DERATE. -/
abbrev VD_T_DERATE (n : Nat) : Nat := (0x3800 + n) * 256 + 0x27
/-- VD_T_TRIP. -/
abbrev VD_T_TRIP (n : Nat) : Nat := (0x3800 + n) * 256 + 0x28
/-- VD_FUSE_GAIN. -/
abbrev VD_FUSE_GAIN (n : Nat) : Nat := (0x3800 + n) * 256 + 0x29
/-- VD_REARM. -/
abbrev VD_REARM (n : Nat) : Nat := (0x3800 + n) * 256 + 0x2a
/-- VD_START_RISE. -/
abbrev VD_START_RISE (n : Nat) : Nat := (0x3800 + n) * 256 + 0x2b
/-- VD_CURRENT. -/
abbrev VD_CURRENT (n : Nat) : Nat := (0x3800 + n) * 256 + 0x30
/-- VD_STATE. -/
abbrev VD_STATE (n : Nat) : Nat := (0x3800 + n) * 256 + 0x31
/-- VD_STATUS. -/
abbrev VD_STATUS (n : Nat) : Nat := (0x3800 + n) * 256 + 0x32
/-- VD_STAMP. -/
abbrev VD_STAMP (n : Nat) : Nat := (0x3800 + n) * 256 + 0x33
/-- VD_R_NOW. -/
abbrev VD_R_NOW (n : Nat) : Nat := (0x3800 + n) * 256 + 0x34
/-- VD_T_WIND. -/
abbrev VD_T_WIND (n : Nat) : Nat := (0x3800 + n) * 256 + 0x35
/-- VD_T_BODY. -/
abbrev VD_T_BODY (n : Nat) : Nat := (0x3800 + n) * 256 + 0x36
/-- VD_EVENTS. -/
abbrev VD_EVENTS (n : Nat) : Nat := (0x3800 + n) * 256 + 0x37
/-- VD_RETRIGS. -/
abbrev VD_RETRIGS (n : Nat) : Nat := (0x3800 + n) * 256 + 0x38
/-- VD_HELD. -/
abbrev VD_HELD (n : Nat) : Nat := (0x3800 + n) * 256 + 0x39
/-- VD_FAULT. -/
abbrev VD_FAULT (n : Nat) : Nat := (0x3800 + n) * 256 + 0x3a
/-- VD_BOOST_US. -/
abbrev VD_BOOST_US (n : Nat) : Nat := (0x3800 + n) * 256 + 0x3b
/-- VD_WAIT_US. -/
abbrev VD_WAIT_US (n : Nat) : Nat := (0x3800 + n) * 256 + 0x3c
/-- HG_STATE. -/
abbrev HG_STATE (g : Nat) : Nat := (0x3880 + g) * 256 + 0x1
/-- HG_BOOST_OWNER. -/
abbrev HG_BOOST_OWNER (g : Nat) : Nat := (0x3880 + g) * 256 + 0x2
/-- HG_WAITER. -/
abbrev HG_WAITER (g : Nat) : Nat := (0x3880 + g) * 256 + 0x3
/-- HG_DEFERRALS. -/
abbrev HG_DEFERRALS (g : Nat) : Nat := (0x3880 + g) * 256 + 0x4
/-- HG_SKIPS. -/
abbrev HG_SKIPS (g : Nat) : Nat := (0x3880 + g) * 256 + 0x5
/-- HG_MAX_WAIT. -/
abbrev HG_MAX_WAIT (g : Nat) : Nat := (0x3880 + g) * 256 + 0x6
/-- HG_LONGEST_BOOST. -/
abbrev HG_LONGEST_BOOST (g : Nat) : Nat := (0x3880 + g) * 256 + 0x7
/-- HG_CURRENT. -/
abbrev HG_CURRENT (g : Nat) : Nat := (0x3880 + g) * 256 + 0x8
/-- HG_FAULT. -/
abbrev HG_FAULT (g : Nat) : Nat := (0x3880 + g) * 256 + 0x9
/-- HG_REARM. -/
abbrev HG_REARM (g : Nat) : Nat := (0x3880 + g) * 256 + 0xa
/-- BST_STATE. -/
abbrev BST_STATE (g : Nat) : Nat := (0x3880 + g) * 256 + 0x20
/-- BST_V_RAIL. -/
abbrev BST_V_RAIL (g : Nat) : Nat := (0x3880 + g) * 256 + 0x21
/-- BST_V_FEED. -/
abbrev BST_V_FEED (g : Nat) : Nat := (0x3880 + g) * 256 + 0x22
/-- BST_LOW_STARTS. -/
abbrev BST_LOW_STARTS (g : Nat) : Nat := (0x3880 + g) * 256 + 0x23
/-- BST_SAG_DV. -/
abbrev BST_SAG_DV (g : Nat) : Nat := (0x3880 + g) * 256 + 0x24
/-- LS_ENABLE. -/
abbrev LS_ENABLE (n : Nat) : Nat := (0x4010 + n) * 256 + 0x1
/-- LS_F_LOW. -/
abbrev LS_F_LOW (n : Nat) : Nat := (0x4010 + n) * 256 + 0x2
/-- LS_F_HIGH. -/
abbrev LS_F_HIGH (n : Nat) : Nat := (0x4010 + n) * 256 + 0x3
/-- LS_GAIN. -/
abbrev LS_GAIN (n : Nat) : Nat := (0x4010 + n) * 256 + 0x4
/-- LS_DECAY. -/
abbrev LS_DECAY (n : Nat) : Nat := (0x4010 + n) * 256 + 0x5
/-- LS_THRESH. -/
abbrev LS_THRESH (n : Nat) : Nat := (0x4010 + n) * 256 + 0x6
/-- LS_RELEASE. -/
abbrev LS_RELEASE (n : Nat) : Nat := (0x4010 + n) * 256 + 0x7
/-- LS_DEADTIME. -/
abbrev LS_DEADTIME (n : Nat) : Nat := (0x4010 + n) * 256 + 0x8
/-- LS_MAX_LEN. -/
abbrev LS_MAX_LEN (n : Nat) : Nat := (0x4010 + n) * 256 + 0x9
/-- LS_HIST_BASE. -/
abbrev LS_HIST_BASE (n : Nat) : Nat := (0x4010 + n) * 256 + 0xa
/-- LS_EXCITE. -/
abbrev LS_EXCITE (n : Nat) : Nat := (0x4010 + n) * 256 + 0xb
/-- LS_COUNT. -/
abbrev LS_COUNT (n : Nat) : Nat := (0x4010 + n) * 256 + 0x10
/-- LS_ENERGY. -/
abbrev LS_ENERGY (n : Nat) : Nat := (0x4010 + n) * 256 + 0x11
/-- LS_PEAK. -/
abbrev LS_PEAK (n : Nat) : Nat := (0x4010 + n) * 256 + 0x12
/-- LS_HIST. -/
abbrev LS_HIST (n : Nat) : Nat := (0x4010 + n) * 256 + 0x13
/-- LS_STATUS. -/
abbrev LS_STATUS (n : Nat) : Nat := (0x4010 + n) * 256 + 0x14
/-- LS_STAMP. -/
abbrev LS_STAMP (n : Nat) : Nat := (0x4010 + n) * 256 + 0x15
/-- LS_TOTAL. -/
abbrev LS_TOTAL (n : Nat) : Nat := (0x4010 + n) * 256 + 0x16
/-- LS_DISCARDED. -/
abbrev LS_DISCARDED (n : Nat) : Nat := (0x4010 + n) * 256 + 0x17
/-- LS_FORCED. -/
abbrev LS_FORCED (n : Nat) : Nat := (0x4010 + n) * 256 + 0x18
/-- LS_DC_V. -/
abbrev LS_DC_V (n : Nat) : Nat := (0x4010 + n) * 256 + 0x19
/-- UI_MODE. -/
abbrev UI_MODE (n : Nat) : Nat := (0x4040 + n) * 256 + 0x1
/-- UI_FILTER. -/
abbrev UI_FILTER (n : Nat) : Nat := (0x4040 + n) * 256 + 0x2
/-- UI_SCALE. -/
abbrev UI_SCALE (n : Nat) : Nat := (0x4040 + n) * 256 + 0x3
/-- UI_OFFSET. -/
abbrev UI_OFFSET (n : Nat) : Nat := (0x4040 + n) * 256 + 0x4
/-- UI_VALID_MIN. -/
abbrev UI_VALID_MIN (n : Nat) : Nat := (0x4040 + n) * 256 + 0x5
/-- UI_VALID_MAX. -/
abbrev UI_VALID_MAX (n : Nat) : Nat := (0x4040 + n) * 256 + 0x6
/-- UI_SUPPLY. -/
abbrev UI_SUPPLY (n : Nat) : Nat := (0x4040 + n) * 256 + 0x7
/-- UI_RATIO. -/
abbrev UI_RATIO (n : Nat) : Nat := (0x4040 + n) * 256 + 0x8
/-- UI_PULL. -/
abbrev UI_PULL (n : Nat) : Nat := (0x4040 + n) * 256 + 0x9
/-- UI_THRESH. -/
abbrev UI_THRESH (n : Nat) : Nat := (0x4040 + n) * 256 + 0xa
/-- UI_DEBOUNCE. -/
abbrev UI_DEBOUNCE (n : Nat) : Nat := (0x4040 + n) * 256 + 0xb
/-- UI_GATE. -/
abbrev UI_GATE (n : Nat) : Nat := (0x4040 + n) * 256 + 0xc
/-- UI_ZERO_TIME. -/
abbrev UI_ZERO_TIME (n : Nat) : Nat := (0x4040 + n) * 256 + 0xd
/-- UI_COUNT_SET. -/
abbrev UI_COUNT_SET (n : Nat) : Nat := (0x4040 + n) * 256 + 0xe
/-- UI_VALUE. -/
abbrev UI_VALUE (n : Nat) : Nat := (0x4040 + n) * 256 + 0x10
/-- UI_ENG. -/
abbrev UI_ENG (n : Nat) : Nat := (0x4040 + n) * 256 + 0x11
/-- UI_COUNT. -/
abbrev UI_COUNT (n : Nat) : Nat := (0x4040 + n) * 256 + 0x12
/-- UI_STATUS. -/
abbrev UI_STATUS (n : Nat) : Nat := (0x4040 + n) * 256 + 0x13
/-- UI_STAMP. -/
abbrev UI_STAMP (n : Nat) : Nat := (0x4040 + n) * 256 + 0x14
/-- UI_BAD_TICKS. -/
abbrev UI_BAD_TICKS (n : Nat) : Nat := (0x4040 + n) * 256 + 0x15
/-- SS_ENABLE. -/
abbrev SS_ENABLE (n : Nat) : Nat := (0x4080 + n) * 256 + 0x1
/-- SS_VOLTAGE. -/
abbrev SS_VOLTAGE (n : Nat) : Nat := (0x4080 + n) * 256 + 0x2
/-- SS_RETRY. -/
abbrev SS_RETRY (n : Nat) : Nat := (0x4080 + n) * 256 + 0x3
/-- SS_RETRIES. -/
abbrev SS_RETRIES (n : Nat) : Nat := (0x4080 + n) * 256 + 0x4
/-- SS_REARM. -/
abbrev SS_REARM (n : Nat) : Nat := (0x4080 + n) * 256 + 0x5
/-- SS_STATE. -/
abbrev SS_STATE (n : Nat) : Nat := (0x4080 + n) * 256 + 0x6
/-- SS_V_NOW. -/
abbrev SS_V_NOW (n : Nat) : Nat := (0x4080 + n) * 256 + 0x7
/-- SS_I_NOW. -/
abbrev SS_I_NOW (n : Nat) : Nat := (0x4080 + n) * 256 + 0x8
/-- SS_TRIPS. -/
abbrev SS_TRIPS (n : Nat) : Nat := (0x4080 + n) * 256 + 0x9
/-- SS_LEFT. -/
abbrev SS_LEFT (n : Nat) : Nat := (0x4080 + n) * 256 + 0xa
/-- XV_ENABLE. -/
abbrev XV_ENABLE (n : Nat) : Nat := (0x40C0 + n) * 256 + 0x1
/-- XV_MAX_AGE. -/
abbrev XV_MAX_AGE (n : Nat) : Nat := (0x40C0 + n) * 256 + 0x2
/-- XV_APP_OFFSET. -/
abbrev XV_APP_OFFSET (n : Nat) : Nat := (0x40C0 + n) * 256 + 0x3
/-- XV_VALUE. -/
abbrev XV_VALUE (n : Nat) : Nat := (0x40C0 + n) * 256 + 0x10
/-- XV_STAMP. -/
abbrev XV_STAMP (n : Nat) : Nat := (0x40C0 + n) * 256 + 0x11
/-- XV_STALE. -/
abbrev XV_STALE (n : Nat) : Nat := (0x40C0 + n) * 256 + 0x12
/-- CRB_ENABLE. -/
abbrev CRB_ENABLE : Nat := 0x4800 * 256 + 0x1
/-- CRB_MODEL_MODE. -/
abbrev CRB_MODEL_MODE : Nat := 0x4800 * 256 + 0x2
/-- CRB_MODEL_MODE_STATE. -/
abbrev CRB_MODEL_MODE_STATE : Nat := 0x4800 * 256 + 0x3
/-- CRB_MODEL_MODE_MISSES. -/
abbrev CRB_MODEL_MODE_MISSES : Nat := 0x4800 * 256 + 0x4
/-- CRB_PERIOD. -/
abbrev CRB_PERIOD : Nat := 0x4800 * 256 + 0x5
/-- CRB_PHASE. -/
abbrev CRB_PHASE : Nat := 0x4800 * 256 + 0x6
/-- CRB_STATE. -/
abbrev CRB_STATE : Nat := 0x4800 * 256 + 0x7
/-- CRB_GRAPH_ERR. -/
abbrev CRB_GRAPH_ERR : Nat := 0x4800 * 256 + 0x8
/-- CRB_LIVE. -/
abbrev CRB_LIVE : Nat := 0x4800 * 256 + 0x9
/-- CRB_LIVE_PEAK. -/
abbrev CRB_LIVE_PEAK : Nat := 0x4800 * 256 + 0xa
/-- CRB_REDUCED. -/
abbrev CRB_REDUCED : Nat := 0x4800 * 256 + 0xb
/-- CRB_MERGES. -/
abbrev CRB_MERGES : Nat := 0x4800 * 256 + 0xc
/-- CRB_NEXT. -/
abbrev CRB_NEXT : Nat := 0x4800 * 256 + 0xd
/-- CRB_INTAKE_SRC. -/
abbrev CRB_INTAKE_SRC : Nat := 0x4800 * 256 + 0xe
/-- CRB_WORK_SRC. -/
abbrev CRB_WORK_SRC : Nat := 0x4800 * 256 + 0xf
/-- CRB_CUT_WIDTH. -/
abbrev CRB_CUT_WIDTH : Nat := 0x4800 * 256 + 0x10
/-- CRB_WIDTH_SRC. -/
abbrev CRB_WIDTH_SRC : Nat := 0x4800 * 256 + 0x11
/-- CRB_BAR_FWD. -/
abbrev CRB_BAR_FWD : Nat := 0x4800 * 256 + 0x12
/-- CRB_BAR_RIGHT. -/
abbrev CRB_BAR_RIGHT : Nat := 0x4800 * 256 + 0x13
/-- CRB_GROUND_SRC. -/
abbrev CRB_GROUND_SRC : Nat := 0x4800 * 256 + 0x14
/-- CRB_POS_MAX_AGE. -/
abbrev CRB_POS_MAX_AGE : Nat := 0x4800 * 256 + 0x15
/-- CRB_GRAIN_RATIO. -/
abbrev CRB_GRAIN_RATIO : Nat := 0x4800 * 256 + 0x16
/-- CRB_RATIO_TAU. -/
abbrev CRB_RATIO_TAU : Nat := 0x4800 * 256 + 0x17
/-- CRB_RATIO_NOW. -/
abbrev CRB_RATIO_NOW : Nat := 0x4800 * 256 + 0x18
/-- CRB_MIN_PIECE. -/
abbrev CRB_MIN_PIECE : Nat := 0x4800 * 256 + 0x19
/-- CRB_RESIDENCE_MAX. -/
abbrev CRB_RESIDENCE_MAX : Nat := 0x4800 * 256 + 0x1a
/-- CRB_ATTR_DELAY. -/
abbrev CRB_ATTR_DELAY : Nat := 0x4800 * 256 + 0x1b
/-- CRB_TRACE_G. -/
abbrev CRB_TRACE_G : Nat := 0x4800 * 256 + 0x1c
/-- CRB_UNATTR_G. -/
abbrev CRB_UNATTR_G : Nat := 0x4800 * 256 + 0x1d
/-- CRB_RESTORE. -/
abbrev CRB_RESTORE : Nat := 0x4800 * 256 + 0x1e
/-- CRB_CKPT_MAX_AGE. -/
abbrev CRB_CKPT_MAX_AGE : Nat := 0x4800 * 256 + 0x1f
/-- CRB_CLEAR. -/
abbrev CRB_CLEAR : Nat := 0x4800 * 256 + 0x20
/-- CRB_TABLE. -/
abbrev CRB_TABLE : Nat := 0x4800 * 256 + 0x21
/-- CRB_ASSIST_OFFSET. -/
abbrev CRB_ASSIST_OFFSET : Nat := 0x4800 * 256 + 0x22
/-- STG_KIND. -/
abbrev STG_KIND (s : Nat) : Nat := (0x4810 + s) * 256 + 0x1
/-- STG_NEXT. -/
abbrev STG_NEXT (s : Nat) : Nat := (0x4810 + s) * 256 + 0x2
/-- STG_G0. -/
abbrev STG_G0 (s : Nat) : Nat := (0x4810 + s) * 256 + 0x3
/-- STG_G1. -/
abbrev STG_G1 (s : Nat) : Nat := (0x4810 + s) * 256 + 0x4
/-- STG_M0. -/
abbrev STG_M0 (s : Nat) : Nat := (0x4810 + s) * 256 + 0x5
/-- STG_M1. -/
abbrev STG_M1 (s : Nat) : Nat := (0x4810 + s) * 256 + 0x6
/-- STG_SPEED_SRC. -/
abbrev STG_SPEED_SRC (s : Nat) : Nat := (0x4810 + s) * 256 + 0x7
/-- STG_SPEED_DEF. -/
abbrev STG_SPEED_DEF (s : Nat) : Nat := (0x4810 + s) * 256 + 0x8
/-- STG_V_MIN. -/
abbrev STG_V_MIN (s : Nat) : Nat := (0x4810 + s) * 256 + 0x9
/-- STG_T0. -/
abbrev STG_T0 (s : Nat) : Nat := (0x4810 + s) * 256 + 0xa
/-- STG_K. -/
abbrev STG_K (s : Nat) : Nat := (0x4810 + s) * 256 + 0xb
/-- STG_DISP. -/
abbrev STG_DISP (s : Nat) : Nat := (0x4810 + s) * 256 + 0xc
/-- STG_SPEED_NOW. -/
abbrev STG_SPEED_NOW (s : Nat) : Nat := (0x4810 + s) * 256 + 0xd
/-- STG_TRANSIT. -/
abbrev STG_TRANSIT (s : Nat) : Nat := (0x4810 + s) * 256 + 0xe
/-- STG_LIVE. -/
abbrev STG_LIVE (s : Nat) : Nat := (0x4810 + s) * 256 + 0xf
/-- STG_GRAIN. -/
abbrev STG_GRAIN (s : Nat) : Nat := (0x4810 + s) * 256 + 0x10
/-- STG_MOG. -/
abbrev STG_MOG (s : Nat) : Nat := (0x4810 + s) * 256 + 0x11
/-- MP_KIND. -/
abbrev MP_KIND (m : Nat) : Nat := (0x4830 + m) * 256 + 0x1
/-- MP_STAGE. -/
abbrev MP_STAGE (m : Nat) : Nat := (0x4830 + m) * 256 + 0x2
/-- MP_SRC. -/
abbrev MP_SRC (m : Nat) : Nat := (0x4830 + m) * 256 + 0x3
/-- MP_SCALE. -/
abbrev MP_SCALE (m : Nat) : Nat := (0x4830 + m) * 256 + 0x4
/-- MP_LAG. -/
abbrev MP_LAG (m : Nat) : Nat := (0x4830 + m) * 256 + 0x5
/-- MP_BASIS. -/
abbrev MP_BASIS (m : Nat) : Nat := (0x4830 + m) * 256 + 0x6
/-- MP_TOTAL. -/
abbrev MP_TOTAL (m : Nat) : Nat := (0x4830 + m) * 256 + 0x7
/-- MP_UNATTR. -/
abbrev MP_UNATTR (m : Nat) : Nat := (0x4830 + m) * 256 + 0x8
/-- MP_GAP_TICKS. -/
abbrev MP_GAP_TICKS (m : Nat) : Nat := (0x4830 + m) * 256 + 0x9
/-- FC_BINS. -/
abbrev FC_BINS : Nat := 0x4840 * 256 + 0x1
/-- FC_BIN_LEN. -/
abbrev FC_BIN_LEN : Nat := 0x4840 * 256 + 0x2
/-- FC_STAGES. -/
abbrev FC_STAGES : Nat := 0x4840 * 256 + 0x3
/-- FC_STAMP. -/
abbrev FC_STAMP (s : Nat) : Nat := (0x4850 + s) * 256 + 0x1
/-- FC_VALID. -/
abbrev FC_VALID (s : Nat) : Nat := (0x4850 + s) * 256 + 0x2
/-- FC_TOTAL. -/
abbrev FC_TOTAL (s : Nat) (i : Nat) : Nat := (0x4850 + s) * 256 + (0x10 + i)
/-- FC_GRAIN. -/
abbrev FC_GRAIN (s : Nat) (i : Nat) : Nat := (0x4850 + s) * 256 + (0x20 + i)
/-- YS_OLDEST. -/
abbrev YS_OLDEST : Nat := 0x4870 * 256 + 0x1
/-- YS_NEWEST. -/
abbrev YS_NEWEST : Nat := 0x4870 * 256 + 0x2
/-- YS_MARK. -/
abbrev YS_MARK : Nat := 0x4870 * 256 + 0x3
/-- YS_SET_MARK. -/
abbrev YS_SET_MARK : Nat := 0x4870 * 256 + 0x4
/-- YS_POLICY. -/
abbrev YS_POLICY : Nat := 0x4870 * 256 + 0x5
/-- YS_SEL. -/
abbrev YS_SEL : Nat := 0x4870 * 256 + 0x6
/-- YS_PAGE. -/
abbrev YS_PAGE : Nat := 0x4870 * 256 + 0x7
/-- YS_LOST. -/
abbrev YS_LOST : Nat := 0x4870 * 256 + 0x8
/-- YS_OPEN. -/
abbrev YS_OPEN : Nat := 0x4870 * 256 + 0x9
/-- YS_SEAL. -/
abbrev YS_SEAL : Nat := 0x4870 * 256 + 0xa
/-- FL_ENGINE. -/
abbrev FL_ENGINE (n : Nat) : Nat := (0x5000 + n) * 256 + 0x1
/-- FL_MODE. -/
abbrev FL_MODE (n : Nat) : Nat := (0x5000 + n) * 256 + 0x2
/-- FL_MODE_STATE. -/
abbrev FL_MODE_STATE (n : Nat) : Nat := (0x5000 + n) * 256 + 0x3
/-- FL_MODE_MISSES. -/
abbrev FL_MODE_MISSES (n : Nat) : Nat := (0x5000 + n) * 256 + 0x4
/-- FL_CLASS. -/
abbrev FL_CLASS (n : Nat) : Nat := (0x5000 + n) * 256 + 0x5
/-- FL_PHASE. -/
abbrev FL_PHASE (n : Nat) : Nat := (0x5000 + n) * 256 + 0x6
/-- FL_PV_SRC. -/
abbrev FL_PV_SRC (n : Nat) : Nat := (0x5000 + n) * 256 + 0x7
/-- FL_PV_SCALE. -/
abbrev FL_PV_SCALE (n : Nat) : Nat := (0x5000 + n) * 256 + 0x8
/-- FL_PV_OFFSET. -/
abbrev FL_PV_OFFSET (n : Nat) : Nat := (0x5000 + n) * 256 + 0x9
/-- FL_PV_MAX_AGE. -/
abbrev FL_PV_MAX_AGE (n : Nat) : Nat := (0x5000 + n) * 256 + 0xa
/-- FL_PV_TIMEOUT. -/
abbrev FL_PV_TIMEOUT (n : Nat) : Nat := (0x5000 + n) * 256 + 0xb
/-- FL_SP_MIN. -/
abbrev FL_SP_MIN (n : Nat) : Nat := (0x5000 + n) * 256 + 0xc
/-- FL_SP_MAX. -/
abbrev FL_SP_MAX (n : Nat) : Nat := (0x5000 + n) * 256 + 0xd
/-- FL_SP_RATE. -/
abbrev FL_SP_RATE (n : Nat) : Nat := (0x5000 + n) * 256 + 0xe
/-- FL_RUN_US. -/
abbrev FL_RUN_US (n : Nat) : Nat := (0x5000 + n) * 256 + 0xf
/-- FL_ENABLE. -/
abbrev FL_ENABLE (n : Nat) : Nat := (0x5000 + n) * 256 + 0x10
/-- FL_HOLD. -/
abbrev FL_HOLD (n : Nat) : Nat := (0x5000 + n) * 256 + 0x11
/-- FL_HOLD_SRC. -/
abbrev FL_HOLD_SRC (n : Nat) : Nat := (0x5000 + n) * 256 + 0x12
/-- FL_SP_SEL. -/
abbrev FL_SP_SEL (n : Nat) : Nat := (0x5000 + n) * 256 + 0x13
/-- FL_SP_SRC. -/
abbrev FL_SP_SRC (n : Nat) : Nat := (0x5000 + n) * 256 + 0x14
/-- FL_SP. -/
abbrev FL_SP (n : Nat) : Nat := (0x5000 + n) * 256 + 0x15
/-- FL_OUT. -/
abbrev FL_OUT (n : Nat) : Nat := (0x5000 + n) * 256 + 0x16
/-- FL_OUT_STAMP. -/
abbrev FL_OUT_STAMP (n : Nat) : Nat := (0x5000 + n) * 256 + 0x17
/-- FL_SP_NOW. -/
abbrev FL_SP_NOW (n : Nat) : Nat := (0x5000 + n) * 256 + 0x18
/-- FL_PV_NOW. -/
abbrev FL_PV_NOW (n : Nat) : Nat := (0x5000 + n) * 256 + 0x19
/-- FL_STATE. -/
abbrev FL_STATE (n : Nat) : Nat := (0x5000 + n) * 256 + 0x1a
/-- FL_FAULT. -/
abbrev FL_FAULT (n : Nat) : Nat := (0x5000 + n) * 256 + 0x1b
/-- FL_CFG_ERR. -/
abbrev FL_CFG_ERR (n : Nat) : Nat := (0x5000 + n) * 256 + 0x1c
/-- FL_RESET. -/
abbrev FL_RESET (n : Nat) : Nat := (0x5000 + n) * 256 + 0x1d
/-- FL_PARENT. -/
abbrev FL_PARENT (n : Nat) : Nat := (0x5000 + n) * 256 + 0x1e
/-- FL_KP. -/
abbrev FL_KP (n : Nat) : Nat := (0x5000 + n) * 256 + 0x20
/-- FL_KI. -/
abbrev FL_KI (n : Nat) : Nat := (0x5000 + n) * 256 + 0x21
/-- FL_KD. -/
abbrev FL_KD (n : Nat) : Nat := (0x5000 + n) * 256 + 0x22
/-- FL_TF. -/
abbrev FL_TF (n : Nat) : Nat := (0x5000 + n) * 256 + 0x23
/-- FL_B. -/
abbrev FL_B (n : Nat) : Nat := (0x5000 + n) * 256 + 0x24
/-- FL_C. -/
abbrev FL_C (n : Nat) : Nat := (0x5000 + n) * 256 + 0x25
/-- FL_BIAS. -/
abbrev FL_BIAS (n : Nat) : Nat := (0x5000 + n) * 256 + 0x26
/-- FL_I_MIN. -/
abbrev FL_I_MIN (n : Nat) : Nat := (0x5000 + n) * 256 + 0x27
/-- FL_I_MAX. -/
abbrev FL_I_MAX (n : Nat) : Nat := (0x5000 + n) * 256 + 0x28
/-- FL_OUT_MIN. -/
abbrev FL_OUT_MIN (n : Nat) : Nat := (0x5000 + n) * 256 + 0x29
/-- FL_OUT_MAX. -/
abbrev FL_OUT_MAX (n : Nat) : Nat := (0x5000 + n) * 256 + 0x2a
/-- FL_OUT_RATE. -/
abbrev FL_OUT_RATE (n : Nat) : Nat := (0x5000 + n) * 256 + 0x2b
/-- FL_OUT_DST. -/
abbrev FL_OUT_DST (n : Nat) : Nat := (0x5000 + n) * 256 + 0x2c
/-- FL_INIT_OUT. -/
abbrev FL_INIT_OUT (n : Nat) : Nat := (0x5000 + n) * 256 + 0x2d
/-- FL_N1_F0. -/
abbrev FL_N1_F0 (n : Nat) : Nat := (0x5000 + n) * 256 + 0x2e
/-- FL_N1_Q. -/
abbrev FL_N1_Q (n : Nat) : Nat := (0x5000 + n) * 256 + 0x2f
/-- FL_N1_DEPTH. -/
abbrev FL_N1_DEPTH (n : Nat) : Nat := (0x5000 + n) * 256 + 0x30
/-- FL_N2_F0. -/
abbrev FL_N2_F0 (n : Nat) : Nat := (0x5000 + n) * 256 + 0x31
/-- FL_N2_Q. -/
abbrev FL_N2_Q (n : Nat) : Nat := (0x5000 + n) * 256 + 0x32
/-- FL_N2_DEPTH. -/
abbrev FL_N2_DEPTH (n : Nat) : Nat := (0x5000 + n) * 256 + 0x33
/-- FL_FF1_STAGE. -/
abbrev FL_FF1_STAGE (n : Nat) : Nat := (0x5000 + n) * 256 + 0x34
/-- FL_FF1_QTY. -/
abbrev FL_FF1_QTY (n : Nat) : Nat := (0x5000 + n) * 256 + 0x35
/-- FL_FF1_LEAD. -/
abbrev FL_FF1_LEAD (n : Nat) : Nat := (0x5000 + n) * 256 + 0x36
/-- FL_FF1_GAIN. -/
abbrev FL_FF1_GAIN (n : Nat) : Nat := (0x5000 + n) * 256 + 0x37
/-- FL_FF1_OFFSET. -/
abbrev FL_FF1_OFFSET (n : Nat) : Nat := (0x5000 + n) * 256 + 0x38
/-- FL_FF2_SRC. -/
abbrev FL_FF2_SRC (n : Nat) : Nat := (0x5000 + n) * 256 + 0x39
/-- FL_FF2_GAIN. -/
abbrev FL_FF2_GAIN (n : Nat) : Nat := (0x5000 + n) * 256 + 0x3a
/-- FL_FF2_OFFSET. -/
abbrev FL_FF2_OFFSET (n : Nat) : Nat := (0x5000 + n) * 256 + 0x3b
/-- FL_FF_TIMEOUT. -/
abbrev FL_FF_TIMEOUT (n : Nat) : Nat := (0x5000 + n) * 256 + 0x3c
/-- FL_I_NOW. -/
abbrev FL_I_NOW (n : Nat) : Nat := (0x5000 + n) * 256 + 0x3d
/-- FL_FF_NOW. -/
abbrev FL_FF_NOW (n : Nat) : Nat := (0x5000 + n) * 256 + 0x3e
/-- FL_FLAGS. -/
abbrev FL_FLAGS (n : Nat) : Nat := (0x5000 + n) * 256 + 0x3f
/-- FL_ASSIST_OFFSET. -/
abbrev FL_ASSIST_OFFSET (n : Nat) : Nat := (0x5000 + n) * 256 + 0x40
/-- FL_SP_APP_OFFSET. -/
abbrev FL_SP_APP_OFFSET (n : Nat) : Nat := (0x5000 + n) * 256 + 0x41
/-- SUP_MODE. -/
abbrev SUP_MODE : Nat := 0x5100 * 256 + 0x1
/-- SUP_MODE_STATE. -/
abbrev SUP_MODE_STATE : Nat := 0x5100 * 256 + 0x2
/-- SUP_MODE_MISSES. -/
abbrev SUP_MODE_MISSES : Nat := 0x5100 * 256 + 0x3
/-- SUP_ENABLE. -/
abbrev SUP_ENABLE : Nat := 0x5100 * 256 + 0x4
/-- SUP_PHASE. -/
abbrev SUP_PHASE : Nat := 0x5100 * 256 + 0x5
/-- SUP_STATE. -/
abbrev SUP_STATE : Nat := 0x5100 * 256 + 0x6
/-- SUP_SETTLE. -/
abbrev SUP_SETTLE : Nat := 0x5100 * 256 + 0x7
/-- SUP_WINDOW. -/
abbrev SUP_WINDOW : Nat := 0x5100 * 256 + 0x8
/-- SUP_WINDOW_MAX. -/
abbrev SUP_WINDOW_MAX : Nat := 0x5100 * 256 + 0x9
/-- SUP_MIN_GAIN. -/
abbrev SUP_MIN_GAIN : Nat := 0x5100 * 256 + 0xa
/-- SUP_FLOW_MIN. -/
abbrev SUP_FLOW_MIN : Nat := 0x5100 * 256 + 0xb
/-- SUP_FLOW_TOL. -/
abbrev SUP_FLOW_TOL : Nat := 0x5100 * 256 + 0xc
/-- SUP_RETRY. -/
abbrev SUP_RETRY : Nat := 0x5100 * 256 + 0xd
/-- SUP_LOCK. -/
abbrev SUP_LOCK : Nat := 0x5100 * 256 + 0xe
/-- SUP_TAIL_SRC. -/
abbrev SUP_TAIL_SRC : Nat := 0x5100 * 256 + 0xf
/-- SUP_TAIL_LAG. -/
abbrev SUP_TAIL_LAG : Nat := 0x5100 * 256 + 0x10
/-- SUP_J_BASE. -/
abbrev SUP_J_BASE : Nat := 0x5100 * 256 + 0x11
/-- SUP_J_TRIAL. -/
abbrev SUP_J_TRIAL : Nat := 0x5100 * 256 + 0x12
/-- SUP_DOMINANT. -/
abbrev SUP_DOMINANT : Nat := 0x5100 * 256 + 0x13
/-- SUP_MOVE. -/
abbrev SUP_MOVE : Nat := 0x5100 * 256 + 0x14
/-- SUP_TRIED. -/
abbrev SUP_TRIED : Nat := 0x5100 * 256 + 0x15
/-- SUP_ACCEPTS. -/
abbrev SUP_ACCEPTS : Nat := 0x5100 * 256 + 0x16
/-- SUP_REJECTS. -/
abbrev SUP_REJECTS : Nat := 0x5100 * 256 + 0x17
/-- SUP_VOIDS. -/
abbrev SUP_VOIDS : Nat := 0x5100 * 256 + 0x18
/-- SUP_WIN_CRUMBS. -/
abbrev SUP_WIN_CRUMBS : Nat := 0x5100 * 256 + 0x19
/-- SUP_ADOPT. -/
abbrev SUP_ADOPT : Nat := 0x5100 * 256 + 0x1a
/-- SUP_ASSIST_OFFSET. -/
abbrev SUP_ASSIST_OFFSET : Nat := 0x5100 * 256 + 0x1b
/-- SYM_WEIGHT. -/
abbrev SYM_WEIGHT (i : Nat) : Nat := (0x5110 + i) * 256 + 0x1
/-- SYM_LIMIT. -/
abbrev SYM_LIMIT (i : Nat) : Nat := (0x5110 + i) * 256 + 0x2
/-- SYM_BASE. -/
abbrev SYM_BASE (i : Nat) : Nat := (0x5110 + i) * 256 + 0x3
/-- SYM_TRIAL. -/
abbrev SYM_TRIAL (i : Nat) : Nat := (0x5110 + i) * 256 + 0x4
/-- TGT_BASE. -/
abbrev TGT_BASE (t : Nat) : Nat := (0x5120 + t) * 256 + 0x1
/-- TGT_MIN. -/
abbrev TGT_MIN (t : Nat) : Nat := (0x5120 + t) * 256 + 0x2
/-- TGT_MAX. -/
abbrev TGT_MAX (t : Nat) : Nat := (0x5120 + t) * 256 + 0x3
/-- TGT_STEP. -/
abbrev TGT_STEP (t : Nat) : Nat := (0x5120 + t) * 256 + 0x4
/-- TGT_NOW. -/
abbrev TGT_NOW (t : Nat) : Nat := (0x5120 + t) * 256 + 0x5
/-- PATH_ENABLE. -/
abbrev PATH_ENABLE : Nat := 0x5140 * 256 + 0x1
/-- PATH_ENGAGE_SRC. -/
abbrev PATH_ENGAGE_SRC : Nat := 0x5140 * 256 + 0x2
/-- PATH_OVERRIDE_SRC. -/
abbrev PATH_OVERRIDE_SRC : Nat := 0x5140 * 256 + 0x3
/-- PATH_WHEELBASE. -/
abbrev PATH_WHEELBASE : Nat := 0x5140 * 256 + 0x4
/-- PATH_AXLE. -/
abbrev PATH_AXLE : Nat := 0x5140 * 256 + 0x5
/-- PATH_LA_DIST. -/
abbrev PATH_LA_DIST : Nat := 0x5140 * 256 + 0x6
/-- PATH_LA_TIME. -/
abbrev PATH_LA_TIME : Nat := 0x5140 * 256 + 0x7
/-- PATH_K_Y. -/
abbrev PATH_K_Y : Nat := 0x5140 * 256 + 0x8
/-- PATH_K_PSI. -/
abbrev PATH_K_PSI : Nat := 0x5140 * 256 + 0x9
/-- PATH_KAPPA_MAX. -/
abbrev PATH_KAPPA_MAX : Nat := 0x5140 * 256 + 0xa
/-- PATH_MAX_AGE. -/
abbrev PATH_MAX_AGE : Nat := 0x5140 * 256 + 0xb
/-- PATH_Q_MIN. -/
abbrev PATH_Q_MIN : Nat := 0x5140 * 256 + 0xc
/-- PATH_ENGAGE_XTE. -/
abbrev PATH_ENGAGE_XTE : Nat := 0x5140 * 256 + 0xd
/-- PATH_ABORT_XTE. -/
abbrev PATH_ABORT_XTE : Nat := 0x5140 * 256 + 0xe
/-- PATH_ABORT_HE. -/
abbrev PATH_ABORT_HE : Nat := 0x5140 * 256 + 0xf
/-- PATH_STEER_SLOT. -/
abbrev PATH_STEER_SLOT : Nat := 0x5140 * 256 + 0x10
/-- PATH_APP_OFFSET. -/
abbrev PATH_APP_OFFSET : Nat := 0x5140 * 256 + 0x11
/-- PATH_STATE. -/
abbrev PATH_STATE : Nat := 0x5141 * 256 + 0x1
/-- PATH_CAUSE. -/
abbrev PATH_CAUSE : Nat := 0x5141 * 256 + 0x2
/-- PATH_ANGLE_DEM. -/
abbrev PATH_ANGLE_DEM : Nat := 0x5141 * 256 + 0x3
/-- PATH_XTE. -/
abbrev PATH_XTE : Nat := 0x5141 * 256 + 0x4
/-- PATH_HE. -/
abbrev PATH_HE : Nat := 0x5141 * 256 + 0x5
/-- PATH_KAPPA. -/
abbrev PATH_KAPPA : Nat := 0x5141 * 256 + 0x6
/-- PATH_SEGMENT. -/
abbrev PATH_SEGMENT : Nat := 0x5141 * 256 + 0x7
/-- PATH_ALONG. -/
abbrev PATH_ALONG : Nat := 0x5141 * 256 + 0x8
/-- PATH_NUMBER. -/
abbrev PATH_NUMBER : Nat := 0x5141 * 256 + 0x9
/-- PATH_STAMP. -/
abbrev PATH_STAMP : Nat := 0x5141 * 256 + 0xa
/-- PATH_RELEASES. -/
abbrev PATH_RELEASES : Nat := 0x5141 * 256 + 0xb
/-- TPL_NUMBER. -/
abbrev TPL_NUMBER : Nat := 0x5180 * 256 + 0x1
/-- TPL_ASSEMBLY. -/
abbrev TPL_ASSEMBLY : Nat := 0x5180 * 256 + 0x2
/-- TPL_SLOT_0. -/
abbrev TPL_SLOT_0 : Nat := 0x5180 * 256 + 0x3
/-- TPL_SLOT_1. -/
abbrev TPL_SLOT_1 : Nat := 0x5180 * 256 + 0x4
/-- TPL_PV_0. -/
abbrev TPL_PV_0 : Nat := 0x5180 * 256 + 0x5
/-- TPL_PV_1. -/
abbrev TPL_PV_1 : Nat := 0x5180 * 256 + 0x6
/-- TPL_DST. -/
abbrev TPL_DST : Nat := 0x5180 * 256 + 0x7
/-- TPL_SP_SRC. -/
abbrev TPL_SP_SRC : Nat := 0x5180 * 256 + 0x8
/-- TPL_FF_STAGE. -/
abbrev TPL_FF_STAGE : Nat := 0x5180 * 256 + 0x9
/-- TPL_BUILD. -/
abbrev TPL_BUILD : Nat := 0x5180 * 256 + 0xa
/-- TPL_RESULT. -/
abbrev TPL_RESULT : Nat := 0x5180 * 256 + 0xb
/-- POS_MODE. -/
abbrev POS_MODE : Nat := 0x6000 * 256 + 0x1
/-- POS_MODE_STATE. -/
abbrev POS_MODE_STATE : Nat := 0x6000 * 256 + 0x2
/-- POS_MODE_MISSES. -/
abbrev POS_MODE_MISSES : Nat := 0x6000 * 256 + 0x3
/-- GNSS_ENABLE. -/
abbrev GNSS_ENABLE : Nat := 0x6000 * 256 + 0x4
/-- POS_RATE. -/
abbrev POS_RATE : Nat := 0x6000 * 256 + 0x5
/-- POS_ANT_FWD. -/
abbrev POS_ANT_FWD : Nat := 0x6000 * 256 + 0x6
/-- POS_ANT_RIGHT. -/
abbrev POS_ANT_RIGHT : Nat := 0x6000 * 256 + 0x7
/-- POS_ANT_UP. -/
abbrev POS_ANT_UP : Nat := 0x6000 * 256 + 0x8
/-- POS_BASE_LEN. -/
abbrev POS_BASE_LEN : Nat := 0x6000 * 256 + 0x9
/-- POS_BASE_AZ. -/
abbrev POS_BASE_AZ : Nat := 0x6000 * 256 + 0xa
/-- POS_COG_MIN. -/
abbrev POS_COG_MIN : Nat := 0x6000 * 256 + 0xb
/-- POS_REVERSE_SRC. -/
abbrev POS_REVERSE_SRC : Nat := 0x6000 * 256 + 0xc
/-- POS_HDG_HOLD. -/
abbrev POS_HDG_HOLD : Nat := 0x6000 * 256 + 0xd
/-- POS_ELEV_MASK. -/
abbrev POS_ELEV_MASK : Nat := 0x6000 * 256 + 0xe
/-- POS_FIX_RATIO. -/
abbrev POS_FIX_RATIO : Nat := 0x6000 * 256 + 0xf
/-- POS_ASSIST_OFFSET. -/
abbrev POS_ASSIST_OFFSET : Nat := 0x6000 * 256 + 0x10
/-- ANT_SUPPLY. -/
abbrev ANT_SUPPLY (a : Nat) : Nat := (0x6010 + a) * 256 + 0x1
/-- ANT_STATE. -/
abbrev ANT_STATE (a : Nat) : Nat := (0x6010 + a) * 256 + 0x2
/-- ANT_I_NOW. -/
abbrev ANT_I_NOW (a : Nat) : Nat := (0x6010 + a) * 256 + 0x3
/-- ANT_AGC. -/
abbrev ANT_AGC (a : Nat) (i : Nat) : Nat := (0x6010 + a) * 256 + (0x4 + i)
/-- ANT_SHORTS. -/
abbrev ANT_SHORTS (a : Nat) : Nat := (0x6010 + a) * 256 + 0x7
/-- SIG_ENABLE_A. -/
abbrev SIG_ENABLE_A : Nat := 0x6020 * 256 + 0x1
/-- SIG_ENABLE_B. -/
abbrev SIG_ENABLE_B : Nat := 0x6020 * 256 + 0x2
/-- SIG_EXCL_A. -/
abbrev SIG_EXCL_A : Nat := 0x6020 * 256 + 0x3
/-- SIG_EXCL_B. -/
abbrev SIG_EXCL_B : Nat := 0x6020 * 256 + 0x4
/-- SIG_CHANNELS. -/
abbrev SIG_CHANNELS : Nat := 0x6020 * 256 + 0x5
/-- SIG_UNSERVED. -/
abbrev SIG_UNSERVED : Nat := 0x6020 * 256 + 0x6
/-- ISO_OFFSET. -/
abbrev ISO_OFFSET (i : Nat) : Nat := 0x6030 * 256 + (0x1 + i)
/-- ISO_STD. -/
abbrev ISO_STD (i : Nat) : Nat := 0x6030 * 256 + (0x5 + i)
/-- ISO_SRC. -/
abbrev ISO_SRC (i : Nat) : Nat := 0x6030 * 256 + (0x9 + i)
/-- POS_EPOCH. -/
abbrev POS_EPOCH : Nat := 0x6040 * 256 + 0x1
/-- POS_STAMP. -/
abbrev POS_STAMP : Nat := 0x6040 * 256 + 0x2
/-- POS_QUALITY. -/
abbrev POS_QUALITY : Nat := 0x6040 * 256 + 0x3
/-- POS_LAT. -/
abbrev POS_LAT : Nat := 0x6040 * 256 + 0x4
/-- POS_LAT_FINE. -/
abbrev POS_LAT_FINE : Nat := 0x6040 * 256 + 0x5
/-- POS_LON. -/
abbrev POS_LON : Nat := 0x6040 * 256 + 0x6
/-- POS_LON_FINE. -/
abbrev POS_LON_FINE : Nat := 0x6040 * 256 + 0x7
/-- POS_HEIGHT. -/
abbrev POS_HEIGHT : Nat := 0x6040 * 256 + 0x8
/-- POS_V_EAST. -/
abbrev POS_V_EAST : Nat := 0x6040 * 256 + 0x9
/-- POS_V_NORTH. -/
abbrev POS_V_NORTH : Nat := 0x6040 * 256 + 0xa
/-- POS_V_UP. -/
abbrev POS_V_UP : Nat := 0x6040 * 256 + 0xb
/-- POS_SPEED. -/
abbrev POS_SPEED : Nat := 0x6040 * 256 + 0xc
/-- POS_HEADING. -/
abbrev POS_HEADING : Nat := 0x6040 * 256 + 0xd
/-- POS_HDG_SRC. -/
abbrev POS_HDG_SRC : Nat := 0x6040 * 256 + 0xe
/-- POS_BASE_TILT. -/
abbrev POS_BASE_TILT : Nat := 0x6040 * 256 + 0xf
/-- POS_H_STD. -/
abbrev POS_H_STD : Nat := 0x6040 * 256 + 0x10
/-- POS_HDG_STD. -/
abbrev POS_HDG_STD : Nat := 0x6040 * 256 + 0x11
/-- POS_SATS. -/
abbrev POS_SATS : Nat := 0x6040 * 256 + 0x12
/-- POS_CORR_AGE. -/
abbrev POS_CORR_AGE : Nat := 0x6040 * 256 + 0x13
/-- POS_FLAGS. -/
abbrev POS_FLAGS : Nat := 0x6040 * 256 + 0x14
/-- CORR_APP_OFFSET. -/
abbrev CORR_APP_OFFSET : Nat := 0x6070 * 256 + 0x1
/-- CORR_MAX_AGE. -/
abbrev CORR_MAX_AGE : Nat := 0x6070 * 256 + 0x2
/-- CORR_BAD. -/
abbrev CORR_BAD : Nat := 0x6070 * 256 + 0x3
/-- CORR_IGNORED. -/
abbrev CORR_IGNORED : Nat := 0x6070 * 256 + 0x4
/-- CORR_STATION. -/
abbrev CORR_STATION : Nat := 0x6070 * 256 + 0x5
/-- MB_ENABLE. -/
abbrev MB_ENABLE : Nat := 0x6070 * 256 + 0x10
/-- MB_SPOUT_FWD. -/
abbrev MB_SPOUT_FWD : Nat := 0x6070 * 256 + 0x11
/-- MB_SPOUT_RIGHT. -/
abbrev MB_SPOUT_RIGHT : Nat := 0x6070 * 256 + 0x12
/-- MB_SPOUT_AZ. -/
abbrev MB_SPOUT_AZ : Nat := 0x6070 * 256 + 0x13
/-- MB_MAX_AGE. -/
abbrev MB_MAX_AGE : Nat := 0x6070 * 256 + 0x14
/-- MB_Q_MIN. -/
abbrev MB_Q_MIN : Nat := 0x6070 * 256 + 0x15
/-- MB_ALONG. -/
abbrev MB_ALONG : Nat := 0x6070 * 256 + 0x16
/-- MB_LATERAL. -/
abbrev MB_LATERAL : Nat := 0x6070 * 256 + 0x17
/-- MB_QUALITY. -/
abbrev MB_QUALITY : Nat := 0x6070 * 256 + 0x18
/-- MB_AGE. -/
abbrev MB_AGE : Nat := 0x6070 * 256 + 0x19
/-- INT_STATE. -/
abbrev INT_STATE : Nat := 0x6080 * 256 + 0x1
/-- INT_CAUSES. -/
abbrev INT_CAUSES : Nat := 0x6080 * 256 + 0x2
/-- INT_CHECKS. -/
abbrev INT_CHECKS : Nat := 0x6080 * 256 + 0x3
/-- INT_AGC_DROP. -/
abbrev INT_AGC_DROP : Nat := 0x6080 * 256 + 0x4
/-- INT_CN0_MEAN. -/
abbrev INT_CN0_MEAN : Nat := 0x6080 * 256 + 0x5
/-- INT_CN0_SPREAD. -/
abbrev INT_CN0_SPREAD : Nat := 0x6080 * 256 + 0x6
/-- INT_CCD. -/
abbrev INT_CCD : Nat := 0x6080 * 256 + 0x7
/-- INT_IFC. -/
abbrev INT_IFC : Nat := 0x6080 * 256 + 0x8
/-- INT_CLOCK_JUMP. -/
abbrev INT_CLOCK_JUMP : Nat := 0x6080 * 256 + 0x9
/-- INT_PHASE_SPREAD. -/
abbrev INT_PHASE_SPREAD : Nat := 0x6080 * 256 + 0xa
/-- INT_PHASE_SATS. -/
abbrev INT_PHASE_SATS : Nat := 0x6080 * 256 + 0xb
/-- INT_N. -/
abbrev INT_N : Nat := 0x6080 * 256 + 0xc
/-- INT_CLEAR. -/
abbrev INT_CLEAR : Nat := 0x6080 * 256 + 0xd
/-- INT_ALARMS. -/
abbrev INT_ALARMS : Nat := 0x6080 * 256 + 0xe
/-- TP_ENABLE. -/
abbrev TP_ENABLE : Nat := 0x6090 * 256 + 0x1
/-- TP_PERIOD. -/
abbrev TP_PERIOD : Nat := 0x6090 * 256 + 0x2
/-- TP_WIDTH. -/
abbrev TP_WIDTH : Nat := 0x6090 * 256 + 0x3
/-- TP_STATES. -/
abbrev TP_STATES : Nat := 0x6090 * 256 + 0x4
/-- TM_CAN. -/
abbrev TM_CAN : Nat := 0x6090 * 256 + 0x5
/-- TM_CAN_ID. -/
abbrev TM_CAN_ID : Nat := 0x6090 * 256 + 0x6
/-- TM_UDP_PORTS. -/
abbrev TM_UDP_PORTS : Nat := 0x6090 * 256 + 0x7
/-- TM_UDP_DEST. -/
abbrev TM_UDP_DEST : Nat := 0x6090 * 256 + 0x8
/-- TP_COUNT. -/
abbrev TP_COUNT : Nat := 0x6090 * 256 + 0x9
/-- GQ_RAW. -/
abbrev GQ_RAW : Nat := 0x60A0 * 256 + 0x1
/-- GQ_NAV. -/
abbrev GQ_NAV : Nat := 0x60A0 * 256 + 0x2
/-- GQ_HEAD. -/
abbrev GQ_HEAD : Nat := 0x60A0 * 256 + 0x3
/-- GQ_RING_BASE. -/
abbrev GQ_RING_BASE : Nat := 0x60A0 * 256 + 0x4
/-- GQ_SEL. -/
abbrev GQ_SEL : Nat := 0x60A0 * 256 + 0x5
/-- GQ_RECORD. -/
abbrev GQ_RECORD : Nat := 0x60A0 * 256 + 0x6
/-- PORT_ENABLE. -/
abbrev PORT_ENABLE (p : Nat) : Nat := (0x6800 + p) * 256 + 0x1
/-- PORT_GEAR. -/
abbrev PORT_GEAR (p : Nat) : Nat := (0x6800 + p) * 256 + 0x2
/-- PORT_STATE. -/
abbrev PORT_STATE (p : Nat) : Nat := (0x6800 + p) * 256 + 0x3
/-- PORT_LOSSES. -/
abbrev PORT_LOSSES (p : Nat) : Nat := (0x6800 + p) * 256 + 0x4
/-- PORT_ECC_ERR. -/
abbrev PORT_ECC_ERR (p : Nat) : Nat := (0x6800 + p) * 256 + 0x5
/-- PORT_CRC_ERR. -/
abbrev PORT_CRC_ERR (p : Nat) : Nat := (0x6800 + p) * 256 + 0x6
/-- PORT_OTHER. -/
abbrev PORT_OTHER (p : Nat) : Nat := (0x6800 + p) * 256 + 0x7
/-- FOC_MODE. -/
abbrev FOC_MODE (s : Nat) : Nat := (0x6810 + s) * 256 + 0x1
/-- FOC_MODE_STATE. -/
abbrev FOC_MODE_STATE (s : Nat) : Nat := (0x6810 + s) * 256 + 0x2
/-- FOC_MODE_MISSES. -/
abbrev FOC_MODE_MISSES (s : Nat) : Nat := (0x6810 + s) * 256 + 0x3
/-- FOC_ENABLE. -/
abbrev FOC_ENABLE (s : Nat) : Nat := (0x6810 + s) * 256 + 0x4
/-- FOC_PHASE. -/
abbrev FOC_PHASE (s : Nat) : Nat := (0x6810 + s) * 256 + 0x5
/-- FOC_DEV. -/
abbrev FOC_DEV (s : Nat) : Nat := (0x6810 + s) * 256 + 0x6
/-- FOC_REG. -/
abbrev FOC_REG (s : Nat) : Nat := (0x6810 + s) * 256 + 0x7
/-- FOC_REG_LEN. -/
abbrev FOC_REG_LEN (s : Nat) : Nat := (0x6810 + s) * 256 + 0x8
/-- FOC_MIN. -/
abbrev FOC_MIN (s : Nat) : Nat := (0x6810 + s) * 256 + 0x9
/-- FOC_MAX. -/
abbrev FOC_MAX (s : Nat) : Nat := (0x6810 + s) * 256 + 0xa
/-- FOC_POS_INIT. -/
abbrev FOC_POS_INIT (s : Nat) : Nat := (0x6810 + s) * 256 + 0xb
/-- FOC_STEP_INIT. -/
abbrev FOC_STEP_INIT (s : Nat) : Nat := (0x6810 + s) * 256 + 0xc
/-- FOC_STEP_MIN. -/
abbrev FOC_STEP_MIN (s : Nat) : Nat := (0x6810 + s) * 256 + 0xd
/-- FOC_HYST. -/
abbrev FOC_HYST (s : Nat) : Nat := (0x6810 + s) * 256 + 0xe
/-- FOC_RESTART. -/
abbrev FOC_RESTART (s : Nat) : Nat := (0x6810 + s) * 256 + 0xf
/-- FOC_LATENCY. -/
abbrev FOC_LATENCY (s : Nat) : Nat := (0x6810 + s) * 256 + 0x10
/-- FOC_STATE. -/
abbrev FOC_STATE (s : Nat) : Nat := (0x6810 + s) * 256 + 0x11
/-- FOC_POS. -/
abbrev FOC_POS (s : Nat) : Nat := (0x6810 + s) * 256 + 0x12
/-- FOC_MEASURE. -/
abbrev FOC_MEASURE (s : Nat) : Nat := (0x6810 + s) * 256 + 0x13
/-- FOC_ASSIST_OFFSET. -/
abbrev FOC_ASSIST_OFFSET (s : Nat) : Nat := (0x6810 + s) * 256 + 0x14
/-- STR_ENABLE. -/
abbrev STR_ENABLE (s : Nat) : Nat := (0x6820 + s) * 256 + 0x1
/-- STR_DT. -/
abbrev STR_DT (s : Nat) : Nat := (0x6820 + s) * 256 + 0x2
/-- STR_CFA. -/
abbrev STR_CFA (s : Nat) : Nat := (0x6820 + s) * 256 + 0x3
/-- STR_IN_W. -/
abbrev STR_IN_W (s : Nat) : Nat := (0x6820 + s) * 256 + 0x4
/-- STR_IN_H. -/
abbrev STR_IN_H (s : Nat) : Nat := (0x6820 + s) * 256 + 0x5
/-- STR_OUT_W. -/
abbrev STR_OUT_W (s : Nat) : Nat := (0x6820 + s) * 256 + 0x6
/-- STR_OUT_H. -/
abbrev STR_OUT_H (s : Nat) : Nat := (0x6820 + s) * 256 + 0x7
/-- STR_OUT_FMT. -/
abbrev STR_OUT_FMT (s : Nat) : Nat := (0x6820 + s) * 256 + 0x8
/-- STR_FPS_MAX. -/
abbrev STR_FPS_MAX (s : Nat) : Nat := (0x6820 + s) * 256 + 0x9
/-- STR_TIMEOUT. -/
abbrev STR_TIMEOUT (s : Nat) : Nat := (0x6820 + s) * 256 + 0xa
/-- STR_STATE. -/
abbrev STR_STATE (s : Nat) : Nat := (0x6820 + s) * 256 + 0xb
/-- STR_FB_BASE. -/
abbrev STR_FB_BASE (s : Nat) : Nat := (0x6820 + s) * 256 + 0xc
/-- STR_FB_SIZE. -/
abbrev STR_FB_SIZE (s : Nat) : Nat := (0x6820 + s) * 256 + 0xd
/-- STR_HOLD_OFFSET. -/
abbrev STR_HOLD_OFFSET (s : Nat) : Nat := (0x6820 + s) * 256 + 0xe
/-- STR_HOLD. -/
abbrev STR_HOLD (s : Nat) : Nat := (0x6820 + s) * 256 + 0xf
/-- STR_LAST_FRAME. -/
abbrev STR_LAST_FRAME (s : Nat) : Nat := (0x6820 + s) * 256 + 0x10
/-- STR_READY. -/
abbrev STR_READY (s : Nat) : Nat := (0x6820 + s) * 256 + 0x11
/-- ST_HEAD. -/
abbrev ST_HEAD (s : Nat) : Nat := (0x6820 + s) * 256 + 0x12
/-- ST_RING_BASE. -/
abbrev ST_RING_BASE (s : Nat) : Nat := (0x6820 + s) * 256 + 0x13
/-- STR_LAST_RECORD. -/
abbrev STR_LAST_RECORD (s : Nat) : Nat := (0x6820 + s) * 256 + 0x14
/-- ST_LAST. -/
abbrev ST_LAST (s : Nat) : Nat := (0x6820 + s) * 256 + 0x15
/-- STR_FRAMES. -/
abbrev STR_FRAMES (s : Nat) : Nat := (0x6820 + s) * 256 + 0x16
/-- STR_SHORT. -/
abbrev STR_SHORT (s : Nat) : Nat := (0x6820 + s) * 256 + 0x17
/-- STR_LONG. -/
abbrev STR_LONG (s : Nat) : Nat := (0x6820 + s) * 256 + 0x18
/-- STR_DROPPED. -/
abbrev STR_DROPPED (s : Nat) : Nat := (0x6820 + s) * 256 + 0x19
/-- STR_HOLD_FAILS. -/
abbrev STR_HOLD_FAILS (s : Nat) : Nat := (0x6820 + s) * 256 + 0x1a
/-- SH_BLACK. -/
abbrev SH_BLACK (s : Nat) (i : Nat) : Nat := (0x6830 + s) * 256 + (0x1 + i)
/-- SH_DEFECT_TH. -/
abbrev SH_DEFECT_TH (s : Nat) : Nat := (0x6830 + s) * 256 + 0x5
/-- SH_CCM. -/
abbrev SH_CCM (s : Nat) : Nat := (0x6830 + s) * 256 + 0x6
/-- SH_GAMMA. -/
abbrev SH_GAMMA (s : Nat) : Nat := (0x6830 + s) * 256 + 0x7
/-- SH_CROP. -/
abbrev SH_CROP (s : Nat) : Nat := (0x6830 + s) * 256 + 0x8
/-- SH_FOCUS_WIN. -/
abbrev SH_FOCUS_WIN (s : Nat) : Nat := (0x6830 + s) * 256 + 0x9
/-- SH_CLS_WIN. -/
abbrev SH_CLS_WIN (s : Nat) : Nat := (0x6830 + s) * 256 + 0xa
/-- SH_CLS_TABLE. -/
abbrev SH_CLS_TABLE (s : Nat) : Nat := (0x6830 + s) * 256 + 0xb
/-- SH_COMMIT. -/
abbrev SH_COMMIT (s : Nat) : Nat := (0x6830 + s) * 256 + 0xc
/-- SH_NUMBER. -/
abbrev SH_NUMBER (s : Nat) : Nat := (0x6830 + s) * 256 + 0xd
/-- SH_PENDING. -/
abbrev SH_PENDING (s : Nat) : Nat := (0x6830 + s) * 256 + 0xe
/-- EXP_DEV. -/
abbrev EXP_DEV (s : Nat) : Nat := (0x6840 + s) * 256 + 0x1
/-- EXP_REG. -/
abbrev EXP_REG (s : Nat) : Nat := (0x6840 + s) * 256 + 0x2
/-- EXP_REG_LEN. -/
abbrev EXP_REG_LEN (s : Nat) : Nat := (0x6840 + s) * 256 + 0x3
/-- GAIN_REG. -/
abbrev GAIN_REG (s : Nat) : Nat := (0x6840 + s) * 256 + 0x4
/-- GAIN_REG_LEN. -/
abbrev GAIN_REG_LEN (s : Nat) : Nat := (0x6840 + s) * 256 + 0x5
/-- EXP_LATENCY. -/
abbrev EXP_LATENCY (s : Nat) : Nat := (0x6840 + s) * 256 + 0x6
/-- EXP_INIT_LINES. -/
abbrev EXP_INIT_LINES (s : Nat) : Nat := (0x6840 + s) * 256 + 0x7
/-- EXP_INIT_GAIN. -/
abbrev EXP_INIT_GAIN (s : Nat) : Nat := (0x6840 + s) * 256 + 0x8
/-- EXP_REQUEST. -/
abbrev EXP_REQUEST (s : Nat) : Nat := (0x6840 + s) * 256 + 0x9
/-- EXP_APP_OFFSET. -/
abbrev EXP_APP_OFFSET (s : Nat) : Nat := (0x6840 + s) * 256 + 0xa
/-- EXP_TAG_NOW. -/
abbrev EXP_TAG_NOW (s : Nat) : Nat := (0x6840 + s) * 256 + 0xb
/-- EXP_REPLACED. -/
abbrev EXP_REPLACED (s : Nat) : Nat := (0x6840 + s) * 256 + 0xc
/-- EXP_NACKS. -/
abbrev EXP_NACKS (s : Nat) : Nat := (0x6840 + s) * 256 + 0xd
/-- CLS_SAMPLE_MASK. -/
abbrev CLS_SAMPLE_MASK (s : Nat) : Nat := (0x6850 + s) * 256 + 0x1
/-- CLS_BROKEN_MASK. -/
abbrev CLS_BROKEN_MASK (s : Nat) : Nat := (0x6850 + s) * 256 + 0x2
/-- CLS_FOREIGN_MASK. -/
abbrev CLS_FOREIGN_MASK (s : Nat) : Nat := (0x6850 + s) * 256 + 0x3
/-- CLS_FRAMES. -/
abbrev CLS_FRAMES (s : Nat) : Nat := (0x6850 + s) * 256 + 0x4
/-- CLS_MIN_PIXELS. -/
abbrev CLS_MIN_PIXELS (s : Nat) : Nat := (0x6850 + s) * 256 + 0x5
/-- CLS_MAX_AGE. -/
abbrev CLS_MAX_AGE (s : Nat) : Nat := (0x6850 + s) * 256 + 0x6
/-- CLS_BROKEN_GAIN. -/
abbrev CLS_BROKEN_GAIN (s : Nat) : Nat := (0x6850 + s) * 256 + 0x7
/-- CLS_FOREIGN_GAIN. -/
abbrev CLS_FOREIGN_GAIN (s : Nat) : Nat := (0x6850 + s) * 256 + 0x8
/-- CLS_BROKEN. -/
abbrev CLS_BROKEN (s : Nat) : Nat := (0x6850 + s) * 256 + 0x10
/-- CLS_FOREIGN. -/
abbrev CLS_FOREIGN (s : Nat) : Nat := (0x6850 + s) * 256 + 0x11
/-- CAN_ENABLE. -/
abbrev CAN_ENABLE (c : Nat) : Nat := (0x7000 + c) * 256 + 0x1
/-- CAN_FD. -/
abbrev CAN_FD (c : Nat) : Nat := (0x7000 + c) * 256 + 0x2
/-- CAN_NBRP. -/
abbrev CAN_NBRP (c : Nat) : Nat := (0x7000 + c) * 256 + 0x3
/-- CAN_NTSEG1. -/
abbrev CAN_NTSEG1 (c : Nat) : Nat := (0x7000 + c) * 256 + 0x4
/-- CAN_NTSEG2. -/
abbrev CAN_NTSEG2 (c : Nat) : Nat := (0x7000 + c) * 256 + 0x5
/-- CAN_NSJW. -/
abbrev CAN_NSJW (c : Nat) : Nat := (0x7000 + c) * 256 + 0x6
/-- CAN_DBRP. -/
abbrev CAN_DBRP (c : Nat) : Nat := (0x7000 + c) * 256 + 0x7
/-- CAN_DTSEG1. -/
abbrev CAN_DTSEG1 (c : Nat) : Nat := (0x7000 + c) * 256 + 0x8
/-- CAN_DTSEG2. -/
abbrev CAN_DTSEG2 (c : Nat) : Nat := (0x7000 + c) * 256 + 0x9
/-- CAN_DSJW. -/
abbrev CAN_DSJW (c : Nat) : Nat := (0x7000 + c) * 256 + 0xa
/-- CAN_TDC. -/
abbrev CAN_TDC (c : Nat) : Nat := (0x7000 + c) * 256 + 0xb
/-- CAN_TDCO. -/
abbrev CAN_TDCO (c : Nat) : Nat := (0x7000 + c) * 256 + 0xc
/-- CAN_TRIPLE. -/
abbrev CAN_TRIPLE (c : Nat) : Nat := (0x7000 + c) * 256 + 0xd
/-- CAN_TERM. -/
abbrev CAN_TERM (c : Nat) : Nat := (0x7000 + c) * 256 + 0xe
/-- CAN_TX_ORDER. -/
abbrev CAN_TX_ORDER (c : Nat) : Nat := (0x7000 + c) * 256 + 0xf
/-- CAN_TB_OWNER. -/
abbrev CAN_TB_OWNER (c : Nat) : Nat := (0x7000 + c) * 256 + 0x10
/-- CAN_BUSOFF_RECOVERY. -/
abbrev CAN_BUSOFF_RECOVERY (c : Nat) : Nat := (0x7000 + c) * 256 + 0x11
/-- CAN_RECOVER. -/
abbrev CAN_RECOVER (c : Nat) : Nat := (0x7000 + c) * 256 + 0x12
/-- CAN_NOMINAL_RATE. -/
abbrev CAN_NOMINAL_RATE (c : Nat) : Nat := (0x7000 + c) * 256 + 0x13
/-- CAN_DATA_RATE. -/
abbrev CAN_DATA_RATE (c : Nat) : Nat := (0x7000 + c) * 256 + 0x14
/-- CAN_ERR_STATE. -/
abbrev CAN_ERR_STATE (c : Nat) : Nat := (0x7000 + c) * 256 + 0x15
/-- CAN_TEC. -/
abbrev CAN_TEC (c : Nat) : Nat := (0x7000 + c) * 256 + 0x16
/-- CAN_REC. -/
abbrev CAN_REC (c : Nat) : Nat := (0x7000 + c) * 256 + 0x17
/-- CAN_LEC. -/
abbrev CAN_LEC (c : Nat) : Nat := (0x7000 + c) * 256 + 0x18
/-- CAN_BUSOFFS. -/
abbrev CAN_BUSOFFS (c : Nat) : Nat := (0x7000 + c) * 256 + 0x19
/-- CAN_RX_SEQ. -/
abbrev CAN_RX_SEQ (c : Nat) : Nat := (0x7000 + c) * 256 + 0x1a
/-- CAN_RX_RING_BASE. -/
abbrev CAN_RX_RING_BASE (c : Nat) : Nat := (0x7000 + c) * 256 + 0x1b
/-- CAN_RX_LOST. -/
abbrev CAN_RX_LOST (c : Nat) : Nat := (0x7000 + c) * 256 + 0x1c
/-- CAN_RX_OVERRUN. -/
abbrev CAN_RX_OVERRUN (c : Nat) : Nat := (0x7000 + c) * 256 + 0x1d
/-- CAN_READER_OFFSET. -/
abbrev CAN_READER_OFFSET (c : Nat) : Nat := (0x7000 + c) * 256 + 0x1e
/-- CAN_TX_APP_OFFSET. -/
abbrev CAN_TX_APP_OFFSET (c : Nat) : Nat := (0x7000 + c) * 256 + 0x1f
/-- CAN_RX_SEL. -/
abbrev CAN_RX_SEL (c : Nat) : Nat := (0x7000 + c) * 256 + 0x20
/-- CAN_RX_ENTRY. -/
abbrev CAN_RX_ENTRY (c : Nat) : Nat := (0x7000 + c) * 256 + 0x21
/-- CAN_TX_FRAMES. -/
abbrev CAN_TX_FRAMES (c : Nat) : Nat := (0x7000 + c) * 256 + 0x22
/-- CAN_TDC_MEAS. -/
abbrev CAN_TDC_MEAS (c : Nat) : Nat := (0x7000 + c) * 256 + 0x23
/-- CAN_CFG_ERR. -/
abbrev CAN_CFG_ERR (c : Nat) : Nat := (0x7000 + c) * 256 + 0x24
/-- CAN_MODULE_DROPS. -/
abbrev CAN_MODULE_DROPS (c : Nat) : Nat := (0x7000 + c) * 256 + 0x25
/-- CAN_RX_EPOCH. -/
abbrev CAN_RX_EPOCH (c : Nat) : Nat := (0x7000 + c) * 256 + 0x26
/-- CAN_TB_STATE. -/
abbrev CAN_TB_STATE (c : Nat) (i : Nat) : Nat := (0x7000 + c) * 256 + (0x30 + 4 * i)
/-- CAN_TB_RESULT. -/
abbrev CAN_TB_RESULT (c : Nat) (i : Nat) : Nat := (0x7000 + c) * 256 + (0x31 + 4 * i)
/-- CAN_TB_STAMP. -/
abbrev CAN_TB_STAMP (c : Nat) (i : Nat) : Nat := (0x7000 + c) * 256 + (0x32 + 4 * i)
/-- CAN_TB_SOF. -/
abbrev CAN_TB_SOF (c : Nat) (i : Nat) : Nat := (0x7000 + c) * 256 + (0x33 + 4 * i)
/-- ISO_CTRL. -/
abbrev ISO_CTRL : Nat := 0x7060 * 256 + 0x1
/-- ISO_NAME. -/
abbrev ISO_NAME : Nat := 0x7060 * 256 + 0x2
/-- ISO_ADDR_PREF. -/
abbrev ISO_ADDR_PREF : Nat := 0x7060 * 256 + 0x3
/-- ISO_ADDR. -/
abbrev ISO_ADDR : Nat := 0x7060 * 256 + 0x4
/-- ISO_STATE. -/
abbrev ISO_STATE : Nat := 0x7060 * 256 + 0x5
/-- ISO_TX_OFFSET. -/
abbrev ISO_TX_OFFSET : Nat := 0x7060 * 256 + 0x6
/-- ISO_RX_RING_BASE. -/
abbrev ISO_RX_RING_BASE : Nat := 0x7060 * 256 + 0x7
/-- ISO_RX_HEAD. -/
abbrev ISO_RX_HEAD : Nat := 0x7060 * 256 + 0x8
/-- ISO_ETP_MAX. -/
abbrev ISO_ETP_MAX : Nat := 0x7060 * 256 + 0x9
/-- ISO_ABORTS. -/
abbrev ISO_ABORTS : Nat := 0x7060 * 256 + 0xa
/-- ISO_ADDR_LOSSES. -/
abbrev ISO_ADDR_LOSSES : Nat := 0x7060 * 256 + 0xb
/-- ISO_SLOT_RESULT. -/
abbrev ISO_SLOT_RESULT (i : Nat) : Nat := 0x7060 * 256 + (0x10 + i)
/-- DM1_MODE. -/
abbrev DM1_MODE : Nat := 0x7080 * 256 + 0x1
/-- DM1_MODE_STATE. -/
abbrev DM1_MODE_STATE : Nat := 0x7080 * 256 + 0x2
/-- DM1_MODE_MISSES. -/
abbrev DM1_MODE_MISSES : Nat := 0x7080 * 256 + 0x3
/-- DM1_ENABLE. -/
abbrev DM1_ENABLE : Nat := 0x7080 * 256 + 0x4
/-- DM1_PHASE. -/
abbrev DM1_PHASE : Nat := 0x7080 * 256 + 0x5
/-- DM1_ACTIVE. -/
abbrev DM1_ACTIVE : Nat := 0x7080 * 256 + 0x6
/-- DM1_ASSIST_OFFSET. -/
abbrev DM1_ASSIST_OFFSET : Nat := 0x7080 * 256 + 0x7
/-- DTC_SRC. -/
abbrev DTC_SRC (d : Nat) : Nat := (0x7090 + d) * 256 + 0x1
/-- DTC_SPN. -/
abbrev DTC_SPN (d : Nat) : Nat := (0x7090 + d) * 256 + 0x2
/-- DTC_FMI. -/
abbrev DTC_FMI (d : Nat) : Nat := (0x7090 + d) * 256 + 0x3
/-- DTC_LAMP. -/
abbrev DTC_LAMP (d : Nat) : Nat := (0x7090 + d) * 256 + 0x4
/-- DTC_ACTIVE. -/
abbrev DTC_ACTIVE (d : Nat) : Nat := (0x7090 + d) * 256 + 0x5
/-- DTC_OC. -/
abbrev DTC_OC (d : Nat) : Nat := (0x7090 + d) * 256 + 0x6
/-- ETH_ENABLE. -/
abbrev ETH_ENABLE (p : Nat) : Nat := (0x7800 + p) * 256 + 0x1
/-- ETH_T1_ROLE. -/
abbrev ETH_T1_ROLE (p : Nat) : Nat := (0x7800 + p) * 256 + 0x2
/-- ETH_IPV4. -/
abbrev ETH_IPV4 (p : Nat) : Nat := (0x7800 + p) * 256 + 0x3
/-- ETH_MASK. -/
abbrev ETH_MASK (p : Nat) : Nat := (0x7800 + p) * 256 + 0x4
/-- ETH_MAC. -/
abbrev ETH_MAC (p : Nat) : Nat := (0x7800 + p) * 256 + 0x5
/-- ETH_LINK. -/
abbrev ETH_LINK (p : Nat) : Nat := (0x7800 + p) * 256 + 0x6
/-- ETH_SQI. -/
abbrev ETH_SQI (p : Nat) : Nat := (0x7800 + p) * 256 + 0x7
/-- ETH_LINK_LOSSES. -/
abbrev ETH_LINK_LOSSES (p : Nat) : Nat := (0x7800 + p) * 256 + 0x8
/-- ETH_RX_FRAMES. -/
abbrev ETH_RX_FRAMES (p : Nat) : Nat := (0x7800 + p) * 256 + 0x9
/-- ETH_RX_ERRORS. -/
abbrev ETH_RX_ERRORS (p : Nat) : Nat := (0x7800 + p) * 256 + 0xa
/-- ETH_TX_FRAMES. -/
abbrev ETH_TX_FRAMES (p : Nat) : Nat := (0x7800 + p) * 256 + 0xb
/-- GPTP_PORTS. -/
abbrev GPTP_PORTS : Nat := 0x7840 * 256 + 0x1
/-- GPTP_DOMAIN. -/
abbrev GPTP_DOMAIN : Nat := 0x7840 * 256 + 0x2
/-- GPTP_SYNC_LOG. -/
abbrev GPTP_SYNC_LOG : Nat := 0x7840 * 256 + 0x3
/-- GPTP_ANNOUNCE_LOG. -/
abbrev GPTP_ANNOUNCE_LOG : Nat := 0x7840 * 256 + 0x4
/-- GPTP_PRIORITY1. -/
abbrev GPTP_PRIORITY1 : Nat := 0x7840 * 256 + 0x5
/-- GPTP_CLOCK_CLASS. -/
abbrev GPTP_CLOCK_CLASS : Nat := 0x7840 * 256 + 0x6
/-- GPTP_FOREIGN. -/
abbrev GPTP_FOREIGN : Nat := 0x7840 * 256 + 0x7
/-- GPTP_UTC_OFFSET. -/
abbrev GPTP_UTC_OFFSET : Nat := 0x7840 * 256 + 0x8
/-- HB_PERIOD. -/
abbrev HB_PERIOD : Nat := 0x7850 * 256 + 0x1
/-- HB_PHASE. -/
abbrev HB_PHASE : Nat := 0x7850 * 256 + 0x2
/-- HB_CAN. -/
abbrev HB_CAN : Nat := 0x7850 * 256 + 0x3
/-- HB_CAN_ID. -/
abbrev HB_CAN_ID : Nat := 0x7850 * 256 + 0x4
/-- HB_UDP_PORTS. -/
abbrev HB_UDP_PORTS : Nat := 0x7850 * 256 + 0x5
/-- HB_UDP_DEST. -/
abbrev HB_UDP_DEST : Nat := 0x7850 * 256 + 0x6
/-- HB_COUNT. -/
abbrev HB_COUNT : Nat := 0x7850 * 256 + 0x7
/-- AS_NAME. -/
abbrev AS_NAME (a : Nat) : Nat := (0x8000 + 16 * a) * 256 + 0x1
/-- AS_ENTRY. -/
abbrev AS_ENTRY (a : Nat) : Nat := (0x8000 + 16 * a) * 256 + 0x2
/-- AS_EXIT. -/
abbrev AS_EXIT (a : Nat) : Nat := (0x8000 + 16 * a) * 256 + 0x3
/-- AS_POLICY. -/
abbrev AS_POLICY (a : Nat) : Nat := (0x8000 + 16 * a) * 256 + 0x4
/-- AS_TEMPLATE. -/
abbrev AS_TEMPLATE (a : Nat) : Nat := (0x8000 + 16 * a) * 256 + 0x5
/-- AS_DEPTH. -/
abbrev AS_DEPTH (a : Nat) : Nat := (0x8000 + 16 * a) * 256 + 0x6
/-- AS_ENABLE. -/
abbrev AS_ENABLE (a : Nat) : Nat := (0x8000 + 16 * a) * 256 + 0x10
/-- AS_HOLD. -/
abbrev AS_HOLD (a : Nat) : Nat := (0x8000 + 16 * a) * 256 + 0x11
/-- AS_HOLD_SRC. -/
abbrev AS_HOLD_SRC (a : Nat) : Nat := (0x8000 + 16 * a) * 256 + 0x12
/-- AS_SP_SEL. -/
abbrev AS_SP_SEL (a : Nat) : Nat := (0x8000 + 16 * a) * 256 + 0x13
/-- AS_SP_SRC. -/
abbrev AS_SP_SRC (a : Nat) : Nat := (0x8000 + 16 * a) * 256 + 0x14
/-- AS_SP. -/
abbrev AS_SP (a : Nat) : Nat := (0x8000 + 16 * a) * 256 + 0x15
/-- AS_OUT. -/
abbrev AS_OUT (a : Nat) : Nat := (0x8000 + 16 * a) * 256 + 0x16
/-- AS_OUT_STAMP. -/
abbrev AS_OUT_STAMP (a : Nat) : Nat := (0x8000 + 16 * a) * 256 + 0x17
/-- AS_SP_NOW. -/
abbrev AS_SP_NOW (a : Nat) : Nat := (0x8000 + 16 * a) * 256 + 0x18
/-- AS_PV_NOW. -/
abbrev AS_PV_NOW (a : Nat) : Nat := (0x8000 + 16 * a) * 256 + 0x19
/-- AS_STATE. -/
abbrev AS_STATE (a : Nat) : Nat := (0x8000 + 16 * a) * 256 + 0x1a
/-- AS_FAULT. -/
abbrev AS_FAULT (a : Nat) : Nat := (0x8000 + 16 * a) * 256 + 0x1b
/-- AS_CFG_ERR. -/
abbrev AS_CFG_ERR (a : Nat) : Nat := (0x8000 + 16 * a) * 256 + 0x1c
/-- AS_RESET. -/
abbrev AS_RESET (a : Nat) : Nat := (0x8000 + 16 * a) * 256 + 0x1d
/-- AS_PARENT. -/
abbrev AS_PARENT (a : Nat) : Nat := (0x8000 + 16 * a) * 256 + 0x1e
/-- AS_MEMBER. -/
abbrev AS_MEMBER (a : Nat) (i : Nat) : Nat := (0x8000 + 16 * a + 1) * 256 + (0x1 + i)
/-- AS_CRIT. -/
abbrev AS_CRIT (a : Nat) (i : Nat) : Nat := (0x8000 + 16 * a + 2) * 256 + (0x1 + i)
/-- TP_NUMBER. -/
abbrev TP_NUMBER (a : Nat) : Nat := (0x8000 + 16 * a + 3) * 256 + 0x1
/-- TP_REVISION. -/
abbrev TP_REVISION (a : Nat) : Nat := (0x8000 + 16 * a + 3) * 256 + 0x2
/-- TP_SUP_TARGET. -/
abbrev TP_SUP_TARGET (a : Nat) : Nat := (0x8000 + 16 * a + 3) * 256 + 0x3
/-- TP_BUILD_TICK. -/
abbrev TP_BUILD_TICK (a : Nat) : Nat := (0x8000 + 16 * a + 3) * 256 + 0x4

end Obj

end Sys2Proof.Machine
end

