-- ==== Sys2Proof/Machine/Map.lean ====
section
/-! DEFINITION. The module's memories as R23 and R28 to R30 divide them: the sections of the tick image, the areas the
application writes in them, the regions of DRAM, of the magnetoresistive store and of the flash. -/

namespace Sys2Proof.Machine

/-! The tick memory (R23) -/

/-- The sections of one copy of the tick image (Table 2). -/
inductive Section where
  | input | exchange | output
  deriving DecidableEq, Repr

/-- The size of a section in bytes (Table 2). -/
def Section.size : Section → Nat
  | .input => 512 * 1024 | .exchange => 1024 * 1024 | .output => 512 * 1024

/-- Where a section begins within its copy: the sections stand in the order of Table 2 (DEDUCED, log entry 62). -/
def Section.base : Section → Nat
  | .input => 0 | .exchange => 512 * 1024 | .output => 1536 * 1024

/-- The size of one copy: the tick memory of 4 MiB holds two. -/
def copySize : Nat := 2 * 2 ^ 20

/-- The current copy of tick k (R23). -/
def currentCopy (k : Nat) : Nat := k % 2

/-- The copy, the section and the offset within it that a byte offset of the tick memory names, copy 0 first (R27;
DEDUCED, log entry 62). -/
def locateTick (offset : Nat) : Option (Nat × Section × Nat) :=
  let o := offset % copySize
  if 2 * copySize ≤ offset then none
  else if o < Section.exchange.base then some (offset / copySize, .input, o)
  else if o < Section.output.base then some (offset / copySize, .exchange, o - Section.exchange.base)
  else some (offset / copySize, .output, o - Section.output.base)

/-! The areas of the application (R27, R556) -/

/-- An area, or a run of areas that share one …_OFFSET object: that object, the section, the size in bytes. -/
structure AreaSpec where
  key : Nat
  sec : Section
  size : Nat
  deriving DecidableEq, Repr

/-- The areas, of the sizes their chapters give (R157, R170, R182, R201, R215, R241, R251, R264, R302, R342, R343, R366,
R370, R377, R395, R398, R413, R416, R439, R460). -/
def areaSpecs : List AreaSpec :=
  ((List.range 48).map fun n => ⟨Obj.FL_ASSIST_OFFSET n, .exchange, 16⟩) ++
  ((List.range 8).map fun b => ⟨Obj.BANK_ASSIST_OFFSET b, .exchange, 32⟩) ++
  ((List.range 8).map fun n => ⟨Obj.FOC_ASSIST_OFFSET n, .exchange, 16⟩) ++
  [⟨Obj.CRB_ASSIST_OFFSET, .exchange, 784⟩, ⟨Obj.SUP_ASSIST_OFFSET, .exchange, 40⟩, ⟨Obj.POS_ASSIST_OFFSET, .exchange, 64⟩,
   ⟨Obj.DM1_ASSIST_OFFSET, .exchange, 144⟩] ++
  ((List.range 48).map fun n => ⟨Obj.FL_SP_APP_OFFSET n, .output, 16⟩) ++
  ((List.range 128).map fun n => ⟨Obj.CH_APP_OFFSET n, .output, 16⟩) ++
  ((List.range 48).map fun n => ⟨Obj.VD_APP_OFFSET n, .output, 24⟩) ++
  ((List.range 32).map fun n => ⟨Obj.XV_APP_OFFSET n, .output, 16⟩) ++
  ((List.range 8).map fun n => ⟨Obj.STR_HOLD_OFFSET n, .output, 16⟩) ++
  ((List.range 8).map fun n => ⟨Obj.EXP_APP_OFFSET n, .output, 24⟩) ++
  ((List.range 8).map fun c => ⟨Obj.CAN_READER_OFFSET c, .output, 16⟩) ++
  ((List.range 8).map fun c => ⟨Obj.CAN_TX_APP_OFFSET c, .output, 240⟩) ++
  [⟨Obj.PATH_APP_OFFSET, .output, 2080⟩, ⟨Obj.CORR_APP_OFFSET, .output, 8224⟩, ⟨Obj.ISO_TX_OFFSET, .output, 256⟩,
   ⟨Obj.PAIR_APP_OUT_OFFSET, .output, 528⟩, ⟨Obj.PWR_APP_OFFSET, .output, 32⟩, ⟨Obj.PAIR_APP_IN_OFFSET, .input, 528⟩]

/-- The areas that the application may write, by the key of their …_OFFSET object; where one object stands for
several entries they have that key and those that follow (R27, R343, R398, R413, R556). -/
def isArea (key : Nat) : Bool :=
  let ix := key / 256
  let sub := key % 256
  let one := fun k => key == k
  one Obj.PWR_APP_OFFSET || one Obj.PAIR_APP_OUT_OFFSET || one Obj.CRB_ASSIST_OFFSET || one Obj.SUP_ASSIST_OFFSET ||
    one Obj.PATH_APP_OFFSET || one Obj.POS_ASSIST_OFFSET || one Obj.CORR_APP_OFFSET || one (Obj.CORR_APP_OFFSET + 1) ||
    one Obj.DM1_ASSIST_OFFSET ||
    (decide (0x3000 ≤ ix ∧ ix < 0x3080) && sub == 0xD) || (decide (0x3100 ≤ ix ∧ ix < 0x3108) && sub == 0x13) ||
    (decide (0x3800 ≤ ix ∧ ix < 0x3830) && sub == 7) || (decide (0x40C0 ≤ ix ∧ ix < 0x40E0) && sub == 3) ||
    (decide (0x5000 ≤ ix ∧ ix < 0x5030) && (sub == 0x40 || sub == 0x41)) ||
    (decide (0x6810 ≤ ix ∧ ix < 0x6818) && sub == 0x14) || (decide (0x6820 ≤ ix ∧ ix < 0x6828) && sub == 0xE) ||
    (decide (0x6840 ≤ ix ∧ ix < 0x6848) && sub == 0xA) ||
    (decide (0x7000 ≤ ix ∧ ix < 0x7008) && decide (0x1E ≤ sub ∧ sub ≤ 0x21)) ||
    (ix == 0x7060 && decide (6 ≤ sub ∧ sub ≤ 0xD))

/-- Units of 8 bytes that an area takes. -/
def AreaSpec.units (a : AreaSpec) : Nat := (a.size + 7) / 8

/-- A placing of the areas, in units of 8 bytes, that R556 allows: each within its section, no two of a section
overlapping. -/
abbrev placingOk (at_ : Nat → Nat) : Prop :=
  (∀ a ∈ areaSpecs, at_ a.key + a.units ≤ a.sec.size / 8) ∧
  areaSpecs.Pairwise fun a b => a.sec = b.sec → at_ a.key + a.units ≤ at_ b.key ∨ at_ b.key + b.units ≤ at_ a.key

/-- The areas of a list placed one after another in their sections. -/
def packed : List AreaSpec → (Section → Nat) → Nat → Nat
  | [], _, _ => 0
  | a :: t, from_, key =>
    if a.key = key then from_ a.sec
    else packed t (fun c => if c = a.sec then from_ c + a.units else from_ c) key

/-- The byte offset of an area within its section, as the firmware of a release has placed it (R556): any placing
that the rule allows (log entry 6). -/
def areaOffset (release key : Nat) : Nat :=
  if placingOk (Config.areaSlot release) then 8 * Config.areaSlot release key else 8 * packed areaSpecs (fun _ => 0) key

/-- The area that holds a key, with what the key's entry lies past its start: the second correction stream, a transmit
buffer's entry, a send slot (R343, R398, R413). -/
def areaOf (key : Nat) : Option (AreaSpec × Nat) :=
  let ix := key / 256
  let sub := key % 256
  let at_ := fun (k past : Nat) => (areaSpecs.find? fun a => a.key == k).map fun a => (a, past)
  if key = Obj.CORR_APP_OFFSET + 1 then at_ Obj.CORR_APP_OFFSET 4112
  else if 0x7000 ≤ ix ∧ ix < 0x7008 ∧ 0x1F < sub ∧ sub ≤ 0x21 then at_ (ix * 256 + 0x1F) (80 * (sub - 0x1F))
  else if ix = 0x7060 ∧ 6 < sub ∧ sub ≤ 0xD then at_ Obj.ISO_TX_OFFSET (32 * (sub - 6))
  else at_ key 0

/-- The byte offset of an application area from the start of the tick memory, in the current copy of tick k. -/
def tickOffset (release k key : Nat) : Nat :=
  match areaOf key with
  | some (a, past) => currentCopy k * copySize + a.sec.base + areaOffset release a.key + past
  | none => 0

/-! DRAM (R28) -/

/-- The size of the addressable space, one eighth of 4 GiB taken by the ECC. -/
def dramSize : Nat := 4 * 2 ^ 30 - 4 * 2 ^ 30 / 8
/-- The Worzotric region (Table 3). -/
def wzSize : Nat := 512 * 2 ^ 20
/-- The OEM region (Table 3). -/
def oemSize : Nat := 3 * 2 ^ 30

/-- The first address of each region; which of the two lies first the spec does not say (log entry 6). -/
def wzBase : Nat := Config.dramStart.toNat + if Config.wzFirst then 0 else oemSize
/-- The first address of the OEM region. -/
def oemBase : Nat := Config.dramStart.toNat + if Config.wzFirst then wzSize else 0

/-- The windows of the Worzotric region that an object names, each with its size in bytes: the GNSS record ring, the ISO and
CAN receive rings, the statistics rings, and for each stream three frame buffers of the size `fb` (R28, R334, R364, R374, R390,
R414). -/
def dramSpecs (fb : Nat → Nat) : List (Nat × Nat) :=
  [(Obj.GQ_RING_BASE, 32768 * 128), (Obj.ISO_RX_RING_BASE, 16 * (2 ^ 20 + 32))] ++
    (List.range 8).map (fun c => (Obj.CAN_RX_RING_BASE c, 2048 * 80)) ++
    (List.range 8).map (fun n => (Obj.ST_RING_BASE n, 64 * 512)) ++
    (List.range 8).map fun n => (Obj.STR_FB_BASE n, 3 * fb n)

/-- A placing that R28 allows: every window within the Worzotric region, no two overlapping. -/
abbrev dramOk (at_ : Nat → Nat) (l : List (Nat × Nat)) : Prop :=
  (∀ w ∈ l, wzBase ≤ at_ w.1 ∧ at_ w.1 + w.2 ≤ wzBase + wzSize) ∧
  l.Pairwise fun a b => at_ a.1 + a.2 ≤ at_ b.1 ∨ at_ b.1 + b.2 ≤ at_ a.1

/-- The windows placed one after another from an address on. -/
def dramPacked : List (Nat × Nat) → Nat → Nat → Nat
  | [], from_, _ => from_
  | w :: t, from_, key => if w.1 = key then from_ else dramPacked t (from_ + w.2) key

/-- The first address of a window, as the running firmware places the windows of these sizes: any placing that R28 allows
(log entry 6). -/
def dramWindow (l : List (Nat × Nat)) (key : Nat) : Nat :=
  let free := fun key => (Config.dramBase (l.map (·.2)) key).toNat
  if dramOk free l then free key else dramPacked l wzBase key

/-- What the OEM application may do at a DRAM address, read and write: its own region; the windows of `l`, which are mapped
to it read-only; nothing else (R28, R334, R364, R374, R390, R414). -/
def oemAccess (l : List (Nat × Nat)) (addr : Nat) : Bool × Bool :=
  let own := decide (oemBase ≤ addr ∧ addr < oemBase + oemSize)
  (own || l.any (fun w => decide (dramWindow l w.1 ≤ addr ∧ addr < dramWindow l w.1 + w.2)), own)

/-! The magnetoresistive store and the flash (R29, R30) -/

/-- The regions of the magnetoresistive store (Table 4). -/
inductive Mram where
  | setA | setB | recorder | checkpoint | update | credentials | reserved
  deriving DecidableEq, Repr

/-- Byte offset of a region from the start of the store, and its size (Table 4). -/
def Mram.place : Mram → Nat × Nat
  | .setA => (0x0000000, 4 * 2 ^ 20) | .setB => (0x0400000, 4 * 2 ^ 20) | .recorder => (0x0800000, 2 * 2 ^ 20)
  | .checkpoint => (0x0A00000, 2 ^ 20) | .update => (0x0B00000, 64 * 1024) | .credentials => (0x0B10000, 64 * 1024)
  | .reserved => (0x0B20000, 21376 * 1024)

/-- The region in which a byte of the store lies, and its offset there. -/
def mramAt (offset : Nat) : Option (Mram × Nat) :=
  ([Mram.setA, .setB, .recorder, .checkpoint, .update, .credentials, .reserved].find? fun r =>
    decide (r.place.1 ≤ offset ∧ offset < r.place.1 + r.place.2)).map fun r => (r, offset - r.place.1)

/-- What a byte of the store reads as, given what the regions in use hold: the Reserved region reads 0 (Table 4). -/
def mramByte (held : Mram → Nat → Byte) (offset : Nat) : Option Byte :=
  match mramAt offset with
  | some (.reserved, _) => some 0
  | some (r, o) => some (held r o)
  | none => none

/-- The regions of the flash (Table 5). -/
inductive Flash where
  | slotA | slotB | staging | yield | spare
  deriving DecidableEq, Repr

/-- The size of a flash region in bytes (Table 5); the spare region is not addressable. -/
def Flash.size : Flash → Nat
  | .yield => 512 * 2 ^ 20 | _ => 128 * 2 ^ 20

end Sys2Proof.Machine
end

