-- ==== Sys2Proof/Machine/State.lean ====
section
/-! DEFINITION. The state of the module as plain data: every register the object dictionary names stands in
`obj` and `blob` under its index and sub-index, every other piece of state in the record of the unit that owns
it. A field's default is its value after reset. -/

namespace Sys2Proof.Machine

/-- Why the module stops: an access to an address that the spec says does not exist. -/
inductive Fault where
  /-- Raised by APP_WRITE_BLOCKED on a byte offset outside the 4 MiB tick memory, which
  holds no such byte (R23, R27). Safe: the model goes no further. -/
  | outsideTickMemory
  deriving DecidableEq, Repr

/-- Why a command has no meaning. -/
inductive Refusal where
  /-- Raised by the dispatch alone, for a row without a meaning. Safe: the model says nothing of it. -/
  | notModelled (mnemonic : String)
  deriving DecidableEq, Repr

/-- A tick image entry's stamp and validity flag (R25). -/
structure Entry where
  stamp : Nat := 0
  valid : Bool := false
  deriving DecidableEq, Repr

/-- A value written to the current copy of the tick image, not yet visible to readers (R24). -/
structure Written where
  val : Nat
  stamp : Nat
  valid : Bool
  deriving DecidableEq, Repr

/-- An application area: an assisted result area or an application command entry (R27, R38, R556). `body` holds
the bytes from offset 9 on, after the stamp and the validity byte. -/
structure AppArea where
  stamp : Nat := 0
  valid : Bool := false
  body : Bytes := []
  deriving DecidableEq, Repr

/-- An application write that stalled after the compute deadline (R47): the area's …_OFFSET object and what
was written, and the tick. -/
structure Stalled where
  area : Nat
  val : AppArea
  at_ : Nat
  deriving DecidableEq, Repr

/-- What the module is doing as a whole (R518–R526). -/
inductive Phase where
  /-- In reset. -/
  | reset
  /-- Released, running the start sequence of R524. -/
  | starting
  /-- Neither image slot passes its check: stays in reset (R525). -/
  | noImage
  /-- From the first tick on. -/
  | running
  deriving DecidableEq, Repr

/-- A reset that is due: its cause, its detail and the tick in which it is entered (R518, R522). -/
structure ResetDue where
  cause : Nat
  detail : Nat
  at_ : Nat
  deriving DecidableEq, Repr

/-- What the module sends (log entry 9). -/
inductive Out where
  /-- An MDP answer: transport, source, target, service with bit 7, session, transaction, status, the rest of
  the payload (R103). -/
  | mdp (transport : Transport) (source target service session txn status : Nat) (body : Bytes)
  /-- A request forwarded over the pair link (R115). -/
  | forward (q : Req) (level service : Nat) (payload : Bytes)
  /-- A UDP datagram from a port (0 E0, 1 E1, 2 E2, 3 SVC) to a destination port. -/
  | udp (port dest : Nat) (data : Bytes)
  /-- A CAN frame that left the controller. -/
  | can (ctrl : Nat) (f : CanFrame)
  /-- A two-step Sync and its Follow_Up: the E0 address that the clockIdentity derives from, port, domain, log interval,
  sequence, PTP time in ns (R66, R68, R432). -/
  | gptpSync (clock port domain : Nat) (log : Int) (seq time : Nat)
  /-- An Announce: the E0 address of the clockIdentity, port, domain, log interval, sequence, priority1, clockClass, clockAccuracy, traceability,
  currentUtcOffset and its validity, ptpTimescale, timeSource (R66, R67). -/
  | gptpAnnounce (clock port domain : Nat) (log : Int) (seq prio class_ acc : Nat) (traceable : Bool)
      (utc : Int) (utcValid ptpTimescale : Bool) (timeSource : Nat)
  /-- A lease word on LEASE-OUT (R427). -/
  | lease (word : Nat)
  /-- The mirror of a tick (R435); a standby's reply to one, the header alone (R444). -/
  | mirror (m : Mirror)
  /-- What the refill slices have brought, with the mirror that carries the last of it (R438). -/
  | refill (r : Refill)
  /-- A gratuitous ARP on an Ethernet port (R432). -/
  | arp (port : Nat)
  /-- A write on a camera's control channel: stream, device, register, bytes (R371). -/
  | i2c (stream dev reg : Nat) (data : Bytes)
  /-- The TPULSE output's rising edge, with its width in µs (R348). -/
  | pulse (us : Nat)
  /-- A frame passed to the application interface of an Ethernet port (R418). -/
  | toApp (port : Nat) (data : Bytes)
  /-- An access fault on an application core, with the byte offset of the write that was blocked (R27). -/
  | accessFault (core offset : Nat)
  /-- An Ethernet frame: the service layer's answers to ARP and ICMP echo (R418). -/
  | eth (port : Nat) (data : Bytes)
  deriving DecidableEq, Repr

/-- Work units, engines and captures (R49–R51). -/
structure TickSt where
  /-- Units that completed, overran or were skipped in this tick. -/
  ran : List Nat := []
  /-- Units that completed a run in this tick. -/
  made : List Nat := []
  /-- A capture was late in this tick (R50). -/
  late : Bool := false
  /-- Consecutive overruns by unit. -/
  consec : Sparse Nat := []
  /-- Units faulted by overruns. -/
  faulted : List Nat := []
  /-- Overruns within the last 4000 ticks: tick, engine, count. -/
  window : List (Nat × Nat × Nat) := []
  /-- Engines restarted and waiting for T4000/0 (R51). -/
  restarting : List Nat := []
  /-- By engine, the first tick in which its restart may start it: the one after the write. -/
  restartAt : Sparse Nat := []
  /-- Application writes stalled in this tick (R47). -/
  stalled : List Stalled := []
  /-- Areas that the application has written in this tick (R47). -/
  wrote : List Nat := []
  /-- Slots whose run under way has changed their state, as they stood before it (R49). -/
  undo : List (Nat × FlSt) := []
  /-- Values, strings and entries as they stood before the capture phase of this tick (R50). -/
  prior : Sparse Nat × Sparse Bytes × Sparse Entry := ([], [], [])
  deriving DecidableEq, Repr

/-- Module time (R53–R63). -/
structure TimeSt where
  /-- The keep-alive counter of D0 is valid (R54). -/
  d0Valid : Bool := false
  /-- The measured |e| that D0 holds, ns, with the tick of its measurement. -/
  d0Err : Option (Nat × Nat) := none
  /-- Measured error at the latest epoch, module time minus GPS system time, ns. -/
  err : Int := 0
  /-- TRACKING: the tick since which |e| has stayed at 100 ns or less. -/
  lockSince : Option Nat := none
  /-- Tick of the latest valid, not excluded time solution. -/
  lastSol : Nat := 0
  /-- Tick in which HOLDOVER was entered. -/
  holdSince : Nat := 0
  /-- The measured |e|, ns, at its entry (R347). -/
  entry : Nat := 0
  /-- HOLDOVER: first epoch of the present run of valid solutions. -/
  holdValid : Option Nat := none
  /-- The step window is open, and the tick in which it opened (R56). -/
  window : Option Nat := none
  /-- A step at the end of this tick: the index of the next tick (R58). -/
  step : Option Nat := none
  /-- The slew rate for the next tick, ns/s (R61). -/
  slewNext : Int := 0
  /-- Enables held while the window is open (R57): the objects written. -/
  held : List Nat := []
  /-- GPS time minus UTC from the navigation data, once received (R66). -/
  utc : Option Int := none
  deriving DecidableEq, Repr

/-- The gPTP grandmaster (R65–R70): the settings in force and what each port sent last. -/
structure GptpSt where
  ports : Nat := 7
  domain : Nat := 0
  syncLog : Int := -3
  announceLog : Int := 0
  priority1 : Nat := 246
  lastSync : Sparse Nat := []
  lastAnnounce : Sparse Nat := []
  /-- The next sequence number of each port's Sync and Announce messages. -/
  seqSync : Sparse Nat := []
  seqAnnounce : Sparse Nat := []
  /-- The E0 address of the module with PAIR-ID 0, as the module with PAIR-ID 1 has it from a mirror (R432). -/
  clock : Option Nat := none
  deriving DecidableEq, Repr

/-- A request a session has executed: its transaction number and its answer, none while executing (R107). -/
structure Cached where
  txn : Nat
  ans : Option (Nat × Bytes)
  /-- Held in the mirror of another module's cache: answered DONE_ELSEWHERE (R117). -/
  elsewhere : Bool := false
  /-- Duplicates that arrived while it was executing (R109). -/
  dups : Nat := 0
  deriving DecidableEq, Repr

/-- An open session (R81, R82, R106, R107). -/
structure Session where
  num : Nat
  level : Nat
  transport : Transport
  source : Nat
  /-- Tick of the latest request. -/
  last : Nat
  newest : Option Nat := none
  cache : List Cached := []
  /-- Requests waiting behind one that executes, as messages (R106). -/
  waiting : List MdpMsg := []
  deriving DecidableEq, Repr

/-- A CAN message under reassembly (R111). -/
structure Reasm where
  client : Nat
  next : Nat
  bytes : Bytes
  last : Nat
  deriving DecidableEq, Repr

/-- One copy of a credential in the credentials region (R84): sequence, salt, hash, and the two bytes of its CRC-16. -/
structure CredCopy where
  seq : Nat
  salt : Bytes
  hash : Bytes
  crc : Bytes
  deriving DecidableEq, Repr

/-- The dictionary server (R81–R85, R101–R117). -/
structure DictSt where
  sessions : List Session := []
  /-- Sessions of a standby's own SVC port and loopback path, and the number assigned to the latest (R114). -/
  local_ : List Session := []
  localNum : Nat := 0
  /-- The number assigned last (R81). -/
  lastNum : Nat := 0
  /-- Numbers assigned since the latest wrap are those up to lastNum; assigned numbers still open are skipped. -/
  queue : List MdpMsg := []
  /-- Messages served in this tick (R102). -/
  served : Nat := 0
  reasm : List Reasm := []
  /-- Ticks of the credential mismatches of the last 60 s (R83). -/
  fails : List Nat := []
  /-- Transport of the latest mismatch. -/
  failTransport : Nat := 0
  /-- Tick at which the lockout began. -/
  lockout : Option Nat := none
  /-- The two copies of the level-1 and level-2 credentials; none = as manufactured (R84). -/
  cred1 : Option CredCopy × Option CredCopy := (none, none)
  cred2 : Option CredCopy × Option CredCopy := (none, none)
  /-- The indices that the OEM application has registered (R80). -/
  oem : List Nat := []
  /-- Transport settings in force: MDP_CAN_CTRL, MDP_CAN_BASE, MDP_NODE, MDP_UDP_PORTS, MDP_UDP_PORT,
  MDP_SEG_TIMEOUT (R113). -/
  can : Nat := 255
  base : Nat := 0x1F800000
  node : Nat := 1
  udpPorts : Nat := 8
  udpPort : Nat := 48300
  segTimeout : Nat := 400
  deriving DecidableEq, Repr

/-- A settings area (R86): the 32 bytes of its header, and the values that its content holds. -/
structure SetArea where
  head : Bytes := List.replicate 32 0
  vals : Sparse Nat := []
  strs : Sparse Bytes := []
  deriving DecidableEq, Repr

/-- A store in progress or deferred (R88, R89): the group (0 = all), the step reached, the tick in which it
began, its snapshot, and the request to answer. -/
structure StoreRun where
  group : Nat
  step : Nat
  began : Nat
  vals : Sparse Nat
  strs : Sparse Bytes
  req : Option Req
  deriving DecidableEq, Repr

/-- The settings areas and the store command (R86–R95). -/
structure StoreSt where
  areaA : SetArea := {}
  areaB : SetArea := {}
  /-- The area in force: false SET-A, true SET-B. -/
  inForce : Option Bool := none
  run : Option StoreRun := none
  deferred : Option StoreRun := none
  deriving DecidableEq, Repr

/-- An impact in progress: the µs of its start, its energy so far and its peak (R223). -/
structure Impact where
  start : Nat
  energy : Rat
  peak : Rat
  deriving DecidableEq, Repr

/-- One loss-sensor input (R222–R227): the detector works since the latest boundary; the samples of the tick under way
taken so far; the states of the high-pass and of the low-pass and the envelope, binary64; the impact in progress, the µs
until which none starts, and what the window under way has gathered. -/
structure LsSt where
  on : Bool := false
  got : Nat := 0
  hp : Nat × Nat := (0, 0)
  lp : Nat × Nat := (0, 0)
  env : Nat := 0
  impact : Option Impact := none
  /-- The instant of the sample that ended the latest impact, µs; dead time runs from it (R223). -/
  last : Option Nat := none
  count : Nat := 0
  energy : Rat := 0
  peak : Rat := 0
  hist : List Nat := List.replicate 16 0
  forced : Bool := false
  /-- A sample at full scale in the window. -/
  full : Bool := false
  /-- A change of filter, gain or decay waits for the boundary after this tick (R225). -/
  restart : Option Nat := none
  restarted : Bool := false
  deriving DecidableEq, Repr

/-- A comparator (R228): what the thresholds give, the level without the pulses that it ignores (none before the first
window), and the instant, ns of module time, since which the two have differed. -/
structure CmpSt where
  out : Bool := false
  level : Option Bool := none
  since : Nat := 0
  deriving DecidableEq, Repr

/-- One universal input (R228–R236). -/
structure UiSt where
  /-- A restart waits for the boundary after this tick (R221, R229). -/
  restart : Option Nat := none
  /-- UI_MODE and UI_THRESH in force in the window under way; mode 0 has no window (R221). -/
  mode : Nat := 0
  thresh : Nat := 0
  /-- The value as measured in the latest window. -/
  raw : Nat := 0
  cmp : CmpSt := {}
  /-- The edge count or the quadrature position, which UI_COUNT shows of a captured entry. -/
  total : Nat := 0
  /-- Quadrature: the instant, the line (true B) and the step of the latest edge. -/
  turn : Option (Nat × Bool × Int) := none
  /-- The filter state, none while it awaits its seed. -/
  y : Option Nat := none
  /-- The tick from which entries are settling (R229). -/
  settle : Option Nat := none
  /-- Consecutive windows above 25 mA, and the tick of the shunt's disconnection (R232). -/
  overC : Nat := 0
  shunt : Option Nat := none
  /-- Windows in a row whose level differs from UI_ENG, and that level (R233). -/
  diff : Nat := 0
  level : Bool := false
  /-- The tick whose entry took the level at once. -/
  seeded : Option Nat := none
  /-- Rising edges of the last 4000 windows, module time in ns, oldest first; the last two edges (R234). -/
  edges : List Nat := []
  e1 : Option Nat := none
  e2 : Option Nat := none
  /-- Net counts of the last 4000 windows, newest first (R235). -/
  counts : List Int := []
  setTo : Option Int := none
  deriving DecidableEq, Repr

/-- One sensor supply (R238–R240). -/
structure SsSt where
  limit : Nat := 0
  since : Nat := 0
  /-- SS_VOLTAGE as the latest boundary put it in force. -/
  volt : Nat := 0
  /-- The tick from whose boundary a change of voltage settles (R239). -/
  settle : Option Nat := none
  deriving DecidableEq, Repr

/-- Sensing inputs (R218–R244). -/
structure SenseSt where
  ls : Sparse LsSt := []
  ui : Sparse UiSt := []
  ss : Sparse SsSt := []
  deriving DecidableEq, Repr

/-- One load switch channel's state beside its objects (R249–R279). -/
structure ChSt where
  /-- The switch is on, but for a reversed feed, which holds it off (R542). -/
  on : Bool := false
  /-- The thermal latch (R258). -/
  latch : Bool := false
  /-- A layer-2 turn-off in the window under way: current limit, thermal (R259). -/
  offCl : Bool := false
  offTh : Bool := false
  /-- The same for the window of the entry in force. -/
  seenCl : Bool := false
  seenTh : Bool := false
  /-- theta and t_wire, binary64 (R260). -/
  theta : Nat := 0
  wire : Nat := 0
  /-- The last valid demand; the demand taken in the tick before, which applies in this one (R251, R252). -/
  lastValid : Nat := 0
  taken : Nat := 0
  /-- The duty in force, and that of the tick before (R252). -/
  duty : Nat := 0
  lastDuty : Nat := 0
  /-- The PWM period and phase in force, ticks; the tick at whose start the period began, and its on-time, µs (R253). -/
  period : Nat := 0
  phase : Nat := 0
  pwmAt : Nat := 0
  ton : Nat := 0
  /-- The window under way began in the fine range (R255). -/
  fine : Bool := false
  /-- The 150 µA test source is connected (R279). -/
  test : Bool := false
  /-- An off edge awaiting its clamp estimate (R273). -/
  edge : Bool := false
  /-- On-current of the latest on-time since the enable, F32 (R273). -/
  onCurrent : Option Nat := none
  /-- Tick in which the state was entered; ticks with 01h at their start and no trip (R268, R269). -/
  since : Nat := 0
  onTicks : Nat := 0
  /-- The state changed in the tick under way (R266, R271). -/
  changed : Bool := false
  /-- The state that the boundary of the tick under way found (R253, R266). -/
  was : Nat := 0
  /-- The layer-1 decision last applied (R262, R264). -/
  decision : Nat := 0
  /-- Consecutive evaluated ticks with and without each of the four load checks (R277, R279). -/
  below : Nat × Nat := (0, 0)
  above : Nat × Nat := (0, 0)
  openC : Nat × Nat := (0, 0)
  shortC : Nat × Nat := (0, 0)
  /-- Learning: ticks and sum of counts so far; the tick of the write that began it (R278). -/
  learn : Option (Nat × Nat) := none
  learnAt : Nat := 0
  /-- Current before shedding, F32 (R284). -/
  shedCurrent : Nat := 0
  /-- CH_L_LOAD or CH_FREEWHEEL written in the tick under way, and a write in force in it (R75, Table 4). -/
  loadWritten : Bool := false
  loadDue : Bool := false
  /-- A rearm written in the tick under way, and one in force in it (R75, R270). -/
  rearm : Bool := false
  rearmDue : Bool := false
  /-- On-time, µs, and output voltage, F32, of the entry in force. -/
  winOn : Nat := 0
  vout : Nat := 0
  deriving DecidableEq, Repr

/-- One bank's state beside its objects (R280–R286). -/
structure BankSt where
  /-- Mean feed voltages of the previous windows, newest first, at most 16 (R280). -/
  feeds : List Nat := []
  /-- BANK_LOAD in binary64. -/
  load : Nat := 0
  /-- Ticks for which the diagnostics stay suspended. -/
  suspend : Nat := 0
  /-- Consecutive evaluated ticks below BANK_UV_LEVEL, and above it by 0.3 V. -/
  underC : Nat := 0
  overC : Nat := 0
  /-- The latest ticks with a shed, newest first, at most two (R283). -/
  shedAt : List Nat := []
  restoreAt : Option Nat := none
  /-- Channels shed by a dip (R286). -/
  dipShed : List Nat := []
  /-- Only channels of priority 0 remain on at an overload (R285). -/
  only0 : Bool := false
  /-- The tick whose run faulted the fuse decision, until its channels trip (R265). -/
  faultAt : Option Nat := none
  deriving DecidableEq, Repr

/-- The load switches (R245–R291). -/
structure SwSt where
  ch : Sparse ChSt := []
  bank : Sparse BankSt := []
  /-- The tick in which dip shedding was reported, while it is (R286). -/
  dipReported : Option Nat := none
  deriving DecidableEq, Repr

/-- How coil current is lowered (R298): through the recovery diode into the boost rail, or through the freewheel switch to
the group rail. -/
inductive Decay where
  | fast
  | slow
  deriving DecidableEq, Repr

/-- One valve channel's state beside its objects (R300–R321). Instants are in µs: 250 times the tick plus the
offset in it. -/
structure VdSt where
  /-- The state of Table 3 as it stands, but for 09h, which VD_STATE shows during a pair hold (R312, R325); the state,
  the hold target and the regulated target as they stood at the end of the window before (R297, R312, R315). -/
  st : Nat := 0
  last : Nat := 0
  lastTarget : Nat := 0
  lastAim : Nat := 0
  /-- The way in which the stage was opened last, while its current may decay: fast or slow (R298). -/
  decay : Option Decay := none
  /-- The boost in progress runs on FEED-V (R295). -/
  lowBoost : Bool := false
  /-- The last valid demand, F32 (R300); whether the demand in force commands on (R301). -/
  lastValid : Nat := 0
  cmdOn : Bool := false
  /-- The demand source was invalid, and the demand was clamped, when last taken (R300, R301). -/
  srcBad : Bool := false
  clamped : Bool := false
  /-- The proportional demand in force, F32. -/
  demand : Nat := 0
  /-- An event waiting for its instant, with the injector length, µs (R302, R307). -/
  event : Option (Nat × Option Nat) := none
  /-- A rearm that takes effect at the next boundary (R75, R321). -/
  rearm : Bool := false
  /-- Stamp of the injector entry taken last. -/
  taken : Option Nat := none
  /-- Start and length of the injector event in progress; the length of an event held in 07h (R305, R308). -/
  inj : Option (Nat × Nat) := none
  heldLen : Option Nat := none
  /-- Start of the boost; end of the boost, from which the peak time runs; start of the boost wait. -/
  boostAt : Nat := 0
  peakFrom : Nat := 0
  waitFrom : Nat := 0
  /-- The state regulated while a restarted boost waits (R307). -/
  waitIn : Nat := 0
  /-- Instant of the latest switch-off (R308). -/
  offAt : Option Nat := none
  /-- Instant of entry into hold; the hold targets at the ends of the last 40 windows in which the channel was enabled, newest
  first (R315). -/
  holdFrom : Nat := 0
  targets : List Nat := []
  /-- Instant of the enable, from which the dither runs; the setpoint at the start of this tick, F32 (R306). -/
  enabledAt : Nat := 0
  setpoint : Nat := 0
  derate : Bool := false
  /-- t_w and t_b, binary64 (R314). -/
  tw : Nat := 0
  tb : Nat := 0
  /-- The mean square current of the latest entry, F32. -/
  sq : Nat := 0
  /-- Windows in a row: hold below 50 mA at full duty; low pin low; low pin high (R319, R320). -/
  openC : Nat := 0
  pinC : Nat := 0
  pinHigh : Nat := 0
  /-- VD_STATUS bits 1 to 4 of the window under way; bit 6. -/
  flags : Nat := 0
  openOff : Bool := false
  /-- VD_FAULT, VD_EVENTS, VD_RETRIGS, VD_HELD, VD_BOOST_US, VD_WAIT_US as they stand; the next entry shows them. -/
  fault : Nat := 0
  events : Nat := 0
  retrigs : Nat := 0
  held : Nat := 0
  boostUs : Nat := 0
  waitUs : Nat := 0
  deriving DecidableEq, Repr

/-- The valve drive (R292–R327). -/
structure ValveSt where
  vd : Sparse VdSt := []
  /-- FEED-V means of the previous windows, newest first (R320); ticks of suspension left. -/
  feeds : List Nat := []
  suspend : Nat := 0
  /-- BST_STATE and BST_LOW_STARTS as they stand; the next entry shows them. -/
  bst : Nat := 0
  lowStarts : Nat := 0
  /-- Groups whose rearm takes effect at the next boundary (R75, R321). -/
  hgRearm : List Nat := []
  /-- The tick in which the boost converter started, while it has not reached 40 V; the tick of its failure. -/
  bstStart : Option Nat := none
  bstFail : Option Nat := none
  deriving DecidableEq, Repr

/-- An antenna supply (R328): on; ticks in limit; ticks below 2 mA; the tick of its turn-off. -/
structure AntSt where
  on : Bool := false
  limit : Nat := 0
  low : Nat := 0
  offAt : Option Nat := none
  deriving DecidableEq, Repr

/-- The gain of one band on one antenna (R329, R350): sum and number of the nominal mean, the last 41 values,
newest first, ticks continuously below. -/
structure AgcSt where
  sum : Rat := 0
  n : Nat := 0
  hist : List Rat := []
  below : Nat := 0
  deriving DecidableEq, Repr

/-- What an exclusion covers (R350). -/
inductive Excluded where
  | band (ant band : Nat)
  | signal (ant sig : Nat)
  | sigSat (sig sat : Nat)
  | sat (sys sat : Nat)
  | bandBoth (band : Nat)
  deriving DecidableEq, Repr

/-- An exclusion in force: the check, what it covers, the epoch of the latest failure. -/
structure Exclusion where
  check : Nat
  what : Excluded
  last : Nat
  deriving DecidableEq, Repr

/-- The GNSS baseband and the position engine (R328–R354). -/
structure GnssSt where
  /-- Signal masks and the epoch rate in force (R331, R333). -/
  maskA : Nat := 0x3FFFF
  maskB : Nat := 0x3FFFF
  rate : Nat := 4
  /-- Ticks from which newly enabled signals are tracked, by 32 × antenna + signal (R331). -/
  lockFrom : Sparse Nat := []
  /-- The settings of Table 17 as they stood at the latest epoch, INT_CHECKS to INT_CLEAR (R351). -/
  intCfg : List Nat := [0x3F, 0x40C00000, 0x42300000, 0x3FC00000, 0x3F800000, 0x40A00000, 0x447A0000, 0x3D4CCCCD, 5, 5, 240000]
  /-- First epoch of a unit that GNSS_ENABLE lets run again (R558). -/
  resume : Sparse Nat := []
  ants : Sparse AntSt := []
  agc : Sparse AgcSt := []
  /-- The measurements of the latest epoch, and its tick. -/
  meas : List RawMeas := []
  epoch : Option Nat := none
  /-- TIME_OFFSET_US and TIME_STATE at the latest epoch tick (R336). -/
  epochTime : Nat × Nat := (0, 0)
  /-- The receiver clock bias of each constellation used in the latest solution, by system (R338). -/
  bias : List (Nat × Int) := []
  /-- The record ring: slot to its 128 bytes; the newest sequence of this start (R334, R335). -/
  ring : Sparse Bytes := []
  head : Option Nat := none
  /-- The last heading of source 01h or 02h, degrees (F32), and the run tick that produced it (R340). -/
  hdg : Option (Nat × Nat) := none
  /-- Stamps of the correction areas taken last; the tick of the newest usable base correction (R343). -/
  corrTaken : List (Option Nat) := [none, none]
  corrAt : Option Nat := none
  /-- The time solution of the latest run: e, ns, and the run tick (R346). -/
  timeSol : Option (Int × Nat) := none
  /-- The previous e and its tick (R350 check 4). -/
  prevErr : Option (Int × Nat) := none
  /-- Consecutive failures of checks 1 (by 32 × antenna + signal) and 5 (by signal). -/
  cn0Fails : Sparse Nat := []
  phaseFails : Sparse Nat := []
  /-- Code minus carrier of the last second, and code differences of the last epoch, by their keys. -/
  ccd : List (Nat × Nat × Rat) := []
  ifc : List (Nat × Rat) := []
  excl : List Exclusion := []
  /-- Alarms in force: check and epoch of the latest failure. -/
  alarms : List (Nat × Nat) := []
  caution : Option Nat := none
  /-- The time output settings in force: TP_ENABLE, TP_PERIOD, TP_WIDTH, TP_STATES, TM_CAN, TM_CAN_ID,
  TM_UDP_PORTS, TM_UDP_DEST (R349). -/
  tm : List Nat := [1, 4000, 1000, 0x1C, 0xFF, 0x1F600000, 0, 48310]
  /-- Tick of the latest pulse, and of the latest time message. -/
  pulseAt : Option Nat := none
  messageAt : Option Nat := none
  deriving DecidableEq, Repr

/-- The values of a shadow set as a commit takes them (R367), with its number. -/
structure ShadowSet where
  num : Nat := 0
  black : List Nat := []
  defect : Nat := 0
  ccm : List Nat := []
  gamma : Nat := 0x400CCCCD
  crop : Nat × Nat × Nat × Nat := (0, 0, 0, 0)
  focus : Nat × Nat × Nat × Nat := (0, 0, 0, 0)
  cls : Nat × Nat × Nat × Nat := (0, 0, 0, 0)
  table : Bytes := []
  deriving DecidableEq, Repr

/-- A frame that is open (R359–R361): what its start fixed and the lines received so far, each with its samples
shifted to 12 bits and whether it is an error line. -/
structure OpenFrame where
  number : Nat
  csi : Nat
  tick : Nat
  start : Nat
  buf : Nat
  set : ShadowSet
  tag : Nat
  nack : Bool
  focusPos : Nat
  lines : List (List Nat × Bool) := []
  dropped : Nat := 0
  deriving DecidableEq, Repr

/-- A frame buffer: bytes 0–3, and the rest of the record and the lines (R364). -/
structure FrameBuf where
  number : Nat := 0xFFFFFFFF
  record : Bytes := []
  lines : List Bytes := []
  deriving DecidableEq, Repr

/-- A statistics slot: its sequence field and its other bytes (R374). -/
structure StatSlot where
  seq : Nat := 0xFFFFFFFF
  body : Bytes := []
  deriving DecidableEq, Repr

/-- An exposure or focus write that went out: the frame from which it is in force (counted since the enable), its
tag or position, whether it was not acknowledged (R371). -/
structure CamWrite where
  from_ : Nat
  val : Nat
  nack : Bool
  deriving DecidableEq, Repr

/-- What focus control reads of a statistics record (R376). -/
structure FocusRec where
  sum : Nat
  pixels : Nat
  valid : Bool
  pos : Nat
  deriving DecidableEq, Repr

/-- The focus climb (R376): direction (true upward), step, best measure and position, locked measure. -/
structure FocusSt where
  up : Bool := true
  step : Nat := 0
  best : Rat := 0
  bestPos : Nat := 0
  lock : Rat := 0
  /-- A position waits to be sent; records since the previous run, newest first. -/
  send : Bool := false
  recs : List FocusRec := []
  deriving DecidableEq, Repr

/-- One stream (R355–R377). -/
structure StreamSt where
  /-- Frames accepted since the enable, the instant of the latest, ns, and the open one. -/
  frames : Nat := 0
  lastStart : Option Nat := none
  frame : Option OpenFrame := none
  /-- The tick of the latest line or frame start. -/
  lineAt : Nat := 0
  bufs : List FrameBuf := [{}, {}, {}]
  /-- Buffers that completed a frame since the enable, the latest first; the buffer held. -/
  done : List Nat := []
  last : Option Nat := none
  held : Option Nat := none
  holdTaken : Option Nat := none
  /-- The number assigned last, the set in force, a commit served and the tick, a commit that has completed and
  the instant, ns. -/
  setNum : Nat := 0
  force : Option ShadowSet := none
  served : Option (ShadowSet × Nat) := none
  waiting : Option (ShadowSet × Nat) := none
  /-- Statistics: the ring, the next sequence, and the histograms of the frames that count for the estimates with
  their start ticks, newest first. -/
  ring : Sparse StatSlot := []
  seq : Nat := 0
  hist : List (Nat × List Nat) := []
  /-- Dictionary requests served and not yet taken, in their order; the request taken and not yet sent: lines, gain, tag. -/
  asked : List (Nat × Nat × Nat) := []
  request : Option (Nat × Nat × Nat) := none
  expTaken : Option Nat := none
  /-- Writes that went out, newest first. -/
  exps : List CamWrite := []
  focs : List CamWrite := []
  focus : FocusSt := {}
  deriving DecidableEq, Repr

/-- Imaging (R355–R380): the streams, for each port the tick of its latest try to train, and the ports that try: since their
enable, or since a try after the link was lost. -/
structure ImgSt where
  streams : Sparse StreamSt := []
  tried : Sparse Nat := []
  trying : List Nat := []
  deriving DecidableEq, Repr

/-- A slot of a receive ring: its sequence, and bytes 4–79 (R390). -/
structure RxSlot where
  seq : Nat := 0xFFFFFFFF
  body : Bytes := List.replicate 76 0
  deriving DecidableEq, Repr

/-- A module frame in a queue: the frame, whether it is a state frame, and the ISO send slot that is done when it
is sent (R404, R413). -/
structure ModFrame where
  frame : CanFrame
  state : Bool
  slot : Option Nat := none
  deriving DecidableEq, Repr

/-- A transmit buffer (R397–R403): 0 empty, 1 pending, 2 on the bus; its frame; single shot; the stamp of the load,
and of a cancel that waits for the frame's end; the result, its stamp and the start of the frame sent. -/
structure TxBuf where
  st : Nat := 0
  frame : Option CanFrame := none
  single : Bool := false
  stamp : Nat := 0
  cancel : Option Nat := none
  slot : Option Nat := none
  seen : Option Nat := none
  result : Nat := 0
  resStamp : Nat := 0
  sof : Nat := 0
  deriving DecidableEq, Repr

/-- One CAN controller (R381–R407): 0 off the bus, 2 waiting for 11 recessive bits, 3 on the bus. -/
structure CanSt where
  join : Nat := 0
  leave : Bool := false
  ring : Sparse RxSlot := []
  next : Nat := 0
  newest : Nat := 0xFFFFFFFF
  epoch : Nat := 0
  /-- Valid frames that wait for DRAM, with the time of their start (R394). -/
  wait : List (CanFrame × Nat × Bool) := []
  bufs : List TxBuf := [{}, {}, {}]
  queue : List ModFrame := []
  /-- Sequence frames whose sender waits for room in the queue (R404). -/
  later : List ModFrame := []
  /-- CAN_ERR_STATE, CAN_TEC, CAN_REC and CAN_LEC as they stand. -/
  err : Nat := 0
  tec : Nat := 0
  rec_ : Nat := 0
  lec : Nat := 0
  /-- Recovery begins at the next boundary. -/
  recover : Bool := false
  deriving DecidableEq, Repr

/-- A transport session in which the module sends (R413): extended; destination; parameter group; data; the next
packet; for a broadcast, the tick of its next packet. -/
structure TpTx where
  ext : Bool
  dest : Nat
  pgn : Nat
  data : Bytes
  next : Nat := 1
  bamAt : Option Nat := none
  /-- The tick at which the wait for the peer times out (R411). -/
  due : Nat := 0
  deriving DecidableEq, Repr

/-- A transport session in which the module receives (R414). -/
structure TpRx where
  ext : Bool
  bam : Bool
  src : Nat
  dest : Nat
  prio : Nat
  pgn : Nat
  size : Nat
  max_ : Nat
  got : Bytes := []
  next : Nat := 1
  /-- The last packet of the block asked for; the offset of an extended block. -/
  last : Nat := 0
  offset : Nat := 0
  due : Nat := 0
  deriving DecidableEq, Repr

/-- The ISO 11783 node (R411–R416); ISO_STATE, ISO_ADDR stand in their objects. -/
structure IsoSt where
  claimAt : Nat := 0
  addr : Nat := 0xFE
  /-- Other nodes' addresses, as their claims say. -/
  taken : List Nat := []
  /-- Send sessions by slot, 8 for DM1; the stamps of the slots taken last; the results. -/
  tx : Sparse (Option TpTx) := []
  seen : Sparse Nat := []
  results : Sparse Nat := []
  rx : List TpRx := []
  /-- The receive ring by slot, its newest sequence and the next one (R414). -/
  ring : Sparse Bytes := []
  head : Option Nat := none
  seq : Nat := 0
  /-- The content of the latest DM1, and the one-second period of the latest regular and the latest extra one. -/
  dm1 : Bytes := []
  dm1At : Option Nat := none
  dm1Extra : Option Nat := none
  deriving DecidableEq, Repr

/-- An Ethernet port's settings in force: enabled, T1 role, address, mask (R418). -/
structure EthSt where
  on : Bool := false
  role : Nat := 1
  ip : Nat := 0
  mask : Nat := 0xFFFFFF00
  deriving DecidableEq, Repr

/-- A transmission that goes out at the next tick boundary: a module state frame, or a UDP datagram (R349, R409). -/
inductive Staged where
  | can (ctrl : Nat) (f : CanFrame)
  | udp (port dest : Nat) (data : Bytes)
  deriving DecidableEq, Repr

/-- CAN buses and Ethernet (R381–R420). -/
structure NetSt where
  can : Sparse CanSt := []
  iso : IsoSt := {}
  eth : Sparse EthSt := []
  staged : List Staged := []
  /-- The heartbeat settings in force: HB_PERIOD, HB_PHASE, HB_CAN, HB_CAN_ID, HB_UDP_PORTS, HB_UDP_DEST; the
  next counter and the tick of the latest heartbeat (R409). -/
  hb : List Nat := [400, 3, 0, 0x1F400000, 0, 48320]
  hbNext : Nat := 0
  hbAt : Option Nat := none
  deriving DecidableEq, Repr

/-- One path of the lease (R427, R430, R445). -/
structure PathSt where
  /-- The newest partner promise, and the tick of the newest valid word or frame. -/
  promise : Option Nat := none
  word : Option Nat := none
  /-- Consecutive ticks, as a standby, in which the path has been expired. -/
  expired : Nat := 0
  /-- The tick from which words have come without a gap of 40 ticks. -/
  okSince : Option Nat := none
  fault : Bool := false
  deriving DecidableEq, Repr

/-- The redundant pair (R421–R452). -/
structure PairSt where
  /-- The state of Table 2, as it stands (R424), and the state entered at the next boundary (R441, R446). -/
  state : Nat := 0
  next : Option Nat := none
  /-- Pair operation is in force since this start, with the settings of the start (R422, R428, R433). -/
  inForce : Bool := false
  lease : Nat := 8
  holdLimit : Nat := 64
  can : Nat := 255
  canId : Nat := 0x100
  canUsed : Bool := false
  /-- The lease lines, P, the CAN path. -/
  line : PathSt := {}
  p : PathSt := {}
  canPath : PathSt := {}
  /-- Newest partner word: its role, HOLDOVER and health bits, PAIR-ID; the tick of the newest with role 00b to 10b. -/
  role : Option Nat := none
  holdover : Bool := false
  health : Bool := false
  partnerId : Nat := 0
  seen : Option Nat := none
  /-- Consecutive ticks with role 10b seen, and the latest of them (R446). -/
  actives : Nat := 0
  activeAt : Option Nat := none
  /-- Own newest promise (R426), and whether it is a handover's. -/
  promise : Nat := 0
  handover : Bool := false
  /-- The promise that stood at the start of this tick, before a new one (R428). -/
  promised : Nat := 0
  /-- The hold: the tick in which it began; a partner word that ends it was decoded (R429, R433). -/
  hold : Option Nat := none
  holdEnd : Bool := false
  /-- A planned switchover: the tick at whose start this module's outputs are released (R441). -/
  releaseAt : Option Nat := none
  /-- Tick s+2 of a planned switchover, which counts it (Table 8). -/
  swapAt : Option Nat := none
  /-- Operating time with the standby in 03h, ticks (R442). -/
  operTicks : Nat := 0
  overdue : Bool := false
  /-- Ticks of the latest late and the latest complete mirror. -/
  lastLate : Option Nat := none
  lastMirror : Option Nat := none
  /-- A receiver test: the receiver that serves (0 A, 1 B), the tick of its start, and whether the path has been valid
  since (R449). -/
  rxTest : Option (Nat × Nat) := none
  /-- Tick since which the time difference has exceeded the limit; its disagreement was reported (R440). -/
  timeOff : Option Nat := none
  timeSeen : Bool := false
  /-- Mirrors received and not yet replayed (R437, R438). -/
  replay : List Mirror := []
  /-- In 02h: the refill and its replay are complete, with the STORE_SEQ of the active, and the next check code is awaited
  (R438); whether a mirror has come since the filling began, and the slots whose state has come with one (R432). -/
  filled : Option Nat := none
  gotMirror : Bool := false
  got : List Nat := []
  /-- On the active: the refill under way, with the bytes of it sent (R438). -/
  refill : Option (Refill × Nat) := none
  /-- Dictionary slice used in this tick, bytes, and what it holds (R436, R439). -/
  slice : Nat := 0
  writes : List (Nat × Bytes) := []
  /-- The tick from which joining counts (R425). -/
  quiet : Nat := 0
  /-- The last tick boundary at which the partner applied computed outputs, as its promises tell (R431). -/
  lastApplied : Nat := 0
  /-- The tick index that the next boundary takes from the active (R440). -/
  follow : Option Nat := none
  /-- The partner application's entry, captured at the next boundary (R439). -/
  appIn : Option AppWrite := none
  /-- A gratuitous ARP and an address claim are due in the tick after a takeover (R432). -/
  announce : Bool := false
  deriving DecidableEq, Repr

/-- An access vote: the client, the domain and the tick of the client's last access (R463). -/
structure AccessVote where
  client : Nat
  dom : Nat
  last : Nat
  deriving DecidableEq, Repr

/-- Power domains and supply supervision (R453–R476). -/
structure PwrSt where
  /-- The application's votes in force, by domain (R460). -/
  app : Sparse Nat := []
  access : List AccessVote := []
  /-- The accepted level of WAKE, and the tick boundary from which its hold counts after it went low (R461). -/
  wake : Bool := false
  wakeLow : Option Nat := none
  /-- The external-wake votes are placed. -/
  wakeVote : Bool := false
  /-- Domains on at the active, as the newest mirror header says (R462). -/
  partnerOn : Nat := 0
  /-- The state that a transition under way leads to, by domain; off to retention passes through on (R455). -/
  goal : Sparse Nat := []
  /-- Duration so far of a transition in two parts, µs (R455). -/
  part : Sparse Nat := []
  /-- The first tick at which a domain that has reached a state may begin another transition (R465). -/
  settled : Sparse Nat := []
  /-- Domains holding retained check codes (R467). -/
  codes : List Nat := []
  /-- The dip under way: its first tick and its lowest sample (R471). -/
  dip : Option (Nat × Nat) := none
  /-- The feeds whose fall below 5.5 V has been recorded (R473). -/
  feedLow : Nat := 0
  deriving DecidableEq, Repr

/-- An event as a block reports it (R478). -/
structure Event where
  src : Nat
  code : Nat
  payload : Bytes
  /-- The tick within the second, FFFFh before the first tick (Table 1). -/
  sub : Nat
  deriving DecidableEq, Repr

/-- A record in the recorder's queue: its 32 bytes; whether it is a clear record (R489). -/
structure Queued where
  seq : Nat
  code : Nat
  bytes : Bytes
  deriving DecidableEq, Repr

/-- A flood window of one pair of source and code (R485). -/
structure Flood where
  src : Nat
  code : Nat
  began : Nat
  count : Nat
  suppressed : Nat
  deriving DecidableEq, Repr

/-- The event recorder (R477–R491). -/
structure RecSt where
  /-- Events reported and not yet in the queue. -/
  reported : List Event := []
  queue : List Queued := []
  /-- The region: record number to its 32 bytes; an unlisted record reads all zero. -/
  region : Sparse Bytes := []
  nextSeq : Nat := 0
  keptUsed : Nat := 0
  /-- The next record of the circulating region to write. -/
  circPos : Nat := 8192
  floods : List Flood := []
  /-- Events lost since the latest 0001h record: number and tick of the first. -/
  lost : Option (Nat × Nat) := none
  spillMarked : Bool := false
  opSeconds : Nat := 0
  powerCycles : Nat := 0
  startPhase : Bool := true
  recoverySince : Option Nat := none
  /-- The circulating records served are those at or after this sequence (R489). -/
  circFrom : Option Nat := none
  /-- Tick of the latest time mark. -/
  markAt : Option Nat := none
  queuePeak : Nat := 0
  crcBad : Nat := 0
  deriving DecidableEq, Repr

/-- The fields of the update state record (R496, Table 4). -/
structure UpdRec where
  seq : Nat := 0
  state : Nat := 0
  result : Nat := 0
  /-- Slot of the new image: false A, true B. -/
  newSlot : Bool := true
  /-- Settings area of the new format: false SET-A, true SET-B. -/
  newArea : Bool := false
  package : Nat := 0
  oldRelease : Nat := 0
  newRelease : Nat := 0
  actTick : Nat := 0
  proofSeconds : Nat := 0
  proofStarts : Nat := 0
  badStarts : Nat := 0
  floor : Nat := 0
  cause : Nat := 0
  deriving DecidableEq, Repr

/-- An image slot of the flash (R30): the release it holds, the settings format it writes, the payloads of its
image, the rollback floor of its manifest, the code banks it marks in D3 and D4 (R468). -/
structure ImageSlot where
  present : Bool := false
  release : Nat := 0
  fmt : Nat := 0
  floor : Nat := 0
  image : Sparse Bytes := []
  deriving DecidableEq, Repr

/-- The accepted manifest (R494). -/
structure Manifest where
  n : Nat
  m : Nat
  imageLen : Nat
  fmt : Nat
  release : Nat
  floor : Nat
  key : Nat
  hashes : List Bytes
  deriving DecidableEq, Repr

/-- How a verification ended, to be carried out (R503). -/
inductive VerifyEnd where
  | ready
  /-- Hash groups that do not match. -/
  | receiving (bad : List Nat)
  | rejected (code : Nat)
  deriving DecidableEq, Repr

/-- The field update (R493–R517). The update state region (Table 3) holds two copies of the update state record and of
the slot selector, and the records of keys 1–3, all as bytes with their CRC-16; no copy is written at manufacture (log
entry 82). The image in slot A is of release 04000000h: R3 leaves it to the image (DESIGN CHOICE, log entry 7). -/
structure UpdSt where
  /-- What S has read of the region at the start, and writes back to it (R496, R497): the record, and the slot that the
  selector names, false A, true B. -/
  rec_ : UpdRec := {}
  sel : Bool := false
  /-- The slot whose image runs since the start, false A, true B (R525). -/
  run : Bool := false
  recA : Bytes := []
  recB : Bytes := []
  selA : Bytes := []
  selB : Bytes := []
  slotA : ImageSlot := { present := true, release := 0x04000000 }
  slotB : ImageSlot := {}
  /-- Key number to its 64-byte record (R495, Table 3). -/
  keys : Sparse Bytes := []
  /-- Wafers held: index to CRC-32C plus 1 (R499). -/
  held : Sparse Nat := []
  /-- The staging region: wafer index to payload. -/
  staging : Sparse Bytes := []
  /-- Groups verified during download. -/
  groups : List Nat := []
  manifest : Option Manifest := none
  verify : Option VerifyEnd := none
  /-- Ticks in a row in which UPD_PARKED_SRC read true and valid (R505). -/
  parked : Nat := 0
  /-- The tick of the latest proofing second (R511). -/
  secondAt : Option Nat := none
  /-- No settings area was in force at the activation, so the migration gives the defaults (R508; log entry 57). -/
  noOld : Bool := false
  /-- A fallback is in progress (R513). -/
  falling : Bool := false
  /-- The old image starts or runs after a fallback, and its first T4000/0 tick is still to come (R513). -/
  fellBack : Bool := false
  deriving DecidableEq, Repr

/-- Reset and start (R518–R526). -/
structure StartSt where
  /-- Ticks of the D0 oscillator since the reset was entered, and ticks for which the supply has stayed at or
  above 5.8 V (R521). -/
  ticks : Nat := 0
  supplyOk : Nat := 0
  /-- Ticks since the reset was released. -/
  since : Nat := 0
  /-- D0 was kept over the present reset. -/
  d0Kept : Bool := false
  /-- Ticks since the first tick. -/
  up : Nat := 0
  due : Option ResetDue := none
  /-- The cause of the reset under way, and whether this start migrated settings (R508, R521). -/
  cause : Nat := 1
  migrated : Bool := false
  /-- Ticks for which S has not served the D0 watchdog (R518). -/
  watchdog : Nat := 0
  deriving DecidableEq, Repr

/-- The state of the module. -/
structure State where
  phase : Phase := .reset
  /-- The tick index k (R11, R53). -/
  k : Nat := 0
  /-- The object dictionary's running values by key (index times 256 plus sub-index), strings and blocks in
  `blob`; an unlisted object holds its default (R14, R71). -/
  obj : Sparse Nat := []
  blob : Sparse Bytes := []
  /-- The values as they stood at the start of the tick, which is what the tick's work reads (R75). -/
  snap : Sparse Nat := []
  snapBlob : Sparse Bytes := []
  /-- Stamps and validity flags of the tick image entries that readers see (R24, R25). -/
  ent : Sparse Entry := []
  /-- Entries written in this tick, seen by readers from the next (R24). -/
  exch : Sparse (Option Written) := []
  /-- The application areas by the key of their …_OFFSET object (R27, R556), and as they stood at the end of the
  tick before, which is what a reader of a command entry sees (R23, R24). -/
  app : Sparse AppArea := []
  app0 : Sparse AppArea := []
  tick : TickSt := {}
  time : TimeSt := {}
  gptp : GptpSt := {}
  dict : DictSt := {}
  store : StoreSt := {}
  /-- Functions with a mode object, by its key (R33, R96). -/
  mode : Sparse ModeRun := []
  led : LedSt := {}
  loop : LoopSt := {}
  sup : SupSt := {}
  path : PathElSt := {}
  gnss : GnssSt := {}
  img : ImgSt := {}
  net : NetSt := {}
  sense : SenseSt := {}
  sw : SwSt := {}
  valve : ValveSt := {}
  pwr : PwrSt := {}
  pair : PairSt := {}
  recd : RecSt := {}
  upd : UpdSt := {}
  start : StartSt := {}
  /-- Number of free values drawn so far: the model's own field (log entry 3). -/
  free : Nat := 0
  /-- What the module has sent in this tick, oldest first: the model's own field (log entry 9). -/
  sent : List Out := []
  /-- The commands that wait, first in first out. -/
  pending : List Instr := []
  deriving DecidableEq, Repr

/-- The machine right after power-on reset (R518, R523): nothing but defaults. -/
def State.reset : State := {}

end Sys2Proof.Machine
end

