-- ==== Sys2Proof/Machine/Ops.lean ====
section
/-! DEFINITION. The named operations over the state: the sparse tables, the object dictionary's values, the tick
image's entries, references, events, check codes, and the run state of functions with a mode object. -/

namespace Sys2Proof.Machine

/-! Sparse tables -/

/-- The value of a key; `d` is what an unlisted key reads as. -/
def Sparse.find {α : Type} (d : Nat → α) : Sparse α → Nat → α
  | [], k => d k
  | (k', v) :: t, k => if k' = k then v else Sparse.find d t k

/-- A table with one value changed: the entries below the key, its own unless an unlisted key reads as that value, the
entries above it. -/
def Sparse.put {α : Type} [DecidableEq α] (d : Nat → α) (m : Sparse α) (k : Nat) (v : α) : Sparse α :=
  m.filter (fun p => p.1 < k) ++ ((if v = d k then [] else [(k, v)]) ++ m.filter fun p => k < p.1)

/-- The canonical form: strictly rising keys, no listed value that an unlisted key reads as. -/
abbrev Sparse.wf {α : Type} (d : Nat → α) (m : Sparse α) : Prop :=
  m.Pairwise (fun a b => a.1 < b.1) ∧ ∀ p ∈ m, p.2 ≠ d p.1

/-- A number that counts something at a tick moved with the ticks. -/
def moved (d : Int) (t : Nat) : Nat := ((t : Int) + d).toNat

/-- A table's values changed; a value that an unlisted key reads as is not listed. -/
def Sparse.mapVals {α : Type} [DecidableEq α] (d : Nat → α) (f : α → α) (m : Sparse α) : Sparse α :=
  (m.map fun p => (p.1, f p.2)).filter fun p => p.2 ≠ d p.1

/-! Byte strings and check codes (R17) -/

/-- The bytes of a number in 1, 2, 4 and 8 bytes (R9). -/
def u8 (v : Nat) : Bytes := leBytes 1 v
/-- Two bytes. -/
def u16 (v : Nat) : Bytes := leBytes 2 v
/-- Four bytes; an F32 by its code. -/
def u32 (v : Nat) : Bytes := leBytes 4 v
/-- Eight bytes. -/
def u64 (v : Nat) : Bytes := leBytes 8 v

/-- The number in `n` bytes from an offset of a byte string; what is missing reads 0. -/
def field (b : Bytes) (off n : Nat) : Nat := ofLe ((b.drop off).take n)

/-- A byte string padded with zeros, or cut, to `n` bytes. -/
def padTo (n : Nat) (b : Bytes) : Bytes := (b ++ List.replicate (n - b.length) 0).take n

/-- Eight shifts of the CRC-16 register. -/
def crc16Shift : Nat → BitVec 16 → BitVec 16
  | 0, c => c
  | n + 1, c => crc16Shift n (if c.msb then (c <<< 1) ^^^ 0x1021#16 else c <<< 1)

/-- CRC-16 over bytes: polynomial 1021h, initial value FFFFh, not reflected, no final XOR (R17). -/
def crc16 (b : Bytes) : Nat :=
  (b.foldl (fun c x => crc16Shift 8 (c ^^^ ((x.zeroExtend 16 : BitVec 16) <<< (8 : Nat)))) 0xFFFF#16).toNat

/-- Eight shifts of the CRC-32C register. -/
def crc32cShift : Nat → BitVec 32 → BitVec 32
  | 0, c => c
  | n + 1, c => crc32cShift n (if c.getLsbD 0 then (c >>> 1) ^^^ 0x82F63B78#32 else c >>> 1)

/-- CRC-32C over bytes: polynomial 1EDC6F41h, reflected, initial value and final XOR FFFFFFFFh (R17). -/
def crc32c (b : Bytes) : Nat :=
  ((b.foldl (fun c x => crc32cShift 8 (c ^^^ x.zeroExtend 32)) 0xFFFFFFFF#32) ^^^ 0xFFFFFFFF#32).toNat

/-- A limit whose threshold is given as a band: it acts at some value of the band and at none outside it, so what an operand
says of it counts only within the band (R555). -/
def inBand (lo hi v : Rat) (acts : Bool) : Bool := decide (lo ≤ v) && (acts || decide (hi < v))

/-- ASCII bytes of a string. -/
def ascii (t : String) : Bytes := t.toList.map fun c => BitVec.ofNat 8 c.toNat

/-- a is newer than b: (a − b) mod 2³² from 1 to 2³¹ − 1 (R87). -/
def newer32 (a b : Nat) : Bool :=
  let d := (a + 2 ^ 32 - b % 2 ^ 32) % 2 ^ 32
  decide (1 ≤ d ∧ d ≤ 2 ^ 31 - 1)

/-- Of two copies, the one in force: the valid one of the newer sequence; false names copy 0 (R84, R87, R496). -/
def copyInForce {α : Type} (valid : α → Bool) (seq : α → Nat) (a b : α) : Option Bool :=
  if valid a && valid b then some (newer32 (seq b) (seq a)) else if valid a then some false else if valid b then some true else none

/-! Objects -/

/-- What the object tables give as the default of an object; where the default depends on the unit, or is set
at manufacture, from the rule that says so (R14; log entries 2 and 7). -/
def objDefault (key : Nat) : Nat :=
  let ix := key / 256
  let sub := key % 256
  if key = Obj.ID_HW_ISSUE then 0x43
  else if key = Obj.RST_CAUSE then 1
  else if 0x5000 ≤ ix ∧ ix < 0x5030 ∧ sub = 1 then (ix - 0x5000) / 12
  else if 0x5110 ≤ ix ∧ ix < 0x5115 ∧ sub = 2 then
    (if ix = 0x5112 then 0x41700000 else if ix < 0x5112 then 0x3F000000 else 0x3F800000)
  else if 0x5120 ≤ ix ∧ ix < 0x5125 ∧ (sub = 1 ∨ sub = 5) then
    [0x44480000, 0x41700000, 0x44610000, 0x41600000, 0x41000000].getD (ix - 0x5120) 0
  else if 0x5120 ≤ ix ∧ ix < 0x5125 ∧ sub = 2 then
    [0x437A0000, 0x40400000, 0x43960000, 0, 0].getD (ix - 0x5120) 0
  else if 0x5120 ≤ ix ∧ ix < 0x5125 ∧ sub = 3 then
    [0x44960000, 0x42480000, 0x44AF0000, 0x41C80000, 0x41A00000].getD (ix - 0x5120) 0
  else if 0x5120 ≤ ix ∧ ix < 0x5125 ∧ sub = 4 then
    [0x41A00000, 0x3F800000, 0x41F00000, 0x3F800000, 0x3F800000].getD (ix - 0x5120) 0
  else if 0x3000 ≤ ix ∧ ix < 0x3080 ∧ sub = 2 then
    (if (ix - 0x3000) % 16 < 12 then 0 else if (ix - 0x3000) % 16 < 15 then 1 else 2)
  else if key = Obj.ETH_ENABLE 3 then 1
  else if key = Obj.DOM_CODE_BANKS 3 ∨ key = Obj.DOM_CODE_BANKS 4 then (Config.factory key).toNat % 2 ^ 24
  else if key = Obj.ETH_IPV4 3 then 0xC0A86401
  else if 0x7800 ≤ ix ∧ ix < 0x7805 ∧ sub = 5 then (Config.factoryMac + BitVec.ofNat 48 (ix - 0x7800)).toNat
  else match rowOf key with
    | some r => r.dflt
    | none => 0

/-- A character of a serial number: a digit or a capital (R3). -/
def serialChar (c : Fin 36) : Byte := BitVec.ofNat 8 (if c.val < 10 then 0x30 + c.val else 0x41 + (c.val - 10))

/-- The default of a string or block object. -/
def blobDefault (key : Nat) : Bytes :=
  let ix := key / 256
  let sub := key % 256
  if key = Obj.ID_PART_NUMBER then ascii "CTM-M128"
  else if key = Obj.ID_SERIAL then List.ofFn fun i => serialChar (Config.factorySerial i)
  else if key = Obj.UPD_KEY_0 then leBytes 32 (Config.factoryKey 0).toNat
  else if 0x6830 ≤ ix ∧ ix < 0x6838 ∧ sub = 6 then
    ([1, 0, 0, 0, 1, 0, 0, 0, 1].map fun e => u32 (if e = 1 then 0x3F800000 else 0)).flatten
  else if 0x6830 ≤ ix ∧ ix < 0x6838 ∧ (8 ≤ sub ∧ sub ≤ 10) then u16 0 ++ u16 0 ++ u16 1920 ++ u16 1080
  else if 0x6830 ≤ ix ∧ ix < 0x6838 ∧ sub = 11 then List.replicate 112 0
  else []

/-- An object's value as it stands. -/
def State.get (s : State) (key : Nat) : Nat := Sparse.find objDefault s.obj key

/-- An object's value as it stood at the start of the tick: what the work of the tick reads of a
configuration object (R75). -/
def State.conf (s : State) (key : Nat) : Nat := Sparse.find objDefault s.snap key

/-- The state with an object's value changed. -/
def State.set (s : State) (key v : Nat) : State := { s with obj := Sparse.put objDefault s.obj key v }

/-- A string or block object's bytes. -/
def State.getBlob (s : State) (key : Nat) : Bytes := Sparse.find blobDefault s.blob key

/-- The state with a string or block object's bytes changed. -/
def State.setBlob (s : State) (key : Nat) (v : Bytes) : State :=
  { s with blob := Sparse.put blobDefault s.blob key v }

/-- An object read as a truth value (R10). -/
def State.flag (s : State) (key : Nat) : Bool := s.get key != 0

/-- A configuration object read as a truth value. -/
def State.confFlag (s : State) (key : Nat) : Bool := s.conf key != 0

/-- The rational value of a configuration object of type F32. -/
def State.confRat (s : State) (key : Nat) : Rat := f32rat (s.conf key)

/-- A saturating counter of 32 bits advanced. -/
def State.count (s : State) (key n : Nat) : State := s.set key (satAdd 32 (s.get key) n)

/-- Several objects set, in order. -/
def State.setAll (s : State) (l : List (Nat × Nat)) : State := l.foldl (fun s p => s.set p.1 p.2) s

/-! Running -/

/-- A reset is due in this tick or before: the module has stopped (R518). -/
def State.resetNow (s : State) : Bool :=
  match s.start.due with
  | some d => decide (d.at_ ≤ s.k)
  | none => false

/-- The module runs: past its first tick, with no reset due. -/
def State.running (s : State) : Bool := s.phase == .running && !s.resetNow

/-- A domain is on (R453): D0 always, D1 while the module runs. -/
def State.domOn (s : State) (d : Nat) : Bool := s.get (Obj.DOM_STATE d) == 2

/-- Only the active module of a pair, or a single one, acts (R424). -/
def State.acting (s : State) : Bool :=
  s.pair.state == 0 || s.pair.state == 4

/-- The lease of the active lapses: no newer promise has come by the start of tick `k` (R429). -/
def State.lapsedAt (s : State) (k : Nat) : Bool :=
  s.pair.inForce && s.pair.state == 4 && s.pair.releaseAt.isNone && s.pair.hold.isNone && decide (s.pair.promise < k)

/-- What the tick that ends has staged for the output stages is not applied at the start of tick `k`: the lease lapses
there, or a reset is entered (R426, R429, R522). -/
def State.unapplied (s : State) (k : Nat) : Bool :=
  s.lapsedAt k || (match s.start.due with
    | some d => decide (d.at_ ≤ k)
    | none => false)

/-- A standby (02h or 03h). -/
def State.standby (s : State) : Bool :=
  s.pair.state == 2 || s.pair.state == 3

/-! Events and output -/

/-- A block reports an event (R477, R478). -/
def State.event (s : State) (src code : Nat) (payload : Bytes) : State :=
  let sub := if s.phase = .running then s.k % 4000 else 0xFFFF
  { s with recd := { s.recd with reported := s.recd.reported ++ [⟨src, code, payload, sub⟩] } }

/-- The module sends something. -/
def State.send (s : State) (o : Out) : State := { s with sent := s.sent ++ [o] }

/-- A value the spec leaves open, and the state that has drawn it (log entry 3). -/
def State.draw (s : State) : BitVec 64 × State := (Config.freeValue s.free, { s with free := s.free + 1 })

/-! Tick image entries (R24–R26) -/

/-- The object under which the stamp and validity of an entry stand, for each object that is an entry or an
entry's field; none for an object that is no entry. -/
def entKey (key : Nat) : Option Nat :=
  let ix := key / 256
  let sub := key % 256
  if 0x3000 ≤ ix ∧ ix < 0x3080 then
    if sub = 0xC then some key
    else if sub ∈ [5, 6, 8, 0xE, 0xF, 0x17, 0x18, 0x1F] then some (ix * 256 + 5) else none
  else if 0x3100 ≤ ix ∧ ix < 0x3108 then (if 7 ≤ sub ∧ sub ≤ 0xB then some (ix * 256 + 7) else none)
  else if 0x3800 ≤ ix ∧ ix < 0x3830 then
    if sub = 6 then some key else if 0x30 ≤ sub ∧ sub ≤ 0x3C then some (ix * 256 + 0x30) else none
  else if 0x3880 ≤ ix ∧ ix < 0x388C then
    if sub = 8 then some key else if 0x20 ≤ sub ∧ sub ≤ 0x23 then some (ix * 256 + 0x21) else none
  else if 0x4010 ≤ ix ∧ ix < 0x4020 then (if 0x10 ≤ sub ∧ sub ≤ 0x15 then some (ix * 256 + 0x10) else none)
  else if 0x4040 ≤ ix ∧ ix < 0x4070 then (if 0x10 ≤ sub ∧ sub ≤ 0x14 then some (ix * 256 + 0x10) else none)
  else if 0x4080 ≤ ix ∧ ix < 0x4084 then (if 7 ≤ sub ∧ sub ≤ 8 then some (ix * 256 + 7) else none)
  else if 0x40C0 ≤ ix ∧ ix < 0x40E0 then (if 0x10 ≤ sub ∧ sub ≤ 0x11 then some (ix * 256 + 0x10) else none)
  else if 0x4850 ≤ ix ∧ ix < 0x4868 then some (ix * 256 + 1)
  else if 0x5000 ≤ ix ∧ ix < 0x5030 then (if sub ∈ [0x16, 0x17] then some (ix * 256 + 0x16) else none)
  else if 0x8000 ≤ ix ∧ ix < 0x9000 ∧ ix % 16 = 0 then
    (if sub ∈ [0x16, 0x17] then some (ix * 256 + 0x16) else none)
  else if ix = 0x5141 then (if sub = 3 then some key else some (ix * 256 + 1))
  else if 0x5120 ≤ ix ∧ ix < 0x5125 ∧ sub = 5 then some key
  else if ix = 0x6040 then some (ix * 256 + 1)
  else if ix = 0x6070 then (if 0x16 ≤ sub ∧ sub ≤ 0x19 then some (ix * 256 + 0x16) else none)
  else if 0x6820 ≤ ix ∧ ix < 0x6828 then (if 0x10 ≤ sub ∧ sub ≤ 0x12 then some (ix * 256 + 0x10) else none)
  else if 0x6850 ≤ ix ∧ ix < 0x6858 then (if 0x10 ≤ sub ∧ sub ≤ 0x11 then some (ix * 256 + 0x10) else none)
  else if 0x7000 ≤ ix ∧ ix < 0x7008 then
    if (0x15 ≤ sub ∧ sub ≤ 0x18) ∨ sub = 0x1A ∨ sub = 0x26 ∨ (0x30 ≤ sub ∧ sub ≤ 0x3B) then some (ix * 256 + 0x15) else none
  else if ix = 0x7060 then (if sub = 8 ∨ (0x10 ≤ sub ∧ sub ≤ 0x17) then some (ix * 256 + 8) else none)
  else if ix = 0x2401 then (if 2 ≤ sub ∧ sub ≤ 4 then some (ix * 256 + 2) else none)
  else if ix = 0x2180 then (if sub ∈ [4, 5, 6, 0xC] then some (ix * 256 + 4) else none)
  else if ix = 0x21E0 then (if sub ≤ 2 then some (ix * 256 + 1) else none)
  else none

/-- The slot that an assembly's chain of exits (or entries) reaches (R189). -/
def State.asSlot (s : State) (link : Nat → Nat) : Nat → Nat → Option Nat
  | 0, _ => none
  | fuel + 1, a =>
    let u := s.get (link a)
    if u < 48 then some u else if 0x100 ≤ u ∧ u < 0x200 then s.asSlot link fuel (u - 0x100) else none

/-- The object whose storage an assembly's output, setpoint or measurement value shares (R189), and the one home of
the boost converter's objects, which read the same in every group (R327); any other object is its own. -/
def State.alias (s : State) (key : Nat) : Nat :=
  let ix := key / 256
  let sub := key % 256
  if 0x8000 ≤ ix ∧ ix < 0x9000 ∧ ix % 16 = 0 ∧ 0x16 ≤ sub ∧ sub ≤ 0x19 then
    match s.asSlot (if sub < 0x18 then Obj.AS_EXIT else Obj.AS_ENTRY) 256 ((ix - 0x8000) / 16) with
    | some n => (0x5000 + n) * 256 + sub
    | none => key
  else if 0x3880 ≤ ix ∧ ix < 0x388C ∧ 0x20 ≤ sub ∧ sub ≤ 0x23 then 0x3880 * 256 + sub
  else key

/-- An entry's stamp and validity as readers see them. -/
def State.entry (s : State) (key : Nat) : Entry :=
  Sparse.find (fun _ => ({} : Entry)) s.ent ((entKey key).getD key)

/-- The capture hardware writes a field of an input entry, which readers see in the same tick (R23, R45). -/
def State.capture (s : State) (key v : Nat) (valid : Bool) : State :=
  { s.set key v with ent := Sparse.put (fun _ => ({} : Entry)) s.ent ((entKey key).getD key) ⟨s.k, valid⟩ }

/-- The validity flag of an input entry cleared, its value and stamp kept. -/
def State.clearInput (s : State) (key : Nat) : State :=
  let e : Entry := { s.entry key with valid := false }
  { s with ent := Sparse.put (fun _ => ({} : Entry)) s.ent ((entKey key).getD key) e }

/-- What stands in the current copy of the tick image: what was written in this tick, else what readers see. -/
def State.cur (s : State) (key : Nat) : Written :=
  match Sparse.find (fun _ => none) s.exch key with
  | some w => w
  | none => ⟨s.get key, (s.entry key).stamp, (s.entry key).valid⟩

/-- A producer writes an exchange or output entry: stamped with this tick, seen from the next (R24, R25). -/
def State.write (s : State) (key v : Nat) (valid : Bool) : State :=
  { s with exch := Sparse.put (fun _ => none) s.exch key (some ⟨v, s.k, valid⟩) }

/-- A saturating counter of 32 bits advanced by a producer: readers see it from the next tick (R24). -/
def State.countOut (s : State) (key n : Nat) : State := s.write key (satAdd 32 (s.cur key).val n) true

/-- An object set at once, in place of what was written in this tick. -/
def State.setNow (s : State) (key v : Nat) : State :=
  { s.set key v with exch := s.exch.filter fun p => p.1 ≠ key }

/-- A producer clears the validity flag of its entry, whose value and stamp stay (R25, R50). -/
def State.invalidate (s : State) (key : Nat) : State :=
  let exch := Sparse.put (fun _ => none) s.exch key (some { s.cur key with valid := false })
  { s with exch := exch.map fun (p : Nat × Option Written) =>
      if entKey p.1 = entKey key ∧ (entKey key).isSome then (p.1, p.2.map fun w => { w with valid := false }) else p }

/-- One written entry becomes what readers see. -/
def State.foldOne (s : State) (p : Nat × Option Written) : State :=
  match p.2 with
  | some w =>
    { s.set p.1 w.val with
      ent := Sparse.put (fun _ => ({} : Entry)) s.ent ((entKey p.1).getD p.1) ⟨w.stamp, w.valid⟩ }
  | none => s

/-- At the tick boundary the copies switch: what was written becomes what readers see (R23, R24). -/
def State.fold (s : State) : State := { s.exch.foldl State.foldOne s with exch := [] }

/-- The slot that the selector names, whose image runs at the next start (R496). -/
def State.selSlot (s : State) : ImageSlot := if s.upd.sel then s.upd.slotB else s.upd.slotA

/-- The slot whose image runs (R525). -/
def State.runSlot (s : State) : ImageSlot := if s.upd.run then s.upd.slotB else s.upd.slotA

/-- An application area as the application last wrote it. -/
def State.area (s : State) (key : Nat) : AppArea := Sparse.find (fun _ => ({} : AppArea)) s.app key

/-- The number in `n` bytes at a byte offset of an area, its stamp in bytes 0–7 and its validity in byte 8. -/
def AppArea.at_ (a : AppArea) (off n : Nat) : Nat := field a.body (off - 9) n

/-- The domain whose block produces an RO object or acts on a CMD object (R32, R77); none for the objects
that S itself holds. -/
def objDomain (key : Nat) : Option Nat :=
  let ix := key / 256
  if 0x3000 ≤ ix ∧ ix < 0x3108 then some 11
  else if 0x3800 ≤ ix ∧ ix < 0x388C then some 12
  else if 0x4010 ≤ ix ∧ ix < 0x4084 then some 13
  else if 0x4800 ≤ ix ∧ ix < 0x4870 then some 4
  else if 0x5000 ≤ ix ∧ ix < 0x5024 then some 3
  else if 0x5024 ≤ ix ∧ ix < 0x5030 then some 4
  else if 0x5100 ≤ ix ∧ ix < 0x5142 then some 4
  else if 0x6000 ≤ ix ∧ ix < 0x6010 then some 4
  else if 0x6010 ≤ ix ∧ ix < 0x6040 then some 6
  else if 0x6040 ≤ ix ∧ ix < 0x60A0 then some 4
  else if ix = 0x60A0 then some 6
  else if 0x6800 ≤ ix ∧ ix < 0x6858 then some 7
  else if 0x7000 ≤ ix ∧ ix < 0x7004 then some 9
  else if 0x7004 ≤ ix ∧ ix < 0x7008 then some 10
  else if 0x7800 ≤ ix ∧ ix < 0x7805 then some 8
  else none

/-! Functions with a mode object (R96–R100) -/

/-- The run state of the function with a mode object. -/
def State.modeRun (s : State) (key : Nat) : ModeRun := Sparse.find (fun _ => ({} : ModeRun)) s.mode key

/-- The run state changed. -/
def State.setMode (s : State) (key : Nat) (m : ModeRun) : State :=
  { s with mode := Sparse.put (fun _ => ({} : ModeRun)) s.mode key m }

/-- The mode state as the function itself has it; other readers see it from the next tick on (R24). -/
def State.modeState (s : State) (key : Nat) : Nat := (s.cur (key + 1)).val

/-- A run of the function begins: the first run after a start, or after a write of the mode object, sets the
mode state (R36, R99). A write of the run's own tick waits for a later run. -/
def State.modeEnter (s : State) (key : Nat) : State :=
  let m := s.modeRun key
  let due := m.pendingSet && (match m.since with | some t => decide (t < s.k) | none => true)
  let again := m.last == some s.k
  if due then (s.write (key + 1) (if s.conf key = 0 then 0 else 1) true).setMode key
      { misses := 0, pendingSet := again, since := if again then m.last else none, last := if again then m.last else none }
  else s

/-- What a run applies, after `modeEnter`. -/
inductive RunKind where
  /-- The hardware result. -/
  | hardware
  /-- The assisted result. -/
  | assisted
  /-- The run is a miss: the last result is held. -/
  | miss
  /-- The function is faulted. -/
  | faulted
  deriving DecidableEq, Repr

/-- The kind of the run, given whether the area holds a valid result stamped with this tick (R97, R98, R100). -/
def State.runKind (s : State) (key : Nat) (hit : Bool) : RunKind :=
  match s.modeState key with
  | 1 => if hit then .assisted else .miss
  | 3 => .faulted
  | _ => .hardware

/-- The counts of a run: a miss is counted, a hit resets the consecutive count (R98). -/
def State.modeCount (s : State) (key : Nat) : RunKind → State
  | .miss => (s.countOut (key + 2) 1).setMode key { s.modeRun key with misses := (s.modeRun key).misses + 1 }
  | .assisted => s.setMode key { s.modeRun key with misses := 0 }
  | _ => s

/-- A write to a mode object (R99): the value, the count and the state of the next run. -/
def State.writeMode (s : State) (key v : Nat) : State :=
  let m := s.modeRun key
  (s.set key v).setMode key
    { misses := 0, pendingSet := true, since := if m.pendingSet then m.since else some s.k, last := some s.k }

/-- An area holds a result of this tick with its validity set (R38, R97). -/
def State.hit (s : State) (areaKey : Nat) : Bool :=
  let a := s.area areaKey
  a.valid && a.stamp == s.k

/-- The third consecutive miss of a function that runs assisted in a mode (R98). -/
def State.thirdMiss (s : State) (key mode : Nat) : Bool :=
  s.running && s.modeState key == 1 && s.conf key == mode && decide (3 ≤ (s.modeRun key).misses)

/-- In mode 01h the third miss leads to the hardware results (R98). -/
def State.fallBack (s : State) (key : Nat) : State :=
  if s.thirdMiss key 1 then (s.write (key + 1) 2 true).event 0 0x1023 (u16 (key / 256) ++ u8 key) else s

/-- In mode 02h the third miss faults the function (R98). -/
def State.assistFault (s : State) (key : Nat) : State :=
  if s.thirdMiss key 2 then (s.write (key + 1) 3 true).event 0 0x1024 (u16 (key / 256) ++ u8 key) else s

end Sys2Proof.Machine
end

