-- ==== Sys2Proof/Machine/Hash.lean ====
section
/-! DEFINITION. SHA-256 and SHA-512 (FIPS 180-4) and the Ed25519 check (RFC 8032), the check codes of R17. -/

namespace Sys2Proof.Machine

/-- The round constants of SHA-256. -/
def sha256K : List (BitVec 32) := (
  [0x428A2F98, 0x71374491, 0xB5C0FBCF, 0xE9B5DBA5, 0x3956C25B, 0x59F111F1,
   0x923F82A4, 0xAB1C5ED5, 0xD807AA98, 0x12835B01, 0x243185BE, 0x550C7DC3,
   0x72BE5D74, 0x80DEB1FE, 0x9BDC06A7, 0xC19BF174, 0xE49B69C1, 0xEFBE4786,
   0x0FC19DC6, 0x240CA1CC, 0x2DE92C6F, 0x4A7484AA, 0x5CB0A9DC, 0x76F988DA,
   0x983E5152, 0xA831C66D, 0xB00327C8, 0xBF597FC7, 0xC6E00BF3, 0xD5A79147,
   0x06CA6351, 0x14292967, 0x27B70A85, 0x2E1B2138, 0x4D2C6DFC, 0x53380D13,
   0x650A7354, 0x766A0ABB, 0x81C2C92E, 0x92722C85, 0xA2BFE8A1, 0xA81A664B,
   0xC24B8B70, 0xC76C51A3, 0xD192E819, 0xD6990624, 0xF40E3585, 0x106AA070,
   0x19A4C116, 0x1E376C08, 0x2748774C, 0x34B0BCB5, 0x391C0CB3, 0x4ED8AA4A,
   0x5B9CCA4F, 0x682E6FF3, 0x748F82EE, 0x78A5636F, 0x84C87814, 0x8CC70208,
   0x90BEFFFA, 0xA4506CEB, 0xBEF9A3F7, 0xC67178F2] : List Nat).map (BitVec.ofNat 32)

/-- The initial hash value of SHA-256. -/
def sha256H : List (BitVec 32) := (
  [0x6A09E667, 0xBB67AE85, 0x3C6EF372, 0xA54FF53A, 0x510E527F, 0x9B05688C,
   0x1F83D9AB, 0x5BE0CD19] : List Nat).map (BitVec.ofNat 32)

/-- The round constants of SHA-512. -/
def sha512K : List (BitVec 64) := (
  [0x428A2F98D728AE22, 0x7137449123EF65CD, 0xB5C0FBCFEC4D3B2F, 0xE9B5DBA58189DBBC,
   0x3956C25BF348B538, 0x59F111F1B605D019, 0x923F82A4AF194F9B, 0xAB1C5ED5DA6D8118,
   0xD807AA98A3030242, 0x12835B0145706FBE, 0x243185BE4EE4B28C, 0x550C7DC3D5FFB4E2,
   0x72BE5D74F27B896F, 0x80DEB1FE3B1696B1, 0x9BDC06A725C71235, 0xC19BF174CF692694,
   0xE49B69C19EF14AD2, 0xEFBE4786384F25E3, 0x0FC19DC68B8CD5B5, 0x240CA1CC77AC9C65,
   0x2DE92C6F592B0275, 0x4A7484AA6EA6E483, 0x5CB0A9DCBD41FBD4, 0x76F988DA831153B5,
   0x983E5152EE66DFAB, 0xA831C66D2DB43210, 0xB00327C898FB213F, 0xBF597FC7BEEF0EE4,
   0xC6E00BF33DA88FC2, 0xD5A79147930AA725, 0x06CA6351E003826F, 0x142929670A0E6E70,
   0x27B70A8546D22FFC, 0x2E1B21385C26C926, 0x4D2C6DFC5AC42AED, 0x53380D139D95B3DF,
   0x650A73548BAF63DE, 0x766A0ABB3C77B2A8, 0x81C2C92E47EDAEE6, 0x92722C851482353B] ++
  [0xA2BFE8A14CF10364, 0xA81A664BBC423001, 0xC24B8B70D0F89791, 0xC76C51A30654BE30,
   0xD192E819D6EF5218, 0xD69906245565A910, 0xF40E35855771202A, 0x106AA07032BBD1B8,
   0x19A4C116B8D2D0C8, 0x1E376C085141AB53, 0x2748774CDF8EEB99, 0x34B0BCB5E19B48A8,
   0x391C0CB3C5C95A63, 0x4ED8AA4AE3418ACB, 0x5B9CCA4F7763E373, 0x682E6FF3D6B2B8A3,
   0x748F82EE5DEFB2FC, 0x78A5636F43172F60, 0x84C87814A1F0AB72, 0x8CC702081A6439EC,
   0x90BEFFFA23631E28, 0xA4506CEBDE82BDE9, 0xBEF9A3F7B2C67915, 0xC67178F2E372532B,
   0xCA273ECEEA26619C, 0xD186B8C721C0C207, 0xEADA7DD6CDE0EB1E, 0xF57D4F7FEE6ED178,
   0x06F067AA72176FBA, 0x0A637DC5A2C898A6, 0x113F9804BEF90DAE, 0x1B710B35131C471B,
   0x28DB77F523047D84, 0x32CAAB7B40C72493, 0x3C9EBE0A15C9BEBC, 0x431D67C49C100D4C,
   0x4CC5D4BECB3E42B6, 0x597F299CFC657E2A, 0x5FCB6FAB3AD6FAEC, 0x6C44198C4A475817] : List Nat).map (BitVec.ofNat 64)

/-- The initial hash value of SHA-512. -/
def sha512H : List (BitVec 64) := (
  [0x6A09E667F3BCC908, 0xBB67AE8584CAA73B, 0x3C6EF372FE94F82B, 0xA54FF53A5F1D36F1,
   0x510E527FADE682D1, 0x9B05688C2B3E6C1F, 0x1F83D9ABFB41BD6B, 0x5BE0CD19137E2179] : List Nat).map (BitVec.ofNat 64)

/-- A word from big-endian bytes. -/
def beWord (w : Nat) (b : Bytes) : BitVec w := b.foldl (fun a x => (a <<< (8 : Nat)) ||| x.zeroExtend w) 0

/-- The big-endian bytes of a word of `n` bytes. -/
def beBytes (n v : Nat) : Bytes := (leBytes n v).reverse

/-- Pieces of `n` items, at most `fuel` of them. -/
def chunks {α : Type} (n : Nat) : Nat → List α → List (List α)
  | 0, _ => []
  | _, [] => []
  | fuel + 1, l => l.take n :: chunks n fuel (l.drop n)

/-- The shape of one SHA-2 function: its rotations in the message schedule and in the rounds. -/
structure Sha (w : Nat) where
  s0 : BitVec w → BitVec w
  s1 : BitVec w → BitVec w
  b0 : BitVec w → BitVec w
  b1 : BitVec w → BitVec w

/-- The rotations of SHA-256. -/
def sha256F : Sha 32 where
  s0 x := x.rotateRight 7 ^^^ x.rotateRight 18 ^^^ (x >>> (3 : Nat))
  s1 x := x.rotateRight 17 ^^^ x.rotateRight 19 ^^^ (x >>> (10 : Nat))
  b0 x := x.rotateRight 2 ^^^ x.rotateRight 13 ^^^ x.rotateRight 22
  b1 x := x.rotateRight 6 ^^^ x.rotateRight 11 ^^^ x.rotateRight 25

/-- The rotations of SHA-512. -/
def sha512F : Sha 64 where
  s0 x := x.rotateRight 1 ^^^ x.rotateRight 8 ^^^ (x >>> (7 : Nat))
  s1 x := x.rotateRight 19 ^^^ x.rotateRight 61 ^^^ (x >>> (6 : Nat))
  b0 x := x.rotateRight 28 ^^^ x.rotateRight 34 ^^^ x.rotateRight 39
  b1 x := x.rotateRight 14 ^^^ x.rotateRight 18 ^^^ x.rotateRight 41

/-- The message schedule, newest word first. -/
def shaSchedule {w : Nat} (f : Sha w) : Nat → List (BitVec w) → List (BitVec w)
  | 0, ws => ws
  | n + 1, ws =>
    shaSchedule f n ((f.s1 (ws.getD 1 0) + ws.getD 6 0 + f.s0 (ws.getD 14 0) + ws.getD 15 0) :: ws)

/-- One round on the eight working words. -/
def shaRound {w : Nat} (f : Sha w) (v : List (BitVec w)) (kw : BitVec w × BitVec w) : List (BitVec w) :=
  match v with
  | [a, b, c, d, e, g, h, i] =>
    let t1 := i + f.b1 e + ((e &&& g) ^^^ (~~~e &&& h)) + kw.1 + kw.2
    let t2 := f.b0 a + ((a &&& b) ^^^ (a &&& c) ^^^ (b &&& c))
    [t1 + t2, a, b, c, d + t1, e, g, h]
  | _ => v

/-- One block taken into the hash value. -/
def shaBlock {w : Nat} (f : Sha w) (ks : List (BitVec w)) (hv : List (BitVec w)) (blk : Bytes) :
    List (BitVec w) :=
  let ws := ((chunks (w / 8) 16 blk).map (beWord w)).reverse
  let sched := (shaSchedule f (ks.length - 16) ws).reverse
  List.zipWith (· + ·) hv ((ks.zip sched).foldl (shaRound f) hv)

/-- A message padded to whole blocks of `blk` bytes, its length in bits in the last `len` bytes. -/
def shaPad (blk len : Nat) (m : Bytes) : Bytes :=
  let z := (blk - (m.length + 1 + len) % blk) % blk
  m ++ [0x80#8] ++ List.replicate z 0 ++ beBytes len (8 * m.length)

/-- SHA-256. -/
def sha256 (m : Bytes) : Bytes :=
  let p := shaPad 64 8 m
  ((chunks 64 (p.length / 64) p).foldl (shaBlock sha256F sha256K) sha256H).flatMap fun x => beBytes 4 x.toNat

/-- SHA-512. -/
def sha512 (m : Bytes) : Bytes :=
  let p := shaPad 128 16 m
  ((chunks 128 (p.length / 128) p).foldl (shaBlock sha512F sha512K) sha512H).flatMap
    fun x => beBytes 8 x.toNat

/-! Ed25519 (RFC 8032, pure variant) -/

/-- The prime of the field. -/
def edP : Nat := 2 ^ 255 - 19
/-- The order of the base point. -/
def edL : Nat := 2 ^ 252 + 27742317777372353535851937790883648493

/-- A power in the field, `fuel` bits of the exponent. -/
def edPow : Nat → Nat → Nat → Nat
  | 0, _, _ => 1
  | fuel + 1, b, e =>
    let h := edPow fuel (b * b % edP) (e / 2)
    if e % 2 = 1 then h * b % edP else h

/-- The inverse in the field. -/
def edInv (x : Nat) : Nat := edPow 255 (x % edP) (edP - 2)
/-- The curve constant d = −121665/121666. -/
def edD : Nat := (edP - 121665) * edInv 121666 % edP

/-- A point in extended coordinates. -/
structure EdPoint where
  x : Nat
  y : Nat
  z : Nat
  t : Nat
  deriving DecidableEq, Repr

/-- The neutral point. -/
def edZero : EdPoint := ⟨0, 1, 1, 0⟩

/-- Sum of two points. -/
def edAdd (p q : EdPoint) : EdPoint :=
  let a := (p.y + edP - p.x) * (q.y + edP - q.x) % edP
  let b := (p.y + p.x) * (q.y + q.x) % edP
  let c := 2 * p.t * q.t * edD % edP
  let d := 2 * p.z * q.z % edP
  let e := (b + edP - a) % edP
  let f := (d + edP - c) % edP
  let g := (d + c) % edP
  let h := (b + a) % edP
  ⟨e * f % edP, g * h % edP, f * g % edP, e * h % edP⟩

/-- A multiple of a point, `fuel` bits of the factor. -/
def edMul : Nat → Nat → EdPoint → EdPoint
  | 0, _, _ => edZero
  | fuel + 1, n, p =>
    let r := edMul fuel (n / 2) (edAdd p p)
    if n % 2 = 1 then edAdd r p else r

/-- A point from its 32 bytes, none when they spell no point. -/
def edDecode (b : Bytes) : Option EdPoint :=
  let v := ofLe b
  let y := v % 2 ^ 255
  let sign := v / 2 ^ 255
  if edP ≤ y ∨ b.length ≠ 32 then none
  else
    let u := (y * y + edP - 1) % edP
    let w := (edD * (y * y % edP) + 1) % edP
    let x2 := u * edInv w % edP
    let x0 := edPow 255 x2 ((edP + 3) / 8)
    let x1 := if x0 * x0 % edP = x2 then x0 else x0 * edPow 255 2 ((edP - 1) / 4) % edP
    if x1 * x1 % edP ≠ x2 then none
    else if x1 = 0 ∧ sign = 1 then none
    else
      let x := if x1 % 2 = sign then x1 else edP - x1
      some ⟨x, y, 1, x * y % edP⟩

/-- The base point. -/
def edBase : EdPoint :=
  (edDecode (leBytes 32 (4 * edInv 5 % edP))).getD edZero

/-- Two points are equal. -/
def edEq (p q : EdPoint) : Bool :=
  p.x * q.z % edP == q.x * p.z % edP && p.y * q.z % edP == q.y * p.z % edP

/-- The signature of a message checks under a public key (RFC 8032, 5.1.7). -/
def ed25519Ok (key msg sig : Bytes) : Bool :=
  match edDecode key, edDecode (sig.take 32) with
  | some a, some r =>
    let sNum := ofLe (sig.drop 32)
    let h := ofLe (sha512 (sig.take 32 ++ key ++ msg)) % edL
    sig.length == 64 && decide (sNum < edL) &&
      edEq (edMul 256 (8 * sNum) edBase) (edAdd (edMul 4 8 r) (edMul 256 (8 * h) a))
  | _, _ => false

end Sys2Proof.Machine
end

