-- ==== Sys2Proof/Machine/Dict.lean ====
section
/-! DEFINITION. The dictionary server: sessions, the transaction window, the order of the checks, the limits of
written values, and the answers (R71–R85, R101–R117). What a written object does beyond holding its value
stands with the chapter that owns it; a row's meaning hands those effects to `serveWrite`. -/

namespace Sys2Proof.Machine

/-- The status codes of Table 15 (R104). -/
inductive Status where
  | ok | noObject | access | level | type | range | state | busy | noSession | stale | doneElsewhere
  | credential | lockedOut | sessionsFull | domainOff | partner | storeDeferred | storeFailed | service
  deriving DecidableEq, Repr

/-- The statuses in the order of Table 15. -/
def Status.all : List Status :=
  [.ok, .noObject, .access, .level, .type, .range, .state, .busy, .noSession, .stale, .doneElsewhere, .credential,
   .lockedOut, .sessionsFull, .domainOff, .partner, .storeDeferred, .storeFailed, .service]

/-- The code of a status (Table 15). -/
def Status.code : Status → Nat
  | .ok => 0 | .noObject => 1 | .access => 2 | .level => 3 | .type => 4 | .range => 5 | .state => 6
  | .busy => 7 | .noSession => 8 | .stale => 9 | .doneElsewhere => 0xA | .credential => 0xB
  | .lockedOut => 0xC | .sessionsFull => 0xD | .domainOff => 0xE | .partner => 0xF
  | .storeDeferred => 0x10 | .storeFailed => 0x11 | .service => 0x12

/-- The status of a code that another party answers (Table 15). -/
def Status.ofCode (n : Nat) : Status := Status.all.getD n .service

/-! Sessions -/

/-- The module serves what comes on every transport: it is the active, or pair operation is not in force (R114, R115). -/
def State.nodeServes (s : State) : Bool := s.acting || !s.pair.inForce

/-- The sessions that this module serves: the node's, or, while it is not the active of its pair, those of its own SVC port
and loopback path (R114). Before it has joined and in state 07h a module of a pair serves these two as a standby does, and
writes besides (DESIGN CHOICE, log entry 65). -/
def State.table (s : State) : List Session := if s.nodeServes then s.dict.sessions else s.dict.local_

/-- The table of served sessions replaced. -/
def State.setTable (s : State) (l : List Session) : State :=
  { s with dict := { s.dict with
    sessions := if s.nodeServes then l else s.dict.sessions
    local_ := if s.nodeServes then s.dict.local_ else l } }

/-- Two sessions, or a session and a request's, are one: number, transport and source agree (R81). -/
def Session.is (y : Session) (num : Nat) (t : Transport) (source : Nat) : Bool :=
  y.num == num && y.transport == t && y.source == source

/-- The session a request names, from the transport and source it was opened on (R81). -/
def State.findSession (s : State) (q : Req) : Option Session :=
  s.table.find? fun x => x.is q.session q.transport q.source

/-- The session of the number, transport and source of `x` replaced by `x`. -/
def State.putSession (s : State) (x : Session) : State :=
  s.setTable (s.table.map fun y => if y.is x.num x.transport x.source then x else y)

/-- The number after `n` in 0001h–FFFEh (R81). -/
def nextNum (n : Nat) : Nat := if 0xFFFE ≤ n then 1 else n + 1

/-- The next number to assign: after the last one assigned, no open session's (R81). -/
def freshNum (used : List Nat) : Nat → Nat → Nat
  | 0, n => nextNum n
  | fuel + 1, n => if nextNum n ∈ used then freshNum used fuel (nextNum n) else nextNum n

/-! Answers -/

/-- An answer is sent on the transport of the request (R103). -/
def State.answer (s : State) (q : Req) (svc session : Nat) (st : Status) (body : Bytes) : State :=
  s.send (.mdp q.transport q.source q.target (svc + 128) session q.txn st.code body)

/-- A queued message is that of a request: transport, source, session and transaction number agree (R101). -/
def isOf (m : MdpMsg) (q : Req) : Bool :=
  decide (m.transport = q.transport ∧ m.source = q.source ∧ field m.bytes 2 2 = q.session ∧ field m.bytes 4 2 = q.txn)

/-- A request taken up leaves the front of the queue, and counts among the four of the tick (R102). -/
def State.takeUp (s : State) (q : Req) : State :=
  let rest := match s.dict.queue with
    | m :: t => if isOf m q then t else m :: t
    | [] => []
  { s with dict := { s.dict with queue := rest, served := s.dict.served + 1 } }

/-- The request's turn has come: it stands at the front of the queue, or no message waits (R102). -/
def State.inTurn (s : State) (q : Req) : Bool :=
  match s.dict.queue with
  | [] => true
  | m :: _ => isOf m q

/-- S takes up the request in this tick: it runs, fewer than four were served and the request's turn has come (R102);
where the module is not the active, the request came on its own SVC port or loopback path, or from the partner (R114,
R115). -/
def State.serves (s : State) (q : Req) : Bool :=
  s.running && decide (s.dict.served < 4) && s.inTurn q &&
    (s.nodeServes || q.transport == 4 || q.transport == 5 || q.forwarded.isSome)

/-- What the body of a service answers. -/
structure Reply where
  st : Status
  body : Bytes
  s : State
  /-- The answer follows later (R91). -/
  later : Bool := false

/-- A status that is neither cached nor counts as executed (R108). -/
def Status.uncached : Status → Bool
  | .busy => true | .service => true | .noSession => true | _ => false

/-- The answer put into the session's cache of 32 (R107); none while executing. -/
def Session.remember (x : Session) (txn : Nat) (ans : Option (Nat × Bytes)) : Session :=
  { x with
    newest := some txn
    cache := (x.cache ++ [({ txn := txn, ans := ans } : Cached)]).drop (x.cache.length + 1 - 32) }

/-- A request's session after it was answered (R107, R108). -/
def State.remember (s : State) (q : Req) (r : Reply) : State :=
  match s.findSession q with
  | none => s
  | some x =>
    if r.st.uncached then s
    else s.putSession (x.remember q.txn (if r.later then none else some (r.st.code, r.body)))

/-- The reply sent, and remembered. -/
def State.finish (q : Req) (svc : Nat) (r : Reply) : State :=
  let s := if r.later then r.s else r.s.answer q svc q.session r.st r.body
  s.remember q r

/-- Objects that a write acts on in the executing module alone (R116). -/
def moduleLocal (key : Nat) : Bool :=
  key == Obj.REC_CURSOR || key == Obj.PAIR_RX_TEST || key == Obj.YS_SET_MARK || key == Obj.YS_SEL ||
    key == Obj.YS_SEAL || key == Obj.GQ_SEL ||
    (decide (0x7000 ≤ key / 256 ∧ key / 256 < 0x7008) && key % 256 == 0x20)

/-- Where a request is executed (R114, R115). -/
inductive Place where
  | here
  | partner (st : Nat) (body : Bytes)
  | unreachable
  deriving DecidableEq, Repr

/-- The place that a request's target names (R115). -/
def State.place (s : State) (q : Req) : Place :=
  if q.target = 0 ∨ q.forwarded.isSome then .here
  else if !s.pair.inForce then .unreachable
  else if q.target = s.get Obj.PAIR_ID + 1 then .here
  else match q.partner with
    | some (st, body) => .partner st body
    | none => .unreachable

/-- The message of a request with its payload (R101). -/
def reqMessage (q : Req) (svc : Nat) (tail : Bytes) : MdpMsg :=
  let b := u8 (q.version + 16 * q.target) ++ u8 svc ++ u16 q.session ++ u16 q.txn ++ u16 tail.length ++ tail
  ⟨q.transport, q.source, b ++ u32 (crc32c b)⟩

/-- A request other than OPEN, up to its body: SERVICE, NO_SESSION, the transaction window, the queue of a
session that is executing, the form of the payload, the target (R105 steps 1–4, R106, R107, R115). `tail` is the
request's payload, for a request that is forwarded; `form` says that it has the form of its service. The lists of R105
do not place PARTNER, nor ACCESS for an OPEN that names the partner; here PARTNER comes after step 4 and before step 5
(DESIGN CHOICE, log entry 66). A DONE_ELSEWHERE answer counts in MDP_CACHED, as an answer that the mirrored cache gives
(DESIGN CHOICE, log entry 85). -/
def State.serveForm (s : State) (q : Req) (svc : Nat) (tail : Bytes) (form : Bool) (body : State → Nat → Reply) : State :=
  if !s.serves q then s
  else
    let s := s.takeUp q
    if q.version ≠ 1 then s.answer q svc q.session .service []
    else match q.forwarded with
    | some lvl =>
      let r := if !form then ⟨.type, [], s, false⟩ else if svc = 3 ∨ svc = 4 then body s lvl else ⟨.access, [], s, false⟩
      r.s.answer q svc q.session r.st r.body
    | none =>
    match s.findSession q with
    | none => s.answer q svc q.session .noSession []
    | some x0 =>
      let x := { x0 with last := s.k }
      let s := s.putSession x
      match x.cache.find? (fun c => c.txn == q.txn) with
      | some c =>
        match c.ans with
        | some (st, b) =>
          (if c.elsewhere then s.send (.mdp q.transport q.source q.target (svc + 128) q.session q.txn
              Status.doneElsewhere.code (u8 st))
           else s.send (.mdp q.transport q.source q.target (svc + 128) q.session q.txn st b)).count
            Obj.MDP_CACHED 1
        | none =>
          s.putSession { x with
            cache := x.cache.map fun d => if d.txn = q.txn then { d with dups := d.dups + 1 } else d }
      | none =>
        let inWindow := match x.newest with
          | none => true
          | some n => decide (1 ≤ (q.txn + 65536 - n % 65536) % 65536 ∧
              (q.txn + 65536 - n % 65536) % 65536 ≤ 32767)
        if !inWindow then (s.answer q svc q.session .stale []).count Obj.MDP_STALE 1
        else if x.cache.any (fun c => c.ans.isNone) then
          if x.waiting.length < 4 then s.putSession { x with waiting := x.waiting ++ [reqMessage q svc tail] }
          else s.answer q svc q.session .busy []
        else if !form then State.finish q svc ⟨.type, [], s, false⟩
        else match s.place q with
          | .here => State.finish q svc (body s x.level)
          | .unreachable => State.finish q svc ⟨.partner, [], s, false⟩
          | .partner st b =>
            let s := s.send (.forward q x.level svc tail)
            let s := s.send (.mdp q.transport q.source q.target (svc + 128) q.session q.txn st b)
            if (Status.ofCode st).uncached then s else s.putSession (x.remember q.txn (some (st, b)))

/-- The payload of a READ: the fields of Table 14, and two bytes that R105 counts and no field fills (log entry 41). -/
def readTail (index sub offset maxLen : Nat) : Bytes := u16 index ++ u8 sub ++ u8 0 ++ u32 offset ++ u16 maxLen ++ u16 0

/-- The request that a queued message spells in its header (R101). -/
def reqOf (m : MdpMsg) : Req :=
  { transport := m.transport, source := m.source, version := field m.bytes 0 1 % 16, target := field m.bytes 0 1 / 16 % 4
    session := field m.bytes 2 2, txn := field m.bytes 4 2 }

/-- A payload of a length that its service can have: 12 bytes for a READ, as step 4 of R105 says, though the fields of
Table 14 take 10 (DEDUCED, log entry 41). -/
def formOk (svc len : Nat) : Bool :=
  if svc = 1 then decide (2 ≤ len) else if svc = 3 then len == 12 else if svc = 4 then decide (6 ≤ len) else svc == 2 || svc == 5

/-- The answer to a queued message that no command of the block spells: a service that does not exist, or a payload
without the form of its service (R102, R105 steps 1 to 4). -/
def State.refuseForm (s : State) (m : MdpMsg) : State :=
  let q := reqOf m
  let svc := field m.bytes 1 1
  if !s.serves q then s
  else if svc = 1 ∨ svc = 0 ∨ 5 < svc then
    (s.takeUp q).answer q svc q.session
      (if svc ≠ 1 ∨ q.version ≠ 1 then .service else if q.session ≠ 0 then .noSession else .type) []
  else s.serveForm q svc [] false fun s _ => ⟨.type, [], s, false⟩

/-- The messages at the front of the queue that no command spells, answered in their turn. -/
def State.serveFormless : Nat → State → State
  | 0, s => s
  | fuel + 1, s =>
    match s.dict.queue with
    | m :: _ => if formOk (field m.bytes 1 1) (field m.bytes 6 2) then s else State.serveFormless fuel (s.refuseForm m)
    | [] => s

/-- A request other than OPEN, in its turn (R102). -/
def State.serve (s : State) (q : Req) (svc : Nat) (tail : Bytes) (form : Bool) (body : State → Nat → Reply) : State :=
  (s.serveFormless 4).serveForm q svc tail form body

/-! Written values -/

/-- The bytes a type can hold (R72, R10): its size, a whole BOOL, a finite F32, printable characters. -/
def Ty.lengthOk (t : Ty) (n : Nat) : Bool :=
  match t with
  | .str => decide (n ≤ 255)
  | .block => decide (n ≤ 1258)
  | _ => n == t.size

/-- The value itself is one of the type's (R10, R72). -/
def Ty.valueOk (t : Ty) (b : Bytes) : Bool :=
  match t with
  | .bool => decide (ofLe b ≤ 1)
  | .f32 => f32finite (ofLe b)
  | .str => b.all fun x => decide (0x20 ≤ x.toNat ∧ x.toNat ≤ 0x7E)
  | _ => true

/-- A credential code's characters (R83). -/
def codeOk (b : Bytes) : Bool :=
  decide (6 ≤ b.length ∧ b.length ≤ 12) &&
    b.all fun x => decide ((0x30 ≤ x.toNat ∧ x.toNat ≤ 0x39) ∨ (0x41 ≤ x.toNat ∧ x.toNat ≤ 0x5A))

/-- A limit as the nearest value of type F32, which a written value can equal (DEDUCED, log entry 12). -/
def near (q : Rat) : Rat := f32rat (ratF32 q)

/-- The limits of an object's description. A string or a code whose length lies outside them is answered RANGE, and so
is a block of a variable length (DESIGN CHOICE, log entry 67: Table 15 leaves TYPE or RANGE open there); for a block of a
fixed length see `Chk.lengthOk`. -/
def Chk.ok (c : Chk) (t : Ty) (b : Bytes) : Bool :=
  let v := ofLe b
  match c with
  | .any => true
  | .range lo hi => decide (lo ≤ v ∧ v ≤ hi)
  | .orElse x lo hi => v == x || decide (lo ≤ v ∧ v ≤ hi)
  | .oneOf vs => decide (v ∈ vs)
  | .mask m => v &&& m == v
  | .irange lo hi => decide (lo ≤ decInt (8 * t.size) v ∧ decInt (8 * t.size) v ≤ hi)
  | .frange lo hi => decide (near lo ≤ f32rat v ∧ f32rat v ≤ near hi)
  | .fz lo hi => decide (f32rat v = 0 ∨ (near lo ≤ f32rat v ∧ f32rat v ≤ near hi))
  | .fgt0 => decide (0 < f32rat v)
  | .fge0 => decide (0 ≤ f32rat v)
  | .str lo hi => decide (lo ≤ b.length ∧ b.length ≤ hi)
  | .code => codeOk b
  | .block n => b.length == n
  | .blockIn lo hi => decide (lo ≤ b.length ∧ b.length ≤ hi)

/-- The length of a value matches the object where its description fixes it: a block of one length (R104). -/
def Chk.lengthOk (c : Chk) (n : Nat) : Bool :=
  match c with
  | .block m => n == m
  | _ => true

/-- The row of a present object; sub-index 00h of a present index is a U8 RO object (R71). -/
def present (key : Nat) : Option ObjRow :=
  if key % 256 = 0 then
    (tableOf (key / 256)).map fun _ => ⟨0, 0, .u8, .ro, 1, 0, .any⟩
  else if key % 256 = 0x24 ∧ 0x3881 ≤ key / 256 ∧ key / 256 ≤ 0x388B then none
  else rowOf key

/-- The row of an object that is present now: the template objects of an assembly are present while it holds a
template (R198). -/
def State.presentRow (s : State) (key : Nat) : Option ObjRow :=
  let ix := key / 256
  if 0x8000 ≤ ix ∧ ix < 0x9000 ∧ ix % 16 = 3 ∧ s.get (ix * 256 + 1) = 0 then none else present key

/-- What the owning chapter adds to the checks of a write (R105 steps 9–12). -/
structure Extra where
  range : Bool := true
  /-- A STATE condition on what S holds. -/
  held : Bool := true
  /-- A STATE condition on the state of a block: not evaluated while its domain is not on (R105). -/
  state : Bool := true
  busy : Bool := false
  deriving DecidableEq, Repr

/-- A block in a domain that is not on refuses a command acting on it, and a read of a value that it produces (R77); an
assembly's shared values are produced by the slot whose storage they have (R189). -/
def State.domainOff (s : State) (key : Nat) : Bool :=
  match objDomain (s.alias key) with
  | some d => !s.domOn d
  | none => false

/-- The checks of a WRITE in the order of R105, steps 5 to 12, and the dictionary slice of the mirror (R436), in which each
request served in the tick takes 24 bytes for its session's entry (DESIGN CHOICE, log entry 11); a standby executes only writes of module-local objects (R114). -/
def State.writeStatus (s : State) (lvl key ty : Nat) (b : Bytes) (e : Extra) : Status :=
  match s.presentRow key with
  | none => .noObject
  | some r =>
    if r.acc = .ro then .access
    else if lvl < r.lvl then .level
    else if ty ≠ r.ty.code ∨ !r.ty.lengthOk b.length ∨ !r.chk.lengthOk b.length then .type
    else if !(r.ty.valueOk b && r.chk.ok r.ty b && e.range) then .range
    else if s.standby && !moduleLocal key then .state
    else if !e.held then .state
    else if r.acc = .cmd ∧ s.domainOff key then .domainOff
    else if !e.state then .state
    else if e.busy then .busy
    else if s.pair.inForce ∧ !moduleLocal key ∧ 4096 < s.pair.slice + 24 * s.dict.served + 8 + b.length then .busy
    else .ok

/-- A served write goes into the dictionary slice of the mirror, where it takes room (R435, R436); log entry 11. -/
def State.slice (s : State) (key : Nat) (b : Bytes) : State :=
  if s.pair.inForce && !moduleLocal key then
    { s with pair := { s.pair with slice := s.pair.slice + 8 + b.length, writes := s.pair.writes ++ [(key, b)] } }
  else s

/-- A WRITE request of the value `b` to the object `key`, whose effect, once its checks pass, is `eff`
(R75, R105); `refusal` is what a refused write leaves behind. A forwarded WRITE of what is no module-local object is answered
ACCESS before step 5 of R105, an absent object among them (DESIGN CHOICE, log entry 66). -/
def State.serveWrite (s : State) (q : Req) (key ty : Nat) (b : Bytes) (extra : State → Extra)
    (eff : State → State) (refusal : State → Status → State := fun s _ => s) : State :=
  s.serve q 4 (u16 (key / 256) ++ u8 key ++ u8 ty ++ u16 b.length ++ b) true fun s lvl =>
    match (if q.forwarded.isSome && !moduleLocal key then .access else s.writeStatus lvl key ty b (extra s)) with
    | .ok => ⟨.ok, [], (eff (s.slice key b)), false⟩
    | st => ⟨st, [], refusal s st, false⟩

/-- The type code of an object, for a row that writes a value of the object's own type. -/
def tyOf (key : Nat) : Nat := ((present key).map (·.ty.code)).getD 0

/-- The bytes of a value of the object's own type. -/
def valBytes (key v : Nat) : Bytes := leBytes (((present key).map (·.ty.size)).getD 0) v

/-! Settings areas (R86, R87) -/

/-- The content of a settings area from byte 32 on: object by object the index, the sub-index, the length and the value,
numbers first (DESIGN CHOICE, log entry 72: the spec gives the content no layout). -/
def SetArea.content (a : SetArea) : Bytes :=
  let one := fun (key : Nat) (b : Bytes) => leBytes 3 key ++ u16 b.length ++ b
  (a.vals.map fun p => one p.1 (valBytes p.1 p.2)).flatten ++ (a.strs.map fun p => one p.1 p.2).flatten

/-- The header of Table 7 over a content: format version, sequence number, release of the firmware that writes. -/
def setHead (fmt seq fw : Nat) (content : Bytes) : Bytes :=
  let h := u16 0x5A3C ++ u16 fmt ++ u32 seq ++ u32 content.length ++ u32 (crc32c content) ++ u32 fw ++ List.replicate 10 0
  h ++ u16 (crc16 h)

/-- An area as a store writes it (R88 steps 3 and 4). -/
def SetArea.written (fmt seq fw : Nat) (vals : Sparse Nat) (strs : Sparse Bytes) : SetArea :=
  let a : SetArea := { vals := vals, strs := strs }
  { a with head := setHead fmt seq fw a.content }

/-- The header is whole: its marker and its CRC-16 hold (R87). -/
def SetArea.whole (a : SetArea) : Bool :=
  field a.head 0 2 == 0x5A3C && field a.head 30 2 == crc16 (a.head.take 30)
/-- The content format version. -/
def SetArea.fmt (a : SetArea) : Nat := field a.head 2 2
/-- The sequence number. -/
def SetArea.seq (a : SetArea) : Nat := field a.head 4 4
/-- The content is of the length and the CRC-32C that the header gives (R87). -/
def SetArea.contentOk (a : SetArea) : Bool :=
  field a.head 8 4 == a.content.length && field a.head 12 4 == crc32c a.content

/-- The sequence number after one, which is 1 or above (R86, R88). -/
def nextSeq32 (n : Nat) : Nat := if (n + 1) % 2 ^ 32 = 0 then 1 else (n + 1) % 2 ^ 32

/-- A WRITE of a number to an object of its own type: what the rows that name an object send. -/
def State.serveSet (s : State) (q : Req) (key v : Nat) (extra : State → Extra) (eff : State → State)
    (refusal : State → Status → State := fun s _ => s) : State :=
  s.serveWrite q key (tyOf key) (valBytes key v) extra eff refusal

/-! Opening and closing (R81–R85) -/

/-- Transports that a standby's own sessions use (R114). -/
def ownTransport (t : Transport) : Bool := t == 4 || t == 5

/-- The bytes of a credential copy that its CRC covers: sequence, salt and hash, in this order (DESIGN CHOICE, log
entry 68: the spec gives the fields and no layout). -/
def CredCopy.bytes (c : CredCopy) : Bytes := u32 c.seq ++ c.salt ++ c.hash

/-- A copy whose CRC-16, stored little-endian, holds (R18, R84). -/
def CredCopy.ok (c : CredCopy) : Bool := u16 (crc16 c.bytes) == c.crc

/-- The copy in force of the two: the one whose CRC holds, the newer where both hold (R84). -/
def credInForce (two : Option CredCopy × Option CredCopy) : Option CredCopy :=
  match two.1.filter CredCopy.ok, two.2.filter CredCopy.ok with
  | some a, some b => some (if newer32 a.seq b.seq then a else b)
  | some a, none => some a
  | none, x => x

/-- A new copy takes the place that does not hold the one in force (R84). -/
def credReplace (two : Option CredCopy × Option CredCopy) (c : CredCopy) : Option CredCopy × Option CredCopy :=
  if two.1.isSome && credInForce two == two.1 then (two.1, some c) else (some c, two.2)

/-- The credential in force for a level: salt and hash (R84). -/
def State.credential (s : State) (lvl : Nat) : Bytes × Bytes :=
  let made := (leBytes 16 (Config.factoryCred (Fin.ofNat 4 lvl)).1.toNat,
    leBytes 32 (Config.factoryCred (Fin.ofNat 4 lvl)).2.toNat)
  let copy := if lvl = 1 then credInForce s.dict.cred1 else if lvl = 2 then credInForce s.dict.cred2 else none
  match copy with
  | some c => (c.salt, c.hash)
  | none => made

/-- Credential lockout in force: 60 s, 240000 ticks, from its begin (R83). -/
def State.locked (s : State) : Bool :=
  match s.dict.lockout with
  | some t => decide (s.k < t + 240000)
  | none => false

/-- The sessions that a new one stands among: 16 of the node's, 4 of a module's own (R81, R114). -/
def State.sessionRoom (s : State) : Bool := decide (s.table.length < if s.nodeServes then 16 else 4)

/-- OPEN: the checks of R105 in their order, then the session (R81, R83). A code length above 12 is answered RANGE at
level 0 too, where R83 ignores the code (DESIGN CHOICE, log entry 69); a target other than this module is answered after
LEVEL, ACCESS where it names a partner that is reached and PARTNER elsewhere (DESIGN CHOICE, log entry 66). One that the
partner has forwarded is answered ACCESS (R115). -/
def State.openStatus (s : State) (q : Req) (lvl len : Nat) (code : Bytes) : Status :=
  if q.version ≠ 1 then .service
  else if q.session ≠ 0 then .noSession
  else if code.length ≠ len then .type
  else if q.forwarded.isSome then .access
  else if 3 < lvl ∨ 12 < len ∨ (1 ≤ lvl ∧ !codeOk code) then .range
  else if lvl = 3 ∧ q.transport ≠ 4 then .level
  else if q.target ≠ 0 ∧ s.place q ≠ .here then
    (match s.place q with | .partner _ _ => .access | _ => .partner)
  else if !s.sessionRoom then .sessionsFull
  else if 1 ≤ lvl ∧ s.locked then .lockedOut
  else if 1 ≤ lvl ∧ sha256 ((s.credential lvl).1 ++ code) ≠ (s.credential lvl).2 then .credential
  else .ok

/-- A session opened (R81). -/
def State.openSession (s : State) (q : Req) (lvl : Nat) : State × Nat :=
  let n := freshNum (s.table.map (·.num)) 17 (if s.nodeServes then s.dict.lastNum else s.dict.localNum)
  let x : Session := { num := n, level := lvl, transport := q.transport, source := q.source, last := s.k }
  let d := if s.nodeServes then { s.dict with lastNum := n } else { s.dict with localNum := n }
  ({ s with dict := d }.setTable (s.table ++ [x]), n)

/-- A credential mismatch is counted, and its tick kept for the lockout (R83). -/
def State.mismatch (s : State) (q : Req) : State :=
  let s := s.count Obj.SESS_CRED_FAILS 1
  { s with dict := { s.dict with
      fails := s.dict.fails.filter (fun t => decide (s.k < t + 240000)) ++ [s.k]
      failTransport := q.transport.val } }

/-- A session closed, its cache with it (R82). -/
def State.closeSession (s : State) (x : Session) : State :=
  s.setTable (s.table.filter fun y => !y.is x.num x.transport x.source)

/-! A store's later answer (R91, R109) -/

/-- The answer of a request that has finished executing, once for it and once, as a cached answer, for each duplicate; the requests of its
session that waited are the next to be served (R106). -/
def State.answerLater (s : State) (q : Req) (st : Status) : State :=
  match s.findSession q with
  | none => s.answer q 4 q.session st []
  | some x =>
    let n := ((x.cache.find? fun c => c.txn == q.txn).map (·.dups)).getD 0
    let s := ((List.replicate (n + 1) ()).foldl (fun s _ => s.answer q 4 q.session st []) s).count Obj.MDP_CACHED n
    let s := s.putSession { x with
      waiting := []
      cache := x.cache.map fun c => if c.txn = q.txn then { c with ans := some (st.code, []) } else c }
    { s with dict := { s.dict with queue := x.waiting ++ s.dict.queue } }

end Sys2Proof.Machine
end

