-- ==== Sys2Proof/Machine/Recorder.lean ====
section
/-! DEFINITION. The event recorder (R477–R492). -/

namespace Sys2Proof.Machine

/-- A never-written slot of the region (R483). -/
def zeroRecord : Bytes := List.replicate 32 0

/-- The record of an event with its sequence, 32 bytes (R477, Table 1). -/
def State.recordBytes (s : State) (seq : Nat) (e : Event) : Bytes :=
  let b := u32 seq ++ u32 s.recd.opSeconds ++ u16 e.sub ++ leBytes 3 (min s.recd.powerCycles 0xFFFFFF) ++
    u8 e.src ++ u16 e.code ++ padTo 14 e.payload
  b ++ u16 (crc16 b)

/-- A record's CRC-16 holds and the slot was written (R483). -/
def recordOk (b : Bytes) : Bool := b.length == 32 && b != zeroRecord && crc16 (b.take 30) == field b 30 2

/-- The start-up phase ends with the start of this tick or has ended: the first T4000/0 tick after the first tick (R480). -/
def State.startPhaseOver (s : State) : Bool :=
  !s.recd.startPhase || (s.running && decide (s.k % 4000 = 0 ∧ 0 < s.start.up))

/-- The recovery phase that a reset begins has no tick left: 240000 from the first tick (R480). -/
def State.recoveryOver (s : State) : Bool :=
  match s.recd.recoverySince with
  | some t => s.running && decide (t + 240000 ≤ s.k)
  | none => true

/-- The keeping phases in force, REC_PHASE (R480, Table 3). -/
def State.recPhase (s : State) : Nat :=
  boolNat !s.startPhaseOver + 2 * boolNat (s.flag Obj.REC_TEST) + 4 * boolNat (!s.recoveryOver || s.upd.falling)

/-- The phases that have ended are over for good (R480). -/
def State.endPhases (s : State) : State :=
  { s with recd := { s.recd with
      startPhase := !s.startPhaseOver
      recoverySince := if s.recoveryOver then none else s.recd.recoverySince } }

/-- A record takes the next sequence and enters the queue (R478). -/
def State.enterQueue (s : State) (e : Event) : State :=
  let q := s.recd.queue ++ [⟨s.recd.nextSeq, e.code, s.recordBytes s.recd.nextSeq e⟩]
  { s with recd := { s.recd with
      queue := q
      nextSeq := (s.recd.nextSeq + 1) % 2 ^ 32
      queuePeak := max s.recd.queuePeak q.length } }

/-- A clear record (R489). -/
def isClear (code : Nat) : Bool := code == 3 || code == 4

/-- The queue has room for a record that is no clear record (R484, R489). -/
def State.queueRoom (s : State) : Bool :=
  decide ((s.recd.queue.filter fun r => !isClear r.code).length < 256)

/-- A record that is not limited by floods meets the queue: it enters, or is lost (R484). -/
def State.meetQueue (s : State) (e : Event) : State :=
  if s.queueRoom then s.enterQueue e
  else
    let lost := match s.recd.lost with
      | some (n, t) => (n + 1, t)
      | none => (1, s.k)
    ({ s with recd := { s.recd with lost := some lost } }).count Obj.REC_LOST 1

/-- The flood window of a pair of source and code. -/
def State.flood (s : State) (src code : Nat) : Option Flood :=
  s.recd.floods.find? fun f => f.src == src && f.code == code

/-- The flood windows with one replaced. -/
def State.putFlood (s : State) (f : Flood) : State :=
  let others := s.recd.floods.filter fun g => !(g.src == f.src && g.code == f.code)
  { s with recd := { s.recd with floods := others ++ [f] } }

/-- The flood window in which a record of a pair falls. One that has ended gives its record of code 0002h first, and the
next begins with this record (R485). -/
def State.floodNow (s : State) (src code : Nat) : Flood × State :=
  let fresh : Flood := ⟨src, code, s.k, 0, 0⟩
  match s.flood src code with
  | some f =>
    if s.k < f.began + 4000 then (f, s)
    else (fresh, if f.suppressed = 0 then s else
      s.meetQueue ⟨0, 2, u8 src ++ u16 code ++ u32 f.suppressed, s.k % 4000⟩)
  | none => (fresh, s)

/-- EVENT_ENQUEUE: a reported event takes a sequence and enters the queue, or is lost or suppressed
(R478, R484, R485). -/
def State.enqueue (s : State) (e : Event) : State :=
  if isClear e.code then s.enterQueue e
  else if e.code = 2 then s.meetQueue e
  else
    let (f, s) := s.floodNow e.src e.code
    if s.conf Obj.REC_FLOOD_LIMIT ≤ f.count then
      (s.putFlood { f with suppressed := f.suppressed + 1 }).count Obj.REC_SUPPRESSED 1
    else
      let t := s.meetQueue e
      if s.queueRoom then t.putFlood { f with count := f.count + 1 } else t

/-- Events of one tick in ascending source value, in their order within one source (R478). -/
def bySource (l : List Event) : List Event := l.mergeSort fun a b => decide (a.src ≤ b.src)

/-- The reported events enter the queue, after the record of lost ones where there is room again
(R478, R484). -/
def State.enqueueAll (s : State) : State :=
  let s := match s.recd.lost with
    | some (n, t) =>
      if s.queueRoom then
        ({ s with recd := { s.recd with lost := none } }).enqueue ⟨0, 1, u32 n ++ u64 t, s.k % 4000⟩
      else s
    | none => s
  let l := bySource s.recd.reported
  l.foldl State.enqueue { s with recd := { s.recd with reported := [] } }

/-- A record goes to a slot of the region (R482). -/
def State.putRecord (s : State) (slot : Nat) (b : Bytes) : State :=
  { s with recd := { s.recd with region := Sparse.put (fun _ => zeroRecord) s.recd.region slot b } }

/-- The record in a slot of the region. -/
def State.recordAt (s : State) (slot : Nat) : Bytes := Sparse.find (fun _ => zeroRecord) s.recd.region slot

/-- A record goes to the circulating region, which wraps from 65535 to 8192 (R482). -/
def State.putCirc (s : State) (b : Bytes) : State :=
  let s := s.putRecord s.recd.circPos b
  { s with recd := { s.recd with circPos := if s.recd.circPos = 65535 then 8192 else s.recd.circPos + 1 } }

/-- RECORD_WRITE: one queued record goes to the kept or the circulating region (R480, R481, R489); a record of
code 0006h is reported at the first spill, which counts anew after a clear of the kept region and at each start (DESIGN
CHOICE, log entry 103). -/
def State.writeRecord (s : State) (r : Queued) : State :=
  let s := s.set Obj.REC_NEWEST r.seq
  if r.code = 4 then
    let s := s.putCirc r.bytes
    { s with recd := { s.recd with circFrom := some r.seq } }
  else if r.code = 3 then
    let s := s.putRecord 0 r.bytes
    { s with recd := { s.recd with keptUsed := 1, spillMarked := false } }
  else if s.recPhase = 0 then s.putCirc r.bytes
  else if s.recd.keptUsed < 8192 then
    let s := s.putRecord s.recd.keptUsed r.bytes
    { s with recd := { s.recd with keptUsed := s.recd.keptUsed + 1 } }
  else
    let s := (s.putCirc r.bytes).count Obj.REC_SPILLED 1
    if s.recd.spillMarked then s
    else ({ s with recd := { s.recd with spillMarked := true } }).event 0 6 []

/-- S writes up to 8 queued records in sequence order (R484). -/
def State.writeRecords (s : State) : State :=
  let l := s.recd.queue.take 8
  l.foldl State.writeRecord { s with recd := { s.recd with queue := s.recd.queue.drop 8 } }

/-- A time mark (R479): TIME64, TIME_STATE, the tick index in 5 bytes. -/
def State.timeMark (s : State) : State :=
  s.event 0 5 (u64 (s.k * 250000) ++ u8 (s.get Obj.TIME_STATE) ++ leBytes 5 s.k)

/-- The time state changes; a mark records it (R54, R479). -/
def State.setTimeState (s : State) (v : Nat) : State :=
  if s.get Obj.TIME_STATE = v then s else (s.set Obj.TIME_STATE v).timeMark

/-! The scan at a start (R483) -/

/-- The length of the kept part: records from 0 on, each valid and newer than the one before. -/
def keptPart : List (Nat × Bytes) → Nat → Option Nat → Nat
  | [], n, _ => n
  | (slot, b) :: t, n, prev =>
    if slot = n ∧ slot < 8192 ∧ recordOk b = true ∧ (match prev with | some p => newer32 (field b 0 4) p | none => true) = true
    then keptPart t (n + 1) (some (field b 0 4)) else n

/-- The newest of some records, by sequence. -/
def newestOf (l : List (Nat × Bytes)) : Option (Nat × Bytes) :=
  l.foldl (fun a x => match a with
    | none => some x
    | some y => if newer32 (field x.2 0 4) (field y.2 0 4) then some x else some y) none

/-- REGION_SCAN (R483): the kept part, the write position and the next sequence are rebuilt; bad records are
counted. The counts of operating seconds and power cycles come from the newest record when D0 was lost (R479). -/
def State.scan (s : State) (d0Lost : Bool) : State :=
  let valid := s.recd.region.filter fun p => recordOk p.2
  let kept := keptPart s.recd.region 0 none
  let circ := valid.filter fun p => decide (8192 ≤ p.1)
  let keptValid := valid.filter fun p => decide (p.1 < kept)
  let pos := match newestOf circ with
    | some (slot, _) => if slot = 65535 then 8192 else slot + 1
    | none => 8192
  let newest := newestOf (valid)
  let next := match newest with
    | some (_, b) => (field b 0 4 + 1) % 2 ^ 32
    | none => 0
  let cleared := (newestOf (circ.filter fun p => field p.2 14 2 == 4)).map fun p => field p.2 0 4
  let secs := match newest with
    | some (_, b) => if d0Lost then field b 4 4 else s.recd.opSeconds
    | none => if d0Lost then 0 else s.recd.opSeconds
  let cyc := match newest with
    | some (_, b) => if d0Lost then field b 10 3 else s.recd.powerCycles
    | none => if d0Lost then 0 else s.recd.powerCycles
  let s := { s with recd := { s.recd with
      keptUsed := kept, circPos := pos, nextSeq := next, circFrom := cleared
      opSeconds := secs
      powerCycles := if d0Lost then min (cyc + 1) 0xFFFFFF else cyc
      spillMarked := false
      crcBad := (s.recd.region.filter fun p => !recordOk p.2 && p.2 != zeroRecord).length } }
  match newest with
  | some (_, b) => s.set Obj.REC_NEWEST (field b 0 4)
  | none => if keptValid.isEmpty then s.set Obj.REC_NEWEST 0xFFFFFFFF else s

/-! Reading (R487) -/

/-- The records served: the kept part, and the valid circulating records that no clear has passed over; a clear erases none
(R490). -/
def State.served (s : State) : List Bytes :=
  (s.recd.region.filter fun p =>
    recordOk p.2 && (if p.1 < 8192 then decide (p.1 < s.recd.keptUsed) else
      match s.recd.circFrom with
      | some c => field p.2 0 4 == c || newer32 (field p.2 0 4) c
      | none => true)).map (·.2)

/-- The served records in ascending sequence order. -/
def State.servedSorted (s : State) : List Bytes :=
  s.served.mergeSort fun a b => !newer32 (field a 0 4) (field b 0 4)

/-- REC_OLDEST: the oldest sequence served, FFFFFFFFh when none. -/
def State.recOldest (s : State) : Nat :=
  match s.servedSorted with
  | [] => 0xFFFFFFFF
  | b :: _ => field b 0 4

/-- The window of records from the cursor on (R487). -/
def State.recWindow (s : State) (maxLen : Nat) : Bytes :=
  let c := s.get Obj.REC_CURSOR
  let l := s.servedSorted.filter fun b => field b 0 4 == c || newer32 (field b 0 4) c
  (l.take (min 32 (maxLen / 32))).flatten

/-! Rows -/

/-- The level at which a request acts: its session's, or the originating session's (R115). -/
def State.reqLevel (s : State) (q : Req) : Nat :=
  match q.forwarded with
  | some l => l
  | none => ((s.findSession q).map (·.level)).getD 0

/-- FLOOD_WINDOW_END (R485): one record of code 0002h for a window in which any were suppressed. -/
def execFloodWindowEnd (src code : Nat) (s : State) : Host.Outcome State Fault Refusal :=
  match s.flood src code with
  | some f =>
    if s.running ∧ f.began + 4000 ≤ s.k then
      let gone := { s with recd := { s.recd with
        floods := s.recd.floods.filter fun g => !(g.src == src && g.code == code) } }
      .next (if f.suppressed = 0 then gone
        else gone.event 0 2 (u8 src ++ u16 code ++ u32 f.suppressed))
    else .next s
  | none => .next s

/-- TIME_MARK (R479): at a T4000/0 tick at which the operating seconds are a whole multiple of the interval, whatever
other marks the tick has. -/
def execTimeMark (s : State) : Host.Outcome State Fault Refusal :=
  if s.running ∧ s.k % 4000 = 0 ∧ s.recd.opSeconds % s.conf Obj.REC_MARK_SECONDS = 0 ∧
      s.recd.markAt ≠ some s.k then .next { s.timeMark with recd := { s.timeMark.recd with markAt := some s.k } }
  else .next s

/-- STARTUP_PHASE_END (R480): at the first T4000/0 tick after the first tick. -/
def execStartupPhaseEnd (s : State) : Host.Outcome State Fault Refusal :=
  .next { s with recd := { s.recd with startPhase := !s.startPhaseOver } }

/-- RECOVERY_PHASE_END (R480): 240000 ticks after its start. -/
def execRecoveryPhaseEnd (s : State) : Host.Outcome State Fault Refusal :=
  .next (if s.recoveryOver then { s with recd := { s.recd with recoverySince := none } } else s)

/-- A clear is in its write: its record is in the queue or about to enter it (R489). -/
def State.clearing (s : State) : Bool :=
  s.recd.queue.any (fun r => isClear r.code) || s.recd.reported.any (fun e => isClear e.code)

/-- REC_CLEAR_CIRC (R489): a record of code 0004h with the writing session's level and number. -/
def execRecClearCirc (q : Req) (s : State) : Host.Outcome State Fault Refusal :=
  .next (s.serveSet q Obj.REC_CLEAR_CIRC 1 (fun s => { busy := s.clearing })
    fun s => s.event 0 4 (u8 (s.reqLevel q) ++ u16 q.session))

/-- REC_CLEAR_KEPT (R489): a record of code 0003h with the writing session's level and number. -/
def execRecClearKept (q : Req) (s : State) : Host.Outcome State Fault Refusal :=
  .next (s.serveSet q Obj.REC_CLEAR_KEPT 1 (fun s => { busy := s.clearing })
    fun s => s.event 0 3 (u8 (s.reqLevel q) ++ u16 q.session))

/-- An OEM event's code lies in C000h–FFFFh (R491, R492). -/
def appEventOk (b : Bytes) : Bool := decide (0xC000 ≤ field b 0 2)

/-- The event of a written REC_APP_EVENT: source 20h, the code and the 14 payload bytes. -/
def State.appEvent (s : State) (b : Bytes) : State := s.event 0x20 (field b 0 2) (b.drop 2)

/-- REC_APP_EVENT (R491). -/
def execRecAppEvent (q : Req) (block : Bytes) (s : State) : Host.Outcome State Fault Refusal :=
  .next (s.serveWrite q Obj.REC_APP_EVENT (tyOf Obj.REC_APP_EVENT) block
    (fun _ => { range := appEventOk block }) fun s => s.appEvent block)

/-- The reply to a READ of a block as a whole: type code, total length, data length, data (R103). -/
def readReply (ty total : Nat) (data : Bytes) : Bytes := u8 ty ++ u32 total ++ u16 data.length ++ data

/-- REC_WINDOW (R487): up to 32 served records from REC_CURSOR on; refused with RANGE at another offset than 0
or a maximum length below 32. -/
def execRecWindow (q : Req) (offset maxLen : Nat) (s : State) : Host.Outcome State Fault Refusal :=
  .next (s.serve q 3 (readTail 0x2200 7 offset maxLen) true fun s _ =>
    if offset ≠ 0 ∨ maxLen < 32 then ⟨.range, [], s, false⟩
    else
      let b := s.recWindow (min maxLen 1256)
      ⟨.ok, readReply 0xB b.length b, s, false⟩)

end Sys2Proof.Machine
end

