-- ==== Sys2Proof/Machine/Live.lean ====
section
/-! DEFINITION. The values of RO objects that S computes from the state when they are read, and references to
objects (R71, R120). -/

namespace Sys2Proof.Machine

/-! What computed objects show -/

/-- An object that the store command saves (R73); the OEM application's are its own (R80). -/
def isRws (key : Nat) : Bool := ((rowOf key).map (·.acc)) == some .rws

/-- A settings area. -/
def State.areaOf (s : State) (b : Bool) : SetArea := if b then s.store.areaB else s.store.areaA

/-- The object is the …_OFFSET object of an area (R556). -/
def isOffset (key : Nat) : Bool :=
  (isArea key && (match rowOf key with | some r => r.acc == .ro && r.ty == .u32 | none => false) &&
    !(key / 256 == 0x7060 && key % 256 != 6)) || key == Obj.PAIR_APP_IN_OFFSET

/-- The highest sub-index present at an index (R71). -/
def highestSub (ix : Nat) : Nat :=
  if 0x3881 ≤ ix ∧ ix ≤ 0x388B then 0x23
  else ((tableOf ix).map fun t => (t.map (·.hi)).foldl max 0).getD 0

/-- YS_NEWEST: sequence of the newest written page, 0 when none. -/
def YieldSt.newest (y : YieldSt) : Nat := if y.pages.isEmpty then 0 else (y.nextSeq + 2 ^ 32 - 1) % 2 ^ 32

/-- YS_OLDEST: sequence of the oldest readable page, 0 when none. -/
def YieldSt.oldest (y : YieldSt) : Nat :=
  let l := (y.pages.filterMap (·.2)).filter (·.ok)
  match l with
  | [] => 0
  | p :: t => (t.foldl (fun a b => if newer32 a.seq b.seq then b else a) p).seq

/-- The periodic interval, ticks (R442). -/
def State.swapInterval (s : State) : Nat := s.conf Obj.PAIR_SWAP_HOURS * 3600 * 4000

/-- Bytes per pixel of an output format. -/
def fmtBytes (fmt : Nat) : Nat := [3, 2, 1].getD fmt 1

/-- The stride of a line of `w` pixels in a format (R364). -/
def strideOf (w fmt : Nat) : Nat := (w * fmtBytes fmt + 63) / 64 * 64

/-- The stride of a stream (R364). -/
def State.stride (s : State) (n : Nat) : Nat := strideOf (s.get (Obj.STR_OUT_W n)) (s.get (Obj.STR_OUT_FMT n))

/-- STR_FB_SIZE (R364). -/
def State.fbSize (s : State) (n : Nat) : Nat := 64 + s.stride n * s.get (Obj.STR_OUT_H n)

/-- The windows of DRAM that the module has assigned, as the streams' formats stand. -/
def State.dramWindows (s : State) : List (Nat × Nat) := dramSpecs s.fbSize

/-- The members of an assembly, in member-sub order, each with its sub. -/
def State.members (s : State) (a : Nat) : List (Nat × Nat) :=
  ((List.range 64).map fun i => (i, s.get (Obj.AS_MEMBER a i))).filter fun p => p.2 != 0xFFFF

/-- The longest chain of assemblies below a unit: 0 for one whose members are slots (AS_DEPTH). -/
def State.storeDepth (s : State) : Nat → Nat → Nat
  | 0, _ => 0
  | fuel + 1, u =>
    ((s.members (u - 0x100)).map fun p => if p.2 < 0x100 then 0 else s.storeDepth fuel p.2 + 1).foldl max 0

/-- Any RWS object differs from the area in force, or from its default when none is (STORE_CHANGED). -/
def State.changed (s : State) : Bool :=
  let a : SetArea := match s.store.inForce with | some b => s.areaOf b | none => {}
  decide (s.obj.filter (fun p => isRws p.1) ≠ a.vals ∨ s.blob.filter (fun p => isRws p.1) ≠ a.strs)

/-- An object's value as it stands, for the objects that do not depend on who reads them: held, or computed from the
state. -/
def State.live (s : State) (key : Nat) : Nat :=
  let ix := key / 256
  if key % 256 = 0 then highestSub ix
  else if isOffset key then areaOffset s.runSlot.release key
  else if key = Obj.ID_FW_RELEASE then s.runSlot.release
  else if key = Obj.ID_IMAGE_SLOT then boolNat s.upd.run
  else if key = Obj.SESS_OPEN then s.table.length
  else if key = Obj.SESS_LOCKOUT then (match s.dict.lockout with | some t => (t + 240000 - s.k + 3999) / 4000 | none => 0)
  else if key = Obj.STORE_CHANGED then boolNat s.changed
  else if key = Obj.REC_OLDEST then s.recOldest
  else if key = Obj.REC_KEPT_USED then s.recd.keptUsed
  else if key = Obj.REC_PHASE then s.recPhase
  else if key = Obj.REC_OP_SECONDS then s.recd.opSeconds
  else if key = Obj.REC_POWER_CYCLES then s.recd.powerCycles
  else if key = Obj.REC_CRC_BAD then s.recd.crcBad
  else if key = Obj.REC_QUEUE_PEAK then s.recd.queuePeak
  else if key = Obj.PAIR_SWAP_DUE then (s.swapInterval - s.pair.operTicks + 3999) / 4000
  else if key = Obj.YS_MARK then s.led.ys.mark
  else if key = Obj.GQ_HEAD then s.gnss.head.getD 0xFFFFFFFF
  else if 0x6820 ≤ ix ∧ ix < 0x6828 ∧ key % 256 = 0xD then s.fbSize (ix - 0x6820)
  else if 0x8000 ≤ ix ∧ ix < 0x9000 ∧ ix % 16 = 0 ∧ key % 256 = 5 then s.get (Obj.TP_NUMBER ((ix - 0x8000) / 16))
  else if 0x8000 ≤ ix ∧ ix < 0x9000 ∧ ix % 16 = 0 ∧ key % 256 = 6 then s.storeDepth 256 (0x100 + (ix - 0x8000) / 16)
  else s.get (s.alias key)

/-! References (R120) -/

/-- What a reference reads: whether it names something, the type, the code, the validity and the stamp. -/
structure RefVal where
  named : Bool
  ty : Ty
  val : Nat
  valid : Bool
  stamp : Nat
  deriving DecidableEq, Repr

/-- A reference's value as it stands in the tick image, with its validity (R120). An object that is no entry is
valid with the stamp of this tick while its domain is on; the number and the level of the session that reads are 0, for no
session reads here (DEDUCED, log entry 10). -/
def State.ref (s : State) (r : Nat) : RefVal :=
  let key := s.alias (r / 256)
  if r = 0 then ⟨false, .u8, 0, false, 0⟩
  else
    let ty := ((present key).map (·.ty)).getD .u8
    match entKey key with
    | some _ => ⟨true, ty, s.get key, (s.entry key).valid, (s.entry key).stamp⟩
    | none =>
      ⟨true, ty, s.live key, (match objDomain key with | some d => s.domOn d | none => true), s.k⟩

/-- The number that a reference's value spells in its own type; a BOOL is 0 or 1. -/
def RefVal.exact (v : RefVal) : Rat :=
  match v.ty with
  | .f32 => f32rat v.val
  | .i16 => (decInt 16 v.val : Rat)
  | .i32 => (decInt 32 v.val : Rat)
  | _ => (v.val : Rat)

/-- A valid value that is a number; a source that reads a NaN or an infinity is taken as invalid (DESIGN CHOICE, log
entry 45). -/
def RefVal.good (v : RefVal) : Bool := v.named && v.valid && (v.ty != .f32 || f32finite v.val)

/-- The value of a reference as a binary32 code (R120). -/
def RefVal.f32 (v : RefVal) : Nat :=
  match v.ty with
  | .f32 => v.val
  | _ => ratF32 v.exact

/-- The value of a reference, converted to F32 (R120). -/
def RefVal.rat (v : RefVal) : Rat := f32rat v.f32

/-- A reference to a BOOL reads true and valid. -/
def State.refTrue (s : State) (r : Nat) : Bool :=
  let v := s.ref r
  v.named && v.valid && v.val != 0

/-- A reference is acceptable: none, or an RO object that is present now, of an allowed type, with the reserved byte 0
(R71, R120, R198). -/
def State.refOk (s : State) (tys : List Ty) (r : Nat) : Bool :=
  r == 0 || (r % 256 == 0 &&
    match s.presentRow (r / 256) with
    | some row => row.acc == .ro && decide (row.ty ∈ tys)
    | none => false)

/-- The number types a reference converts (R120). -/
def numTys : List Ty := [.u8, .u16, .u32, .i16, .i32, .f32]

end Sys2Proof.Machine
end

