-- ==== Sys2Proof/Machine/Loops.lean ====
section
/-! DEFINITION. Function loops and assemblies (R161–R193). Numbers are binary32 codes unless a comment says
otherwise. -/

namespace Sys2Proof.Machine

/-! Units (R185, R187) -/

/-- The object at a sub-index of the unit interface; zero, which names nothing, for an absent unit. -/
def unitKey (u sub : Nat) : Nat :=
  if u < 48 then (0x5000 + u) * 256 + sub
  else if 0x100 ≤ u ∧ u < 0x200 then (0x8000 + 16 * (u - 0x100)) * 256 + sub
  else 0

/-- …_ENABLE of a unit. -/
def enableKey (u : Nat) : Nat := unitKey u 0x10

/-- Every unit's parent as the member objects of the assemblies name it: at a start, and after a refill (R87, R188, R438). -/
def State.linkMembers (s : State) : State :=
  let isParent := fun key : Nat => key % 256 == 0x1E &&
    (decide (0x5000 ≤ key / 256 ∧ key / 256 < 0x5030) || (decide (0x8000 ≤ key / 256 ∧ key / 256 < 0x9000) && key / 256 % 16 == 0))
  let s : State := { s with obj := s.obj.filter fun p => !isParent p.1 }
  let members := s.obj.filter fun p => decide (0x8000 ≤ p.1 / 256) && p.1 / 256 % 16 == 1 && decide (1 ≤ p.1 % 256 ∧ p.1 % 256 ≤ 64)
  members.foldl (fun s p => s.set (unitKey p.2 0x1E) (0x100 + (p.1 / 256 - 0x8000) / 16)) s

/-- The parent assembly's unit number, if any. -/
def State.parent (s : State) (u : Nat) : Option Nat :=
  let p := s.get (unitKey u 0x1E)
  if p = 0xFFFF then none else some p

/-- The unit's ancestors, nearest first. -/
def State.ancestors (s : State) : Nat → Nat → List Nat
  | 0, _ => []
  | fuel + 1, u => match s.parent u with
    | some p => p :: s.ancestors fuel p
    | none => []

/-- The outermost unit that encloses a unit. -/
def State.root (s : State) (u : Nat) : Nat := ((s.ancestors 256 u).getLast?).getD u

/-- A unit and every unit below it. -/
def State.below (s : State) : Nat → Nat → List Nat
  | 0, u => [u]
  | fuel + 1, u =>
    if u < 0x100 then [u]
    else u :: ((s.members (u - 0x100)).map fun p => s.below fuel p.2).flatten

/-- Assembly levels below (AS_DEPTH). -/
def State.depth (s : State) : Nat → Nat → Nat
  | 0, _ => 0
  | fuel + 1, a =>
    ((s.members a).map fun p => if p.2 < 0x100 then 0 else 1 + s.depth fuel (p.2 - 0x100)).foldl max 0

/-- The unit is enabled by the value `g` of its outermost unit's …_ENABLE, and not held pending (R57, R190). -/
def State.unitOnBy (s : State) (g : Nat → Nat) (u : Nat) : Bool :=
  let e := enableKey (s.root u)
  g e != 0 && !s.time.held.contains e

/-- Enabled as it stands. -/
def State.unitOn (s : State) (u : Nat) : Bool := s.unitOnBy s.get u

/-- Enabled for the runs of this tick (R190). -/
def State.unitRuns (s : State) (u : Nat) : Bool := s.unitOnBy s.conf u

/-- The enable is held while the step window is open (R57). -/
def State.unitPending (s : State) (u : Nat) : Bool :=
  let e := enableKey (s.root u)
  s.get e != 0 && s.time.held.contains e

/-- The enable in force in this tick is held (R57). -/
def State.unitWaits (s : State) (u : Nat) : Bool :=
  let e := enableKey (s.root u)
  s.conf e != 0 && s.time.held.contains e

/-- A slot's internal state. -/
def State.fl (s : State) (n : Nat) : FlSt := Sparse.find (fun _ => ({} : FlSt)) s.loop.fl n

/-- A slot's internal state changed. -/
def State.setFl (s : State) (n : Nat) (x : FlSt) : State :=
  { s with loop := { s.loop with fl := Sparse.put (fun _ => ({} : FlSt)) s.loop.fl n x } }

/-- An assembly's latch. -/
def State.asm (s : State) (a : Nat) : AsSt := Sparse.find (fun _ => ({} : AsSt)) s.loop.asm a

/-- An assembly's latch changed. -/
def State.setAsm (s : State) (a : Nat) (x : AsSt) : State :=
  { s with loop := { s.loop with asm := Sparse.put (fun _ => ({} : AsSt)) s.loop.asm a x } }

/-- The unit takes part in the tick's evaluations from now on. -/
def State.touchUnit (s : State) (u : Nat) : State :=
  if u < 48 then
    if u ∈ s.loop.slots then s else { s with loop := { s.loop with slots := s.loop.slots ++ [u] } }
  else
    if u - 0x100 ∈ s.loop.asms then s else { s with loop := { s.loop with asms := s.loop.asms ++ [u - 0x100] } }

/-- The engine of a slot (R161), and its domain (R164). -/
def engineOf (n : Nat) : Nat := n / 12
/-- D3 for L0 to L2, D4 for L3 (R164). -/
def engineDomain (e : Nat) : Nat := if e < 3 then 3 else 4

/-- The engine is faulted or waits for its start after a restart (R50, R51). -/
def State.engineStopped (s : State) (e : Nat) : Bool :=
  bit (s.get Obj.TICK_ENGINE_FAULT) e || s.tick.restarting.contains e

/-- The policy that faulted ancestors impose on a unit from the tick after their evaluation (R192): none, hold
or stop; stop before hold. -/
def State.policy (s : State) (u : Nat) : Option Nat :=
  let l := (s.ancestors 256 u).filter fun p =>
    let x := s.asm (p - 0x100)
    x.fault.isSome && decide (x.at_ < s.k)
  let ps := l.map fun p => s.conf (Obj.AS_POLICY (p - 0x100))
  if ps.contains 1 then some 1 else if ps.isEmpty then none else some 0

/-- A slot's fault code (Table 4): its own, or 03h from the first run after the mode state became 03h (R98, R180). -/
def State.flFault (s : State) (n : Nat) : Nat :=
  let f := (s.fl n).fault
  if f ≠ 0 then f else if (s.fl n).st = 4 then 3 else 0

/-- A slot that faulted ancestors stop: it is not faulted itself (R192). -/
def State.policyStops (s : State) (n : Nat) : Bool := s.policy n == some 1 && s.flFault n == 0

/-! Published unit states (Table 7) -/

/-- …_STATE of a slot. A slot that a policy stops reads 04h (DEDUCED, log entry 20). -/
def State.flState (s : State) (n : Nat) : Nat :=
  if !s.unitOn n then (if s.unitPending n then 5 else 0)
  else if s.flFault n ≠ 0 then 4
  else if s.policyStops n then 4
  else (s.fl n).st

/-- …_STATE and …_FAULT of a slot written to its objects. -/
def State.publishSlot (s : State) (n : Nat) : State :=
  let f := if s.unitOn n then s.flFault n else 0
  (s.set (Obj.FL_STATE n) (s.flState n)).set (Obj.FL_FAULT n) (if f = 0 then 0 else n * 65536 + f)

/-- What the evaluation of an assembly gives (R191): …_STATE, …_FAULT, and a fault that latches now. -/
structure AsEval where
  state : Nat
  fault : Nat
  latch : Bool
  deriving DecidableEq, Repr

/-- A unit's own holds (R178), by the values in force in this tick. -/
def State.ownHold (s : State) (u : Nat) : Bool :=
  let src := s.conf (unitKey u 0x12)
  s.confFlag (unitKey u 0x11) || (src != 0 && (!(s.ref src).valid || (s.ref src).val != 0))

/-- The unit is held: by command, itself or an ancestor, or, unless it is faulted itself, by the fault policy of an
ancestor (R178, R190, R192). -/
def State.unitHeld (s : State) (u : Nat) (faulted : Bool) : Bool :=
  s.ownHold u || (s.ancestors 256 u).any s.ownHold || (!faulted && s.policy u == some 0)

/-- The evaluation of an assembly, bottom-up (R191). -/
def State.evalAs (s : State) : Nat → Nat → AsEval
  | 0, _ => ⟨0, 0, false⟩
  | fuel + 1, a =>
    let u := a + 0x100
    if !(s.unitRuns u && s.unitOn u) then ⟨if s.unitWaits u && s.unitPending u then 5 else 0, 0, false⟩
    else match (s.asm a).fault with
    | some f => ⟨4, f, false⟩
    | none =>
      let ms := (s.members a).map fun p =>
        if p.2 < 0x100 then (p.1, s.get (Obj.FL_STATE p.2), s.get (Obj.FL_FAULT p.2))
        else
          let e := s.evalAs fuel (p.2 - 0x100)
          (p.1, e.state, e.fault)
      match ms.find? (fun m => s.conf (Obj.AS_CRIT a m.1) != 0 && m.2.1 == 4) with
      | some m => ⟨4, m.2.2, true⟩
      | none =>
        match ms.find? (fun m => m.2.1 == 4 || m.2.1 == 6) with
        | some m => ⟨6, m.2.2, false⟩
        | none =>
          if ms.any (fun m => m.2.1 == 3) then ⟨3, 0, false⟩
          else if s.unitHeld u false || ms.any (fun m => m.2.1 == 2) then ⟨2, 0, false⟩
          else ⟨1, 0, false⟩

/-- The tick's evaluation of the assemblies in use, from the member states of the tick (R191). -/
def State.evalAssemblies (s : State) : State :=
  let r := s.loop.asms.map fun a => (a, s.evalAs 257 a)
  r.foldl (fun t p =>
    let t := (t.set (Obj.AS_STATE p.1) p.2.state).set (Obj.AS_FAULT p.1) p.2.fault
    if p.2.latch then t.setAsm p.1 ⟨some p.2.fault, s.k⟩ else t) s

/-- The published states of the slots in use follow at the end of the tick. -/
def State.publishSlots (s : State) : State := s.loop.slots.foldl State.publishSlot s

/-! The control law (R167–R184) -/

/-- 0.00025, rounded to binary32. -/
def quarterMilli : Nat := 0x3983126F

/-- A notch's coefficients, computed in binary64 and rounded (R169). -/
def Notch.compute (f0 q depth ts : Nat) : Notch :=
  let one := ratF64 1
  let two := ratF64 2
  let w := f64tan (f64mul (f64mul 0x400921FB54442D18 (f64of32 f0)) (f64of32 ts))
  let zp := f64div one (f64mul two (f64of32 q))
  let g := f64pow (ratF64 10) (f64div (enc64 (fp64 (f64of32 depth)).neg) (ratF64 20))
  let zz := f64mul zp g
  let ww := f64mul w w
  let p2 := f64mul (f64mul two zp) w
  let z2 := f64mul (f64mul two zz) w
  let a0 := f64add (f64add one p2) ww
  { f0 := f0, q := q, depth := depth
    b0 := f64to32 (f64div (f64add (f64add one z2) ww) a0)
    b1 := f64to32 (f64div (f64mul two (f64sub ww one)) a0)
    b2 := f64to32 (f64div (f64add (f64sub one z2) ww) a0)
    a2 := f64to32 (f64div (f64add (f64sub one p2) ww) a0) }

/-- A notch seeded so that its output equals z (R169). -/
def Notch.seed (n : Notch) (z : Nat) : Notch :=
  let v := f32mul (f32sub n.b2 n.a2) z
  { n with s1 := v, s2 := v }

/-- One filter step (R169): the output and the notch after it. -/
def Notch.step (n : Notch) (x : Nat) : Nat × Notch :=
  if f32rat n.f0 = 0 then (x, n)
  else
    let out := f32add (f32mul n.b0 x) n.s1
    let s1 := f32add (f32sub (f32mul n.b1 x) (f32mul n.b1 out)) n.s2
    let s2 := f32sub (f32mul n.b2 x) (f32mul n.a2 out)
    (out, { n with s1 := s1, s2 := s2, out := some out })

/-- A notch brought to the settings in force, seeded where R169 and Table 5 say so, then stepped. -/
def Notch.run (n : Notch) (f0 q depth ts : Nat) (fresh : Bool) (x : Nat) : Nat × Notch :=
  if f32rat f0 = 0 then (x, { n with f0 := f0, q := q, depth := depth, out := none })
  else
    let changed := n.f0 ≠ f0 ∨ n.q ≠ q ∨ n.depth ≠ depth
    let m := if changed ∨ fresh then { Notch.compute f0 q depth ts with s1 := n.s1, s2 := n.s2, out := n.out }
      else n
    let m := if fresh then m.seed x
      else if changed then m.seed (m.out.getD x) else m
    m.step x

/-- What a feed-forward source gives in a run: not used, invalid, or a value. -/
inductive FfIn where
  | unused
  | invalid
  | value (v : Nat)
  deriving DecidableEq, Repr

/-- A term dropped: the held value moves into I, and the term is 0 (R175). -/
def FfTerm.drop (t : FfTerm) (i iMin iMax : Nat) : FfTerm × Nat :=
  ({ t with val := 0, dropped := true }, f32clamp iMin iMax (f32add i t.val))

/-- The term has been invalid in every run for FL_FF_TIMEOUT ticks, and is not yet dropped (R175). -/
def FfTerm.due (t : FfTerm) (timeout k : Nat) : Bool :=
  !t.dropped && match t.since with
    | some since => decide (since + timeout ≤ k)
    | none => false

/-- One feed-forward term in a run (R175, R177, Table 5): the term, and I where a term is dropped or returns. -/
def FfTerm.run (t : FfTerm) (inp : FfIn) (cfg : List Nat) (fresh : Bool) (timeout k i iMin iMax : Nat) : FfTerm × Nat :=
  let direct := fresh || t.seen != cfg
  match inp with
  | .unused => ({ seen := cfg }, i)
  | .value v =>
    if t.dropped && !direct then ({ val := v, seen := cfg }, f32clamp iMin iMax (f32sub i v))
    else ({ val := v, seen := cfg }, i)
  | .invalid =>
    if direct then ({ val := 0, since := some k, seen := cfg }, i)
    else
      let t := { t with since := some (t.since.getD k) }
      if t.due timeout k then t.drop i iMin iMax else (t, i)

/-- The source of the forecast term (R173), and whether the look-ahead lies beyond the last bin. -/
def State.ff1In (s : State) (n : Nat) : FfIn × Bool :=
  let st := s.conf (Obj.FL_FF1_STAGE n)
  if st = 0xFF then (.unused, false)
  else
    let e := s.entry (Obj.FC_STAMP st)
    let p := s.conf Obj.CRB_PERIOD
    if e.valid && decide (s.k < e.stamp + 2 * p) then
      let l := s.conf Obj.FC_BIN_LEN * p
      let b := (s.k + s.conf (Obj.FL_FF1_LEAD n) - e.stamp) / l
      let last := s.conf Obj.FC_BINS - 1
      let bn := min b last
      let f := s.get (if s.conf (Obj.FL_FF1_QTY n) = 0 then Obj.FC_TOTAL st bn else Obj.FC_GRAIN st bn)
      (.value (f32mul (s.conf (Obj.FL_FF1_GAIN n)) (f32sub f (s.conf (Obj.FL_FF1_OFFSET n)))), decide (last < b))
    else (.invalid, false)

/-- The source of the object term (R174). -/
def State.ff2In (s : State) (n : Nat) : FfIn :=
  let src := s.conf (Obj.FL_FF2_SRC n)
  if src = 0 then .unused
  else
    let v := s.ref src
    if v.valid && decide (s.k ≤ v.stamp + s.conf (Obj.FL_PV_MAX_AGE n)) then
      .value (f32mul (s.conf (Obj.FL_FF2_GAIN n)) (f32sub v.f32 (s.conf (Obj.FL_FF2_OFFSET n))))
    else .invalid

/-- The unit whose setpoint selectors govern a slot (R189). -/
def State.governor (s : State) : Nat → Nat → Nat
  | 0, u => u
  | fuel + 1, u => match s.parent u with
    | some p => if s.conf (Obj.AS_ENTRY (p - 0x100)) = u then s.governor fuel p else u
    | none => u

/-- An application command entry as a reader sees it in this tick (R23, R47). -/
def State.area0 (s : State) (key : Nat) : AppArea := Sparse.find (fun _ => ({} : AppArea)) s.app0 key

/-- The setpoint source's value, when valid (R170, R189); an application entry's value must be finite. -/
def State.spIn (s : State) (n : Nat) : Option Nat :=
  let g := s.governor 257 n
  match s.conf (unitKey g 0x13) with
  | 0 => some (s.conf (unitKey g 0x15))
  | 1 =>
    let v := s.ref (s.conf (unitKey g 0x14))
    if v.named && v.valid then some v.f32 else none
  | _ =>
    let a := s.area0 (Obj.FL_SP_APP_OFFSET n)
    let v := a.at_ 12 4
    if a.valid && f32finite v then some v else none

/-- The measurement in a run, when valid (R168). -/
def State.pvIn (s : State) (n : Nat) : Option Nat :=
  let v := s.ref (s.conf (Obj.FL_PV_SRC n))
  if v.named && v.valid && decide (s.k ≤ v.stamp + s.conf (Obj.FL_PV_MAX_AGE n)) then some v.f32 else none

/-- The unlimited sum that the application supplies, when it is a hit (R182). -/
def State.flAssist (s : State) (n : Nat) : Option Nat :=
  let key := Obj.FL_ASSIST_OFFSET n
  let v := (s.area key).at_ 12 4
  if s.hit key && f32finite v then some v else none

/-- The parts of the law that every run computes (R167, R178). -/
structure LawTerms where
  y : Nat
  r : Nat
  e : Nat
  dd : Nat
  d : Nat
  /-- p + d + ff1 + ff2 + bias. -/
  rest : Nat
  p : Nat
  deriving DecidableEq, Repr

/-- The terms of the law for a measurement and a setpoint; `ddPrev` and `rPrev` are those of the last run. -/
def State.lawTerms (s : State) (n ts y r1 rPrev dPrev : Nat) (ddPrev : Option Nat) (ff1 ff2 : Nat) : LawTerms :=
  let c := fun f : Nat → Nat => s.conf (f n)
  let step := f32mul (c Obj.FL_SP_RATE) ts
  let r := if f32lt 0 (c Obj.FL_SP_RATE) then f32clamp (f32sub rPrev step) (f32add rPrev step) r1 else r1
  let e := f32sub r y
  let p := f32mul (c Obj.FL_KP) (f32sub (f32mul (c Obj.FL_B) r) y)
  let dd := f32sub (f32mul (c Obj.FL_C) r) y
  let d := f32div (f32add (f32mul (c Obj.FL_TF) dPrev) (f32mul (c Obj.FL_KD) (f32sub dd (ddPrev.getD dd))))
    (f32add (c Obj.FL_TF) ts)
  ⟨y, r, e, dd, d, f32add (f32add (f32add (f32add p d) ff1) ff2) (c Obj.FL_BIAS), p⟩

/-- What one run applies: the output, I after the run, and FL_FLAGS bits 2, 3 and 6. -/
structure LawOut where
  u : Nat
  i : Nat
  flags : Nat
  deriving DecidableEq, Repr

/-- The limits, in the order of R171, and the integrator with its suspension (R167, R172) for an unlimited sum v; `assisted`
sets I under R183. -/
def State.lawOut (s : State) (n ts v uPrev i : Nat) (t : LawTerms) (assisted : Bool) : LawOut :=
  let c := fun f : Nat → Nat => s.conf (f n)
  let step := f32mul (c Obj.FL_OUT_RATE) ts
  let u1 := if f32lt 0 (c Obj.FL_OUT_RATE) then f32clamp (f32sub uPrev step) (f32add uPrev step) v else v
  let u := f32clamp (c Obj.FL_OUT_MIN) (c Obj.FL_OUT_MAX) u1
  let di := f32mul (f32mul (c Obj.FL_KI) ts) t.e
  let susp := (f32lt u v && f32lt 0 di) || (f32lt v u && f32lt di 0)
  let i1 := if assisted then f32clamp (c Obj.FL_I_MIN) (c Obj.FL_I_MAX) (f32sub u t.rest)
    else f32clamp (c Obj.FL_I_MIN) (c Obj.FL_I_MAX) (f32add i (if susp then 0 else di))
  let fl := 4 * boolNat (f32lt u1 v) + 8 * boolNat (f32lt v u1) + 64 * boolNat (susp && !assisted)
  ⟨u, i1, fl⟩

/-- v = p + i + d + ff1 + ff2 + bias, left to right (R167). -/
def State.lawSum (s : State) (n p i d ff1 ff2 : Nat) : Nat :=
  f32add (f32add (f32add (f32add (f32add p i) d) ff1) ff2) (s.conf (Obj.FL_BIAS n))

/-- FL_FLAGS bits 10 to 13 of the two terms. -/
def ffFlags (a b : FfTerm) : Nat :=
  0x400 * boolNat (a.since.isSome && !a.dropped) + 0x800 * boolNat a.dropped +
  0x1000 * boolNat (b.since.isSome && !b.dropped) + 0x2000 * boolNat b.dropped

/-- FL_FLAGS bits 0, 1, 4 and 5: the output and I at their limits. -/
def State.limitFlags (s : State) (n u i : Nat) : Nat :=
  boolNat (f32le (s.conf (Obj.FL_OUT_MAX n)) u) + 2 * boolNat (f32le u (s.conf (Obj.FL_OUT_MIN n))) +
    16 * boolNat (f32le (s.conf (Obj.FL_I_MAX n)) i) + 32 * boolNat (f32le i (s.conf (Obj.FL_I_MIN n)))

/-- The destination command object of a slot, 0 for none. -/
def State.flDst (s : State) (n : Nat) : Nat := s.conf (Obj.FL_OUT_DST n) / 256

/-- A slot's entries written, stamped with the run tick (R181); a slot disabled in this very tick leaves them
invalid. -/
def State.emitSlot (s : State) (n u : Nat) : State :=
  let live := s.unitOn n
  let s := s.write (Obj.FL_OUT n) u live
  if s.flDst n = 0 then s else s.write (s.flDst n) u live

/-- A slot's entries lose their validity (R180, R181). -/
def State.clearSlot (s : State) (n : Nat) : State :=
  let s := s.invalidate (Obj.FL_OUT n)
  if s.flDst n = 0 then s else s.invalidate (s.flDst n)

/-- A value that is there now, else the last one; where there has never been one, the spec states none and the value is
free (log entry 3). -/
def State.orOpen (s : State) (now last : Option Nat) : Nat × State :=
  match now, last with
  | some v, _ => (v, s)
  | none, some v => (v, s)
  | none, none => (s.draw.1.toNat % 2 ^ 32, s.draw.2)

/-- The term numbered 0 (forecast) or 1 (object) of a slot. -/
def FlSt.term (x : FlSt) (w : Nat) : FfTerm := if w = 0 then x.ff1 else x.ff2

/-- The settings whose write lets a term take its new value directly (Table 5). -/
def State.ffCfg (s : State) (n w : Nat) : List Nat :=
  if w = 0 then [s.conf (Obj.FL_FF1_STAGE n), s.conf (Obj.FL_FF1_QTY n), s.conf (Obj.FL_FF1_LEAD n)]
  else [s.conf (Obj.FL_FF2_SRC n)]

/-- One run of a slot (R167–R184), its mode entered and counted. Only the first run is initial (R177); where its
measurement is invalid, the notches are seeded from the first valid one (R169). -/
def State.slotLaw (s : State) (n us : Nat) : State :=
  let mode := Obj.FL_MODE n
  let s := s.modeEnter mode
  let hit := s.flAssist n
  let kind := s.runKind mode hit.isSome
  let s := s.modeCount mode kind
  let c := fun f : Nat → Nat => s.conf (f n)
  let st := s.fl n
  let ts := f32mul (ratF32 (c Obj.FL_CLASS)) quarterMilli
  let iMin := c Obj.FL_I_MIN
  let iMax := c Obj.FL_I_MAX
  let pv := s.pvIn n
  let cfgPv := [c Obj.FL_PV_SRC, c Obj.FL_PV_SCALE, c Obj.FL_PV_OFFSET]
  let cfgD := [c Obj.FL_KD, c Obj.FL_TF, c Obj.FL_C]
  let newPv := st.seenPv != cfgPv
  -- the setpoint (R170)
  let spv := s.spIn n
  let spr := s.orOpen spv st.sp
  let sp := spr.1
  let s : State := spr.2
  let r1 := f32clamp (c Obj.FL_SP_MIN) (c Obj.FL_SP_MAX) sp
  -- the measurement and its notches (R168, R169)
  let x := f32add (f32mul (pv.getD 0) (c Obj.FL_PV_SCALE)) (c Obj.FL_PV_OFFSET)
  let fresh := st.init || newPv
  let n1 := st.n1.run (c Obj.FL_N1_F0) (c Obj.FL_N1_Q) (c Obj.FL_N1_DEPTH) ts fresh x
  let n2 := st.n2.run (c Obj.FL_N2_F0) (c Obj.FL_N2_Q) (c Obj.FL_N2_DEPTH) ts fresh n1.1
  let yr := s.orOpen (pv.map fun _ => n2.1) st.y
  let y := yr.1
  let s : State := yr.2
  -- the feed-forward terms (R173–R175)
  let in1 := s.ff1In n
  let beyond := in1.2
  let ffr := st.ff1.run in1.1 (s.ffCfg n 0) st.init (c Obj.FL_FF_TIMEOUT) s.k st.i iMin iMax
  let ff1 := ffr.1
  let ffr := st.ff2.run (s.ff2In n) (s.ffCfg n 1) st.init (c Obj.FL_FF_TIMEOUT) s.k ffr.2 iMin iMax
  let ff2 := ffr.1
  let i0 := ffr.2
  let ddPrev := if st.init || (newPv && pv.isSome) || st.seenD != cfgD then none else some st.dd
  let t := s.lawTerms n ts y r1 (if st.init then r1 else st.r) (if st.init then 0 else st.d) ddPrev ff1.val ff2.val
  let uPrev := if st.init then c Obj.FL_INIT_OUT else st.u
  let held := pv.isNone || s.unitHeld n (kind == .faulted)
  let i0 := if st.init || (st.held && !held) then f32clamp iMin iMax (f32sub uPrev t.rest) else i0
  let out : LawOut :=
    if held then ⟨uPrev, i0, 0⟩
    else match kind with
      | .assisted => s.lawOut n ts (hit.getD 0) uPrev i0 t true
      | .miss => ⟨uPrev, f32clamp iMin iMax (f32sub uPrev t.rest), 0⟩
      | _ => s.lawOut n ts (s.lawSum n t.p i0 t.d ff1.val ff2.val) uPrev i0 t false
  let flags := s.limitFlags n out.u out.i + out.flags + 0x80 * boolNat (f32rat r1 ≠ f32rat sp) + 0x100 * boolNat (f32rat t.r ≠ f32rat r1) +
    0x200 * boolNat spv.isNone + ffFlags ff1 ff2 + 0x4000 * boolNat beyond + 0x8000 * boolNat pv.isNone
  let st' : FlSt := { st with
    init := !s.unitOn n
    i := out.i, d := t.d, dd := t.dd, r := t.r, u := out.u
    y := some y, sp := some sp, n1 := if pv.isSome then n1.2 else st.n1, n2 := if pv.isSome then n2.2 else st.n2
    ff1 := ff1, ff2 := ff2
    pvSince := if pv.isNone then some (st.pvSince.getD s.k) else none
    held := held
    st := if kind = .faulted then 4 else if pv.isNone then 3 else if held then 2 else 1
    seenD := cfgD, seenPv := if pv.isSome then cfgPv else if st.init then [] else st.seenPv }
  let s := s.setFl n st'
  let s := match kind with
    | .faulted => s.clearSlot n
    | .miss => if held || st.init then s.emitSlot n out.u else s
    | _ => s.emitSlot n out.u
  let s := (s.write (Obj.FL_SP_NOW n) t.r true).write (Obj.FL_PV_NOW n) y true
  let s := (s.write (Obj.FL_I_NOW n) out.i true).write (Obj.FL_FF_NOW n) (f32add ff1.val ff2.val) true
  (s.write (Obj.FL_FLAGS n) flags true).write (Obj.FL_RUN_US n) us true

/-- A unit's work of this tick ended in time: its consecutive overruns end (R50). -/
def State.inTime (s : State) (u : Nat) : State :=
  { s with tick := { s.tick with
      ran := s.tick.ran ++ [u]
      undo := s.tick.undo.filter fun p => p.1 ≠ u
      consec := Sparse.put (fun _ => 0) s.tick.consec u 0 } }

/-- A unit completed its run of this tick. -/
def State.ranUnit (s : State) (u : Nat) : State :=
  let s := s.inTime u
  { s with tick := { s.tick with made := s.tick.made ++ [u] } }

/-- The slot is due in this tick, and nothing keeps it from running (R161–R165, R180). -/
def State.slotDue (s : State) (n : Nat) : Bool :=
  s.running && s.acting && decide (s.k % s.conf (Obj.FL_CLASS n) = s.conf (Obj.FL_PHASE n)) &&
    s.unitRuns n && s.domOn (engineDomain (engineOf n)) && !s.engineStopped (engineOf n) &&
    decide ((s.fl n).fault = 0) && !s.tick.ran.contains n

/-- The slot is due and its turn has come: an engine runs the slots of a tick in ascending number (R161). -/
def State.slotTurn (s : State) (n : Nat) : Bool :=
  s.slotDue n && (List.range n).all fun m => engineOf m != engineOf n || !s.slotDue m

/-- A write to FL_MODE ends the assisted fault in this run (R99, R180). -/
def State.modeEnds (s : State) (n : Nat) : Bool :=
  (s.fl n).st == 4 && (s.modeEnter (Obj.FL_MODE n)).modeState (Obj.FL_MODE n) != 3

/-- In this run faulted ancestors stop the slot, which is not faulted, or is so no longer (R192). -/
def State.slotStops (s : State) (n : Nat) : Bool := s.policyStops n || (s.policy n == some 1 && s.modeEnds n)

/-- A slot that a policy stops: its entries lose their validity, and it will start from its initial state
(R192; DEDUCED, log entry 20). -/
def State.slotStopped (s : State) (n : Nat) : State :=
  let t := if s.modeEnds n then s.modeEnter (Obj.FL_MODE n) else s
  (t.clearSlot n).setFl n { t.fl n with init := true, st := 1 }

/-- A slot faults (R180): it stops, and its entries lose their validity. -/
def State.faultSlot (s : State) (n code : Nat) : State :=
  (s.clearSlot n).setFl n { s.fl n with fault := code, init := true, st := 1 }

/-- The measurement has been invalid in every run for FL_PV_TIMEOUT ticks, and it is in this one (R179). -/
def State.pvTimedOut (s : State) (n : Nat) : Bool :=
  let t := s.conf (Obj.FL_PV_TIMEOUT n)
  (s.pvIn n).isNone && t != 0 && match (s.fl n).pvSince with
    | some since => decide (since + t ≤ s.k)
    | none => false

/-- SLOT_RUN (R167); a run in which the measurement timeout ends is the fault (R179). `us` is how long the run took. -/
def execSlotRun (n : Fin 48) (us : Nat) (s : State) : Host.Outcome State Fault Refusal :=
  if s.slotTurn n then
    let t := if s.slotStops n then s.slotStopped n else if s.pvTimedOut n then s.faultSlot n 4 else s.slotLaw n us
    .next (t.ranUnit n)
  else .next s

/-- PV_TIMEOUT_FAULT (R179, R180): the slot faults in the run, which writes no entry. -/
def execPvTimeoutFault (n : Fin 48) (s : State) : Host.Outcome State Fault Refusal :=
  if s.slotTurn n ∧ s.slotStops n = false ∧ s.pvTimedOut n then .next ((s.faultSlot n 4).ranUnit n) else .next s

/-- In this run a term is invalid, its timeout ends, and neither an initial state nor a write ends what it holds
(R175, R177, Table 5). -/
def State.ffDrops (s : State) (n w : Nat) : Bool :=
  let st := s.fl n
  decide ((if w = 0 then (s.ff1In n).1 else s.ff2In n) = .invalid) && !st.init &&
    (st.term w).seen == s.ffCfg n w && (st.term w).due (s.conf (Obj.FL_FF_TIMEOUT n)) s.k

/-- A term dropped in the run under way; an overrun of the run restores the slot (R49). -/
def State.dropTerm (s : State) (n w : Nat) : State :=
  let st := s.fl n
  let d := (st.term w).drop st.i (s.conf (Obj.FL_I_MIN n)) (s.conf (Obj.FL_I_MAX n))
  let undo := if s.tick.undo.any (fun p => p.1 == n) then s.tick.undo else s.tick.undo ++ [(n, st)]
  { s with tick := { s.tick with undo := undo } }.setFl n
    (if w = 0 then { st with i := d.2, ff1 := d.1 } else { st with i := d.2, ff2 := d.1 })

/-- The results of the slots in a list are discarded: what their runs have changed so far is restored (R49). -/
def State.discardRuns (s : State) (us : List Nat) : State :=
  let back := s.tick.undo.filter fun p => us.contains p.1
  let s := back.foldl (fun s p => s.setFl p.1 p.2) s
  { s with tick := { s.tick with undo := s.tick.undo.filter fun p => !us.contains p.1 } }

/-- FF_TERM_DROP (R175): in the run in which the timeout ends, the held value moves into I, and the term is 0. -/
def execFfTermDrop (n : Fin 48) (term : Fin 2) (s : State) : Host.Outcome State Fault Refusal :=
  if s.slotTurn n ∧ s.slotStops n = false ∧ s.pvTimedOut n = false ∧ s.ffDrops n term then .next (s.dropTerm n term)
  else .next s

/-! Enables (R176, R181, R190, R192) -/

/-- A command object marked loop-drivable: CH_LOOP_CMD and VD_LOOP_CMD. -/
def loopDrivable (r : Nat) : Bool :=
  let key := r / 256
  r % 256 == 0 && key % 256 != 0 &&
    ((decide (0x3000 ≤ key / 256 ∧ key / 256 < 0x3080) && key % 256 == 0xC) ||
     (decide (0x3800 ≤ key / 256 ∧ key / 256 < 0x3830) && key % 256 == 6))

/-- A notch in use meets the F0 limit of R169. -/
def notchOk (f0 cls : Nat) : Bool :=
  f32rat f0 == 0 || decide (f32rat f0 < 45 / 100 * 4000 / (cls : Rat))

/-- An assembly governs the slot's setpoint, so its own selectors are not in force (R189). -/
def State.governed (s : State) (n : Nat) : Bool :=
  match s.parent n with
  | some p => s.get (Obj.AS_ENTRY (p - 0x100)) == n
  | none => false

/-- The checks of Table 3 that a slot fails, in their order; `also` are the slots enabled with it. -/
def State.slotFails (s : State) (also : List Nat) (n : Nat) : List Nat :=
  let g := fun f : Nat → Nat => s.get (f n)
  let pv := g Obj.FL_PV_SRC
  let dst := g Obj.FL_OUT_DST
  let le := fun a b : Nat → Nat => f32le (g a) (g b)
  let fails : List (Nat × Bool) := [
    (1, pv == 0 || !s.refOk numTys pv),
    (2, dst != 0 && !loopDrivable dst),
    (3, dst != 0 && (List.range 48).any fun m =>
      m != n && (s.unitOn m || s.unitPending m || also.contains m) && s.get (Obj.FL_OUT_DST m) == dst),
    (4, !notchOk (g Obj.FL_N1_F0) (g Obj.FL_CLASS) || !notchOk (g Obj.FL_N2_F0) (g Obj.FL_CLASS)),
    (5, !(le Obj.FL_SP_MIN Obj.FL_SP_MAX && le Obj.FL_I_MIN Obj.FL_I_MAX && le Obj.FL_OUT_MIN Obj.FL_OUT_MAX)),
    (6, g Obj.FL_FF1_STAGE != 0xFF && !bit (s.get Obj.FC_STAGES) (g Obj.FL_FF1_STAGE)),
    (7, g Obj.FL_SP_SEL == 1 && g Obj.FL_SP_SRC == 0 && !s.governed n),
    (9, bit (s.get Obj.TICK_ENGINE_FAULT) (engineOf n))]
  (fails.filter (·.2)).map (·.1)

/-- The checks of Table 3 that an assembly fails. -/
def State.asFails (s : State) (a : Nat) : List Nat :=
  let ms := (s.members a).map (·.2)
  let fails : List (Nat × Bool) := [
    (7, s.get (Obj.AS_SP_SEL a) == 1 && s.get (Obj.AS_SP_SRC a) == 0),
    (8, ms.isEmpty || !ms.contains (s.get (Obj.AS_ENTRY a)) || !ms.contains (s.get (Obj.AS_EXIT a)))]
  (fails.filter (·.2)).map (·.1)

/-- The failing units and codes, the unit itself first, then those below it in member order (R176). -/
def State.unitFails (s : State) (u : Nat) : List (Nat × Nat) :=
  let us := s.below 257 u
  (us.map fun v =>
    (if v < 48 then s.slotFails (us.filter (· < 48)) v else s.asFails (v - 0x100)).map fun c => (v, c)).flatten

/-- The first failing unit and code. -/
def State.unitCheck (s : State) (u : Nat) : Option (Nat × Nat) := (s.unitFails u).head?

/-- No check on the enabled units fails in t that holds in s (R176); each enabled unit is checked with its outermost
one. -/
def State.keepsChecks (s t : State) : Bool :=
  let tops := (s.loop.slots ++ s.loop.asms.map (· + 0x100)).filter fun u =>
    (s.parent u).isNone && (s.unitOn u || s.unitPending u)
  tops.all fun u =>
    let old := s.unitFails u
    (t.unitFails u).all old.contains

/-- The step window closes (R56). -/
def State.closeWindow (s : State) : State := { s with time := { s.time with window := none } }

/-- An enable of a loop unit or of the ledger: held while the step window is open under policy 1, else in force,
closing the window (R56, R57). -/
def State.enableHeld (s : State) (key : Nat) : State :=
  if s.time.window.isSome then
    if s.get Obj.TIME_START_POLICY = 1 then
      { s with time := { s.time with held := if s.time.held.contains key then s.time.held else s.time.held ++ [key] } }
    else s.closeWindow
  else s

/-- …_ENABLE written true, its checks passed (R176). -/
def State.enableUnit (s : State) (u : Nat) : State :=
  let s := (s.below 257 u).foldl State.touchUnit s
  (s.set (enableKey u) 1).enableHeld (enableKey u)

/-- A slot stops by a disable: its entries lose their validity and its fault is cleared (R181). The destination's entry
is the slot's only while it was enabled. A slot faulted 03h reads no fault while it is off, but FL_MODE_STATE stays 03h:
only a write to FL_MODE clears that (Table 4), and its first run after an enable is faulted again (DESIGN CHOICE, log
entry 91). -/
def State.stopSlot (s : State) (wasOn : Bool) (n : Nat) : State :=
  let s := (if wasOn then s.clearSlot n else s.invalidate (Obj.FL_OUT n)).setFl n
    { ({} : FlSt) with y := (s.fl n).y, sp := (s.fl n).sp }
  { s with tick := { s.tick with consec := Sparse.put (fun _ => 0) s.tick.consec n 0 } }

/-- The states of a unit's slots and assemblies are read anew in this tick. -/
def State.publishUnits (s : State) (us : List Nat) : State :=
  us.foldl (fun s v =>
    if v < 48 then s.publishSlot v
    else
      let e := s.evalAs 257 (v - 0x100)
      (s.set (Obj.AS_STATE (v - 0x100)) e.state).set (Obj.AS_FAULT (v - 0x100)) e.fault) s

/-- …_ENABLE written false (R181, R190, R192). -/
def State.disableUnit (s : State) (u : Nat) : State :=
  let us := s.below 257 u
  let wasOn := s.flag (enableKey u)
  let s := s.set (enableKey u) 0
  let s := { s with time := { s.time with held := s.time.held.filter (· ≠ enableKey u) } }
  let s := us.foldl (fun s v => if v < 48 then s.stopSlot wasOn v else s.setAsm (v - 0x100) {}) s
  s.publishUnits us.reverse

/-- UNIT_ENABLE (R176): a write of true; a failed check refuses it with STATE and names itself in …_CFG_ERR. -/
def execUnitEnable (q : Req) (u : Nat) (s : State) : Host.Outcome State Fault Refusal :=
  .next (s.serveSet q (enableKey u) 1
    (fun s => { state := (s.parent u).isNone && (s.unitCheck u).isNone })
    (fun s => s.enableUnit u)
    (fun s st => match st, s.unitCheck u with
      | .state, some (v, c) => if s.standby || (s.parent u).isSome then s else s.set (unitKey u 0x1C) (v * 65536 + c)
      | _, _ => s))

/-- UNIT_DISABLE (R181). -/
def execUnitDisable (q : Req) (u : Nat) (s : State) : Host.Outcome State Fault Refusal :=
  .next (s.serveSet q (enableKey u) 0 (fun s => { state := (s.parent u).isNone }) fun s => s.disableUnit u)

/-- A unit's fault cleared: a slot that had stopped restarts from its initial state; a policy ends (R192). -/
def State.resetUnit (s : State) (u : Nat) : State :=
  let us := s.below 257 u
  let s := us.foldl (fun s v =>
    if v < 48 then
      let st := s.fl v
      if st.fault = 0 then s
      else
        let s := s.setFl v { st with fault := 0, init := true, pvSince := none }
        { s with tick := { s.tick with consec := Sparse.put (fun _ => 0) s.tick.consec v 0 } }
    else s.setAsm (v - 0x100) {}) s
  s.publishUnits us.reverse

/-- UNIT_RESET (R192): refused with STATE while the engine of a slot below is faulted. -/
def execUnitReset (q : Req) (u : Nat) (s : State) : Host.Outcome State Fault Refusal :=
  .next (s.serveSet q (unitKey u 0x1D) 1
    (fun s => { state := !((s.below 257 u).any fun v => decide (v < 48) && bit (s.get Obj.TICK_ENGINE_FAULT) (engineOf v)) })
    fun s => s.resetUnit u)

/-! Writes of other unit objects (R162, R176, R186, R188) -/

/-- A write to a slot's object passes the checks that the chapter adds. -/
def State.slotWriteExtra (s : State) (n sub : Nat) (v : Nat) : Extra :=
  let key := (0x5000 + n) * 256 + sub
  let on := s.unitOn n || s.unitPending n
  let stateOk := !(on && (sub == 5 || sub == 6 || sub == 0x2C))
  let cls := s.get (Obj.FL_CLASS n)
  let refsOk :=
    if sub == 7 || sub == 0x39 then s.refOk numTys v
    else if sub == 0x14 then s.refOk numTys v
    else if sub == 0x12 then s.refOk [.bool] v
    else if sub == 0x2C then v == 0 || (v % 256 == 0 && (rowOf (v / 256)).isSome && loopDrivable v)
    else if sub == 5 then decide (4000 % v = 0 ∧ s.get (Obj.FL_PHASE n) < v)
    else if sub == 6 then decide (v < cls)
    else true
  { range := refsOk && (!stateOk || s.keepsChecks (s.set key v)), state := stateOk }

/-- A write to an assembly's member sub (R188). -/
def State.memberExtra (s : State) (a v : Nat) : Extra :=
  let u := a + 0x100
  let there := decide (v < 48) || decide (0x100 ≤ v ∧ v < 0x200)
  let free := (s.parent v).isNone && !(s.unitOn v || s.unitPending v)
  { range := v == 0xFFFF || (there && v != u && !(s.ancestors 256 u).contains v && free)
    state := !(s.unitOn u || s.unitPending u) }

/-- A member written: the old member loses its parent, the new one gains it. -/
def State.setMember (s : State) (a i v : Nat) : State :=
  let old := s.get (Obj.AS_MEMBER a i)
  let s := if old = 0xFFFF then s else s.set (unitKey old 0x1E) 0xFFFF
  let s := s.set (Obj.AS_MEMBER a i) v
  if v = 0xFFFF then s else ((s.set (unitKey v 0x1E) (a + 0x100)).touchUnit v).touchUnit (a + 0x100)

/-- A write to another object of an assembly. -/
def State.asWriteExtra (s : State) (a sub v : Nat) : Extra :=
  let key := (0x8000 + 16 * a) * 256 + sub
  let refsOk :=
    if sub == 0x14 then s.refOk numTys v else if sub == 0x12 then s.refOk [.bool] v
    else if sub == 2 || sub == 3 then v == 0xFFFF || decide (v < 48) || decide (0x100 ≤ v ∧ v < 0x200)
    else true
  { range := refsOk && s.keepsChecks (s.set key v) }

end Sys2Proof.Machine
end

