-- ==== Sys2Proof/Machine/Ledger.lean ====
section
/-! DEFINITION. The crumb ledger (R118–R160). Piece masses and positions are binary32 codes; positions are advanced
in binary64 (R130); sums of credits are exact rationals (log entry 21). -/

namespace Sys2Proof.Machine

/-! Records and origins (R118, R130, R148) -/

/-- A piece record; an unlisted one is free. -/
def State.piece (s : State) (i : Nat) : Piece := Sparse.find (fun _ => ({} : Piece)) s.led.recs i

/-- A piece record written. -/
def State.setPiece (s : State) (i : Nat) (p : Piece) : State :=
  { s with led := { s.led with recs := Sparse.put (fun _ => ({} : Piece)) s.led.recs i p } }

/-- A record freed: it keeps its content (R153). -/
def State.freePiece (s : State) (i : Nat) : State := s.setPiece i { s.piece i with stage := 0xFF }

/-- The live records, by number. -/
def State.livePieces (s : State) : List (Nat × Piece) := s.led.recs.filter fun p => p.2.stage ≠ 0xFF

/-- The origin entry of a crumb, when it holds that crumb (R118). -/
def State.origin (s : State) (c : Nat) : Option Origin :=
  match Sparse.find (fun _ => (none : Option Origin)) s.led.origins (c % 4096) with
  | some o => if o.crumb = c then some o else none
  | none => none

/-- An origin entry written, or cleared. -/
def State.setOrigin (s : State) (c : Nat) (o : Option Origin) : State :=
  { s with led := { s.led with origins := Sparse.put (fun _ => none) s.led.origins (c % 4096) o } }

/-- A change of the origin entry of a crumb. -/
def State.onOrigin (s : State) (c : Nat) (f : Origin → Origin) : State :=
  match s.origin c with
  | some o => s.setOrigin c (some (f o))
  | none => s

/-- A piece carries two origins. -/
def Piece.two (p : Piece) : Bool := p.second != 0xFFFFFFFF

/-- A piece's origins with the share of every credit each takes (R141). -/
def Piece.shares (p : Piece) : List (Nat × Rat) :=
  if p.two then [(p.crumb, (p.share : Rat) / 65535), (p.second, 1 - (p.share : Rat) / 65535)]
  else [(p.crumb, 1)]

/-- A credit divided among a piece's origins (R141). -/
def State.credit (s : State) (p : Piece) (f : Origin → Rat → Origin) : State :=
  p.shares.foldl (fun s c => s.onOrigin c.1 fun o => f o c.2) s

/-- The bytes of a piece record (Table 2). -/
def Piece.bytes (p : Piece) : Bytes :=
  u32 p.crumb ++ u64 p.origin ++ u32 p.lat ++ u32 p.lon ++ u16 p.width ++ u16 p.dist ++ u32 p.intake ++
    u32 p.grain ++ u32 p.mog ++ u32 p.x ++ u32 p.entry ++ u32 p.second ++ u16 p.share ++ u16 p.h ++
    u16 p.res ++ u16 p.flags ++ u8 p.stage ++ u8 (p.outlet + 4 * p.passes) ++ u16 p.heading ++
    u8 p.quality ++ u8 p.tstate ++ u16 0

/-- CRB_TABLE: the 4096 records in order. -/
def State.crbTable (s : State) : Bytes := ((List.range 4096).map fun i => (s.piece i).bytes).flatten

/-- F32 object advanced by an amount, as a result of the run. -/
def State.addOut (s : State) (key : Nat) (q : Rat) : State :=
  s.write key (f32add (s.cur key).val (ratF32 q)) true

/-! Yield records and the yield store (R149–R152) -/

/-- An intensive field of a yield record. -/
def intensField (p : Rat × Rat) : Nat :=
  if p.2 = 0 then 0xFFFF else (max 0 (min 10000 (roundHalfAway (100 * p.1 / p.2)))).toNat

/-- Some measurement point has a kind (R149). -/
def State.pointKind (s : State) (kind : Nat) : Bool := (List.range 8).any fun m => s.conf (Obj.MP_KIND m) == kind

/-- The quiet NaN of R149. -/
def yieldNaN : Nat := 0x7FC00000

/-- The yield record of a closing crumb, 72 bytes (Table 8). -/
def State.yieldRecord (s : State) (o : Origin) : Bytes :=
  let loss := fun i => if s.pointKind (5 + i) then ratF32 (o.losses.getD i 0) else yieldNaN
  let b := u32 o.crumb ++ u64 o.origin ++ u32 o.lat ++ u32 o.lon ++ u16 o.width ++ u16 o.dist ++ u32 o.intake ++
    u32 (if s.pointKind 1 then ratF32 o.grain else yieldNaN) ++
    u16 (intensField (o.intens.getD 0 (0, 0))) ++ u16 (intensField (o.intens.getD 1 (0, 0))) ++
    u16 (intensField (o.intens.getD 2 (0, 0))) ++ u16 o.flags ++ u32 (loss 0) ++ u32 (loss 1) ++ u32 (loss 2) ++
    u32 (ratF32 o.notMeasured) ++ u32 (s.k - o.origin) ++ u16 o.heading ++ u8 o.quality ++ u8 o.tstate ++
    u32 o.toff ++ u16 0
  b ++ u16 (crc16 b)

/-- The yield store changed. -/
def State.setYs (s : State) (y : YieldSt) : State := { s with led := { s.led with ys := y } }

/-- A page of the yield store by position. -/
def YieldSt.page (y : YieldSt) (pos : Nat) : Option Page := Sparse.find (fun _ => (none : Option Page)) y.pages pos

/-- The erase block after the one of the write position. -/
def YieldSt.nextBlock (y : YieldSt) : Nat := (y.pos / 64 + 1) % 2048

/-- The pages of an erase block. -/
def YieldSt.blockPages (y : YieldSt) (b : Nat) : List Page :=
  (y.pages.filter fun p => p.1 / 64 == b).filterMap (·.2)

/-- The block ahead is erased where the policy allows it (R151). -/
def YieldSt.erase (y : YieldSt) (policy : Nat) : YieldSt :=
  let b := y.nextBlock
  if y.eraseDue ∧ (policy = 0 ∨ !(y.blockPages b).any fun p => newer32 p.seq y.mark) then
    { y with pages := y.pages.filter fun p => p.1 / 64 ≠ b, eraseDue := false }
  else y

/-- A page takes the write position; entering a block makes the erasing of the next one due (R151). -/
def YieldSt.putPage (y : YieldSt) (policy : Nat) (p : Page) : YieldSt :=
  let y := ({ y with eraseDue := y.eraseDue || y.pos % 64 == 0 } : YieldSt).erase policy
  { y with pages := Sparse.put (fun _ => none) y.pages y.pos (some p), pos := (y.pos + 1) % 131072 }

/-- A page written, after as many failed writes as fail verification (R151). -/
def YieldSt.writePage (y : YieldSt) (policy : Nat) (p : Page) : Nat → YieldSt
  | 0 => y.putPage policy p
  | n + 1 => (y.putPage policy { p with ok := false }).writePage policy p n

/-- The open page sealed and written (R151); the service layer copies it into the export ring, whose length the spec leaves open
(R152; DESIGN CHOICE, log entry 6). -/
def State.sealPage (s : State) : State :=
  let y := s.led.ys
  let p : Page := ⟨y.nextSeq, s.conf Obj.CRB_PERIOD, if s.pair.inForce then s.get Obj.PAIR_ID else 0xFF, y.open_, true⟩
  let y' := y.writePage (s.conf Obj.YS_POLICY) p (y.fails.headD 0)
  s.setYs { y' with
    nextSeq := (y.nextSeq + 1) % 2 ^ 32, open_ := [], fails := y.fails.tail
    exported := (p :: y.exported).take (Config.exportPages.toNat + 1) }

/-- YS_OLDEST, YS_NEWEST and YS_OPEN of the yield store as it stands. -/
def YieldSt.shown (y : YieldSt) : List (Nat × Nat) :=
  [(Obj.YS_OLDEST, y.oldest), (Obj.YS_NEWEST, y.newest), (Obj.YS_OPEN, y.open_.length)]

/-- The objects of the yield store follow what a run or a command has done to it, seen from the next tick on (R24, R122). -/
def State.showYs (s : State) : State :=
  s.led.ys.shown.foldl (fun s p => if (s.cur p.1).val = p.2 then s else s.write p.1 p.2 true) s

/-- The header of a page (Table 9). -/
def State.pageHeader (s : State) (p : Page) : Bytes :=
  let b := u16 0x59C3 ++ u16 p.recs.length ++ u32 p.seq ++ u16 p.period ++ u8 p.pair ++ List.replicate 5 0 ++
    padTo 12 (s.getBlob Obj.ID_SERIAL) ++ List.replicate 34 0
  b ++ u16 (if p.ok then crc16 b else crc16 b ^^^ 1)

/-- The 4096 bytes of a page. -/
def State.pageBytes (s : State) (p : Page) : Bytes := padTo 4096 (s.pageHeader p ++ p.recs.flatten)

/-- A yield record is added to the open page, which is sealed when it holds 56 (R151). A standby writes none
(R160). -/
def State.addYield (s : State) (rec_ : Bytes) : State :=
  if s.standby then s
  else
    let s := s.setYs (s.led.ys.erase (s.conf Obj.YS_POLICY))
    if s.led.ys.eraseDue ∧ s.conf Obj.YS_POLICY = 1 then s.countOut Obj.YS_LOST 1
    else
      let s := s.setYs { s.led.ys with open_ := s.led.ys.open_ ++ [rec_] }
      if 56 ≤ s.led.ys.open_.length then s.sealPage else s

/-! Closing a crumb (R147, R149) -/

/-- A window takes a closing crumb (R207, R208). -/
def Window.close (w : Window) (flowMin : Rat) (period : Nat) (o : Origin) (hasA hasB hasC : Bool) : Window :=
  if !w.waiting.contains o.crumb then w
  else
    let w := { w with waiting := w.waiting.filter (· ≠ o.crumb) }
    if o.flags &&& 0x3800 ≠ 0 then { w with void := true }
    else if bit o.flags 1 ∨ f32rat o.intake < flowMin * period / 4 then w
    else
      let l := fun i (has : Bool) => if has then o.losses.getD i 0 else 0
      let br := o.intens.getD 1 (0, 0)
      let fo := o.intens.getD 2 (0, 0)
      let add := fun (a : Rat × Rat) (f : Rat × Rat) =>
        if f.2 = 0 then a else (a.1 + o.grain * ((intensField f : Rat) / 100), a.2 + o.grain)
      { w with
        grain := w.grain + o.grain
        losses := [w.losses.getD 0 0 + l 0 hasA, w.losses.getD 1 0 + l 1 hasB, w.losses.getD 2 0 + l 2 hasC]
        intake := w.intake + f32rat o.intake
        broken := add w.broken br
        foreign_ := add w.foreign_ fo }

/-- A crumb that is created while a window takes crumbs (R208). -/
def Window.create (w : Window) (flowMin : Rat) (period k crumb flags intake : Nat) : Window :=
  if w.taken < w.want then
    let w := { w with waiting := w.waiting ++ [crumb] }
    if bit flags 1 ∨ f32rat intake < flowMin * period / 4 then w
    else
      let n := w.taken + 1
      { w with taken := n, last := if n = w.want then some k else w.last }
  else w

/-- A crumb closes with yield flags added: its record is written, the open window takes it, and an eligible close
teaches the ratio (R129, R147, R207). -/
def State.closeCrumb (s : State) (c flags : Nat) : State :=
  match s.origin c with
  | none => s
  | some o0 =>
    let o := { o0 with flags := o0.flags ||| flags }
    let s := s.addYield (s.yieldRecord o)
    let take := fun w : Window => w.close (s.confRat Obj.SUP_FLOW_MIN) (s.conf Obj.CRB_PERIOD) o (s.pointKind 5)
      (s.pointKind 6) (s.pointKind 7)
    let s := { s with sup := { s.sup with window := s.sup.window.map take } }
    let tau := s.conf Obj.CRB_RATIO_TAU
    let s :=
      if 0 < tau ∧ 0 < f32rat o.intake ∧ s.pointKind 1 ∧ o.flags &&& 0x3800 = 0 then
        let r := f32rat s.led.ratio
        let r' := r + ((s.conf Obj.CRB_PERIOD : Rat) / 4000 / tau) * (o.grain / f32rat o.intake - r)
        { s with led := { s.led with ratio := ratF32 (max (5 / 100) (min (95 / 100) r')) } }
      else s
    s.setOrigin c none

/-- The open crumbs, oldest first. -/
def State.openCrumbs (s : State) : List Nat :=
  let l := s.led.origins.filterMap fun p => p.2.map (·.crumb)
  l.mergeSort fun a b => !newer32 a b

/-- A piece leaves the ledger: its flags go to its origins, and its record is freed. -/
def State.retirePiece (s : State) (i : Nat) (extra : Nat) : State :=
  let p := s.piece i
  let keep := (p.flags &&& 0x7DF) ||| extra
  (s.credit p fun o _ => { o with flags := o.flags ||| keep }).freePiece i

/-- A piece retired unmeasured: its grain counts as not measured (R136, R138, R148). -/
def State.retireUnmeasured (s : State) (i extra : Nat) : State :=
  let p := s.piece i
  (s.credit p fun o w => { o with notMeasured := o.notMeasured + f32rat p.grain * w }).retirePiece i extra

/-- Every record freed: the counts and masses of live records read 0. -/
def State.freeAll (s : State) : State :=
  let s := s.livePieces.foldl (fun s p => s.retirePiece p.1 0) s
  ((List.range 24).flatMap fun st => [Obj.STG_LIVE st, Obj.STG_GRAIN st, Obj.STG_MOG st]).foldl
    (fun s key => if (s.cur key).val = 0 then s else s.write key 0 true) (s.write Obj.CRB_LIVE 0 true)

/-- Every open crumb closed with yield flag bit 13, and every record freed (R125, R126). -/
def State.closeAll (s : State) : State :=
  let s := s.freeAll
  s.openCrumbs.foldl (fun s c => s.closeCrumb c 0x2000) s

/-! Stage model (R131–R133, R157) -/

/-- An outlet of a stage, FFh for none. -/
def outletOf (g : Nat → Nat) (st o : Nat) : Nat := (g (Obj.STG_NEXT st) >>> (8 * o)) % 256

/-- The outlets of a stage in use. -/
def outletsOf (g : Nat → Nat) (st : Nat) : List Nat :=
  ((List.range 3).map (outletOf g st)).filter (· ≠ 0xFF)

/-- The stages reachable from a list by some outlets. -/
def reach (outs : Nat → List Nat) : Nat → List Nat → List Nat
  | 0, l => l
  | fuel + 1, l =>
    reach outs fuel (l.foldl (fun a st => (outs st).foldl (fun a o => if a.contains o then a else a ++ [o]) a) l)

/-- The first rule of Table 5 that a stage breaks. A stage that breaks several reports the one of the lowest code, and an
unused stage with an outlet set reports 03h (DESIGN CHOICE, log entry 75). -/
def stageErr (g : Nat → Nat) (st : Nat) : Option Nat :=
  let kind := g (Obj.STG_KIND st)
  let os := outletsOf g st
  let has := fun o => outletOf g st o ≠ 0xFF
  let fr := fun f : Nat → Nat => f32rat (g (f st))
  let fwd := fun u => (outletsOf g u).filter fun o => decide (g (Obj.STG_KIND o) ≠ 4)
  let near := fun q : Rat => decide (|q - 1| ≤ 1 / 1000000)
  if (st = 0 ∧ kind ≠ 1) ∨ (st ≠ 0 ∧ kind = 1) then some 1
  else if kind ≠ 0 ∧ os.any (fun o => o == st || o == 0 || decide (23 < o) || g (Obj.STG_KIND o) == 0) then some 2
  else if !(
      if kind = 3 then has 0 && has 1
      else if kind = 0 ∨ kind = 5 then os.isEmpty
      else has 0 && !has 1 && !has 2) then some 3
  else if kind = 3 ∧ !has 2 ∧
      !(near (fr Obj.STG_G0 + fr Obj.STG_G1) && near (fr Obj.STG_M0 + fr Obj.STG_M1)) then some 4
  else if kind ≠ 0 ∧ !(reach (outletsOf g) 24 [0]).contains st then some 5
  else if kind ≠ 0 ∧ !(reach (outletsOf g) 24 [st]).any (fun o => g (Obj.STG_KIND o) == 5) then some 6
  else if kind ≠ 0 ∧ kind ≠ 4 ∧ (fwd st).any (fun o => (reach fwd 24 [o]).contains st) then some 7
  else none

/-- The first failure of the graph checks, as CRB_GRAPH_ERR reports it; 0 = none (R131). The rule of code 09h names no
stage and no point: it comes last, with number 0 (DESIGN CHOICE, log entry 75). -/
def graphErr (g : Nat → Nat) : Nat :=
  match (List.range 24).findSome? fun st => (stageErr g st).map fun c => st * 256 + c with
  | some e => e
  | none =>
    match (List.range 8).find? fun m =>
        let kind := g (Obj.MP_KIND m)
        kind != 0 && !(decide (g (Obj.MP_STAGE m) < 24) && g (Obj.STG_KIND (g (Obj.MP_STAGE m))) == 5 &&
          g (Obj.MP_SRC m) != 0 && (List.range m).all fun n => g (Obj.MP_KIND n) != kind) with
    | some m => m * 256 + 8
    | none => if g Obj.CRB_CUT_WIDTH = 0 ∨ g Obj.CRB_INTAKE_SRC = 0 then 9 else 0

/-- The largest of 0.001 and a transit, binary64. -/
def minTransit (t : Nat) : Nat :=
  if (fp64 t).lt (fp64 (ratF64 (1 / 1000))) then ratF64 (1 / 1000) else t

/-- The hardware model of a stage in this run (R133). -/
def State.stageHw (s : State) (st : Nat) : StageRun :=
  let g := fun f : Nat → Nat => s.conf (f st)
  let kind := g Obj.STG_KIND
  let src := g Obj.STG_SPEED_SRC
  let v := s.ref src
  let bad := src != 0 && !v.good
  let speed := if bad then g Obj.STG_SPEED_DEF else v.f32
  let t0 := f64of32 (g Obj.STG_T0)
  let t := if kind = 5 ∨ kind = 0 then 0
    else if src = 0 then minTransit t0
    else if f32le (g Obj.STG_V_MIN) speed then minTransit (f64add t0 (f64div (f64of32 (g Obj.STG_K)) (f64of32 speed)))
    else 0
  let third := fun a b => f32sub (f32sub 0x3F800000 a) b
  { kind := kind, next := (List.range 3).map (outletOf s.conf st), t := t, disp := g Obj.STG_DISP
    g := [g Obj.STG_G0, g Obj.STG_G1, third (g Obj.STG_G0) (g Obj.STG_G1)]
    m := [g Obj.STG_M0, g Obj.STG_M1, third (g Obj.STG_M0) (g Obj.STG_M1)]
    v := if src = 0 then 0 else speed, bad := bad, assisted := false }

/-- The assisted values of a stage, checked (R156, R157); the hardware values where the area says so. -/
def State.stageAs (s : State) (a : AppArea) (st : Nat) : StageRun :=
  let hw := s.stageHw st
  let o := 16 + 32 * st
  let w := fun i => a.at_ (o + 4 + 4 * i) 4
  let vals := (List.range 6).map w
  if a.at_ o 1 ≠ 1 ∨ !vals.all f32finite then hw
  else
    let unit := f32clamp 0 0x3F800000
    let t := w 0
    let tt := if f32rat t = 0 then 0 else f64of32 (f32clamp (ratF32 (1 / 1000)) 0x42700000 t)
    let pairOf := fun x y =>
      let a0 := unit x
      let a1 := unit y
      let a1 := if hw.next.getD 2 0xFF = 0xFF ∨ f32lt 0x3F800000 (f32add a0 a1) then f32sub 0x3F800000 a0 else a1
      [a0, a1, f32sub (f32sub 0x3F800000 a0) a1]
    if hw.kind = 3 then
      { hw with t := tt, disp := unit (w 1), g := pairOf (w 2) (w 3), m := pairOf (w 4) (w 5), assisted := true, bad := false }
    else if hw.kind = 5 ∨ hw.kind = 0 then hw
    else { hw with t := tt, disp := unit (w 1), assisted := true, bad := false }

/-- A stage of a model. -/
def stageOf (l : List StageRun) (st : Nat) : StageRun := l.getD st ⟨0, [0xFF, 0xFF, 0xFF], 0, 0, [], [], 0, false, false⟩

/-- The transit of a stage, s, exact. -/
def StageRun.secs (g : StageRun) : Rat := (fp64 g.t).toRat

/-- A stage in which pieces advance. -/
def StageRun.moving (g : StageRun) : Bool := decide (0 < g.secs)

/-- The square root of a rational, rounded to binary64. -/
def sqrtQ (q : Rat) : Rat := (fp64 (enc64 (Fp.ofRat q).sqrt)).toRat

/-! Merging (R139, R140) -/

/-- Both masses of a piece. -/
def Piece.mass (p : Piece) : Rat := f32rat p.grain + f32rat p.mog

/-- Two pieces merged under R139, the first kept; `gap` is |x_a − x_b| × T × 4000. At equal masses the first
piece's outlet (DEDUCED, log entry 22). -/
def mergePieces (a b : Piece) (gap : Rat) : Piece :=
  let w := a.mass + b.mass
  let x := if w = 0 then (f32rat a.x + f32rat b.x) / 2 else (f32rat a.x * a.mass + f32rat b.x * b.mass) / w
  { a with
    grain := f32add a.grain b.grain
    mog := f32add a.mog b.mog
    x := f64to32 (ratF64 x)
    h := min 65535 (max (max a.h b.h) (roundHalfAway gap).toNat)
    res := max a.res b.res
    passes := max a.passes b.passes
    flags := (a.flags ||| b.flags) ||| 8
    outlet := if a.mass < b.mass then b.outlet else a.outlet }

/-- The distance of two pieces of a stage in ticks. -/
def gapTicks (a b : Piece) (t : Rat) : Rat := |f32rat a.x - f32rat b.x| * t * 4000

/-- Two records merged, the lower-numbered kept. -/
def State.mergeRecords (s : State) (i j : Nat) (t : Rat) : State :=
  let a := s.piece i
  let b := s.piece j
  (s.setPiece i (mergePieces a b (gapTicks a b t))).freePiece j

/-- The pieces of different crumbs merged, the earlier crumb primary (R140). The other fields follow R139, so flag bit 3 is
set too, though no piece of the same crumb was met (DEDUCED, log entry 92). -/
def State.mergeTwo (s : State) (i j : Nat) (t : Rat) : State :=
  let a := s.piece i
  let b := s.piece j
  let aFirst := a.origin ≤ b.origin
  let p := if aFirst then a else b
  let q := if aFirst then b else a
  let share : Int :=
    if f32rat p.grain + f32rat q.grain ≠ 0 then
      roundHalfAway (65535 * f32rat p.grain / (f32rat p.grain + f32rat q.grain))
    else if p.mass + q.mass ≠ 0 then roundHalfAway (65535 * p.mass / (p.mass + q.mass))
    else 32768
  let m := mergePieces p q (gapTicks a b t)
  (s.setPiece i { m with second := q.crumb, share := share.toNat, flags := (m.flags ||| 0x10) }).freePiece j

/-- The lowest free record. -/
def State.freeRecord (s : State) : Option Nat := (List.range 4096).find? fun i => (s.piece i).stage == 0xFF

/-- The single-origin, unpassed pieces of a stage, by record number. -/
def State.mergeable (s : State) (st : Nat) : List (Nat × Piece) :=
  s.livePieces.filter fun p => p.2.stage == st && !p.2.two && !bit p.2.flags 5

/-- All pairs of a list, in order. -/
def pairsOf {α : Type} : List α → List (α × α)
  | [] => []
  | a :: t => t.map (fun b => (a, b)) ++ pairsOf t

/-- The closest of some pairs of pieces, the first on a tie. -/
def closest (l : List ((Nat × Piece) × (Nat × Piece))) : Option ((Nat × Piece) × (Nat × Piece)) :=
  l.foldl (fun best p => match best with
    | none => some p
    | some b =>
      if |f32rat p.1.2.x - f32rat p.2.2.x| < |f32rat b.1.2.x - f32rat b.2.2.x| then some p else some b) none

/-- The unpassed piece with the oldest origin tick, or the passed one with the earliest entry. -/
def oldestBy (f : Piece → Nat) (l : List (Nat × Piece)) : Option (Nat × Piece) :=
  l.foldl (fun best p => match best with
    | none => some p
    | some b => if f p.2 < f b.2 then some p else some b) none

/-- A share retired as a trace (R138). -/
def State.traceShare (s : State) (p : Piece) : State :=
  let s := s.credit p fun o w =>
    { o with notMeasured := o.notMeasured + f32rat p.grain * w, flags := (o.flags ||| 0x4000) ||| (p.flags &&& 0x7DF) }
  s.addOut Obj.CRB_TRACE_G p.mass

/-- The capacity merge of R140: one record freed. A pair of the same crumb merges under R139 alone, and only one of different
crumbs counts in CRB_MERGES and sets CRB_REDUCED; a pair is looked for in the stage chosen only, before the oldest unpassed
piece of all stages is retired (DESIGN CHOICE, log entry 92). -/
def State.capacityMerge (s : State) (model : List StageRun) : State :=
  let inStage := fun st => (s.livePieces.filter fun p => p.2.stage == st && !bit p.2.flags 5).length
  let st := (List.range 24).foldl (fun b st =>
    if (stageOf model st).kind ≠ 5 ∧ inStage b < inStage st then st else b) 0
  let t := (stageOf model st).secs
  let ps := pairsOf (s.mergeable st)
  match closest (ps.filter fun p => p.1.2.crumb == p.2.2.crumb) with
  | some (a, b) => s.mergeRecords a.1 b.1 t
  | none =>
    match closest ps with
    | some (a, b) =>
      let s := (s.mergeTwo a.1 b.1 t).countOut Obj.CRB_MERGES 1
      { s.write Obj.CRB_REDUCED 1 true with led := { s.led with reducedUntil := some (s.k + 4000) } }
    | none =>
      match oldestBy (·.origin) (s.livePieces.filter fun p => !bit p.2.flags 5) with
      | some (i, p) => (s.traceShare p).retirePiece i 0
      | none =>
        match oldestBy (fun p => p.origin + p.entry) s.livePieces with
        | some (i, _) => s.retirePiece i 0x400
        | none => s

/-- A free record, made by a capacity merge where there is none. -/
def State.takeRecord (s : State) (model : List StageRun) : State × Option Nat :=
  match s.freeRecord with
  | some i => (s, some i)
  | none =>
    let s := s.capacityMerge model
    (s, s.freeRecord)

/-! Advance (R134–R137) -/

/-- 1 − 2⁻²⁰: the end of a stage (R134). -/
def stageEnd : Rat := 1 - 1 / 1048576

/-- A piece's half-width after leaving a stage (R135). -/
def widened (h : Nat) (g : StageRun) : Nat :=
  let d := f32rat g.disp * g.secs * 4000
  min 65535 (roundHalfAway (sqrtSticky ((h : Rat) * h + d * d))).toNat

/-- A piece passes into a terminal stage (R134, R145). -/
def State.passed (s : State) (p : Piece) (st : Nat) (tau : Rat) : Piece :=
  let off := (s.k : Int) - roundHalfAway (tau * 4000) - p.origin
  let q := { p with stage := st, x := 0, entry := off.toNat, flags := p.flags ||| 0x20 }
  let cut := (List.range 8).any fun m =>
    s.conf (Obj.MP_KIND m) != 0 && s.conf (Obj.MP_STAGE m) == st &&
      (match s.led.front with
       | some f => decide (((p.origin + off.toNat + s.conf (Obj.MP_LAG m) : Nat) : Int) - p.h < f)
       | none => false)
  if cut then { q with flags := q.flags ||| 0x400 } else q

/-- A record taken up in this run. -/
def State.touch (s : State) (i : Nat) : State :=
  { s with led := { s.led with touched := s.led.touched ++ [i] } }

/-- The piece after leaving its stage (R135, R139). -/
def Piece.left (p : Piece) (g : StageRun) : Piece :=
  { p with
    h := widened p.h g
    passes := if g.kind = 4 then min 63 (p.passes + 1) else p.passes }

/-- The share of an outlet (R137). -/
def Piece.shareOf (p : Piece) (g : StageRun) (o : Nat) : Piece :=
  { p with
    grain := f32mul p.grain (g.g.getD o 0)
    mog := f32mul p.mog (g.m.getD o 0)
    flags := p.flags ||| 4
    outlet := o }

/-- The flags of a piece that advances in a stage (R133, R157). -/
def Piece.marked (p : Piece) (g : StageRun) : Piece :=
  { p with flags := ((p.flags ||| (if g.bad then 0x80 else 0)) ||| (if g.assisted then 0x100 else 0)) }

/-- A piece stands in its stage at position `x` (binary64). -/
def State.standAt (s : State) (i : Nat) (p : Piece) (x : Nat) : State := (s.touch i).setPiece i { p with x := f64to32 x }

/-- A piece enters a stage `tau` seconds before the end of the run: it passes in a terminal stage, and else goes on by
`next` from the place it has reached, 0 where the stage is stopped (R134, R138). -/
def State.enterStage (model : List StageRun) (next : State → Nat → Piece → Nat → State) (tau : Rat) (s : State) (j : Nat)
    (q : Piece) (st : Nat) : State :=
  let g := stageOf model st
  if g.kind = 5 then (s.touch j).setPiece j (s.passed q st tau)
  else
    let q := { q with stage := st }
    next s j (if g.moving then q.marked g else q) (if g.moving then f64div (ratF64 tau) g.t else 0)

/-- A piece that leaves a separator is split among its outlets; a share below CRB_MIN_PIECE is a trace (R137). The
origins take its flags, for a piece without mass leaves no share that would bring them (R149). -/
def State.splitPiece (model : List StageRun) (go : State → Nat → Piece → Nat → State) (s : State) (i : Nat) (p : Piece)
    (g : StageRun) : State :=
  let minG := s.confRat Obj.CRB_MIN_PIECE
  let out0 := p.shareOf g 0
  let s := (s.credit p fun o _ => { o with flags := o.flags ||| (p.flags &&& 0x7DF) }).freePiece i
  let s := if out0.mass = 0 then s else if out0.mass < minG then s.traceShare out0 else go s i out0 (g.next.getD 0 0xFF)
  [1, 2].foldl (fun s o =>
    let q := p.shareOf g o
    if g.next.getD o 0xFF = 0xFF ∨ q.mass = 0 then s
    else if q.mass < minG then s.traceShare q
    else
      let r := s.takeRecord model
      match r.2 with
      | some j => go r.1 j q (g.next.getD o 0xFF)
      | none => r.1) s

/-- A piece at position `x` of its stage stays there, or at the end of a moving stage leaves it. -/
def State.moveOn (model : List StageRun) (next : State → Nat → Piece → Nat → State) (s : State) (i : Nat) (p : Piece)
    (x : Nat) : State :=
  let g := stageOf model p.stage
  if !g.moving || decide ((fp64 x).toRat < stageEnd) then s.standAt i p x
  else
    let go := State.enterStage model next (max 0 ((fp64 x).toRat - 1) * g.secs)
    let p := p.left g
    if g.kind ≠ 3 then go s i p (g.next.getD 0 0xFF) else State.splitPiece model go s i p g

/-- A piece stands in its stage at position `x` (binary64). At the end of a moving stage it leaves, and at the end of the
next it passes on, through at most `fuel` stages (R134, R137, R138). After the last of them it stands where it has got to, at 1
or above where that is an end again (DESIGN CHOICE, log entry 93). -/
def State.place_ (model : List StageRun) : Nat → State → Nat → Piece → Nat → State
  | 0, s, i, p, x => s.standAt i p x
  | fuel + 1, s, i, p, x => State.moveOn model (State.place_ model fuel) s i p x

/-- A piece that was live at the start of the run: its residence grows and it advances, where its stage is moving;
at the longest residence it is retired (R134, R136). -/
def State.advancePiece (model : List StageRun) (s : State) (i : Nat) : State :=
  let p := s.piece i
  let g := stageOf model p.stage
  if s.led.touched.contains i || p.stage == 0xFF || g.kind == 5 || !g.moving then s
  else
    let res := min 65535 (p.res + 1)
    if s.conf Obj.CRB_RESIDENCE_MAX * 4000 ≤ res * s.conf Obj.CRB_PERIOD then s.retireUnmeasured i 0x800
    else
      let x := f64add (f64of32 p.x) (f64div (ratF64 (s.conf Obj.CRB_PERIOD)) (f64mul (ratF64 4000) g.t))
      State.place_ model 24 s i ({ p with res := res }.marked g) x

/-- Step 3: every piece that was live at the start of the run (R122). -/
def State.advanceAll (s : State) (model : List StageRun) : State :=
  let live := (s.livePieces).map (·.1)
  let s := live.foldl (State.advancePiece model) { s with led := { s.led with touched := [] } }
  { s with led := { s.led with touched := [] } }

/-- Step 4: pieces of the same crumb that have met are merged (R139). In a stopped stage, which has no transit,
none are. -/
def State.mergeAll (s : State) (model : List StageRun) : State :=
  let p := s.conf Obj.CRB_PERIOD
  (pairsOf ((s.livePieces).map (·.1))).foldl (fun s ij =>
    let a := s.piece ij.1
    let b := s.piece ij.2
    let g := stageOf model a.stage
    if a.stage ≠ 0xFF ∧ a.stage = b.stage ∧ a.crumb = b.crumb ∧ !a.two ∧ !b.two ∧ g.kind ≠ 5 ∧ g.moving ∧
        gapTicks a b g.secs ≤ p then s.mergeRecords ij.1 ij.2 g.secs
    else s) s

/-! Creation (R127, R128) -/

/-- Pi, as the binary64 number nearest to it. -/
def piQ : Rat := (fp64 0x400921FB54442D18).toRat

/-- Metres per degree of latitude and longitude at a latitude in degrees, on the WGS-84 ellipsoid (R128; PRESUMED, log
entry 83). -/
def metresPerDegree (lat : Rat) : Rat × Rat :=
  let a : Rat := 6378137
  let f : Rat := 1 / (298257223563 / 1000000000)
  let e2 := f * (2 - f)
  let phi := lat * piQ / 180
  let sn := sinQ phi
  let w := 1 - e2 * sn * sn
  let n := a / sqrtQ w
  (n * (1 - e2) / w * piQ / 180, n * cosQ phi * piQ / 180)

/-- A number of 10⁻⁷ degrees as an I32 code. -/
def degE7 (d : Rat) : Nat := encInt 32 (roundHalfAway (d * 10000000))

/-- The valid solution that the tick image shows now (R341). -/
def State.fixNow (s : State) : Option Fix :=
  if (s.entry Obj.POS_EPOCH).valid then
    let i32 := fun key => (decInt 32 (s.get key) : Rat)
    let i16 := fun key => (decInt 16 (s.get key) : Rat)
    some { epoch := s.get Obj.POS_EPOCH
           lat := i32 Obj.POS_LAT / 10000000 + i16 Obj.POS_LAT_FINE / 1000000000
           lon := i32 Obj.POS_LON / 10000000 + i16 Obj.POS_LON_FINE / 1000000000
           vEast := f32rat (s.get Obj.POS_V_EAST), vNorth := f32rat (s.get Obj.POS_V_NORTH)
           speed := f32rat (s.get Obj.POS_SPEED)
           heading := if s.get Obj.POS_HDG_SRC = 0 then none else some (f32rat (s.get Obj.POS_HEADING))
           quality := s.get Obj.POS_QUALITY }
  else none

/-- The latest valid solution is kept (R128). -/
def State.noteFix (s : State) : State :=
  match s.fixNow with
  | some f => { s with led := { s.led with fix := some f } }
  | none => s

/-- Where the cutter bar's centre was at the middle of the period (R128). With the heading unknown the bar offsets
are not applied (DEDUCED, log entry 23). -/
def State.barPosition (s : State) (f : Fix) : Rat × Rat :=
  let p : Rat := s.conf Obj.CRB_PERIOD
  let dt := ((s.k : Rat) - p / 2 - f.epoch) * (25 / 100000)
  let fwd := (decInt 32 (s.conf Obj.CRB_BAR_FWD) : Rat) / 1000
  let right := (decInt 32 (s.conf Obj.CRB_BAR_RIGHT) : Rat) / 1000
  let (oe, on_) := match f.heading with
    | some h =>
      let psi := h * piQ / 180
      (fwd * sinQ psi + right * cosQ psi, fwd * cosQ psi - right * sinQ psi)
    | none => (0, 0)
  let m := metresPerDegree f.lat
  (f.lat + (f.vNorth * dt + on_) / m.1, f.lon + (f.vEast * dt + oe) / m.2)

/-- The heading field of a record. -/
def headingField : Option Rat → Nat
  | some h => (roundHalfAway (h * 100) % 36000).toNat
  | none => 0xFFFF

/-- The piece of a new crumb in the run of this tick (R128). -/
def State.newPiece (s : State) : Piece :=
  let p := s.conf Obj.CRB_PERIOD
  let fix := match s.led.fix with
    | some f => if s.k ≤ f.epoch + s.conf Obj.CRB_POS_MAX_AGE then some f else none
    | none => none
  let gr := s.ref (s.conf Obj.CRB_GROUND_SRC)
  let (speed, badS) := match fix with
    | some f => (f.speed, false)
    | none => if gr.good then (gr.rat, false) else (0, true)
  let wk := s.conf Obj.CRB_WORK_SRC
  let wv := s.ref wk
  let badW := wk != 0 && !wv.valid
  let off := wk != 0 && wv.valid && wv.val == 0
  let ws := s.conf Obj.CRB_WIDTH_SRC
  let fv := s.ref ws
  let badF := ws != 0 && !fv.good
  let frac : Rat := if ws = 0 ∨ badF then 1 else max 0 (min 1 fv.rat)
  let q := s.ref (s.conf Obj.CRB_INTAKE_SRC)
  let mIn := if q.good then ratF32 (q.rat * p / 4) else 0
  let grain := f32mul mIn s.led.ratio
  let pos := fix.map s.barPosition
  { crumb := s.led.next
    origin := s.k
    lat := match pos with | some x => degE7 x.1 | none => 0x80000000
    lon := match pos with | some x => degE7 x.2 | none => 0x80000000
    width := if off then 0 else (min 65535 (max 0 (roundHalfAway (s.conf Obj.CRB_CUT_WIDTH * frac)))).toNat
    dist := (min 65535 (max 0 (roundHalfAway (speed * p / 4)))).toNat
    intake := mIn
    grain := grain
    mog := f32sub mIn grain
    x := 0
    entry := 0
    second := 0xFFFFFFFF
    share := 0xFFFF
    h := (p + 1) / 2
    res := 0
    flags := boolNat fix.isSome + 2 * boolNat off +
      0x80 * boolNat (badS || badW || badF || !q.good)
    stage := 0
    outlet := 3
    passes := 0
    heading := headingField (fix.bind (·.heading))
    quality := match fix with | some f => f.quality | none => 0xFF
    tstate := s.conf Obj.TIME_STATE }

/-- The origin entry of a piece's crumb. -/
def Piece.originEntry (p : Piece) (toff : Nat) : Origin :=
  { crumb := p.crumb, origin := p.origin, lat := p.lat, lon := p.lon, width := p.width, dist := p.dist
    intake := p.intake, heading := p.heading, quality := p.quality, tstate := p.tstate, toff := toff
    flags := p.flags &&& 0x7DF }

/-- An older crumb that holds the origin entry needed is closed first (R148). Of a piece of two origins that is retired here,
only the crumb that is closed gets yield flag bit 12 (DESIGN CHOICE, log entry 94). -/
def State.ringReuse (s : State) : State :=
  match Sparse.find (fun _ => (none : Option Origin)) s.led.origins (s.led.next % 4096) with
  | some o =>
    let mine := (s.livePieces.filter fun p => p.2.crumb == o.crumb || (p.2.two && p.2.second == o.crumb)).map (·.1)
    (mine.foldl (fun s i => s.retireUnmeasured i 0) s).closeCrumb o.crumb 0x1000
  | none => s

/-- Step 5: one crumb when stage 0 is moving (R127, R128). -/
def State.createCrumb (s : State) (model : List StageRun) : State :=
  if !(stageOf model 0).moving then s.write Obj.CRB_STATE 3 true
  else
    let s := s.write Obj.CRB_STATE 1 true
    let r := s.ringReuse.takeRecord model
    let s := r.1
    let p := s.newPiece
    let s := match r.2 with
      | some i => (s.setPiece i p).setOrigin p.crumb (some (p.originEntry (s.conf Obj.TIME_OFFSET_US)))
      | none => s
    let w := s.sup.window.map fun w =>
      if w.open_ ≤ s.k then w.create (s.confRat Obj.SUP_FLOW_MIN) (s.conf Obj.CRB_PERIOD) s.k p.crumb p.flags p.intake else w
    { s with led := { s.led with next := (p.crumb + 1) % 2 ^ 32 }, sup := { s.sup with window := w } }

/-! Attribution (R143–R146) -/

/-- The share of a triangle of half-width h below u (R144). -/
def triangle (u h : Rat) : Rat :=
  if h = 0 then (if 0 < u then 1 else 0)
  else if u ≤ -h then 0
  else if u ≤ 0 then (h + u) * (h + u) / (2 * h * h)
  else if u < h then 1 - (h - u) * (h - u) / (2 * h * h)
  else 1

/-- The centre of a passed piece at a point (R144). -/
def State.centre (s : State) (m : Nat) (p : Piece) : Nat := p.origin + p.entry + s.conf (Obj.MP_LAG m)

/-- The weight of a piece in the slot that starts at a (R144). -/
def State.weight (s : State) (m : Nat) (a : Int) (p : Piece) : Rat :=
  let c : Rat := s.centre m p
  let b : Rat := match s.conf (Obj.MP_BASIS m) with
    | 0 => f32rat p.grain
    | 1 => p.mass
    | _ => f32rat p.mog
  b * (triangle ((a : Rat) + s.conf Obj.CRB_PERIOD - c) p.h - triangle ((a : Rat) - c) p.h)

/-- A list with one element changed. -/
def mapAt {α : Type} (l : List α) (i : Nat) (f : α → α) : List α :=
  (l.zipIdx).map fun p => if p.2 = i then f p.1 else p.1

/-- One due slot of a point is credited (R144, R145). -/
def State.attribute (s : State) (m : Nat) (sl : Slot) : State :=
  let kind := s.conf (Obj.MP_KIND m)
  let intensive := 2 ≤ kind ∧ kind ≤ 4
  let st := s.conf (Obj.MP_STAGE m)
  let cand := (s.livePieces.filter fun p => p.2.stage == st && bit p.2.flags 5).map fun p =>
    (p.1, p.2, s.weight m sl.start p.2)
  let s := if sl.gap then
      cand.foldl (fun s c => if 0 < c.2.2 then s.setPiece c.1 { c.2.1 with flags := c.2.1.flags ||| 0x40 } else s) s
    else s
  let total := (cand.map (·.2.2)).sum
  if intensive then
    if sl.count = 0 then s
    else
      let q := sl.q / sl.count
      cand.foldl (fun s c => s.credit c.2.1 fun o w =>
        { o with intens := mapAt o.intens (kind - 2) fun nd => (nd.1 + c.2.2 * q * w, nd.2 + c.2.2 * w) }) s
  else if total = 0 then
    let s := s.addOut (Obj.MP_UNATTR m) sl.q
    if kind = 1 then s.addOut Obj.CRB_UNATTR_G sl.q else s
  else
    let s := s.addOut (Obj.MP_TOTAL m) sl.q
    cand.foldl (fun s c => s.credit c.2.1 fun o w =>
      let a := sl.q * c.2.2 / total * w
      if kind = 1 then { o with grain := o.grain + a }
      else { o with losses := mapAt o.losses (kind - 5) (· + a) }) s

/-- A point's slots. -/
def State.slots (s : State) (m : Nat) : List Slot := Sparse.find (fun _ => ([] : List Slot)) s.led.slots m

/-- A point's slots changed. -/
def State.setSlots (s : State) (m : Nat) (l : List Slot) : State :=
  { s with led := { s.led with slots := Sparse.put (fun _ => []) s.led.slots m l } }

/-- The attribution delay in use: rounded up to a multiple of P. -/
def State.attrDelay (s : State) : Nat :=
  let p := s.conf Obj.CRB_PERIOD
  (s.conf Obj.CRB_ATTR_DELAY + p - 1) / p * p

/-- Step 1: the slots that end at or before k are closed; MP_TOTAL of an intensive point shows the latest with a value
(R122, R143; DEDUCED, log entry 46). -/
def State.closeSlots (s : State) : State :=
  (List.range 8).foldl (fun s m =>
    let kind := s.conf (Obj.MP_KIND m)
    if kind < 2 ∨ 4 < kind then s
    else match ((s.slots m).filter fun sl => decide (sl.start + (s.conf Obj.CRB_PERIOD : Int) ≤ s.k ∧ sl.count ≠ 0)).getLast? with
      | some sl => s.write (Obj.MP_TOTAL m) (ratF32 (sl.q / sl.count)) true
      | none => s) s

/-- Step 6: the slots that have become due (R144). While k ≤ D none has ended. -/
def State.attributeDue (s : State) : State :=
  let p := s.conf Obj.CRB_PERIOD
  let d := s.attrDelay
  let now : Int := s.k
  let isDue : Slot → Bool := fun sl => decide (sl.start + ((p + d : Nat) : Int) ≤ now)
  let s := (List.range 8).foldl (fun (s : State) (m : Nat) =>
    let l := s.slots m
    let s := s.setSlots m (l.filter fun sl => !isDue sl)
    if s.conf (Obj.MP_KIND m) = 0 then s else (l.filter isDue).foldl (fun s sl => s.attribute m sl) s) s
  if d < s.k then { s with led := { s.led with front := some (max (s.k - d) (s.led.front.getD 0)) } } else s

/-- A passed piece has been attributed at every point of its stage (R146). -/
def State.attributed (s : State) (p : Piece) : Bool :=
  (List.range 8).all fun m =>
    s.conf (Obj.MP_KIND m) == 0 || s.conf (Obj.MP_STAGE m) != p.stage ||
      decide (s.centre m p + p.h ≤ s.led.front.getD 0)

/-- Step 7: passed pieces whose attribution is complete are retired, and crumbs without a live piece close, oldest
first (R146, R147). -/
def State.retireAndClose (s : State) : State :=
  let s := s.livePieces.foldl (fun s p =>
    if bit p.2.flags 5 && s.attributed p.2 then s.retirePiece p.1 0 else s) s
  s.openCrumbs.foldl (fun s c =>
    if s.livePieces.any (fun p => p.2.crumb == c || (p.2.two && p.2.second == c)) then s else s.closeCrumb c 0) s

/-! Forecast (R154, R155) -/

/-- A path so far: fractions of grain and MOG, ticks, and squared spread. -/
structure FcPath where
  g : Rat
  m : Rat
  ticks : Rat
  spread : Rat
  deriving DecidableEq, Repr

/-- The paths from a stage to another through outlets on which no stage appears twice; `x` is the position of the
piece in the first stage. -/
def fcPaths (model : List StageRun) (goal : Nat) : Nat → List Nat → Nat → Rat → FcPath → List FcPath
  | 0, _, _, _, _ => []
  | fuel + 1, seen, u, x, acc =>
    let g := stageOf model u
    if !g.moving then []
    else
      let d := f32rat g.disp * g.secs * 4000
      let acc := { acc with ticks := acc.ticks + 4000 * (1 - x) * g.secs, spread := acc.spread + d * d }
      ([0, 1, 2].filter fun o => decide (g.next.getD o 0xFF ≠ 0xFF)).flatMap fun o =>
        let t := g.next.getD o 0xFF
        let acc := if g.kind = 3 then
            { acc with g := acc.g * f32rat (g.g.getD o 0), m := acc.m * f32rat (g.m.getD o 0) }
          else acc
        if t = goal then [acc]
        else if seen.contains t then []
        else fcPaths model goal fuel (seen ++ [t]) t 0 acc

/-- The forecast of one stage: for each bin, grain and total mass, g (R154). -/
def State.forecast (s : State) (model : List StageRun) (st : Nat) : List (Rat × Rat) :=
  let l : Rat := s.conf Obj.FC_BIN_LEN * s.conf Obj.CRB_PERIOD
  let parts := (s.livePieces.filter fun p => !bit p.2.flags 5 && p.2.stage != st).flatMap fun p =>
    (fcPaths model st 24 [p.2.stage] p.2.stage (f32rat p.2.x) ⟨1, 1, 0, 0⟩).map fun f =>
      (f32rat p.2.grain * f.g, f32rat p.2.grain * f.g + f32rat p.2.mog * f.m, f.ticks,
        sqrtQ ((p.2.h : Rat) * p.2.h + f.spread))
  (List.range (s.conf Obj.FC_BINS)).map fun b =>
    parts.foldl (fun acc p =>
      let w := triangle ((b + 1 : Nat) * l - p.2.2.1) p.2.2.2 - triangle ((b : Nat) * l - p.2.2.1) p.2.2.2
      (acc.1 + p.1 * w, acc.2 + p.2.1 * w)) (0, 0)

/-- A stage's forecast entries lose their validity, and FC_VALID reads false. -/
def State.clearForecast (s : State) (st : Nat) : State :=
  let s := s.invalidate (Obj.FC_STAMP st)
  let w : Written := { s.cur (Obj.FC_VALID st) with val := 0, valid := false }
  { s with exch := Sparse.put (fun _ => none) s.exch (Obj.FC_VALID st) (some w) }

/-- A forecast's bins numbered FC_BINS and above read 0, also where no forecast is made (R155). -/
def State.dropBins (s : State) (st : Nat) : State :=
  ((List.range' (s.conf Obj.FC_BINS) (16 - s.conf Obj.FC_BINS)).flatMap fun b => [Obj.FC_GRAIN st b, Obj.FC_TOTAL st b]).foldl
    (fun s key =>
      let w := s.cur key
      if w.val = 0 then s else { s with exch := Sparse.put (fun _ => none) s.exch key (some { w with val := 0 }) }) s

/-- Step 8: the forecast of every stage (R154, R155). -/
def State.forecastAll (s : State) (model : List StageRun) : State :=
  (List.range 24).foldl (fun s st =>
    if st = 0 ∨ !bit (s.conf Obj.FC_STAGES) st ∨ (stageOf model st).kind = 0 ∨
        s.modeState Obj.CRB_MODEL_MODE = 3 then
      (if (s.entry (Obj.FC_STAMP st)).valid then s.clearForecast st else s).dropBins st
    else
      let bins := s.forecast model st
      let l : Rat := s.conf Obj.FC_BIN_LEN * s.conf Obj.CRB_PERIOD
      let v := fun q : Rat => ratF32 (q / (l / 4))
      let s := (s.write (Obj.FC_STAMP st) s.k true).write (Obj.FC_VALID st) 1 true
      (List.range 16).foldl (fun s b =>
        let g := bins.getD b (0, 0)
        (s.write (Obj.FC_GRAIN st b) (v g.1) true).write (Obj.FC_TOTAL st b) (v g.2) true) s) s

/-! The run (R121–R125) -/

/-- Step 9: the remaining objects of the run (R122). -/
def State.ledgerOut (s : State) (model : List StageRun) : State :=
  let live := s.livePieces
  let s := (s.write Obj.CRB_LIVE live.length true).write Obj.CRB_LIVE_PEAK
    (max live.length (s.get Obj.CRB_LIVE_PEAK)) true
  let s := (s.write Obj.CRB_NEXT s.led.next true).write Obj.CRB_RATIO_NOW s.led.ratio true
  (List.range 24).foldl (fun s st =>
    let g := stageOf model st
    if g.kind = 0 then s
    else
      let mine := live.filter fun p => p.2.stage == st
      let s := (s.write (Obj.STG_SPEED_NOW st) g.v true).write (Obj.STG_TRANSIT st) (f64to32 g.t) true
      let s := s.write (Obj.STG_LIVE st) mine.length true
      (s.write (Obj.STG_GRAIN st) (ratF32 ((mine.map fun p => f32rat p.2.grain).sum)) true).write (Obj.STG_MOG st)
        (ratF32 ((mine.map fun p => f32rat p.2.mog).sum)) true) s

/-- The bytes of a copy that its CRC covers in the model: its records, the records of the open page, and the numbers it
carries (DESIGN CHOICE, log entry 74: the spec gives the copy no layout). -/
def Ckpt.bytes (c : Ckpt) : Bytes :=
  u32 c.seq ++ u64 c.tick ++ (c.recs.map fun p => u16 p.1 ++ p.2.bytes).flatten ++ c.openPage.flatten ++ u32 c.next ++ u32 c.ratio ++ u32 c.mark

/-- The header of a copy is written and its CRC, four bytes with the low one first (R18), holds (R158). -/
def Ckpt.whole (c : Ckpt) : Bool := c.crc == some (u32 (crc32c c.bytes))

/-- The newer of two checkpoint copies that are valid (R158). -/
def newestCkpt (a b : Option Ckpt) : Option Ckpt :=
  match a.filter (·.whole), b.filter (·.whole) with
  | some x, some y => if newer32 y.seq x.seq then some y else some x
  | some x, none => some x
  | none, y => y

/-- The module has the newest valid copy of the ledger. -/
def State.ckpt (s : State) : Option Ckpt := newestCkpt s.led.ckA s.led.ckB

/-- The checkpoint rules of the first run after an enable after a start (R159). A copy that is restored brings its open
slots, and the ticks since carry none; one that is not restored gives its pages, its crumbs to close and its numbering. Where
D0 time is invalid and the copy too old, CRB_RESTORE reports 03h (DESIGN CHOICE, log entry 95). -/
def State.restoreLedger (s : State) : State :=
  let s := { s with led := { s.led with startRun := false } }
  match s.ckpt with
  | none => s.write Obj.CRB_RESTORE (if s.led.ckA.isNone && s.led.ckB.isNone then 0 else 4) true
  | some c =>
    let s := { s with led := { s.led with
      recs := c.recs, origins := c.origins, next := c.next, ys := { s.led.ys with open_ := c.openPage ++ s.led.ys.open_ } } }
    let maxAge := s.conf Obj.CRB_CKPT_MAX_AGE
    let tooOld := maxAge = 0 ∨ (s.k : Int) - c.tick > maxAge * 4000
    if s.get Obj.TIME_D0_VALID = 0 then s.closeAll.write Obj.CRB_RESTORE 3 true
    else if tooOld then s.closeAll.write Obj.CRB_RESTORE 2 true
    else
      let s := s.livePieces.foldl (fun s p => s.setPiece p.1 { p.2 with flags := p.2.flags ||| 0x200 }) s
      let s : State := { s with led := { s.led with slots := c.slots, ratio := c.ratio, front := c.front } }
      s.write Obj.CRB_RESTORE 1 true

/-- Before step 1 of the first run after an enable (R124, R129): the checkpoint rules, and crumbs that an earlier
disable or fault left open are closed. -/
def State.firstLedgerRun (s : State) : State :=
  if !s.led.fresh then s
  else
    let s := { s with led := { s.led with fresh := false, ratio := s.conf Obj.CRB_GRAIN_RATIO, front := none } }
    let s := s.closeAll
    if s.led.startRun then s.restoreLedger else s

/-- CHECKPOINT_BEGIN (R158): in the first run of each T4000 period the ledger is copied to the copy that is not the
newest, which has no header until the copy completes. -/
def State.beginCkpt (s : State) : State :=
  if s.led.ckPeriod = some (s.k / 4000) then s
  else
    let l := s.led
    let seq := match s.ckpt with | some c => (c.seq + 1) % 2 ^ 32 | none => 0
    let c : Ckpt := ⟨seq, s.k, none, l.recs, l.origins, l.slots, l.ys.open_, l.next, l.ratio, l.ys.mark, l.front⟩
    let toA := match l.ckA.filter (·.whole), l.ckB.filter (·.whole) with
      | some x, some y => newer32 y.seq x.seq
      | some _, none => false
      | none, _ => true
    { s with led := if toA then { l with ckA := some c, ckPeriod := some (s.k / 4000), ckRun := some false }
      else { l with ckB := some c, ckPeriod := some (s.k / 4000), ckRun := some true } }

/-- The values last applied to a stage (R157). The graph is the one of now: a stage whose kind has changed since, between a
disable and an enable, takes the hardware values. -/
def State.stageLast (s : State) (st : Nat) : StageRun :=
  let hw := s.stageHw st
  let last := stageOf s.led.applied st
  if s.led.applied.isEmpty ∨ last.kind ≠ hw.kind then hw else { last with next := hw.next }

/-- The stage model of the run (R122 step 2, R157): hardware values, the assisted ones, or those last applied. -/
def State.stageModel (s : State) (kind : RunKind) : List StageRun :=
  match kind with
  | .assisted => (List.range 24).map (s.stageAs (s.area Obj.CRB_ASSIST_OFFSET))
  | .miss => (List.range 24).map s.stageLast
  | .faulted => (List.range 24).map s.stageLast
  | .hardware => (List.range 24).map s.stageHw

/-- The run's stage model becomes the one last applied (R157), and a ratio with no time constant follows the
configured one (R145). -/
def State.applyModel (s : State) (model : List StageRun) : State :=
  let ratio := if s.conf Obj.CRB_RATIO_TAU = 0 then s.conf Obj.CRB_GRAIN_RATIO else s.led.ratio
  { s with led := { s.led with applied := model, ratio := ratio } }

/-- A write of an earlier tick starts the ratio anew (R75, R129). -/
def State.renewRatio (s : State) : State :=
  match s.led.ratioAt with
  | some t => if t < s.k then { s with led := { s.led with ratio := s.conf Obj.CRB_GRAIN_RATIO, ratioAt := none } } else s
  | none => s

/-- What stands before the stage model of a run: the fix, the ratio, the first run after an enable, the mode's entry. -/
def State.openRun (s : State) : State :=
  let s : State := s.noteFix.renewRatio
  let s : State := s.firstLedgerRun
  let s : State := s.closeSlots
  s.modeEnter Obj.CRB_MODEL_MODE

/-- The nine steps of a run (R122). -/
def State.ledgerStep (s : State) : State :=
  let s : State := s.openRun
  let kind : RunKind := s.runKind Obj.CRB_MODEL_MODE (s.hit Obj.CRB_ASSIST_OFFSET)
  let s : State := s.modeCount Obj.CRB_MODEL_MODE kind
  let model : List StageRun := s.stageModel kind
  let s : State := s.applyModel model
  let s : State := s.advanceAll model
  let s : State := s.mergeAll model
  let s : State := s.createCrumb model
  let s : State := s.attributeDue
  let s : State := s.retireAndClose
  let s : State := s.forecastAll model
  let s : State := s.ledgerOut model
  s.showYs.beginCkpt

/-- The ledger's unit number among the work units (R49). -/
def ledgerUnit : Nat := 48

/-- The ledger step is on in this tick (R121); an enable by a write of this tick waits for the next (R75). -/
def State.ledgerOn (s : State) : Bool :=
  s.running && s.domOn 4 && !s.engineStopped 4 && s.conf Obj.CRB_ENABLE != 0 &&
    !s.time.held.contains Obj.CRB_ENABLE && !(s.led.enabledAt == some s.k) && (s.get Obj.CRB_STATE == 1 || s.get Obj.CRB_STATE == 3)

/-- A run is due (R121). -/
def State.ledgerDue (s : State) : Bool :=
  s.ledgerOn && decide (s.k % s.conf Obj.CRB_PERIOD = s.conf Obj.CRB_PHASE) && !s.tick.ran.contains ledgerUnit

/-- LEDGER_RUN (R122). `fails` says how often each page written in this run fails write verification first. -/
def execLedgerRun (fails : List Nat) (s : State) : Host.Outcome State Fault Refusal :=
  if s.ledgerDue ∧ s.acting then
    let s := s.setYs { s.led.ys with fails := fails }
    let s := s.ledgerStep
    .next ((s.setYs { s.led.ys with fails := [] }).ranUnit ledgerUnit)
  else .next s

/-- The slot of a tick, the open one or a new one, as `f` changes it (R143). -/
def State.inSlot (s : State) (m k : Nat) (f : Slot → Slot) : State :=
  let start : Int := (k : Int) - ((k : Int) - s.conf Obj.CRB_PHASE) % s.conf Obj.CRB_PERIOD
  let l := s.slots m
  let (old, cur) := match l.getLast? with
    | some sl => if sl.start = start then (l.dropLast, sl) else (l, { start := start })
    | none => ([], { start := start })
  s.setSlots m (old ++ [f cur])

/-- A tick of one measurement point without a valid sample (R143). -/
def State.gapTick (s : State) (m k : Nat) : State :=
  (s.inSlot m k fun x => { x with gap := true }).count (Obj.MP_GAP_TICKS m) 1

/-- A tick in which nothing was sampled (R123, R432). -/
def State.invalidTick (s : State) (k : Nat) : State :=
  (List.range 8).foldl (fun s m => if s.conf (Obj.MP_KIND m) = 0 then s else s.gapTick m k) s

/-- LEDGER_SAMPLE (R121, R143): the sources of this tick go into the open slots. A tick in which the step overran
is an invalid one (R123), also where that overrun has stopped the ledger (R50). -/
def State.sampleLedger (s : State) : State :=
  let s := s.noteFix
  if !s.ledgerOn then
    if s.led.missed then (List.range 8).foldl (fun s m =>
      if s.conf (Obj.MP_KIND m) = 0 then s else s.count (Obj.MP_GAP_TICKS m) 1) s
    else s
  else
    (List.range 8).foldl (fun s m =>
      if s.conf (Obj.MP_KIND m) = 0 then s
      else
        let v := s.ref (s.conf (Obj.MP_SRC m))
        if v.good && !s.led.missed then
          s.inSlot m s.k fun x => { x with q := x.q + v.rat * s.confRat (Obj.MP_SCALE m), count := x.count + 1 }
        else s.gapTick m s.k) s

/-! Commands (R124–R126, R152, R158) -/

/-- All ledger exchange entries become invalid (R125). -/
def State.clearLedger (s : State) : State := (List.range 24).foldl State.clearForecast s

/-- An open window is void (R208). -/
def State.voidWindow (s : State) : State :=
  { s with sup := { s.sup with window := s.sup.window.map fun w => { w with void := true } } }

/-- The ledger stops: the supervisor's open window is void, and its next run resolves the stop (R208, R214). -/
def State.supLosesLedger (s : State) : State :=
  let t := s.voidWindow
  { t with sup := { t.sup with ledgerStopped := true } }

/-- The ledger stops by a fault or a restart of L4 (R125): records are freed, crumbs close at the next enable. -/
def State.stopLedger (s : State) (st : Nat) : State :=
  let s := (s.clearLedger.supLosesLedger).setNow Obj.CRB_STATE st
  let s := s.freeAll
  { s with led := { s.led with fresh := true, slots := [] } }

/-- A restart of L4 stops a ledger that has been enabled since its fault (R125). -/
def State.ledgerRestart (s : State) : State :=
  if s.flag Obj.CRB_ENABLE && s.get Obj.CRB_STATE != 4 then
    { s with time := { s.time with held := s.time.held.filter (· ≠ Obj.CRB_ENABLE) } }.stopLedger 4
  else s

/-- What a write of true to CRB_ENABLE does (R124); a write while the ledger is on keeps it running. -/
def State.enableLedger (s : State) : State :=
  let again := s.get Obj.CRB_ENABLE = 1 ∧ s.get Obj.CRB_STATE ≠ 4
  let s := (s.set Obj.CRB_ENABLE 1).set Obj.CRB_GRAPH_ERR 0
  if again then s
  else
    let s := s.enableHeld Obj.CRB_ENABLE
    let s := { s with led := { s.led with fresh := true, enabledAt := some s.k }
                      tick := { s.tick with consec := Sparse.put (fun _ => 0) s.tick.consec ledgerUnit 0
                                            faulted := s.tick.faulted.filter (· ≠ ledgerUnit) } }
    s.setNow Obj.CRB_STATE (if s.time.held.contains Obj.CRB_ENABLE then 2 else 1)

/-- CRB_ENABLE (R124): a write of true; a failed check refuses it with STATE and names itself in CRB_GRAPH_ERR. -/
def execCrbEnable (q : Req) (s : State) : Host.Outcome State Fault Refusal :=
  .next (s.serveSet q Obj.CRB_ENABLE 1 (fun s => { state := graphErr s.get == 0 }) State.enableLedger
    (fun s st => match st with
      | .state => if s.standby then s else s.set Obj.CRB_GRAPH_ERR (graphErr s.get)
      | _ => s))

/-- What a write of false to CRB_ENABLE does (R125). -/
def State.disableLedger (s : State) : State :=
  let s := (s.clearLedger.supLosesLedger).closeAll
  let s := { s with led := { s.led with slots := [], fresh := true }
                    time := { s.time with held := s.time.held.filter (· ≠ Obj.CRB_ENABLE) } }
  (s.set Obj.CRB_ENABLE 0).setNow Obj.CRB_STATE 0

/-- CRB_DISABLE (R125). -/
def execCrbDisable (q : Req) (fails : List Nat) (s : State) : Host.Outcome State Fault Refusal :=
  .next (s.serveSet q Obj.CRB_ENABLE 0 (fun _ => {}) fun s =>
    let s := s.setYs { s.led.ys with fails := fails }
    let s := s.disableLedger
    (s.setYs { s.led.ys with fails := [] }).showYs)

/-- CRB_CLEAR (R126): every open crumb closed with yield flag bit 13, all records freed. -/
def execCrbClear (q : Req) (fails : List Nat) (s : State) : Host.Outcome State Fault Refusal :=
  .next (s.serveSet q Obj.CRB_CLEAR 1 (fun _ => {}) fun s =>
    let s := s.setYs { s.led.ys with fails := fails }
    let s := s.closeAll
    (s.setYs { s.led.ys with fails := [] }).showYs)

/-- A copy with its header written. -/
def Ckpt.seal (c : Ckpt) : Ckpt := { c with crc := some (u32 (crc32c c.bytes)) }

/-- CHECKPOINT_COMPLETE (R158): the header of the copy under way is written. -/
def execCheckpointComplete (s : State) : Host.Outcome State Fault Refusal :=
  if s.running then
    match s.led.ckRun with
    | some false => .next { s with led := { s.led with ckA := s.led.ckA.map Ckpt.seal, ckRun := none } }
    | some true => .next { s with led := { s.led with ckB := s.led.ckB.map Ckpt.seal, ckRun := none } }
    | none => .next s
  else .next s

/-- CRB_REDUCED_END (R140): 4000 ticks after the latest capacity merge. -/
def execCrbReducedEnd (s : State) : Host.Outcome State Fault Refusal :=
  match s.led.reducedUntil with
  | some t =>
    if s.running ∧ t ≤ s.k then
      .next { s.write Obj.CRB_REDUCED 0 true with led := { s.led with reducedUntil := none } }
    else .next s
  | none => .next s

/-- The open page is written when it holds a record (R152). -/
def State.sealOpen (s : State) : State := if s.led.ys.open_.isEmpty then s else s.sealPage

/-- YS_SEAL (R152): the open page is written when it holds a record. -/
def execYsSeal (q : Req) (fails : List Nat) (s : State) : Host.Outcome State Fault Refusal :=
  .next (s.serveSet q Obj.YS_SEAL 1 (fun _ => {}) fun s =>
    let s := s.setYs { s.led.ys with fails := fails }
    let s := s.sealOpen
    (s.setYs { s.led.ys with fails := [] }).showYs)

/-- A mark lies from YS_MARK to YS_NEWEST, modulo 2³² (R152). -/
def YieldSt.markOk (y : YieldSt) (v : Nat) : Bool :=
  decide ((v + 2 ^ 32 - y.mark) % 2 ^ 32 ≤ (y.newest + 2 ^ 32 - y.mark) % 2 ^ 32)

/-- The mark is set, and pages that it frees are erased ahead (R151, R152). -/
def State.putMark (s : State) (seq : Nat) : State :=
  let y := { s.led.ys with mark := seq }
  (s.setYs (y.erase (s.conf Obj.YS_POLICY))).showYs

/-- YS_SET_MARK (R152). -/
def execYsSetMark (q : Req) (seq : Nat) (s : State) : Host.Outcome State Fault Refusal :=
  .next (s.serveSet q Obj.YS_SET_MARK seq (fun s => { range := s.led.ys.markOk seq }) fun s => s.putMark seq)

/-- A write to another ledger object (R125, R126, R132). -/
def State.ledgerExtra (s : State) (key v : Nat) : Extra :=
  let on := s.flag Obj.CRB_ENABLE
  let ix := key / 256
  let sub := key % 256
  let fixed := key == Obj.CRB_PERIOD || key == Obj.CRB_PHASE ||
    (decide (0x4810 ≤ ix ∧ ix < 0x4828) && (sub == 1 || sub == 2))
  let st := ix - 0x4810
  let le1 := fun a b : Nat => decide (f32rat a + f32rat b ≤ 1 + 1 / 1000000)
  let ok :=
    if key = Obj.CRB_PERIOD then decide (4000 % v = 0 ∧ s.get Obj.CRB_PHASE < v)
    else if key = Obj.CRB_PHASE then decide (v < s.get Obj.CRB_PERIOD)
    else if key = Obj.CRB_INTAKE_SRC ∨ key = Obj.CRB_WIDTH_SRC ∨ key = Obj.CRB_GROUND_SRC then s.refOk numTys v
    else if key = Obj.CRB_WORK_SRC then s.refOk [.bool] v
    else if 0x4810 ≤ ix ∧ ix < 0x4828 then
      (if sub = 7 then s.refOk numTys v
       else if sub = 3 then le1 v (s.get (Obj.STG_G1 st))
       else if sub = 4 then le1 (s.get (Obj.STG_G0 st)) v
       else if sub = 5 then le1 v (s.get (Obj.STG_M1 st))
       else if sub = 6 then le1 (s.get (Obj.STG_M0 st)) v
       else true)
    else if 0x4830 ≤ ix ∧ ix < 0x4838 ∧ sub = 3 then s.refOk numTys v
    else if key = Obj.FC_STAGES then
      !(List.range 48).any fun n => (s.unitOn n || s.unitPending n) && s.get (Obj.FL_FF1_STAGE n) != 0xFF &&
        !bit v (s.get (Obj.FL_FF1_STAGE n))
    else true
  { range := ok, state := !(fixed && on) }

/-- What a write to CRB_GRAIN_RATIO or CRB_RATIO_TAU does beside holding the value: the ratio starts anew in the first run of
a later tick (R75, R129). -/
def State.ratioWritten (s : State) : State := { s with led := { s.led with ratioAt := some s.k } }

end Sys2Proof.Machine
end

