-- ==== Sys2Proof/Machine/Functions.lean ====
section
/-! DEFINITION. Harvester function templates, the path element and the setting supervisor (R194–R217). Sums,
and symptoms are exact rationals over the stored numbers, the path geometry is in binary64, with elementary functions
as log entry 5 says; results are stored as binary32. -/

namespace Sys2Proof.Machine

/-! Templates (R194–R199) -/

/-- What the entry member's setpoint selection is set to at build. -/
inductive TplSp where
  | value
  | reference
  | target (t : Nat)
  | path
  deriving DecidableEq, Repr

/-- A row of Table 1. -/
structure Tpl where
  name : String
  members : List (Nat × Nat)
  sp : TplSp
  stage : Bool
  deriving DecidableEq, Repr

/-- The thirty templates in order of number (Table 1). -/
def templates : List Tpl := [
  ⟨"Path steering", [(4, 3)], .path, false⟩,
  ⟨"Ground-speed targeting", [(80, 6), (16, 9)], .value, false⟩,
  ⟨"Header height", [(16, 4), (2, 1)], .value, false⟩,
  ⟨"Header lateral tilt", [(8, 5)], .value, false⟩,
  ⟨"Header float", [(4, 1)], .value, false⟩,
  ⟨"Reel height", [(16, 11)], .value, false⟩,
  ⟨"Reel speed", [(8, 6)], .reference, false⟩,
  ⟨"Reel fore-aft", [(16, 13)], .value, false⟩,
  ⟨"Draper belt speed", [(8, 7)], .reference, false⟩,
  ⟨"Knife drive", [(8, 1)], .value, false⟩] ++ [
  ⟨"Feeder drive", [(8, 3)], .value, false⟩,
  ⟨"Rotor speed", [(8, 2)], .target 0, true⟩,
  ⟨"Concave clearance", [(16, 5)], .target 1, false⟩,
  ⟨"Rotor vane pitch", [(16, 9)], .value, false⟩,
  ⟨"Cleaning fan", [(8, 3), (4, 2)], .target 2, true⟩,
  ⟨"Upper sieve", [(16, 7)], .target 3, false⟩,
  ⟨"Lower sieve", [(16, 15)], .target 4, false⟩,
  ⟨"Shoe levelling", [(16, 3)], .value, false⟩,
  ⟨"Tailings rethresher", [(8, 4)], .value, true⟩,
  ⟨"Clean grain elevator", [(8, 5)], .value, false⟩] ++ [
  ⟨"Tank fill distribution", [(80, 21)], .value, false⟩,
  ⟨"Unloading auger drive", [(8, 7)], .value, false⟩,
  ⟨"Spout alignment", [(16, 10), (4, 0)], .reference, false⟩,
  ⟨"Spout flap", [(16, 12)], .value, false⟩,
  ⟨"Straw chopper", [(8, 0)], .value, true⟩,
  ⟨"Chaff spreader", [(8, 1)], .value, true⟩,
  ⟨"Residue spread direction", [(16, 14)], .reference, false⟩,
  ⟨"Engine load", [(40, 17)], .value, true⟩,
  ⟨"Charge pressure", [(4, 3)], .value, false⟩,
  ⟨"Feeder face angle", [(16, 1)], .value, false⟩]

/-- The template of a number. -/
def templateOf (n : Nat) : Option Tpl := if n = 0 then none else templates[n - 1]?

/-- TP_SUP_TARGET: the supervisor target fed to the entry member, FFh for none (Table 4). -/
def Tpl.supTarget (t : Tpl) : Nat := match t.sp with | .target x => x | _ => 0xFF

/-- The slots that a build of a template needs. -/
def State.tplSlots (s : State) (t : Tpl) : List Nat :=
  [s.get Obj.TPL_SLOT_0, s.get Obj.TPL_SLOT_1].take t.members.length

/-- The result code of a build as the builder objects stand (Table 2); 00h builds. -/
def State.tplCode (s : State) : Nat :=
  match templateOf (s.get Obj.TPL_NUMBER) with
  | none => 1
  | some t =>
    let a := s.get Obj.TPL_ASSEMBLY
    let slots := s.tplSlots t
    let pvs := [s.get Obj.TPL_PV_0, s.get Obj.TPL_PV_1].take t.members.length
    let dst := s.get Obj.TPL_DST
    let refBad := fun r => r == 0 || !s.refOk numTys r
    if s.unitOn (a + 0x100) || s.unitPending (a + 0x100) || (s.parent (a + 0x100)).isSome ||
        !(s.members a).isEmpty then 2
    else if slots.any (fun n => decide (48 ≤ n) || s.unitOn n || s.unitPending n || (s.parent n).isSome) ||
        (slots.length == 2 && slots.getD 0 0 == slots.getD 1 0) then 3
    else if pvs.any refBad || (t.sp == .reference && refBad (s.get Obj.TPL_SP_SRC)) then 4
    else if dst ≠ 0 ∧ (!loopDrivable dst || (List.range 48).any fun n =>
        (s.unitOn n || s.unitPending n) && s.get (Obj.FL_OUT_DST n) == dst) then 5
    else if t.stage && (decide (s.get Obj.TPL_FF_STAGE = 0xFF) || !bit (s.get Obj.FC_STAGES) (s.get Obj.TPL_FF_STAGE)) then 6
    else 0

/-- Every object of Table 8 of the loop chapter set to its default. -/
def State.slotDefaults (s : State) (n : Nat) : State :=
  let subs := ((List.range 0x3F).map (· + 1)).filter fun sub => decide (sub < 0x10 ∨ 0x20 ≤ sub)
  let s := s.writeMode (Obj.FL_MODE n) 0
  subs.foldl (fun s sub =>
    let key := (0x5000 + n) * 256 + sub
    s.setNow key (objDefault key)) s

/-- A reference to an object (R120). -/
def refTo (key : Nat) : Nat := key * 256

/-- The template built (R195). -/
def State.buildTemplate (s : State) (num : Nat) (t : Tpl) : State :=
  let a := s.get Obj.TPL_ASSEMBLY
  let slots := s.tplSlots t
  let first := slots.getD 0 0
  let last := slots.getLastD 0
  let s := slots.foldl State.slotDefaults s
  let s := (slots.zip t.members).foldl (fun s p =>
    (s.set (Obj.FL_CLASS p.1) p.2.1).set (Obj.FL_PHASE p.1) p.2.2) s
  let s := s.set (Obj.FL_PV_SRC first) (s.get Obj.TPL_PV_0)
  let s := if slots.length = 2 then
      ((s.set (Obj.FL_PV_SRC last) (s.get Obj.TPL_PV_1)).set (Obj.FL_SP_SEL last) 1).set (Obj.FL_SP_SRC last)
        (refTo (Obj.FL_OUT first))
    else s
  let s := s.set (Obj.FL_OUT_DST last) (s.get Obj.TPL_DST)
  let s := match t.sp with
    | .value => s.set (Obj.FL_SP_SEL first) 0
    | .reference => (s.set (Obj.FL_SP_SEL first) 1).set (Obj.FL_SP_SRC first) (s.get Obj.TPL_SP_SRC)
    | .target x => (s.set (Obj.FL_SP_SEL first) 1).set (Obj.FL_SP_SRC first) (refTo (Obj.TGT_NOW x))
    | .path => (s.set (Obj.FL_SP_SEL first) 1).set (Obj.FL_SP_SRC first) (refTo Obj.PATH_ANGLE_DEM)
  let s := if t.stage then s.set (Obj.FL_FF1_STAGE first) (s.get Obj.TPL_FF_STAGE) else s
  let s := if num = 1 then
      (((s.set (Obj.FL_I_MIN first) 0).set (Obj.FL_I_MAX first) 0).set (Obj.FL_C first) 0).set Obj.PATH_STEER_SLOT first
    else s
  let s := s.setBlob (Obj.AS_NAME a) ((ascii t.name).take 16)
  let s := ((s.set (Obj.AS_ENTRY a) first).set (Obj.AS_EXIT a) last).set (Obj.AS_POLICY a) 0
  let s := (List.range 64).foldl (fun s i =>
    (s.setMember a i (slots.getD i 0xFFFF)).set (Obj.AS_CRIT a i) 1) s
  ((s.set (Obj.TP_NUMBER a) num).set (Obj.TP_SUP_TARGET a) t.supTarget).set (Obj.TP_BUILD_TICK a) s.k

/-- The template objects at a start: TP_SUP_TARGET follows each stored TP_NUMBER (R198). -/
def State.templateStart (s : State) : State :=
  (s.obj.filter fun p => decide (0x8000 * 256 ≤ p.1 ∧ p.1 < 0x9000 * 256 ∧ p.1 % 4096 = 0x301)).foldl (fun s p =>
    match templateOf p.2 with
    | some t => s.set (p.1 + 2) t.supTarget
    | none => s) s

/-- TPL_BUILD (R195, R196): all of it or nothing; TPL_RESULT takes the code. -/
def execTplBuild (q : Req) (s : State) : Host.Outcome State Fault Refusal :=
  .next (s.serveSet q Obj.TPL_BUILD 1 (fun s => { state := s.tplCode == 0 })
    (fun s => match templateOf (s.get Obj.TPL_NUMBER) with
      | some t => (s.buildTemplate (s.get Obj.TPL_NUMBER) t).set Obj.TPL_RESULT 0
      | none => s)
    (fun s st => match st with
      | .state => if s.standby then s else s.set Obj.TPL_RESULT s.tplCode
      | _ => s))

/-- The template marks of an assembly removed (R198, R199). -/
def State.removeTemplate (s : State) (a : Nat) : State :=
  ((s.set (Obj.TP_NUMBER a) 0).set (Obj.TP_SUP_TARGET a) (objDefault (Obj.TP_SUP_TARGET a))).set (Obj.TP_BUILD_TICK a) 0

/-- A write to TP_NUMBER: 0000h alone, and no enabled unit refers to an object that goes with it (R176, R198). -/
def State.templateExtra (s : State) (a v : Nat) : Extra :=
  { range := v == 0 && s.keepsChecks (s.removeTemplate a) }

/-- TEMPLATE_REMOVE (R198): TP_NUMBER written 0000h. -/
def execTemplateRemove (q : Req) (a : Fin 256) (s : State) : Host.Outcome State Fault Refusal :=
  .next (s.serveSet q (Obj.TP_NUMBER a) 0 (fun s => s.templateExtra a 0) fun s => s.removeTemplate a)

/-! The path element (R200–R206) -/

/-- An angle brought into (−π, π], in binary64 (R203). -/
def wrapAngle (a : Rat) : Rat := rd64 (a - 2 * piQ * ⌈(a - piQ) / (2 * piQ)⌉)

/-- Degrees in radians, in binary64. -/
def radians (d : Rat) : Rat := div64 (mul64 d piQ) 180

/-- Radians in degrees, in binary64. -/
def degrees (r : Rat) : Rat := div64 (mul64 r 180) piQ

/-- One, zero or minus one by the sign. -/
def signQ (q : Rat) : Rat := if 0 < q then 1 else if q < 0 then -1 else 0

/-- A segment of the path (Table 6). -/
structure Segment where
  east : Rat
  north : Rat
  heading : Rat
  kappa : Rat
  len : Rat
  deriving DecidableEq, Repr

/-- A path as the element reads it (Tables 5 and 6). -/
structure PathIn where
  number : Nat
  lat0 : Rat
  lon0 : Rat
  segs : List Segment
  deriving DecidableEq, Repr

/-- A segment of the area. -/
def readSegment (a : AppArea) (i : Nat) : Segment :=
  let o := 32 + 32 * i
  let r := fun j => f32rat (a.at_ (o + 4 * j) 4)
  ⟨r 0, r 1, r 2, r 3, r 4⟩

/-- The path, unless its header makes it stale (R202). -/
def State.pathIn (s : State) : Option PathIn :=
  let a := s.area0 Obj.PATH_APP_OFFSET
  let n := a.at_ 9 1
  if a.valid ∧ s.k ≤ a.stamp + s.conf Obj.PATH_MAX_AGE ∧ 1 ≤ n ∧ n ≤ 64 then
    some { number := a.at_ 10 2
           lat0 := (decInt 32 (a.at_ 12 4) : Rat) / 10000000
           lon0 := (decInt 32 (a.at_ 16 4) : Rat) / 10000000
           segs := (List.range n).map (readSegment a) }
  else none

/-- Where the look-ahead point lies against a segment: along it, right of it, and the path's heading there
(R203). -/
structure OnSegment where
  along : Rat
  right : Rat
  heading : Rat
  deriving DecidableEq, Repr

/-- The geometry of R203 for one segment, every operation in binary64. -/
def Segment.locate (g : Segment) (qe qn : Rat) : OnSegment :=
  let sn := sinQ g.heading
  let cs := cosQ g.heading
  if g.kappa = 0 then
    let de := sub64 qe g.east
    let dn := sub64 qn g.north
    ⟨add64 (mul64 de sn) (mul64 dn cs), sub64 (mul64 de cs) (mul64 dn sn), g.heading⟩
  else
    let ce := add64 g.east (div64 cs g.kappa)
    let cn := sub64 g.north (div64 sn g.kappa)
    let turn := sub64 (atan2Q (sub64 qe ce) (sub64 qn cn)) (atan2Q (sub64 g.east ce) (sub64 g.north cn))
    let phi := wrapAngle turn * signQ g.kappa
    let r := hypotQ (sub64 qe ce) (sub64 qn cn)
    ⟨div64 phi |g.kappa|, signQ g.kappa * sub64 (div64 1 |g.kappa|) r, add64 g.heading (signQ g.kappa * phi)⟩

/-- The segment qualifies for the look-ahead point (R202). -/
def Segment.qualifies (g : Segment) (l : OnSegment) (xte : Rat) : Bool :=
  decide (0 ≤ l.along ∧ l.along < g.len ∧ |l.right| ≤ xte)

/-- From a segment on, the first that the look-ahead point has not passed, or the last (R203). -/
def followPath (segs : List Segment) (qe qn : Rat) : Nat → Nat → Nat × OnSegment
  | 0, i => (i, (segs.getD i ⟨0, 0, 0, 0, 0⟩).locate qe qn)
  | fuel + 1, i =>
    let g := segs.getD i ⟨0, 0, 0, 0, 0⟩
    let l := g.locate qe qn
    if g.len ≤ l.along ∧ i + 1 < segs.length then followPath segs qe qn fuel (i + 1) else (i, l)

/-- The first qualifying segment of a new path (R202). -/
def searchPath (segs : List Segment) (qe qn xte : Rat) : Option Nat :=
  (List.range segs.length).find? fun i =>
    let g := segs.getD i ⟨0, 0, 0, 0, 0⟩
    g.qualifies (g.locate qe qn) xte

/-- The look-ahead point on the path's plane (R201, R203). -/
def State.lookAhead (s : State) (p : PathIn) (f : Fix) (psi : Rat) : Rat × Rat :=
  let m := metresPerDegree p.lat0
  let d := add64 (s.confRat Obj.PATH_LA_DIST) (mul64 (s.confRat Obj.PATH_LA_TIME) f.speed)
  (add64 (mul64 (sub64 f.lon p.lon0) (rd64 m.2)) (mul64 d (sinQ psi)),
   add64 (mul64 (sub64 f.lat p.lat0) (rd64 m.1)) (mul64 d (cosQ psi)))

/-- What the geometry of a run gives. -/
structure PathRun where
  number : Nat
  segment : Nat
  along : Rat
  right : Rat
  /-- Heading error, rad. -/
  he : Rat
  kdem : Rat
  angle : Rat
  atEnd : Bool
  /-- The segment qualifies for engagement (R202, R204). -/
  fits : Bool
  deriving DecidableEq, Repr

/-- The computation of R203 on the path in use, or on a new path that has a qualifying segment. -/
def State.pathRun (s : State) (p : PathIn) (f : Fix) (hdg : Rat) : Option PathRun :=
  let psi := radians hdg
  let (qe, qn) := s.lookAhead p f psi
  let start := if s.path.number = some p.number then s.path.segment
    else searchPath p.segs qe qn (s.confRat Obj.PATH_ENGAGE_XTE)
  start.map fun i =>
    let (j, l) := followPath p.segs qe qn 64 i
    let g := p.segs.getD j ⟨0, 0, 0, 0, 0⟩
    let he := wrapAngle (sub64 psi l.heading)
    let kmax := s.confRat Obj.PATH_KAPPA_MAX
    let k := sub64 (sub64 g.kappa (mul64 (s.confRat Obj.PATH_K_Y) l.right)) (mul64 (s.confRat Obj.PATH_K_PSI) he)
    let kdem := max (-kmax) (min kmax k)
    let sgn : Rat := if s.conf Obj.PATH_AXLE = 0 then 1 else -1
    { number := p.number, segment := j, along := l.along, right := l.right, he := he, kdem := kdem
      angle := degrees (sgn * atan2Q (mul64 (s.confRat Obj.PATH_WHEELBASE) kdem) 1)
      atEnd := decide (g.len ≤ l.along)
      fits := g.qualifies l (s.confRat Obj.PATH_ENGAGE_XTE) }

/-- What a run of the path element finds: the path, the usable solution with its heading, and the run's values where
both are there (R200, R201). -/
structure PathView where
  want : Bool
  /-- The engage source is there, valid and false. -/
  refused : Bool
  override_ : Bool
  path : Option PathIn
  fix : Option (Fix × Rat)
  run : Option PathRun
  slotOk : Bool

/-- A reference to a BOOL reads false, and is valid. -/
def State.refFalse (s : State) (r : Nat) : Bool :=
  let v := s.ref r
  v.named && v.valid && v.val == 0

/-- The view of this tick, on the applied solution, none where it is not valid. -/
def State.pathView (s : State) (fix : Option Fix) : PathView :=
  let pin := s.pathIn
  let usable := match fix with
    | some f => if s.k ≤ f.epoch + s.conf Obj.CRB_POS_MAX_AGE ∧ s.conf Obj.PATH_Q_MIN ≤ f.quality then
        f.heading.map fun h => (f, h) else none
    | none => none
  let slot := s.conf Obj.PATH_STEER_SLOT
  { want := s.refTrue (s.conf Obj.PATH_ENGAGE_SRC)
    refused := s.refFalse (s.conf Obj.PATH_ENGAGE_SRC)
    override_ := s.refTrue (s.conf Obj.PATH_OVERRIDE_SRC)
    path := pin
    fix := usable
    run := match pin, usable with
      | some p, some (f, h) => s.pathRun p f h
      | _, _ => none
    slotOk := decide (slot < 48) && s.get (Obj.FL_STATE slot) == 1 }

/-- PATH_ABORT_HE in radians. -/
def State.abortHe (s : State) : Rat := radians (s.confRat Obj.PATH_ABORT_HE)

/-- Why the element leaves the engaged state, the first cause in the order of Table 9 (R203). -/
def State.pathCause (s : State) (v : PathView) : Option Nat :=
  if !v.want then some 1 else if v.override_ then some 2
  else if v.path.isNone then some 3 else if v.fix.isNone then some 4
  else match v.run with
    | none => some 3
    | some r =>
      if s.confRat Obj.PATH_ABORT_XTE < |r.right| then some 5
      else if s.abortHe < |r.he| then some 6
      else if r.atEnd then some 7
      else if !v.slotOk then some 8 else none

/-- The state that follows while the element is enabled (R202, R204). -/
def State.pathNext (s : State) (v : PathView) : Nat :=
  let engage := match v.run with
    | some r => r.fits && decide (|r.he| ≤ s.abortHe) && v.slotOk
    | none => false
  if s.path.state = 3 then (match s.pathCause v with | none => 3 | some 1 => 1 | some _ => 4)
  else if s.path.state = 4 then (if v.refused then 1 else 4)
  else if !v.want then 1 else if engage then 3 else 2

/-- The engaged state is left: its cause, and for a release the record and the count (R203). -/
def State.pathLeave (s : State) (c next num : Nat) : State :=
  let s := s.write Obj.PATH_CAUSE c true
  if next = 4 then
    (s.event 6 0x1043 (u8 c ++ u16 num)).write Obj.PATH_RELEASES (satAdd 32 (s.cur Obj.PATH_RELEASES).val 1) true
  else s

/-- The values of a run (Table 10). -/
def State.pathShow (s : State) : Option PathRun → State
  | some r =>
    let s := (s.write Obj.PATH_XTE (ratF32 r.right) true).write Obj.PATH_HE (ratF32 (degrees r.he)) true
    let s := (s.write Obj.PATH_KAPPA (ratF32 r.kdem) true).write Obj.PATH_ALONG (ratF32 r.along) true
    (s.write Obj.PATH_SEGMENT r.segment true).write Obj.PATH_NUMBER r.number true
  | none => s

/-- PATH_ANGLE_DEM: the demand while engaged, else the measured angle of the steering slot (R204). -/
def State.pathAngle (s : State) (angle : Option Nat) : State :=
  let slot := s.conf Obj.PATH_STEER_SLOT
  match angle with
  | some a => s.write Obj.PATH_ANGLE_DEM a true
  | none =>
    if slot < 48 then s.write Obj.PATH_ANGLE_DEM (s.get (Obj.FL_PV_NOW slot)) true
    else s.invalidate Obj.PATH_ANGLE_DEM

/-- The stamp and the state of the element. -/
def State.pathStamp (s : State) : State :=
  (s.write Obj.PATH_STAMP s.k true).write Obj.PATH_STATE s.path.state true

/-- A run while PATH_ENABLE is false: the element is off; but 04h is left only through 01h, once the engage source reads
false (Table 7, R204; DEDUCED, log entry 58). -/
def State.pathOff (s : State) : State :=
  if s.path.state = 4 then
    let st := if s.refFalse (s.conf Obj.PATH_ENGAGE_SRC) then 1 else 4
    ({ s with path := { s.path with state := st } }.pathAngle none).pathStamp
  else ({ s with path := { s.path with state := 0 } }.invalidate Obj.PATH_ANGLE_DEM).pathStamp

/-- A run of the path element on the applied solution, none where it is not valid (R200–R204). -/
def State.runPath (s : State) (fix : Option Fix) : State :=
  if !s.confFlag Obj.PATH_ENABLE then s.pathOff
  else
    let v := s.pathView fix
    let next := s.pathNext v
    let num := match v.run with | some r => some r.number | none => s.path.number
    let seg := match v.run with | some r => some r.segment | none => s.path.segment
    let c := (s.pathCause v).getD 0
    let left := s.path.state = 3 ∧ next ≠ 3
    let s : State := { s with path := { state := next, number := num, segment := seg } }
    let s : State := if left then s.pathLeave c next (num.getD 0) else s
    ((s.pathShow v.run).pathAngle (if next = 3 then v.run.map fun r => ratF32 r.angle else none)).pathStamp

/-! The setting supervisor (R207–R217) -/

/-- The supervisor's unit number among the work units. -/
def supUnit : Nat := 49

/-- A candidate of Table 12: symptom, target, and whether it moves the target up. -/
structure Candidate where
  symptom : Nat
  target : Nat
  up : Bool
  deriving DecidableEq, Repr

/-- The candidates in order of number (Table 12). -/
def candidates : List Candidate := [
  ⟨0, 1, false⟩, ⟨0, 0, true⟩, ⟨1, 3, true⟩, ⟨1, 2, false⟩, ⟨2, 4, true⟩, ⟨2, 2, true⟩, ⟨3, 0, false⟩,
  ⟨3, 1, true⟩, ⟨4, 2, true⟩, ⟨4, 3, false⟩, ⟨4, 4, false⟩]

/-- A window with the crumb created in this tick, if any: it takes the crumbs created at or after its opening tick
(R208). -/
def State.withCrumbs (s : State) (w : Window) : Window :=
  (s.led.origins.filterMap (·.2)).foldl (fun w o =>
    if o.origin = s.k then w.create (s.confRat Obj.SUP_FLOW_MIN) (s.conf Obj.CRB_PERIOD) s.k o.crumb o.flags o.intake
    else w) w

/-- A new window from this tick on (R208). -/
def State.newWindow (s : State) : Window :=
  s.withCrumbs { open_ := s.k, want := s.conf Obj.SUP_WINDOW / s.conf Obj.CRB_PERIOD }

/-- Every crumb of the window's span has closed (R208). -/
def Window.complete (w : Window) : Bool := w.last.isSome && w.waiting.isEmpty && !w.void

/-- The symptoms of a complete window and its mean intake (R209). A quotient by a sum of zero is no valid
symptom. -/
def State.windowResult (s : State) (w : Window) : WindowResult :=
  let g := w.grain
  let la := w.losses.getD 0 0
  let lb := w.losses.getD 1 0
  let d := g + la + lb + w.losses.getD 2 0
  let secs : Rat := w.want * s.conf Obj.CRB_PERIOD * (25 / 100000)
  let ticks := match w.last with | some e => e - w.open_ + 1 | none => 0
  let mean := fun p : Rat × Rat => if p.2 = 0 ∨ p.2 < g / 2 then none else some (p.1 / p.2)
  { x := [
      if s.pointKind 5 ∧ d ≠ 0 then some (100 * la / d) else none,
      if s.pointKind 6 ∧ d ≠ 0 then some (100 * lb / d) else none,
      if s.conf Obj.SUP_TAIL_SRC = 0 ∨ 2 * w.tail.2 < ticks ∨ w.tail.2 = 0 ∨ g = 0 ∨ secs = 0 then none
        else some (100 * (w.tail.1 / w.tail.2) / (g / 1000 / secs)),
      mean w.broken,
      mean w.foreign_]
    intake := if w.want = 0 then 0 else w.intake / w.want }

/-- A symptom's value, when valid and not left out by a weight of 0. -/
def State.symptom (s : State) (r : WindowResult) (i : Nat) : Option Rat :=
  if s.confRat (Obj.SYM_WEIGHT i) = 0 then none else (r.x.getD i none)

/-- The term of a symptom (R210). -/
def State.term (s : State) (i : Nat) (x : Rat) : Rat :=
  s.confRat (Obj.SYM_WEIGHT i) * x / s.confRat (Obj.SYM_LIMIT i)

/-- J over the symptoms valid in two windows (R210). -/
def State.sumJ (s : State) (r other : WindowResult) : Rat :=
  ((List.range 5).map fun i => match s.symptom r i, s.symptom other i with
    | some x, some _ => s.term i x
    | _, _ => 0).sum

/-- The dominant symptom (R210). -/
def State.dominant (s : State) (r : WindowResult) : Option Nat :=
  ((List.range 5).foldl (fun best i => match s.symptom r i with
    | none => best
    | some x => match best with
      | none => some (i, s.term i x)
      | some b => if b.2 < s.term i x then some (i, s.term i x) else best) none).map (·.1)

/-- A window is satisfied (R210). -/
def State.satisfied (s : State) (r : WindowResult) : Bool :=
  (List.range 5).all fun i => match s.symptom r i with
    | some x => decide (x ≤ s.confRat (Obj.SYM_LIMIT i))
    | none => true

/-- The supervisor's state as it stands. -/
def State.supState (s : State) : Nat := (s.cur Obj.SUP_STATE).val

/-- SUP_STATE changes; an entry into a state with a window opens one (R211). -/
def State.toSup (s : State) (v : Nat) : State :=
  let s := s.write Obj.SUP_STATE v true
  let w := if v = 2 ∨ v = 4 ∨ v = 5 ∨ v = 7 then some s.newWindow else none
  { s with sup := { s.sup with window := w, since := s.k } }

/-- A target as it stands. -/
def State.target (s : State) (t : Nat) : Nat := (s.cur (Obj.TGT_NOW t)).val

/-- A target is locked. -/
def State.locked_ (s : State) (t : Nat) : Bool := bit (s.conf Obj.SUP_LOCK) t

/-- A target set within its limits. -/
def State.setTarget (s : State) (t v : Nat) : State :=
  s.write (Obj.TGT_NOW t) (f32clamp (s.conf (Obj.TGT_MIN t)) (s.conf (Obj.TGT_MAX t)) v) true

/-- The trial's move taken back; the trial is over. -/
def State.revert (s : State) : State :=
  match s.sup.move with
  | some (c, old) =>
    let t := (candidates.getD c ⟨0, 0, true⟩).target
    { s.write (Obj.TGT_NOW t) old true with sup := { s.sup with move := none } }
  | none => s

/-- Settle, and then Baseline in place of Trial. -/
def State.settleToBaseline (s : State) : State :=
  let s := s.toSup 3
  { s with sup := { s.sup with toBaseline := true, move := none } }

/-- The symptoms written to a column of the symptom objects. -/
def State.writeSymptoms (s : State) (obj : Nat → Nat) (r : WindowResult) : State :=
  (List.range 5).foldl (fun s i =>
    s.write (obj i) (match r.x.getD i none with | some x => ratF32 x | none => nan32) true) s

/-- A window becomes the baseline (R212). -/
def State.takeBaseline (s : State) (r : WindowResult) : State :=
  let d := s.dominant r
  let tried := if s.sup.dominant = d then s.sup.tried else 0
  let s := { s with sup := { s.sup with baseline := some r, dominant := d, tried := tried } }
  let s := (s.write Obj.SUP_J_BASE (ratF32 (s.sumJ r r)) true).write Obj.SUP_DOMINANT (d.getD 0xFF) true
  s.writeSymptoms Obj.SYM_BASE r

/-- A candidate qualifies for a move (R212). -/
def State.qualifies (s : State) (i : Nat) (c : Candidate) : Bool :=
  !bit s.sup.tried i && !s.locked_ c.target &&
    (if c.up then f32lt (s.target c.target) (s.conf (Obj.TGT_MAX c.target))
     else f32lt (s.conf (Obj.TGT_MIN c.target)) (s.target c.target))

/-- A move, or Rest where no candidate qualifies (R212). -/
def State.makeMove (s : State) : State :=
  match s.sup.dominant, s.sup.baseline with
  | some d, some base =>
    match candidates.zipIdx.find? fun c => c.1.symptom == d && s.qualifies c.2 c.1 with
    | some (c, i) =>
      let old := s.target c.target
      let step := s.conf (Obj.TGT_STEP c.target)
      let s := s.setTarget c.target (if c.up then f32add old step else f32sub old step)
      let s := s.event 5 0x1040 (u8 c.target ++ u32 old ++ u32 (s.target c.target) ++ u32 (ratF32 (s.sumJ base base)))
      let s := s.toSup 3
      { s with sup := { s.sup with move := some (i, old), toBaseline := false } }
    | none => s.toSup 6
  | _, _ => s.toSup 6

/-- A complete window in Baseline or Satisfied (R211). -/
def State.judgeBaseline (s : State) (r : WindowResult) : State :=
  let s := s.takeBaseline r
  if s.satisfied r then s.toSup 5 else s.makeMove

/-- The void or incomparable end of a trial (R213). -/
def State.voidTrial (s : State) : State :=
  (s.revert.write Obj.SUP_VOIDS (satAdd 32 (s.cur Obj.SUP_VOIDS).val 1) true).settleToBaseline

/-- TRIAL_DECISION (R213). -/
def State.judgeTrial (s : State) (r : WindowResult) : State :=
  match s.sup.baseline, s.sup.move with
  | some base, some (c, _) =>
    let jb := s.sumJ base r
    let jt := s.sumJ r base
    let s := (s.write Obj.SUP_J_TRIAL (ratF32 jt) true).writeSymptoms Obj.SYM_TRIAL r
    if s.confRat Obj.SUP_FLOW_TOL * base.intake < |r.intake - base.intake| then s.voidTrial
    else if jt ≤ jb * (1 - s.confRat Obj.SUP_MIN_GAIN) then
      let s := s.event 5 0x1041 (u8 c ++ u32 (ratF32 jt))
      let s := s.write Obj.SUP_ACCEPTS (satAdd 32 (s.cur Obj.SUP_ACCEPTS).val 1) true
      let s := { s with sup := { s.sup with tried := 0, move := none } }
      s.judgeBaseline r
    else
      let s := s.event 5 0x1042 (u8 c ++ u32 (ratF32 jt))
      let s := s.revert.write Obj.SUP_REJECTS (satAdd 32 (s.cur Obj.SUP_REJECTS).val 1) true
      let s := { s with sup := { s.sup with tried := setBit s.sup.tried c true } }
      s.settleToBaseline
  | _, _ => s.settleToBaseline

/-- The states of Table 13 in a run of the supervisor by hardware. -/
def State.supMachine (s : State) : State :=
  match s.supState with
  | 0 => s.toSup 2
  | 1 => s.toSup 2
  | 7 => s.toSup 2
  | 2 => match s.sup.window with
    | some w => if w.void then s.toSup 2 else if w.complete then s.judgeBaseline (s.windowResult w) else s
    | none => s.toSup 2
  | 4 => match s.sup.window with
    | some w => if w.void then s.voidTrial else if w.complete then s.judgeTrial (s.windowResult w) else s
    | none => s.voidTrial
  | 5 => match s.sup.window with
    | some w => if w.void then s.toSup 5 else if w.complete then s.judgeBaseline (s.windowResult w) else s
    | none => s.toSup 5
  | _ => s

/-- A run in assisted mode collects baseline windows (R215). -/
def State.supCollect (s : State) : State :=
  if s.supState ≠ 7 then
    let s := s.toSup 7
    { s with sup := { s.sup with move := none } }
  else match s.sup.window with
    | some w => if w.void then s.toSup 7 else if w.complete then (s.takeBaseline (s.windowResult w)).toSup 7 else s
    | none => s.toSup 7

/-- The application's targets, checked (R215). -/
def State.supApply (s : State) : State :=
  let a := s.area Obj.SUP_ASSIST_OFFSET
  (List.range 5).foldl (fun s t =>
    let v := a.at_ (16 + 4 * t) 4
    if s.locked_ t ∨ !f32finite v then s else s.setTarget t v) s

/-- What R214 resolves first in a run: the bases written before this tick (R75), and locks. A base written in 00h, 01h or 07h
clears the tried set, but the state stays, for there is nothing to settle (DESIGN CHOICE, log entry 97). -/
def State.supActions (s : State) : State :=
  let trialOn := fun s : State => s.sup.move.map fun m => (candidates.getD m.1 ⟨0, 0, true⟩).target
  let wrote := (s.sup.baseWritten.filter fun p => decide (p.2 < s.k)).map (·.1)
  let s : State := if wrote.isEmpty then s
    else
      let s : State := match trialOn s with
        | some t => if wrote.contains t then s else s.revert
        | none => s
      let s : State := wrote.foldl (fun s t => s.write (Obj.TGT_NOW t) (s.conf (Obj.TGT_BASE t)) true) s
      let s : State := { s with sup := { s.sup with
        baseWritten := s.sup.baseWritten.filter fun p => decide (s.k ≤ p.2), tried := 0 } }
      if s.supState = 0 ∨ s.supState = 1 ∨ s.supState = 7 then s else s.settleToBaseline
  let s : State := match trialOn s with
    | some t => if s.locked_ t then s.settleToBaseline else s
    | none => s
  (List.range 5).foldl (fun s t =>
    if s.locked_ t ∧ s.target t ≠ s.conf (Obj.TGT_BASE t) then s.write (Obj.TGT_NOW t) (s.conf (Obj.TGT_BASE t)) true
    else s) s

/-- The remaining objects of a run. -/
def State.supOut (s : State) : State :=
  let s := (s.write Obj.SUP_MOVE ((s.sup.move.map (·.1)).getD 0xFF) true).write Obj.SUP_TRIED s.sup.tried true
  s.write Obj.SUP_WIN_CRUMBS ((s.sup.window.map (·.taken)).getD 0) true

/-- One run of the supervisor (R207–R215). A ledger that has stopped since the last run takes it to 01h, also where it runs
again (R214). With SUP_MODE in force it enters 07h from every state in which it is enabled, for Table 13 gives no condition
(DEDUCED, log entry 96). -/
def State.supStep (s : State) : State :=
  let mode := Obj.SUP_MODE
  let s := s.modeEnter mode
  let kind := s.runKind mode (s.hit Obj.SUP_ASSIST_OFFSET)
  let s := s.modeCount mode kind
  let rewrite := fun s : State => (List.range 5).foldl (fun s t => s.write (Obj.TGT_NOW t) (s.target t) true) s
  let s :=
    if !s.confFlag Obj.SUP_ENABLE then
      let s := (List.range 5).foldl (fun s t => s.write (Obj.TGT_NOW t) (s.conf (Obj.TGT_BASE t)) true) s
      let s := s.toSup 0
      { s with sup := { s.sup with move := none, tried := 0, baseWritten := [], ledgerStopped := false } }
    else
      let s := (if kind == .miss then s else rewrite s).supActions
      let ledger := (s.get Obj.CRB_STATE == 1 || s.get Obj.CRB_STATE == 3) && s.pointKind 1 && !s.sup.ledgerStopped
      let s : State := { s with sup := { s.sup with ledgerStopped := false } }
      let s := if kind == .assisted then s.supApply else s
      if s.supState = 0 ∧ kind == .hardware then s.toSup 2
      else if !ledger then (s.revert).toSup 1
      else match kind with
        | .assisted => s.supCollect
        | .miss => s.supCollect
        | .hardware => s.supMachine
        | .faulted => if s.supState = 2 then s else s.toSup 2
  let s := if kind == .faulted then (List.range 5).foldl (fun s t => s.invalidate (Obj.TGT_NOW t)) s else s
  s.supOut

/-- A supervisor run is due (R207). -/
def State.supDue (s : State) : Bool :=
  s.running && s.acting && s.domOn 4 && !s.engineStopped 4 && decide (s.k % 4000 = s.conf Obj.SUP_PHASE) &&
    !s.tick.ran.contains supUnit && !s.tick.faulted.contains supUnit

/-- SUPERVISOR_STEP (R207). -/
def execSupervisorStep (s : State) : Host.Outcome State Fault Refusal :=
  if s.supDue then .next (s.supStep.ranUnit supUnit) else .next s

/-- A window that is not complete within SUP_WINDOW_MAX ticks of its opening is void (R208). -/
def State.voidIfDue (s : State) : State :=
  match s.sup.window with
  | some w => if w.open_ + s.conf Obj.SUP_WINDOW_MAX ≤ s.k ∧ !w.complete then s.voidWindow else s
  | none => s

/-- Settle ends after SUP_SETTLE ticks: to Trial, or to Baseline after a revert (R211). -/
def State.settleIfDue (s : State) : State :=
  if s.supState = 3 ∧ s.sup.since + s.conf Obj.SUP_SETTLE ≤ s.k then s.toSup (if s.sup.toBaseline then 2 else 4) else s

/-- Rest ends after SUP_RETRY ticks: the tried set is cleared, to Baseline (R211). -/
def State.restIfDue (s : State) : State :=
  if s.supState = 6 ∧ s.sup.since + s.conf Obj.SUP_RETRY ≤ s.k then
    { s with sup := { s.sup with tried := 0 } }.toSup 2
  else s

/-- WINDOW_VOID (R208). -/
def execWindowVoid (s : State) : Host.Outcome State Fault Refusal :=
  if s.running ∧ s.acting then .next s.voidIfDue else .next s

/-- SETTLE_END (R211). -/
def execSettleEnd (s : State) : Host.Outcome State Fault Refusal :=
  if s.running ∧ s.acting then .next s.settleIfDue else .next s

/-- REST_END (R211). -/
def execRestEnd (s : State) : Host.Outcome State Fault Refusal :=
  if s.running ∧ s.acting then .next s.restIfDue else .next s

/-- TGT_BASE lies between TGT_MIN and TGT_MAX (R217). -/
def targetOk (lo base hi : Nat) : Bool := f32le lo base && f32le base hi

/-- A base written; the supervisor resolves it in its next run (R214). -/
def State.writeBase (s : State) (t v : Nat) : State :=
  let s := s.set (Obj.TGT_BASE t) v
  { s with sup := { s.sup with baseWritten := (s.sup.baseWritten.filter fun p => p.1 ≠ t) ++ [(t, s.k)] } }

/-- TGT_BASE_WRITE (R214). -/
def execTgtBaseWrite (q : Req) (t : Fin 5) (value : Nat) (s : State) : Host.Outcome State Fault Refusal :=
  .next (s.serveSet q (Obj.TGT_BASE t) value
    (fun s => { range := targetOk (s.get (Obj.TGT_MIN t)) value (s.get (Obj.TGT_MAX t)) }) fun s => s.writeBase t value)

/-- SUP_LOCK_WRITE (R214); the supervisor resolves it in its next run. -/
def execSupLockWrite (q : Req) (value : Nat) (s : State) : Host.Outcome State Fault Refusal :=
  .next (s.serveSet q Obj.SUP_LOCK value (fun _ => {}) fun s => s.set Obj.SUP_LOCK value)

/-- SUP_ENABLE_OFF (R214); the supervisor resolves it in its next run. -/
def execSupEnableOff (q : Req) (s : State) : Host.Outcome State Fault Refusal :=
  .next (s.serveSet q Obj.SUP_ENABLE 0 (fun _ => {}) fun s => s.set Obj.SUP_ENABLE 0)

/-- TGT_NOW copied into TGT_BASE for the unlocked targets, in the running dictionary (R214). -/
def State.adopt (s : State) : State :=
  (List.range 5).foldl (fun s t =>
    if bit (s.get Obj.SUP_LOCK) t then s else s.set (Obj.TGT_BASE t) (s.get (Obj.TGT_NOW t))) s

/-- SUP_ADOPT (R214). -/
def execSupAdopt (q : Req) (s : State) : Host.Outcome State Fault Refusal :=
  .next (s.serveSet q Obj.SUP_ADOPT 1 (fun _ => {}) fun s => s.adopt)

/-- The tailings flow of a tick in a window's shifted span (R209). -/
def State.sampleTail (s : State) : State :=
  match s.sup.window with
  | some w =>
    let lag := s.conf Obj.SUP_TAIL_LAG
    let v := s.ref (s.conf Obj.SUP_TAIL_SRC)
    let inSpan := decide (w.open_ + lag ≤ s.k) && (match w.last with | some e => decide (s.k ≤ e + lag) | none => true)
    if inSpan && v.good then
      { s with sup := { s.sup with window := some { w with tail := (w.tail.1 + v.rat, w.tail.2 + 1) } } }
    else s
  | none => s

/-- A write to another object of the chapter. -/
def State.functionExtra (s : State) (key v : Nat) : Extra :=
  let ix := key / 256
  let t := ix - 0x5120
  let ok :=
    if 0x5120 ≤ ix ∧ ix < 0x5125 then
      (if key = Obj.TGT_BASE t then targetOk (s.get (Obj.TGT_MIN t)) v (s.get (Obj.TGT_MAX t))
       else if key = Obj.TGT_MIN t then targetOk v (s.get (Obj.TGT_BASE t)) (s.get (Obj.TGT_MAX t))
       else if key = Obj.TGT_MAX t then targetOk (s.get (Obj.TGT_MIN t)) (s.get (Obj.TGT_BASE t)) v
       else true)
    else if key = Obj.SUP_TAIL_SRC then s.refOk numTys v
    else if key = Obj.PATH_ENGAGE_SRC ∨ key = Obj.PATH_OVERRIDE_SRC then s.refOk [.bool] v
    else if key = Obj.PATH_ABORT_XTE then f32le (s.get Obj.PATH_ENGAGE_XTE) v
    else if key = Obj.PATH_ENGAGE_XTE then f32le v (s.get Obj.PATH_ABORT_XTE)
    else true
  { range := ok }

end Sys2Proof.Machine
end

