-- ==== Sys2Proof/Machine/NavCheck.lean ====
section
/-! DEFINITION. The navigation units of Table 2 and their checks, computed from the bits (R330, R337). What each check is,
the systems' interface specifications say (PRESUMED, log entry 98). -/

namespace Sys2Proof.Machine

/-- The bits of a whole unit by bit number of Table 2, the second length where a signal has two units. -/
def sigLengths : List (Nat × Nat) := [(300, 300), (600, 274), (300, 300), (300, 300), (240, 240), (244, 244), (240, 240), (492, 492),
  (300, 300), (600, 264), (288, 288), (300, 300), (85, 85), (85, 85), (300, 300), (300, 300), (300, 300), (250, 250)]

/-- The bits that a unit has when it is whole (Table 2). -/
def navFull (u : NavUnit) : Nat :=
  let l := sigLengths.getD u.sig (0, 0)
  if u.short then l.2 else l.1

/-- Bit `i` of a unit, the first received numbered 0: it stands in bit 7 of the first byte. -/
def navBit (u : NavUnit) (i : Nat) : Bool := (u.bits.getD (i / 8) 0).getLsbD (7 - i % 8)

/-- The exclusive or of some truth values. -/
def parity (l : List Bool) : Bool := l.foldl Bool.xor false

/-- The remainder of CRC-24Q over a list of bits. -/
def crc24Bits (l : List Bool) : BitVec 24 :=
  l.foldl (fun c b => if c.msb != b then (c <<< 1) ^^^ 0x864CFB#24 else c <<< 1) 0

/-- The bits that the CRC-24Q of a signal's unit covers, the CRC last: of a Galileo page pair the parts of both pages without
the tail and the bits after the CRC; of a Galileo page all but its tail; else all. -/
def crcSpan (u : NavUnit) : List Nat :=
  if u.sig = 4 ∨ u.sig = 6 then List.range 114 ++ List.range' 120 106
  else if u.sig = 5 then List.range 238
  else if u.sig = 7 then List.range 486
  else List.range (navFull u)

/-- The six parity equations of a GPS word: whether the last bit of the word before is D30* in place of D29*, and the data bits
taken, numbered from 1. -/
def lnavEquations : List (Bool × List Nat) := [
  (false, [1, 2, 3, 5, 6, 10, 11, 12, 13, 14, 17, 18, 20, 23]), (true, [2, 3, 4, 6, 7, 11, 12, 13, 14, 15, 18, 19, 21, 24]),
  (false, [1, 3, 4, 5, 7, 8, 12, 13, 14, 15, 16, 19, 20, 22]), (true, [2, 4, 5, 6, 8, 9, 13, 14, 15, 16, 17, 20, 21, 23]),
  (true, [1, 3, 5, 6, 7, 9, 10, 14, 15, 16, 17, 18, 21, 22, 24]), (false, [3, 5, 6, 8, 9, 10, 11, 13, 15, 19, 22, 23, 24])]

/-- Word `w` of a GPS or QZSS subframe fails its parity; the word before the first ends in two zeros. -/
def navParityFails (u : NavUnit) (w : Nat) : Bool :=
  let d29 := w != 0 && navBit u (30 * w - 2)
  let d30 := w != 0 && navBit u (30 * w - 1)
  lnavEquations.zipIdx.any fun e =>
    parity ((if e.1.1 then d30 else d29) :: e.1.2.map fun i => (navBit u (30 * w + i - 1)).xor d30) != navBit u (30 * w + 24 + e.2)

/-- The remainder of a BCH(15,11) block, generator x⁴ + x + 1, is not zero. -/
def bchFails (l : List Bool) : Bool :=
  l.foldl (fun (c : BitVec 4) b =>
    let c' := (c <<< 1) ||| (if b then 1 else 0)
    if c.msb then c' ^^^ 0b0011 else c') 0 != 0

/-- Word `w` of a BeiDou subframe fails: either of its two blocks, whose bits alternate; of word 1 the first 15 bits are not
checked and the rest is one block. -/
def navBchWordFails (u : NavUnit) (w : Nat) : Bool :=
  if w = 0 then bchFails ((List.range 15).map fun i => navBit u (15 + i))
  else [0, 1].any fun h => bchFails ((List.range 15).map fun i => navBit u (30 * w + 2 * i + h))

/-- The places of the Hamming code of a GLONASS string that carry data, for its bits 9 to 85 in turn: those that are no power
of 2. -/
def hammingPlaces : List Nat := (List.range' 3 82).filter fun p => decide (p ∉ [4, 8, 16, 32, 64])

/-- A bit of a GLONASS string by its number, 85 the first received. -/
def navStringBit (u : NavUnit) (n : Nat) : Bool := navBit u (85 - n)

/-- A GLONASS string fails: of the checksums C1 to C7 with the sum over all bits, either all are 0, or one of the seven is 1
together with the sum, in a string that is right. -/
def navHammingFails (u : NavUnit) : Bool :=
  let c := (List.range 7).map fun i =>
    parity (navStringBit u (i + 1) :: (hammingPlaces.zipIdx.filter fun p => p.1.testBit i).map fun p => navStringBit u (p.2 + 9))
  let ones := (c.filter id).length
  let sum := parity ((List.range 85).map fun i => navStringBit u (i + 1))
  !((ones == 0 && !sum) || (ones == 1 && sum))

/-- The words of a unit that have come whole and fail, for the check kinds that check words (R337; DESIGN CHOICE, log entry 98). -/
def navBadWords (u : NavUnit) (kind : Nat) : List Nat :=
  let whole := (List.range 10).filter fun w => decide (30 * w + 30 ≤ u.count)
  if kind = 1 then whole.filter (navParityFails u) else if kind = 3 then whole.filter (navBchWordFails u) else []

/-- The result of a unit's check (R337). -/
def navResult (u : NavUnit) (kind : Nat) : Nat :=
  if u.count < navFull u then 2
  else if kind = 2 then (if crc24Bits ((crcSpan u).map (navBit u)) = 0 then 0 else 1)
  else if kind = 4 then (if navHammingFails u then 1 else 0)
  else if navBadWords u kind = [] then 0 else 1

/-- The 78 bytes of a unit's bits: those not received read 0 (R337). -/
def navBytes (u : NavUnit) : Bytes :=
  (List.range 78).map fun i =>
    if 8 * i + 8 ≤ u.count then u.bits.getD i 0
    else if u.count ≤ 8 * i then 0
    else u.bits.getD i 0 &&& (0xFF#8 <<< (8 - (u.count - 8 * i)))

end Sys2Proof.Machine
end

