-- ==== Sys2Proof/Machine/Gnss.lean ====
section
/-! DEFINITION. Satellite navigation: antennas, records, the position solution, corrections, the moving baseline and
the integrity checks (R328–R354). The estimation itself is an operand: the spec states which results it gives, not
how it finds them. -/

namespace Sys2Proof.Machine

/-! Signals (Table 2) -/

/-- Signal codes by bit number. -/
def sigCodes : List Nat := [1, 2, 3, 4, 0x10, 0x11, 0x12, 0x13, 0x20, 0x21, 0x22, 0x23, 0x30, 0x31, 0x40, 0x41, 0x42, 0x50]
/-- Bands by bit number. -/
def sigBands : List Nat := [0, 0, 1, 2, 0, 2, 2, 1, 0, 0, 2, 1, 0, 1, 0, 1, 2, 0]
/-- Check kinds by bit number. -/
def sigChecks : List Nat := [1, 2, 2, 2, 2, 2, 2, 2, 3, 2, 2, 3, 4, 4, 1, 2, 2, 2]
/-- The band of a signal. -/
def bandOf (sig : Nat) : Nat := sigBands.getD sig 0
/-- The system of a signal: the high digit of its code. -/
def sysOf (sig : Nat) : Nat := sigCodes.getD sig 0 / 16

/-- The baseband works: enabled, and D6 on (R354). -/
def State.gnssOn (s : State) : Bool := s.running && s.confFlag Obj.GNSS_ENABLE && s.domOn 6

/-- Ticks between epochs (R332). -/
def epochTicks (rate : Nat) : Nat := 4000 / ([1, 5, 10, 20, 50].getD rate 50)

/-- This tick follows an epoch tick (R333). -/
def State.afterEpoch (s : State) : Bool := decide (1 ≤ s.k ∧ (s.k - 1) % epochTicks s.gnss.rate = 0)

/-! Antennas (R328, R329) -/

/-- An antenna supply. -/
def State.ant (s : State) (a : Nat) : AntSt := Sparse.find (fun _ => ({} : AntSt)) s.gnss.ants a

/-- An antenna supply changed. -/
def State.setAnt (s : State) (a : Nat) (x : AntSt) : State :=
  { s with gnss := { s.gnss with ants := Sparse.put (fun _ => ({} : AntSt)) s.gnss.ants a x } }

/-- A tick of an antenna supply, and its sample (R328); it limits at a current of 110 to 160 mA (R555). -/
def State.antTick (s : State) (a : Nat) (x : Option AntSample) : State :=
  let st := s.ant a
  if !(s.gnssOn && s.confFlag (Obj.ANT_SUPPLY a)) then
    if s.get (Obj.ANT_STATE a) = 0 then s else ((s.set (Obj.ANT_STATE a) 0).set (Obj.ANT_I_NOW a) 0).setAnt a {}
  else
    let (s, st) := if st.on || s.get (Obj.ANT_STATE a) == 3 then (s, st)
      else (s.set (Obj.ANT_STATE a) 1, { st with on := true })
    match x with
    | some x =>
      let low := decide (f32rat x.current < 2)
      let s := s.set (Obj.ANT_I_NOW a) x.current
      let s := if s.get (Obj.ANT_STATE a) = 2 ∧ !low then s.set (Obj.ANT_STATE a) 1 else s
      s.setAnt a { st with limit := if st.on && inBand 110 160 (f32rat x.current) x.limit then st.limit + 1 else 0
                           low := if st.on && low then st.low + 1 else 0 }
    | none => s.setAnt a st

/-- ANT_SHORT (R328): 40 ticks in limit turn the supply off. -/
def execAntShort (a : Fin 2) (s : State) : Host.Outcome State Fault Refusal :=
  let st := s.ant a
  if s.gnssOn ∧ st.on ∧ 40 ≤ st.limit then
    .next (((s.setAnt a { on := false, offAt := some s.k }).set (Obj.ANT_STATE a) 3).count (Obj.ANT_SHORTS a) 1)
  else .next s

/-- ANT_RETRY (R328): every 4000 ticks a shorted supply tries again. -/
def execAntRetry (a : Fin 2) (s : State) : Host.Outcome State Fault Refusal :=
  match (s.ant a).offAt with
  | some t =>
    if s.gnssOn ∧ t + 4000 ≤ s.k then .next ((s.setAnt a { on := true }).set (Obj.ANT_STATE a) 1) else .next s
  | none => .next s

/-- ANT_OPEN (R328): below 2 mA for 400 ticks; tracking goes on. -/
def execAntOpen (a : Fin 2) (s : State) : Host.Outcome State Fault Refusal :=
  let st := s.ant a
  if s.gnssOn ∧ st.on ∧ 400 ≤ st.low then .next (s.set (Obj.ANT_STATE a) 2) else .next s

/-- ANT_AGC_0 to ANT_AGC_2 of one antenna. -/
def agcKey (a b : Nat) : Nat := (0x6010 + a) * 256 + 4 + b

/-- The signal mask in force on an antenna. -/
def State.sigMask (s : State) (a : Nat) : Nat := if a = 0 then s.gnss.maskA else s.gnss.maskB

/-- An antenna tracks a signal of a band (R329). -/
def State.bandTracked (s : State) (a b : Nat) : Bool :=
  (List.range 18).any fun sig => bandOf sig == b && bit (s.sigMask a) sig

/-- A setting of Table 17 as it stood at the latest epoch (R351). -/
def State.intConf (s : State) (key : Nat) : Nat := s.gnss.intCfg.getD (key - Obj.INT_CHECKS) 0
/-- The same of an F32. -/
def State.intRat (s : State) (key : Nat) : Rat := f32rat (s.intConf key)

/-- The settings of Table 17 take effect at an epoch (R351). -/
def State.takeIntCfg (s : State) : State :=
  { s with gnss := { s.gnss with intCfg := (List.range 11).map fun i => s.get (Obj.INT_CHECKS + i) } }

/-- The time state and the offset of an epoch tick (R336). -/
def State.noteEpochTime (s : State) : State :=
  { s with gnss := { s.gnss with epochTime := (s.get Obj.TIME_OFFSET_US, s.get Obj.TIME_STATE) } }

/-- A boundary at which an epoch falls (R332, R336, R351). -/
def State.epochBoundary (s : State) : State :=
  if s.k % epochTicks s.gnss.rate = 0 then s.takeIntCfg.noteEpochTime else s

/-- A band's gain in a tick (R329). Until the nominal gain is known the value reported is open (log entry 3). -/
def State.agcTick (s : State) (a b raw : Nat) : State :=
  let key := 3 * a + b
  let g := Sparse.find (fun _ => ({} : AgcSt)) s.gnss.agc key
  let r := f32rat raw
  let known := decide (240000 ≤ g.n)
  let g1 : AgcSt := if known ∨ !s.bandTracked a b then g else { g with sum := g.sum + r, n := g.n + 1 }
  let rel := r - g1.sum / (max 1 g1.n : Nat)
  let drop := s.intRat Obj.INT_AGC_DROP
  let g2 : AgcSt := { g1 with
    hist := (r :: g.hist).take 41
    below := if known && decide (rel < -drop) then g.below + 1 else 0 }
  let (v, s) := if known then (ratF32 rel, s) else ((s.draw).1.toNat % 2 ^ 32, (s.draw).2)
  { s.set (agcKey a b) v with gnss := { s.gnss with agc := Sparse.put (fun _ => ({} : AgcSt)) s.gnss.agc key g2 } }

/-- The gain histories end with the reception (R350 check 0). -/
def State.agcStop (s : State) : State :=
  { s with gnss := { s.gnss with agc := s.gnss.agc.map fun p => (p.1, { p.2 with hist := [], below := 0 }) } }

/-- The antennas in a tick. -/
def State.antennas (s : State) (xs : List AntSample) : State :=
  let s := [0, 1].foldl (fun s a => s.antTick a (xs.find? fun x => x.a == a)) s
  if !s.gnssOn then s.agcStop
  else xs.foldl (fun s x => (x.gains.zipIdx).foldl (fun s g => if g.2 < 3 then s.agcTick x.a g.2 g.1 else s) s) s

/-! Records (R334–R337) -/

/-- Every slot of the ring is marked at a start, before its first record (R335). A slot that holds no bytes has never been
written: it is refused as a marked one. -/
def State.markRing (s : State) : State :=
  let f := fun p : Nat × Bytes => (p.1, p.2.take 4 ++ u32 0xFFFFFFFF ++ p.2.drop 8)
  { s with gnss := { s.gnss with ring := s.gnss.ring.map f } }

/-- Bytes of DRAM that nothing has written: each free (log entry 3). -/
def State.drawBytes : Nat → State → Bytes × State
  | 0, s => ([], s)
  | n + 1, s =>
    let (v, s) := s.draw
    let (b, s) := s.drawBytes n
    (leBytes 8 v.toNat ++ b, s)

/-- The bytes that a ring slot holds before a record is written to it. -/
def State.slotBytes (s : State) (slot : Nat) : Bytes × State :=
  match Sparse.find (fun _ => ([] : Bytes)) s.gnss.ring slot with
  | [] => s.drawBytes 16
  | b => (b, s)

/-- A record written to the ring; `mk` builds it from its sequence (R334, R335). -/
def State.putGnssRecord (s : State) (mk : Nat → Bytes) : State :=
  let seq := match s.gnss.head with
    | some h => if h = 0xFFFFFFFE then 0 else h + 1
    | none => 0
  let slot := seq % 32768
  let (old, s) := s.slotBytes slot
  let b := mk seq
  { s with gnss := { s.gnss with
      ring := Sparse.put (fun _ => []) s.gnss.ring slot (b ++ old.drop b.length)
      head := some seq } }

/-- An exclusion covers a measurement. -/
def Excluded.covers (e : Excluded) (m : RawMeas) : Bool :=
  match e with
  | .band a b => m.ant == a && bandOf m.sig == b
  | .signal a g => m.ant == a && m.sig == g
  | .sigSat g x => m.sig == g && m.sat == x
  | .sat y x => sysOf m.sig == y && m.sat == x
  | .bandBoth b => bandOf m.sig == b

/-- The checks whose exclusions cover a measurement, one bit each. -/
def State.exclCauses (s : State) (m : RawMeas) : Nat :=
  (s.gnss.excl.filter fun e => e.what.covers m).foldl (fun a e => a ||| (1 <<< e.check)) 0

/-- A measurement that the position solution may use (R338). -/
def State.measUsable (s : State) (m : RawMeas) : Bool :=
  bit m.flags 0 && !bit m.flags 7 && s.exclCauses m == 0 && f32le (s.conf Obj.POS_ELEV_MASK) m.elev

/-- The lock time of a measurement, ms: no more than since its signal was enabled (R331). -/
def State.lockTime (s : State) (m : RawMeas) (epoch : Nat) : Nat :=
  min m.lock ((epoch - Sparse.find (fun _ => 0) s.gnss.lockFrom (32 * m.ant + m.sig)) / 4)

/-- The GLONASS frequency number of a record; 7Fh for other systems (Table 4). -/
def gloByte (sig glo : Nat) : Byte := if sysOf sig = 3 then BitVec.ofNat 8 glo else 0x7F

/-- A raw measurement record (Table 4). -/
def State.rawRecord (s : State) (m : RawMeas) (epoch seq : Nat) : Bytes :=
  let causes := s.exclCauses m
  let flags := (m.flags &&& 0x9F) + (if causes = 0 then 0 else 0x20) + (if m.used && s.measUsable m then 0x40 else 0)
  let b := u8 1 ++ u8 (sigCodes.getD m.sig 0) ++ u8 m.ant ++ u8 m.sat ++ u32 seq ++ u64 epoch ++ u64 m.range ++
    u64 m.phase ++ u32 m.doppler ++ u16 m.cn0 ++ u32 (s.lockTime m epoch) ++ u16 flags ++ u16 m.chan ++ [gloByte m.sig m.glo] ++ u8 causes ++
    u32 m.codeStd ++ u32 m.phaseStd ++ u32 s.gnss.epochTime.1 ++ u8 s.gnss.epochTime.2 ++ u8 0
  b ++ u16 (crc16 b)

/-- The measurements of the channels: of the signals enabled and the satellites above 0°, served in the order of R331. -/
def State.channels (s : State) (meas : List RawMeas) : List RawMeas :=
  let want := meas.filter fun m => bit (s.sigMask m.ant) m.sig && decide (0 < f32rat m.elev ∧ m.chan < 320)
  want.mergeSort fun a b =>
    if a.ant ≠ b.ant then decide (a.ant < b.ant)
    else if a.sig ≠ b.sig then decide (a.sig < b.sig) else decide (f32rat b.elev ≤ f32rat a.elev)

/-- MEASUREMENT_EPOCH (R331, R333, R336): delivered in the tick after the epoch tick, for the signals tracked: 320
channels. `unserved` counts the combinations that `meas` does not hold; none is unserved while a channel is free. -/
def execMeasurementEpoch (meas : List RawMeas) (unserved : Nat) (s : State) : Host.Outcome State Fault Refusal :=
  if s.gnssOn ∧ s.afterEpoch ∧ s.gnss.epoch ≠ some (s.k - 1) then
    let want := s.channels meas
    let ms := (want.take 320).mergeSort fun a b => decide (a.chan ≤ b.chan)
    let s := (s.set Obj.SIG_CHANNELS ms.length).set Obj.SIG_UNSERVED (if want.length < 320 then 0 else min 0xFFFF (unserved + (want.length - 320)))
    let s := { s with gnss := { s.gnss with meas := ms, epoch := some (s.k - 1) } }
    .next (if s.confFlag Obj.GQ_RAW then ms.foldl (fun s m => s.putGnssRecord (s.rawRecord m (s.k - 1))) s else s)
  else .next s

/-- A navigation-bit record (Table 5). -/
def State.navRecord (s : State) (u : NavUnit) (seq : Nat) : Bytes :=
  let kind := sigChecks.getD u.sig 0
  let bad := navBadWords u kind
  let b := u8 2 ++ u8 (sigCodes.getD u.sig 0) ++ u8 u.ant ++ u8 u.sat ++ u32 seq ++ u64 (s.k - 1) ++ u16 u.ident ++
    u16 u.count ++ u8 (navResult u kind) ++ u8 kind ++ u16 bad.length ++ u32 ((bad.map fun w => 2 ^ w).sum) ++ u16 u.chan ++
    [gloByte u.sig u.glo] ++ u8 0 ++ navBytes u
  b ++ u16 (crc16 b)

/-- NAV_RECORD_WRITE (R337): for GNSS-A, and for GNSS-B only where the signal is not tracked on GNSS-A. A unit has at least
one bit, no more than Table 2 gives it, and a channel. -/
def execNavRecordWrite (u : NavUnit) (s : State) : Host.Outcome State Fault Refusal :=
  if s.gnssOn ∧ 1 ≤ u.count ∧ u.count ≤ navFull u ∧ u.chan < 320 ∧ s.confFlag Obj.GQ_NAV ∧ bit (s.sigMask u.ant) u.sig ∧ (u.ant = 0 ∨ !bit s.gnss.maskA u.sig) then
    .next (s.putGnssRecord (s.navRecord u))
  else .next s

/-! Position (R338–R342) -/

/-- The measurements of the epoch that the solution uses (R338). -/
def State.usedMeas (s : State) : List RawMeas := s.gnss.meas.filter fun m => m.used && s.measUsable m

/-- The constellations used, by the high digit of their codes. -/
def State.systemsUsed (s : State) : List Nat := (s.usedMeas.map fun m => sysOf m.sig).eraseDups

/-- The satellites of some measurements. -/
def satCount (ms : List RawMeas) : Nat := ((ms.map fun m => (sysOf m.sig, m.sat)).eraseDups).length

/-- The satellites used (R338). -/
def State.satsUsed (s : State) : Nat := satCount s.usedMeas

/-- The quality code (Table 7): of a number of measurements and constellations, with corrections of an age, none where no base
corrections are applied. -/
def State.qualityOf (s : State) (meas systems : Nat) (sbas : Bool) (age : Option Nat) (phase : Bool) (ratio : Option Nat) : Nat :=
  let c3 := match age with | some a => decide (a ≤ s.conf Obj.CORR_MAX_AGE) | none => false
  let c4 := c3 && phase
  let c5 := c4 && (match ratio with | some r => f32le (s.conf Obj.POS_FIX_RATIO) r | none => false)
  if meas < 4 + (systems - 1) then 0 else if c5 then 5 else if c4 then 4 else if c3 then 3 else if sbas then 2 else 1

/-- The quality code of the position solution. -/
def State.quality (s : State) (e : PosEst) (corrAge : Option Nat) : Nat :=
  s.qualityOf s.usedMeas.length s.systemsUsed.length e.sbas (if e.base then corrAge else none) e.phase e.ratio

/-- An angle in degrees brought into 0 to below 360. -/
def wrapDeg (d : Rat) : Rat := d - 360 * ⌊d / 360⌋

/-- The heading and its source (Table 8), the speed given. -/
def State.headingOf (s : State) (e : PosEst) (speed : Nat) : Nat × Option Rat :=
  let len := s.confRat Obj.POS_BASE_LEN
  if 1 / 2 ≤ len ∧ e.abFixed ∧ |f32rat e.abLen - len| ≤ 3 / 100 then
    (1, some (wrapDeg (f32rat e.abAz - s.confRat Obj.POS_BASE_AZ)))
  else if f32le (s.conf Obj.POS_COG_MIN) speed then
    let rev : Rat := if s.refTrue (s.conf Obj.POS_REVERSE_SRC) then 180 else 0
    (2, some (wrapDeg (atan2Q (f32rat e.vEast) (f32rat e.vNorth) * 180 / piQ + rev)))
  else match s.gnss.hdg with
    | some (h, t) => if s.k ≤ t + s.conf Obj.POS_HDG_HOLD then (3, some (f32rat h)) else (0, none)
    | none => (0, none)

/-- A number of 10⁻⁹ degrees split into POS_LAT and POS_LAT_FINE, or POS_LON and POS_LON_FINE. -/
def splitDeg (d : Rat) : Int × Int :=
  let n := roundHalfAway (d * 1000000000)
  let c := roundHalfAway ((n : Rat) / 100)
  (c, n - 100 * c)

/-- The result of a run of the position solution, as it goes to the entries of Table 10. -/
structure PosResult where
  quality : Nat
  lat : Rat
  lon : Rat
  height : Rat
  vEast : Nat
  vNorth : Nat
  vUp : Nat
  heading : Option Rat
  hdgSrc : Nat
  hStd : Nat
  flags : Nat
  deriving DecidableEq, Repr

/-- The reference point's position from the phase centre of GNSS-A (R339). -/
def State.referencePoint (s : State) (e : PosEst) (hdg : Option Rat) : Rat × Rat × Rat :=
  let lat := (fp64 e.lat).toRat
  let lon := (fp64 e.lon).toRat
  let mm := fun key => (decInt 32 (s.conf key) : Rat) / 1000
  let h := (fp64 e.height).toRat - mm Obj.POS_ANT_UP
  match hdg with
  | none => (lat, lon, h)
  | some d =>
    let psi := d * piQ / 180
    let f := mm Obj.POS_ANT_FWD
    let r := mm Obj.POS_ANT_RIGHT
    let m := metresPerDegree lat
    (lat - (f * cosQ psi - r * sinQ psi) / m.1, lon - (f * sinQ psi + r * cosQ psi) / m.2, h)

/-- Horizontal speed, F32. -/
def hSpeed (vE vN : Nat) : Nat := ratF32 (sqrtQ (f32rat vE * f32rat vE + f32rat vN * f32rat vN))

/-- The hardware result of a run (R338–R340). -/
def State.posHw (s : State) (e : PosEst) (corrAge : Option Nat) : PosResult :=
  let q := s.quality e corrAge
  let (src, hdg) := s.headingOf e (hSpeed e.vEast e.vNorth)
  let (lat, lon, h) := s.referencePoint e hdg
  { quality := q, lat := lat, lon := lon, height := h, vEast := e.vEast, vNorth := e.vNorth, vUp := e.vUp
    heading := hdg, hdgSrc := src, hStd := e.hStd
    flags := boolNat hdg.isNone + 2 * boolNat (!s.gnss.excl.isEmpty) }

/-- The assisted result, when every check of R342 passes. -/
def State.posAssist (s : State) : Option PosResult :=
  let key := Obj.POS_ASSIST_OFFSET
  let a := s.area key
  let q := a.at_ 9 1
  let src := a.at_ 10 1
  let d := fun o => fp64 (a.at_ o 8)
  let f := fun o => a.at_ o 4
  let nums := [f 32, f 36, f 40, f 44, f 52]
  let hdg := f 48
  let isNan := fun x : Fp => match x with | .nan => true | _ => false
  let lat := (d 16).toRat
  let lon := (d 24).toRat
  let hdgOk := if src = 0 then isNan (fp32 hdg) else
    f32finite hdg && decide (0 ≤ f32rat hdg ∧ f32rat hdg < 360)
  if s.hit key ∧ (d 16).isFinite ∧ (d 24).isFinite ∧ -90 ≤ lat ∧ lat ≤ 90 ∧ -180 ≤ lon ∧ lon ≤ 180 ∧ q ≤ 5 ∧
      src ≤ 3 ∧ hdgOk ∧ !nums.any (fun x => isNan (fp32 x)) then
    some { quality := q, lat := lat, lon := lon, height := f32rat (f 32), vEast := f 36, vNorth := f 40, vUp := f 44
           heading := if src = 0 then none else some (f32rat hdg), hdgSrc := src, hStd := f 52
           flags := 4 + 2 * boolNat (!s.gnss.excl.isEmpty) }
  else none

/-- A result written to the entries of Table 10 (R341, R342). -/
def State.writePos (s : State) (r : PosResult) : State :=
  let v := decide (1 ≤ r.quality)
  let la := splitDeg r.lat
  let lo := splitDeg r.lon
  let w := fun (s : State) (key x : Nat) => s.write key x v
  let s := w (w (w s Obj.POS_STAMP s.k) Obj.POS_QUALITY r.quality) Obj.POS_LAT (encInt 32 la.1)
  let s := w (w s Obj.POS_LAT_FINE (encInt 16 la.2)) Obj.POS_LON (encInt 32 lo.1)
  let s := w (w s Obj.POS_LON_FINE (encInt 16 lo.2)) Obj.POS_HEIGHT (encInt 32 (roundHalfAway (r.height * 1000)))
  let s := w (w (w s Obj.POS_V_EAST r.vEast) Obj.POS_V_NORTH r.vNorth) Obj.POS_V_UP r.vUp
  let s := w s Obj.POS_SPEED (hSpeed r.vEast r.vNorth)
  let s := w (w s Obj.POS_HEADING (match r.heading with | some h => ratF32 h | none => nan32)) Obj.POS_HDG_SRC r.hdgSrc
  w (w s Obj.POS_H_STD r.hStd) Obj.POS_FLAGS r.flags

/-- The applied solution as the path element takes it (R200). -/
def State.fixCur (s : State) : Option Fix :=
  if (s.cur Obj.POS_EPOCH).valid then
    let g := fun key => (s.cur key).val
    some { epoch := g Obj.POS_EPOCH
           lat := (decInt 32 (g Obj.POS_LAT) : Rat) / 10000000 + (decInt 16 (g Obj.POS_LAT_FINE) : Rat) / 1000000000
           lon := (decInt 32 (g Obj.POS_LON) : Rat) / 10000000 + (decInt 16 (g Obj.POS_LON_FINE) : Rat) / 1000000000
           vEast := f32rat (g Obj.POS_V_EAST), vNorth := f32rat (g Obj.POS_V_NORTH)
           speed := f32rat (g Obj.POS_SPEED)
           heading := if g Obj.POS_HDG_SRC = 0 then none else some (f32rat (g Obj.POS_HEADING))
           quality := g Obj.POS_QUALITY }
  else none

/-! Moving baseline and system offsets (R344, R345) -/

/-- No moving baseline: no quality, no age (Table 12). -/
def State.noBaseline (s : State) : State :=
  ((s.write Obj.MB_QUALITY 0 false).write Obj.MB_AGE 0xFFFF false).invalidate Obj.MB_ALONG

/-- The newest partner epoch at or before the own one, once stream 1 has come (R344). -/
def State.newestPartner (s : State) (mb : List MbEst) (epoch : Nat) : Option MbEst :=
  if (s.gnss.corrTaken.getD 1 none).isSome then
    (mb.filter fun m => decide (m.epoch ≤ epoch)).foldl (fun best m => match best with
      | some b => if b.epoch < m.epoch then some m else some b
      | none => some m) none
  else none

/-- MB_QUALITY: Table 7 on stream 1, on no more measurements and constellations than the own solution has. -/
def State.mbQuality (s : State) (m : MbEst) (age : Nat) : Nat :=
  s.qualityOf (min m.meas s.usedMeas.length) (min m.systems s.systemsUsed.length) m.sbas (some age) m.phase m.ratio

/-- The moving baseline of a run (R344): from stream 1, at the newest partner epoch no later than the own one. -/
def State.movingBaseline (s : State) (mb : List MbEst) (heading : Option Rat) (epoch : Nat) : State :=
  if !s.confFlag Obj.MB_ENABLE then s.noBaseline
  else match s.newestPartner mb epoch with
  | none => s.noBaseline
  | some m =>
    let age := epoch - m.epoch
    let quality := s.mbQuality m age
    let ts := s.get Obj.TIME_STATE
    match heading with
    | none => ((s.write Obj.MB_QUALITY quality false).write Obj.MB_AGE (min 0xFFFF age) false).invalidate Obj.MB_ALONG
    | some hdg =>
      let ok := decide (s.conf Obj.MB_Q_MIN ≤ quality ∧ age ≤ s.conf Obj.MB_MAX_AGE ∧ 2 ≤ ts ∧ ts ≤ 4)
      let mm := fun key => (decInt 32 (s.conf key) : Rat) / 1000
      let psi := hdg * piQ / 180
      let df := mm Obj.POS_ANT_FWD - mm Obj.MB_SPOUT_FWD
      let dr := mm Obj.POS_ANT_RIGHT - mm Obj.MB_SPOUT_RIGHT
      let t : Rat := (age : Rat) / 4000
      let de := f32rat m.east + f32rat m.vEast * t + df * sinQ psi + dr * cosQ psi
      let dn := f32rat m.north + f32rat m.vNorth * t + df * cosQ psi - dr * sinQ psi
      let al := (hdg + s.confRat Obj.MB_SPOUT_AZ) * piQ / 180
      let s := (s.write Obj.MB_ALONG (ratF32 (de * sinQ al + dn * cosQ al)) ok).write Obj.MB_LATERAL
        (ratF32 (de * cosQ al - dn * sinQ al)) ok
      (s.write Obj.MB_QUALITY quality ok).write Obj.MB_AGE (min 0xFFFF age) ok

/-- A system's time minus GPS time, with its source and deviation (R345): from the clock biases where at least two of its
satellites are used and GPS too, else the broadcast value. Systems are numbered as their codes: 1 Galileo, 2 BeiDou, 3
GLONASS, 4 QZSS. -/
def State.systemOffset (s : State) (e : PosEst) (sys : Nat) : Option (Nat × Nat × Nat) :=
  let x := e.iso[sys - 1]?
  if 2 ≤ satCount (s.usedMeas.filter fun m => sysOf m.sig == sys) ∧ s.systemsUsed.contains 0 then
    some (1, ratF32 ((e.bias.getD 0 0 - e.bias.getD sys 0 : Int) : Rat), (x.map (·.std)).getD nan32)
  else ((x.bind (·.broadcast)).filter fun b => f32finite b.1).map fun b => (2, b.1, b.2)

/-- The inter-system offsets (R345). -/
def State.isoOffsets (s : State) (e : PosEst) : State :=
  (List.range 4).foldl (fun s i =>
    let (src, v, d) := (s.systemOffset e (i + 1)).getD (0, nan32, nan32)
    ((s.write (Obj.ISO_OFFSET i) v true).write (Obj.ISO_STD i) d true).write (Obj.ISO_SRC i) src true) s

/-! Integrity (R350, R351) -/

/-- A check is enabled. -/
def State.checkOn (s : State) (c : Nat) : Bool := bit (s.intConf Obj.INT_CHECKS) c

/-- The mean of some rationals. -/
def meanQ (l : List Rat) : Rat := if l.isEmpty then 0 else l.sum / (l.length : Rat)

/-- What one check finds in an epoch: it fails; what it excludes now; what it fails on; an alarm. -/
structure CheckOut where
  fails : Bool := false
  excl : List Excluded := []
  on : List Excluded := []
  alarm : Bool := false
  deriving DecidableEq, Repr

/-- Check 0, AGC. -/
def State.checkAgc (s : State) : CheckOut :=
  let drop := s.intRat Obj.INT_AGC_DROP
  (List.range 6).foldl (fun o key =>
    let g := Sparse.find (fun _ => ({} : AgcSt)) s.gnss.agc key
    let top := g.hist.foldl max (g.hist.headD 0)
    let bad := decide (drop < top - g.hist.headD 0) || decide (0 < g.below)
    let x : Excluded := .band (key / 3) (key % 3)
    if bad then { o with fails := true, on := x :: o.on, excl := if 4000 ≤ g.below then x :: o.excl else o.excl } else o) {}

/-- Check 1, C/N0 uniformity: whether one signal on one antenna fails. -/
def State.cn0Bad (s : State) (a sig : Nat) : Bool :=
  let l := (s.gnss.meas.filter fun m => m.ant == a && m.sig == sig && decide (15 < f32rat m.elev)).map fun m => (m.cn0 : Rat) / 100
  let mean := meanQ l
  let var := meanQ (l.map fun x => (x - mean) * (x - mean))
  let sp := s.intRat Obj.INT_CN0_SPREAD
  decide (6 ≤ l.length ∧ s.intRat Obj.INT_CN0_MEAN ≤ mean ∧ var < sp * sp)

/-- The pairs of antenna and signal, by 32 × antenna + signal. -/
def antSigs : List Nat := (List.range 18) ++ (List.range 18).map (· + 32)

/-- Check 1 over all signals, with the counts of consecutive failures. -/
def State.checkCn0 (s : State) : CheckOut × Sparse Nat :=
  antSigs.foldl (fun acc key =>
    let x : Excluded := .signal (key / 32) (key % 32)
    if s.cn0Bad (key / 32) (key % 32) then
      let n := Sparse.find (fun _ => 0) s.gnss.cn0Fails key + 1
      ({ acc.1 with fails := true, on := x :: acc.1.on, excl := if s.intConf Obj.INT_N ≤ n then x :: acc.1.excl else acc.1.excl },
        Sparse.put (fun _ => 0) acc.2 key n)
    else (acc.1, Sparse.put (fun _ => 0) acc.2 key 0)) ({}, s.gnss.cn0Fails)

/-- Code minus carrier, m. -/
def codeMinusPhase (m : RawMeas) : Rat :=
  (fp64 m.range).toRat - (fp64 (Config.wavelength m.sig (BitVec.ofNat 8 m.glo)).toNat).toRat * (fp64 m.phase).toRat

/-- The key of a signal, satellite and antenna. -/
def measKey (m : RawMeas) : Nat := (m.ant * 32 + m.sig) * 256 + m.sat

/-- Check 2, code–carrier divergence, with its history after the epoch. -/
def State.checkCcd (s : State) (epoch : Nat) : CheckOut × List (Nat × Nat × Rat) :=
  let ms := s.gnss.meas.filter fun m => bit m.flags 0 && bit m.flags 1
  let old := s.gnss.ccd.filter fun h => decide (epoch ≤ h.2.1 + 4000) &&
    ms.any fun m => (measKey m) == h.1 && !bit m.flags 4
  let now := ms.map fun m => ((measKey m), epoch, (codeMinusPhase m))
  let out := ms.foldl (fun o m =>
    match old.find? fun h => h.1 == (measKey m) && h.2.1 + 4000 == epoch with
    | some h =>
      if s.intRat Obj.INT_CCD < |(codeMinusPhase m) - h.2.2| then
        { o with fails := true, on := .sigSat m.sig m.sat :: o.on, excl := .sigSat m.sig m.sat :: o.excl }
      else o
    | none => o) ({} : CheckOut)
  (out, old ++ now)

/-- Check 3, inter-frequency, with the combinations of the epoch. -/
def State.checkIfc (s : State) : CheckOut × List (Nat × Rat) :=
  let ms := s.gnss.meas.filter fun m => bit m.flags 0
  let combos := (pairsOf ms).filterMap fun p =>
    if p.1.ant = p.2.ant ∧ p.1.sat = p.2.sat ∧ sysOf p.1.sig = sysOf p.2.sig ∧ bandOf p.1.sig ≠ bandOf p.2.sig then
      some ((measKey p.1) * 32 + p.2.sig, (fp64 p.1.range).toRat - (fp64 p.2.range).toRat, sysOf p.1.sig, p.1.sat)
    else none
  let out := combos.foldl (fun o c =>
    match s.gnss.ifc.find? fun h => h.1 == c.1 with
    | some h =>
      if s.intRat Obj.INT_IFC < |c.2.1 - h.2| then
        { o with fails := true, on := .sat c.2.2.1 c.2.2.2 :: o.on, excl := .sat c.2.2.1 c.2.2.2 :: o.excl }
      else o
    | none => o) ({} : CheckOut)
  (out, combos.map fun c => (c.1, c.2.1))

/-- Check 4, clock jump: the error measured now against the previous one carried forward by the slew in force and the
TCXO model (log entry 80). -/
def State.checkClock (s : State) (e : Option Int) : CheckOut :=
  match e, s.gnss.prevErr with
  | some e, some (p, t) =>
    let pred : Rat := (p : Rat) + (decInt 16 (s.get Obj.TIME_SLEW) : Rat) * ((s.k : Rat) - t) / 4000 + Config.tcxoCarry s.k
    let lim := s.intRat Obj.INT_CLOCK_JUMP +
      (if s.get Obj.TIME_STATE = 4 then (s.get Obj.TIME_ERR_EST : Rat) else 0)
    if lim < |(e : Rat) - pred| then { fails := true, alarm := true } else {}
  | _, _ => {}

/-- A phase difference brought into (−0.5, 0.5]. -/
def wrapCycle (x : Rat) : Rat := x - ⌈x - 1 / 2⌉

/-- Check 5 on one signal: the phase differences against the highest satellite all lie near 0. -/
def State.phaseBad (s : State) (sig : Nat) : Bool :=
  let of := fun a => s.gnss.meas.filter fun m => m.ant == a && m.sig == sig && bit m.flags 1
  let both := (of 0).filterMap fun m => ((of 1).find? fun x => x.sat == m.sat).map fun x =>
    (f32rat m.elev, (fp64 m.phase).toRat - (fp64 x.phase).toRat)
  match both.mergeSort fun a b => decide (b.1 ≤ a.1) with
  | [] => false
  | top :: _ =>
    decide (s.intConf Obj.INT_PHASE_SATS ≤ both.length) &&
      both.all fun x => decide (|wrapCycle (x.2 - top.2)| ≤ s.intRat Obj.INT_PHASE_SPREAD)

/-- Check 5, phase consistency, with the counts of consecutive failures. -/
def State.checkPhase (s : State) : CheckOut × Sparse Nat :=
  if s.confRat Obj.POS_BASE_LEN < 1 / 2 then ({}, [])
  else (List.range 18).foldl (fun acc sig =>
    let x : Excluded := .bandBoth (bandOf sig)
    if s.phaseBad sig then
      let n := Sparse.find (fun _ => 0) s.gnss.phaseFails sig + 1
      let now := decide (s.intConf Obj.INT_N ≤ n)
      ({ fails := true, on := x :: acc.1.on, excl := if now then x :: acc.1.excl else acc.1.excl
         alarm := acc.1.alarm || now }, Sparse.put (fun _ => 0) acc.2 sig n)
    else (acc.1, Sparse.put (fun _ => 0) acc.2 sig 0)) ({}, s.gnss.phaseFails)

/-- The exclusions after a check's findings of an epoch. -/
def addExcl (l : List Exclusion) (c epoch : Nat) (o : CheckOut) : List Exclusion :=
  let l := l.map fun e => if e.check = c ∧ o.on.contains e.what then { e with last := epoch } else e
  o.excl.foldl (fun l x => if l.any (fun e => e.check == c && e.what == x) then l else l ++ [⟨c, x, epoch⟩]) l

/-- The signals excluded for every satellite on an antenna (SIG_EXCL_A, SIG_EXCL_B). -/
def State.exclMask (s : State) (a : Nat) : Nat :=
  (List.range 18).foldl (fun m sig =>
    if s.gnss.excl.any (fun e => match e.what with
      | .band x b => x == a && bandOf sig == b
      | .signal x g => x == a && g == sig
      | .bandBoth b => bandOf sig == b
      | _ => false) then m ||| (1 <<< sig) else m) 0

/-- The time integrity state and its objects follow the alarms and cautions (R351). -/
def State.intState (s : State) (epoch : Nat) : State :=
  let was := s.get Obj.INT_STATE
  let clear := s.intConf Obj.INT_CLEAR
  let now := if !s.gnss.alarms.isEmpty then 2
    else match s.gnss.caution with
      | some t => if epoch < t + clear then 1 else 0
      | none => 0
  let s := ((s.set Obj.INT_STATE now).set Obj.SIG_EXCL_A (s.exclMask 0)).set Obj.SIG_EXCL_B (s.exclMask 1)
  if was ≠ 2 ∧ now = 2 then (s.event 6 0x5000 (u8 (s.get Obj.INT_CAUSES))).count Obj.INT_ALARMS 1
  else if was = 2 ∧ now ≠ 2 then s.event 6 0x5001 []
  else s

/-- The checks of an epoch on its measurements, all but check 4, and their exclusions (R350). In an epoch in which a check does
not run it has not failed: the count of consecutive failures ends. -/
def State.signalChecks (s : State) (epoch : Nat) : State × List CheckOut :=
  let c0 := if s.checkOn 0 then s.checkAgc else {}
  let (c1, n1) := if s.checkOn 1 then s.checkCn0 else ({}, [])
  let (c2, h2) := s.checkCcd epoch
  let c2 := if s.checkOn 2 then c2 else {}
  let (c3, h3) := s.checkIfc
  let c3 := if s.checkOn 3 then c3 else {}
  let (c5, n5) := if s.checkOn 5 then s.checkPhase else ({}, [])
  let outs := [c0, c1, c2, c3, {}, c5]
  let excl := outs.zipIdx.foldl (fun l o => addExcl l o.2 epoch o.1) s.gnss.excl
  ({ s with gnss := { s.gnss with cn0Fails := n1, phaseFails := n5, ccd := h2, ifc := h3, excl := excl } }, outs)

/-- The checks of an epoch are complete, check 4 on the time solution that the exclusions leave (R350, R351). -/
def State.integrity (s : State) (outs : List CheckOut) (e : Option Int) (epoch : Nat) : State :=
  let outs := outs.set 4 (if s.checkOn 4 then s.checkClock e else {})
  let causes := (outs.zipIdx.filter fun o => o.1.fails).foldl (fun m o => m ||| (1 <<< o.2)) 0
  let alarms := outs.zipIdx.foldl (fun l o =>
    let held := l.any fun a => a.1 == o.2
    if o.1.alarm ∨ (held ∧ o.1.fails) then (l.filter fun a => a.1 ≠ o.2) ++ [(o.2, epoch)] else l) s.gnss.alarms
  let s := { s with gnss := { s.gnss with
      alarms := alarms
      caution := if causes = 0 then s.gnss.caution else some epoch } }
  (s.set Obj.INT_CAUSES causes).intState epoch

/-- INTEGRITY_CLEAR (R350, R351): exclusions and alarms end whose check has not failed for INT_CLEAR ticks. -/
def execIntegrityClear (s : State) : Host.Outcome State Fault Refusal :=
  match s.gnss.epoch with
  | some ep =>
    let clear := s.intConf Obj.INT_CLEAR
    if s.gnssOn then
      let s := { s with gnss := { s.gnss with
        excl := s.gnss.excl.filter fun e => decide (ep < e.last + clear)
        alarms := s.gnss.alarms.filter fun a => decide (ep < a.2 + clear) } }
      .next (s.intState ep)
    else .next s
  | none => .next s

/-! The run (R341, R346) -/

/-- The position solution's and the time steering's unit numbers. -/
def posUnit : Nat := 50
/-- Time steering (R49). -/
def steerUnit : Nat := 51

/-- The age of the base corrections at an epoch. -/
def State.corrAge (s : State) (epoch : Nat) : Option Nat := s.gnss.corrAt.map fun t => epoch - t

/-- Module time minus GPS time: the GPS clock bias; without GPS satellites the bias of the first other system whose offset is
there, in the order of R345 (R346; DESIGN CHOICE, log entry 99). -/
def State.gpsError (s : State) (e : PosEst) : Option Int :=
  if s.systemsUsed.contains 0 then some (e.bias.getD 0 0)
  else [1, 2, 3, 4].findSome? fun sys =>
    if s.systemsUsed.contains sys then
      (s.systemOffset e sys).map fun o => e.bias.getD sys 0 + roundHalfAway (f32rat o.2.1)
    else none

/-- The time solution of an epoch, before the integrity state excludes it (R346). -/
def State.timeSolOf (s : State) (e : PosEst) (quality : Nat) : Option Int :=
  if 1 ≤ quality ∧ 5 ≤ s.satsUsed ∧ f32rat e.errStd ≤ 100 then s.gpsError e else none

/-- One run of the position solution unit (R341, R342, R200). -/
def State.posRun (s : State) (e : PosEst) : State :=
  let epoch := s.k - 1
  let mode := Obj.POS_MODE
  let s := s.modeEnter mode
  let hit := s.posAssist
  let kind := s.runKind mode hit.isSome
  let s := s.modeCount mode kind
  let age := s.corrAge epoch
  let (s, found) := s.signalChecks epoch
  let hw := s.posHw e age
  let err := s.timeSolOf e hw.quality
  let s := s.integrity found err epoch
  let hdg := if hw.hdgSrc = 1 ∨ hw.hdgSrc = 2 then hw.heading.map fun h => (ratF32 h, s.k) else s.gnss.hdg
  let s := { s with
    gnss := { s.gnss with
      hdg := hdg
      bias := s.systemsUsed.map fun sys => (sys, e.bias.getD sys 0)
      timeSol := err.map fun x => (x, s.k)
      prevErr := match err with | some x => some (x, s.k) | none => s.gnss.prevErr }
    time := { s.time with utc := match e.utc with | some u => some u | none => s.time.utc } }
  let s := match kind with
    | .faulted => s.invalidate Obj.POS_EPOCH
    | .miss => s
    | _ =>
      let r := match kind, hit with
        | .assisted, some r => r
        | _, _ => hw
      let s := s.writePos r
      let ok := decide (1 ≤ r.quality)
      let s := (s.write Obj.POS_EPOCH epoch ok).write Obj.POS_SATS s.satsUsed ok
      let s := (s.write Obj.POS_BASE_TILT (if hw.hdgSrc = 1 ∧ r.hdgSrc ≠ 0 then e.abEl else nan32) ok).write Obj.POS_HDG_STD
        (if r.hdgSrc = 0 then nan32 else e.hdgStd) ok
      s.write Obj.POS_CORR_AGE (age.getD 0xFFFFFFFF) ok
  let s := (s.movingBaseline e.mb hw.heading epoch).isoOffsets e
  if s.acting then s.runPath s.fixCur else s

/-- A unit that GNSS_ENABLE has let run again waits for the first epoch after that (R558). -/
def State.epochAfter (s : State) (u : Nat) : Bool := decide (Sparse.find (fun _ => 0) s.gnss.resume u ≤ s.k - 1)

/-- A run of the unit is due (R333). -/
def State.posDue (s : State) : Bool :=
  s.gnssOn && s.domOn 4 && s.afterEpoch && (s.gnss.epoch == some (s.k - 1)) && !s.engineStopped 5 &&
    !s.tick.ran.contains posUnit && !s.tick.faulted.contains posUnit && s.epochAfter posUnit

/-- POSITION_SOLUTION_RUN (R341). -/
def execPositionSolutionRun (est : PosEst) (s : State) : Host.Outcome State Fault Refusal :=
  if s.posDue then .next ((s.posRun est).ranUnit posUnit) else .next s

/-- The position solution unit from its configured initial state: no heading held, no history of the checks, no exclusion
and no alarm (R558). -/
def State.posStart (s : State) : State :=
  let s : State := { s with gnss := { s.gnss with
      hdg := none, timeSol := none, prevErr := none, cn0Fails := [], phaseFails := [], ccd := [], ifc := [], excl := []
      alarms := [], caution := none } }
  (s.set Obj.INT_CAUSES 0).intState s.k

/-- The time steering unit from its initial state: its counts of valid solutions begin anew (R558). -/
def State.steerStart (s : State) : State := { s with time := { s.time with lockSince := none, holdValid := none } }

/-- A faulted unit of the two is let run again, from the first epoch after this tick (R558). -/
def State.resumeUnit (s : State) (u : Nat) (start : State → State) : State :=
  if s.tick.faulted.contains u then
    let s := start s
    { s with gnss := { s.gnss with resume := Sparse.put (fun _ => 0) s.gnss.resume u (s.k + 1) } }
  else s

/-- What a write of true to GNSS_ENABLE does: its units' faults end (R50, R558). -/
def State.gnssEnable (s : State) : State :=
  let s := s.set Obj.GNSS_ENABLE 1
  let s := (s.resumeUnit posUnit State.posStart).resumeUnit steerUnit State.steerStart
  let clear := fun (m : Sparse Nat) => Sparse.put (fun _ => 0) (Sparse.put (fun _ => 0) m posUnit 0) steerUnit 0
  { s with tick := { s.tick with
      faulted := s.tick.faulted.filter fun u => u ≠ posUnit ∧ u ≠ steerUnit
      consec := clear s.tick.consec } }

/-- GNSS_ENABLE (R558): a write of true, which also lets faulted position and time units run again. -/
def execGnssEnable (q : Req) (s : State) : Host.Outcome State Fault Refusal :=
  .next (s.serveSet q Obj.GNSS_ENABLE 1 (fun _ => {}) State.gnssEnable)

/-- The signal masks written are taken into force: channels of signals no longer enabled are released, newly enabled
signals start with lock time 0 (R331). -/
def State.applyMasks (s : State) : State :=
  let masks := [s.conf Obj.SIG_ENABLE_A, s.conf Obj.SIG_ENABLE_B]
  let new := antSigs.filter fun x => bit (masks.getD (x / 32) 0) (x % 32) && !bit (s.sigMask (x / 32)) (x % 32)
  let ms := s.gnss.meas.filter fun m => bit (masks.getD m.ant 0) m.sig
  let s := if ms.length < s.gnss.meas.length then s.set Obj.SIG_CHANNELS ms.length else s
  { s with gnss := { s.gnss with
      maskA := s.conf Obj.SIG_ENABLE_A, maskB := s.conf Obj.SIG_ENABLE_B, meas := ms
      lockFrom := new.foldl (fun m x => Sparse.put (fun _ => 0) m x s.k) s.gnss.lockFrom } }

/-- SIGNAL_MASK_APPLY (R331): at a T4000/0 tick. -/
def execSignalMaskApply (s : State) : Host.Outcome State Fault Refusal :=
  if s.running ∧ s.k % 4000 = 0 then .next s.applyMasks else .next s

/-- POS_RATE_APPLY (R333): at a T4000/0 tick. -/
def execPosRateApply (s : State) : Host.Outcome State Fault Refusal :=
  if s.running ∧ s.k % 4000 = 0 then .next { s with gnss := { s.gnss with rate := s.conf Obj.POS_RATE } } else .next s

/-- TPULSE (R348): a rising edge at each TP_PERIOD tick in an enabled time state; never on a standby (R352). -/
def execTpulse (s : State) : Host.Outcome State Fault Refusal :=
  let tm := s.gnss.tm
  if s.running ∧ s.acting ∧ tm.getD 0 0 ≠ 0 ∧ s.k % tm.getD 1 4000 = 0 ∧ bit (tm.getD 3 0) (s.get Obj.TIME_STATE) ∧
      s.gnss.pulseAt ≠ some s.k then
    .next { (s.count Obj.TP_COUNT 1).send (.pulse (tm.getD 2 0)) with gnss := { s.gnss with pulseAt := some s.k } }
  else .next s

/-! Corrections (R343) -/

/-- Shifts of the CRC-24Q register. -/
def crc24Shift : Nat → BitVec 24 → BitVec 24
  | 0, c => c
  | n + 1, c => crc24Shift n (if c.msb then (c <<< 1) ^^^ 0x864CFB#24 else c <<< 1)

/-- CRC-24Q of RTCM frames (PRESUMED, log entry 26). -/
def crc24q (b : Bytes) : Nat :=
  (b.foldl (fun c x => crc24Shift 8 (c ^^^ ((x.zeroExtend 24 : BitVec 24) <<< (16 : Nat)))) 0#24).toNat

/-- A number in big-endian bytes. -/
def ofBe (b : Bytes) : Nat := ofLe b.reverse

/-- What the frames of an area give: bad CRCs, ignored types, message types accepted with the station. -/
structure RtcmOut where
  bad : Nat := 0
  ignored : Nat := 0
  taken : List (Nat × Nat) := []
  deriving DecidableEq, Repr

/-- The message types accepted (R343). -/
def rtcmTypes : List Nat := [1005, 1006, 1033, 1074, 1077, 1084, 1087, 1094, 1097, 1114, 1117, 1124, 1127, 1230]

/-- RTCM 3 frames one after the other: D3h, 6 reserved and 10 length bits, the message, CRC-24Q (PRESUMED, log
entry 26). -/
def rtcmFrames : Nat → Bytes → RtcmOut → RtcmOut
  | 0, _, o => o
  | fuel + 1, b, o =>
    if b.length < 6 then o
    else if b.head? ≠ some 0xD3 then rtcmFrames fuel b.tail o
    else
      let len := ofBe ((b.drop 1).take 2) % 1024
      let f := b.take (len + 6)
      let o' : RtcmOut :=
        if f.length < len + 6 ∨ crc24q (f.take (len + 3)) ≠ ofBe (f.drop (len + 3)) then { o with bad := o.bad + 1 }
        else
          let h := ofBe ((f.drop 3).take 3)
          let ty := h / 4096
          if rtcmTypes.contains ty then { o with taken := o.taken ++ [(ty, h % 4096)] } else { o with ignored := o.ignored + 1 }
      rtcmFrames fuel (b.drop (len + 6)) o'

/-- CORRECTION_TAKE (R343): stream `i` of the application's area, once per stamp. The two streams of
CORR_APP_OFFSET are the areas of that key and of the key plus one. -/
def State.takeCorrection (s : State) (i : Nat) : State :=
  let a := s.area0 (Obj.CORR_APP_OFFSET + i)
  let seen := (s.gnss.corrTaken.getD i none)
  let len := a.at_ 10 2
  if !a.valid || seen == some a.stamp || decide (4096 < len) then s
  else
    let o := rtcmFrames 700 ((a.body.drop 7).take len) {}
    let s := (s.count Obj.CORR_BAD o.bad).count Obj.CORR_IGNORED o.ignored
    let s := { s with gnss := { s.gnss with corrTaken := mapAt s.gnss.corrTaken i fun _ => some a.stamp } }
    if i = 0 ∧ !o.taken.isEmpty then
      let st := (o.taken.filter fun t => t.1 == 1005 || t.1 == 1006).getLast?
      let s := match st with | some t => s.set Obj.CORR_STATION t.2 | none => s
      { s with gnss := { s.gnss with corrAt := some a.stamp } }
    else s

/-- The capture phase's share of the chapter in a tick: corrections; entries made invalid while the baseband is
off (R343, R354). -/
def State.gnssCapture (s : State) : State :=
  let s := [0, 1].foldl State.takeCorrection s
  if s.gnssOn then
    if s.tick.faulted.contains posUnit ∧ (s.entry Obj.POS_EPOCH).valid then
      (s.invalidate Obj.POS_EPOCH).invalidate Obj.MB_ALONG else s
  else if (s.entry Obj.POS_EPOCH).valid ∨ (s.entry Obj.MB_ALONG).valid then
    (s.clearInput Obj.POS_EPOCH).clearInput Obj.MB_ALONG
  else s

/-- Time output settings take effect at a T4000/0 tick (R349). -/
def State.applyTm (s : State) : State :=
  if s.k % 4000 = 0 then
    { s with gnss := { s.gnss with tm := [Obj.TP_ENABLE, Obj.TP_PERIOD, Obj.TP_WIDTH, Obj.TP_STATES, Obj.TM_CAN,
        Obj.TM_CAN_ID, Obj.TM_UDP_PORTS, Obj.TM_UDP_DEST].map s.get } }
  else s

/-- A write to an object of the chapter that relates to another. -/
def State.gnssExtra (s : State) (key v : Nat) : Extra :=
  let ok :=
    if key = Obj.POS_REVERSE_SRC then s.refOk [.bool] v
    else if key = Obj.POS_BASE_AZ then decide (f32rat v < 360)
    else if key = Obj.TP_WIDTH then decide (10 ≤ v ∧ 2 * v ≤ s.get Obj.TP_PERIOD * 250)
    else if key = Obj.TP_PERIOD then decide (2 * s.get Obj.TP_WIDTH ≤ v * 250)
    else true
  { range := ok }

end Sys2Proof.Machine
end

