-- ==== Sys2Proof/Machine/Imaging.lean ====
section
/-! DEFINITION. Camera ports and streams, the pixel pipeline, frame buffers, shadow sets, exposure requests,
statistics, the classifier estimates and focus control (R355–R380). -/

namespace Sys2Proof.Machine

/-! Streams and ports -/

/-- A stream. -/
def State.stream (s : State) (n : Nat) : StreamSt := Sparse.find (fun _ => ({} : StreamSt)) s.img.streams n

/-- A stream changed. -/
def State.setStream (s : State) (n : Nat) (x : StreamSt) : State :=
  { s with img := { s.img with streams := Sparse.put (fun _ => ({} : StreamSt)) s.img.streams n x } }

/-- The stream runs: its enable in force, its port up, D7 on (R75, R355, R358). -/
def State.streamRuns (s : State) (n : Nat) : Bool :=
  s.running && s.confFlag (Obj.STR_ENABLE n) && s.get (Obj.PORT_STATE (n / 4)) == 2 && s.domOn 7

/-- STR_STATE of a stream (Table 8), by the enable in force. -/
def State.streamState (s : State) (n : Nat) : State :=
  s.set (Obj.STR_STATE n)
    (if !s.confFlag (Obj.STR_ENABLE n) then 0 else if s.get (Obj.PORT_STATE (n / 4)) = 2 then 1 else 2)

/-- STR_STATE of every stream. -/
def State.streamStates (s : State) : State := (List.range 8).foldl State.streamState s

/-- S holds its on-vote for D7 while any port or stream is enabled, by what is written or what is still in force (R358). -/
def State.imgWants (s : State) : Bool :=
  let on := fun key => s.flag key || s.confFlag key
  [0, 1].any (fun p => on (Obj.PORT_ENABLE p)) || (List.range 8).any fun n => on (Obj.STR_ENABLE n)

/-! The pipeline (R362) -/

/-- An image: the sample at a column and a line, where there is one. -/
abbrev Img (α : Type) := Nat → Nat → Option α

/-- An integer from a value whose rounding the spec leaves open (log entry 27). -/
def openRound (stage : Nat) (q : Rat) : Int :=
  if q.den = 1 then q.num else ⌊q⌋ + (if Config.roundUp stage q then 1 else 0)

/-- The sample at an offset. -/
def Img.off {α : Type} (m : Img α) (x y : Nat) (d : Int × Int) : Option α :=
  let x' := (x : Int) + d.1
  let y' := (y : Int) + d.2
  if 0 ≤ x' ∧ 0 ≤ y' then m x'.toNat y'.toNat else none

/-- The received samples of a frame, at 12 bits. -/
def OpenFrame.img (f : OpenFrame) : Img Nat := fun x y => (f.lines[y]?).bind fun l => l.1[x]?

/-- Shift of a data type's samples to 12 bits. -/
def dtShift (dt : Nat) : Nat := if dt = 0x2A then 4 else if dt = 0x2B then 2 else 0

/-- The CFA position of a pixel, 0–3 by line and column parity. -/
def cfaPos (x y : Nat) : Nat := 2 * (y % 2) + x % 2

/-- The colour, 0 R, 1 G, 2 B, at a pixel of a pattern. -/
def cfaColour (cfa x y : Nat) : Nat :=
  (([[0, 1, 1, 2], [1, 0, 2, 1], [1, 2, 0, 1], [2, 1, 1, 0]] : List (List Nat)).getD cfa [1, 1, 1, 1]).getD
    (cfaPos x y) 1

/-- Stage 2: the black level subtracted. -/
def blackStage (c : ShadowSet) (m : Img Nat) : Img Nat := fun x y =>
  (m x y).map fun v => v - c.black.getD (cfaPos x y) 0

/-- The eight nearest neighbours of the same colour. -/
def nearest8 (cfa x y : Nat) : List (Int × Int) :=
  if cfa = 4 then [(-1, -1), (0, -1), (1, -1), (-1, 0), (1, 0), (-1, 1), (0, 1), (1, 1)]
  else if cfaColour cfa x y = 1 then [(-1, -1), (1, -1), (-1, 1), (1, 1), (0, -2), (-2, 0), (2, 0), (0, 2)]
  else [(-2, -2), (0, -2), (2, -2), (-2, 0), (2, 0), (-2, 2), (0, 2), (2, 2)]

/-- The median: where eight samples' two middle ones agree it is that, else it is open (log entry 27). -/
def median (l : List Nat) : Nat :=
  let t := l.mergeSort
  if t.length = 8 ∧ t.getD 3 0 = t.getD 4 0 then t.getD 3 0
  else (Config.median (t.map (BitVec.ofNat 12))).toNat

/-- Stage 3: defect correction. -/
def defectStage (c : ShadowSet) (cfa : Nat) (m : Img Nat) : Img Nat := fun x y =>
  (m x y).map fun v =>
    if c.defect = 0 then v
    else
      let md := median ((nearest8 cfa x y).filterMap (m.off x y))
      if c.defect < max v md - min v md then md else v

/-- The 25 samples around a pixel. -/
def around (m : Img Nat) (x y : Nat) : List (Option (BitVec 12)) :=
  (List.range 25).map fun i => (m.off x y ((i % 5 : Nat) - 2, (i / 5 : Nat) - 2)).map (BitVec.ofNat 12)

/-- Stage 4: demosaic. A sample keeps its own colour; the two others are open (log entry 27). -/
def demosaicStage (cfa : Nat) (m : Img Nat) : Img (List Nat) := fun x y =>
  (m x y).map fun v =>
    if cfa = 4 then [v, v, v]
    else (List.range 3).map fun ch =>
      if ch = cfaColour cfa x y then v
      else (Config.demosaic (Fin.ofNat 3 ch) (Fin.ofNat 3 (cfaColour cfa x y)) (around m x y)).toNat

/-- Stage 5: the colour matrix. -/
def matrixStage (c : ShadowSet) (m : Img (List Nat)) : Img (List Nat) := fun x y =>
  (m x y).map fun v => (List.range 3).map fun r =>
    let q := (List.range 3).foldl (fun a k => a + f32rat (c.ccm.getD (3 * r + k) 0) * (v.getD k 0 : Rat)) 0
    (openRound 5 (max 0 (min 4095 q))).toNat

/-- The luma for the sharpness statistics, 0 to 1023. -/
def luma (v : List Nat) : Nat := (77 * v.getD 0 0 + 150 * v.getD 1 0 + 29 * v.getD 2 0) / 1024

/-- Stage 6: gamma. -/
def gammaStage (c : ShadowSet) (m : Img (List Nat)) : Img (List Nat) := fun x y =>
  (m x y).map fun v => v.map fun (p : Nat) =>
    (roundHalfAway (255 * powQ ((p : Rat) / 4095) (1 / f32rat c.gamma))).toNat

/-- The part of column or line i that lies between a and b. -/
def overlap (a b : Rat) (i : Nat) : Rat := max 0 (min b ((i : Rat) + 1) - max a i)

/-- The columns or lines between a and b with their parts. -/
def parts (a b : Rat) : List (Nat × Rat) :=
  (List.range' ⌊a⌋.toNat (⌈b⌉ - ⌊a⌋).toNat).map fun i => (i, overlap a b i)

/-- Stage 7: the crop window area-averaged to w × h; none where an input sample is missing. -/
def scaleStage (c : ShadowSet) (w h : Nat) (m : Img (List Nat)) : Img (List Nat) := fun x y =>
  let (cx, cy, cw, ch) := c.crop
  if w ≤ x ∨ h ≤ y then none
  else
    let xs := parts ((cx : Rat) + (x * cw : Nat) / (w : Rat)) ((cx : Rat) + ((x + 1) * cw : Nat) / (w : Rat))
    let ys := parts ((cy : Rat) + (y * ch : Nat) / (h : Rat)) ((cy : Rat) + ((y + 1) * ch : Nat) / (h : Rat))
    let cells := ys.flatMap fun j => xs.map fun i => (m i.1 j.1).map fun v => (v, i.2 * j.2)
    if cells.all (·.isSome) then
      let cells := cells.filterMap id
      let area := (cells.map (·.2)).sum
      some ((List.range 3).map fun k =>
        (openRound 7 ((cells.map fun p => (p.1.getD k 0 : Rat) * p.2).sum / area)).toNat)
    else none

/-- Y of R373 and of format 02h. -/
def yOf (v : List Nat) : Nat := (77 * v.getD 0 0 + 150 * v.getD 1 0 + 29 * v.getD 2 0) / 256

/-- Y, Cb and Cr of a pixel by ITU-R BT.601 in full range (R362; the coefficients PRESUMED, log entry 84). -/
def ycc (v : List Nat) : Bytes :=
  let r : Rat := v.getD 0 0
  let g : Rat := v.getD 1 0
  let b : Rat := v.getD 2 0
  let y := (299 * r + 587 * g + 114 * b) / 1000
  [y, 128 + (b - y) * 500 / 886, 128 + (r - y) * 500 / 701].flatMap fun q =>
    u8 (openRound 10 (max 0 (min 255 q))).toNat

/-- The two bytes of a pixel of 4:2:2: its own Y, and a chroma value of its pair `a` and `b`, Cb or Cr. Their order and where
in the pair chroma is taken are open (log entry 27). -/
def yccPixel (own a b : List Nat) (cb : Bool) : Bytes :=
  let i := if cb then 1 else 2
  let y := (ycc own).take 1
  let c := [Config.chroma cb ((ycc a).getD i 0) ((ycc b).getD i 0)]
  if Config.lumaFirst then y ++ c else c ++ y

/-- The bytes of the pixels of a line, two by two in 4:2:2. -/
def lineBytes (fmt : Nat) : List (List Nat) → Bytes
  | [] => []
  | [a] => if fmt = 0 then a.flatMap u8 else if fmt = 1 then yccPixel a a a Config.cbFirst else u8 (yOf a)
  | a :: b :: t =>
    (if fmt = 0 then (a ++ b).flatMap u8
     else if fmt = 1 then yccPixel a a b Config.cbFirst ++ yccPixel b a b (!Config.cbFirst)
     else u8 (yOf a) ++ u8 (yOf b)) ++ lineBytes fmt t

/-! Statistics (R372, R373) -/

/-- The zone of a crop pixel. -/
def zoneOf (w h x y : Nat) : Nat := 8 * min 5 (y / (h / 6)) + min 7 (x / (w / 8))

/-- The sharpness terms of the crop window: zone, whether in the focus window, g. -/
def sharpTerms (c : ShadowSet) (l : Img Nat) : List (Nat × Bool × Nat) :=
  let (cx, cy, cw, ch) := c.crop
  let (fx, fy, fw, fh) := c.focus
  (List.range (ch - 2)).flatMap fun j => (List.range (cw - 2)).filterMap fun i =>
    let x := cx + i + 1
    let y := cy + j + 1
    match l (x + 1) y, l (x - 1) y, l x (y + 1), l x (y - 1) with
    | some a, some b, some d, some e =>
      let dx := max a b - min a b
      let dy := max d e - min d e
      some (zoneOf cw ch (i + 1) (j + 1), decide (fx ≤ x ∧ x < fx + fw ∧ fy ≤ y ∧ y < fy + fh), dx * dx + dy * dy)
    | _, _, _, _ => none

/-- A span of crop lines, widened by one at each side within the crop window, was received without errors. -/
def linesOk (f : OpenFrame) (first last : Nat) : Bool :=
  let cy := f.set.crop.2.1
  let ch := f.set.crop.2.2.2
  (List.range' (first - 1) (min (last + 1) (ch - 1) + 1 - (first - 1))).all fun j =>
    match f.lines[cy + j]? with
    | some l => !l.2
    | none => false

/-- Zone validity (R372). -/
def zoneValid (f : OpenFrame) (z : Nat) : Bool :=
  let ch := f.set.crop.2.2.2
  let r := z / 8
  linesOk f (r * (ch / 6)) (if r = 5 then ch - 1 else (r + 1) * (ch / 6) - 1)

/-- Focus window validity (R372). -/
def focusValid (f : OpenFrame) : Bool :=
  let y := f.set.focus.2.1 - f.set.crop.2.1
  linesOk f y (y + f.set.focus.2.2.2 - 1)

/-- Hue in whole degrees (R373; its rounding is open). -/
def hueOf (r g b : Nat) : Nat :=
  let v := max r (max g b)
  let d := v - min r (min g b)
  if d = 0 then 0
  else
    let q : Rat :=
      if v = r then 60 * ((g : Rat) - b) / d
      else if v = g then 120 + 60 * ((b : Rat) - r) / d
      else 240 + 60 * ((r : Rat) - g) / d
    (openRound 8 (if q < 0 then q + 360 else q)).toNat % 360

/-- A class entry's bounds hold for a pixel (R373). -/
def classHolds (e : Bytes) (v : List Nat) (t : Nat) : Bool :=
  let r := v.getD 0 0
  let g := v.getD 1 0
  let b := v.getD 2 0
  let hi := max r (max g b)
  let lo := min r (min g b)
  let sat : Nat := if hi = 0 then 0 else (openRound 9 (255 * ((hi : Rat) - lo) / hi)).toNat
  let h := hueOf r g b
  let h0 := field e 0 2
  let h1 := field e 2 2
  let in_ := fun (x off : Nat) => decide (field e off 1 ≤ x ∧ x ≤ field e (off + 1) 1)
  field e 10 1 == 1 &&
    (hi == lo || (if h0 ≤ h1 then decide (h0 ≤ h ∧ h ≤ h1) else decide (h0 ≤ h ∨ h ≤ h1))) &&
    in_ sat 4 && in_ hi 6 && in_ t 8

/-- The class of a pixel. -/
def classOf (table : Bytes) (v : List Nat) (t : Nat) : Nat :=
  ((List.range 7).find? fun c => classHolds ((table.drop (16 * c)).take 16) v t).getD 7

/-- The class histogram over the classifier window (R373). -/
def histogram (c : ShadowSet) (m : Img (List Nat)) : List Nat :=
  let (wx, wy, ww, wh) := c.cls
  let inside : Img (List Nat) := fun x y => if wx ≤ x ∧ x < wx + ww ∧ wy ≤ y ∧ y < wy + wh then m x y else none
  let classes := (List.range wh).flatMap fun j => (List.range ww).filterMap fun i =>
    (inside (wx + i) (wy + j)).map fun v =>
      let t := ([(-1, 0), (1, 0), (0, -1), (0, 1)] : List (Int × Int)).filterMap fun d =>
        (inside.off (wx + i) (wy + j) d).map fun u => max (yOf u) (yOf v) - min (yOf u) (yOf v)
      classOf c.table v (t.foldl max 0)
  (List.range 8).map fun k => classes.countP (· == k)

/-! Closing a frame (R361, R365, R374) -/

/-- The write in force in a frame: the latest one sent that far ahead (R371). -/
def inForce (l : List CamWrite) (j : Nat) : Option CamWrite := l.find? fun w => decide (w.from_ ≤ j)

/-- What a closed frame's lines give: the linear image's statistics, the flags and the output lines. -/
structure FrameOut where
  flags : Nat
  zones : List Nat
  zoneBits : Nat
  focusSum : Nat
  focusPixels : Nat
  focusOk : Bool
  hist : List Nat
  lines : List (Option Bytes)

/-- The frame's results, with the flags of its close (R361, R362, R372, R373). -/
def State.frameOut (s : State) (n : Nat) (f : OpenFrame) (how : Nat) : FrameOut :=
  let cfa := s.conf (Obj.STR_CFA n)
  let w := s.conf (Obj.STR_OUT_W n)
  let h := s.conf (Obj.STR_OUT_H n)
  let fmt := s.conf (Obj.STR_OUT_FMT n)
  let lin := matrixStage f.set (demosaicStage cfa (defectStage f.set cfa (blackStage f.set f.img)))
  let out := scaleStage f.set w h (gammaStage f.set lin)
  let terms := sharpTerms f.set (fun x y => (lin x y).map luma)
  let zoneBits := (List.range 48).foldl (fun a z => setBit a z (zoneValid f z)) 0
  let fok := focusValid f
  let short := decide (f.lines.length < s.conf (Obj.STR_IN_H n))
  let errs := f.lines.any (·.2)
  let foc := terms.filter fun t => t.2.1
  { flags := boolNat short + 2 * boolNat (decide (0 < f.dropped)) + how + 32 * boolNat errs +
      64 * boolNat (zoneBits != 2 ^ 48 - 1) + 128 * boolNat (short || errs) + 256 * boolNat f.nack +
      512 * boolNat (!fok)
    zones := (List.range 48).map fun z => ((terms.filter fun t => t.1 == z).map (·.2.2)).sum
    zoneBits := zoneBits
    focusSum := (foc.map (·.2.2)).sum
    focusPixels := foc.length
    focusOk := fok
    hist := histogram f.set out
    lines := (List.range h).map fun j =>
      let ps := (List.range w).map fun i => out i j
      if ps.all (·.isSome) then some (padTo (strideOf w fmt) (lineBytes fmt (ps.filterMap id))) else none }

/-- The frame record (Table 3). -/
def State.frameRecord (s : State) (n : Nat) (f : OpenFrame) (o : FrameOut) (t : Nat) : Bytes :=
  let b := u32 f.number ++ u8 n ++ u8 0 ++ u16 f.csi ++ u64 f.tick ++ u64 f.start ++ u64 t ++ u16 f.set.num ++
    u16 f.tag ++ u16 f.lines.length ++ u16 (f.lines.countP (·.2)) ++ u16 o.flags ++
    u16 (s.conf (Obj.STR_OUT_W n)) ++ u16 (s.conf (Obj.STR_OUT_H n)) ++ u8 (s.conf (Obj.STR_OUT_FMT n)) ++ u8 0 ++
    u32 (strideOf (s.conf (Obj.STR_OUT_W n)) (s.conf (Obj.STR_OUT_FMT n))) ++ u32 f.dropped ++ List.replicate 6 0
  b ++ u16 (crc16 b)

/-- The statistics record (Table 5). -/
def statRecord (n : Nat) (f : OpenFrame) (o : FrameOut) (seq : Nat) : Bytes :=
  let b := u8 n ++ u8 0 ++ u16 o.flags ++ u32 seq ++ u32 f.number ++ u16 f.set.num ++ u16 f.tag ++ u64 f.tick ++
    u64 o.zoneBits ++ o.zones.flatMap u64 ++ u64 o.focusSum ++ u32 o.focusPixels ++ o.hist.flatMap u32 ++
    u16 f.focusPos ++ List.replicate 48 0
  b ++ u16 (crc16 b)

/-- The sequence of the record after `n` others: from 0 at each enable, never FFFFFFFFh (R335, R374). -/
def statSeq (n : Nat) : Nat := n % 0xFFFFFFFF

/-- An open frame closes at an instant, with the flags of its close (R361). -/
def State.closeFrame (s : State) (n t how : Nat) : State :=
  let x := s.stream n
  match x.frame with
  | none => s
  | some f =>
    let o := s.frameOut n f how
    let rec_ := s.frameRecord n f o t
    let seq := statSeq x.seq
    let stat := statRecord n f o seq
    let old := x.bufs.getD f.buf {}
    let lines := o.lines.zipIdx.map fun l => l.1.getD (old.lines.getD l.2 [])
    let buf : FrameBuf := { number := f.number, record := rec_.drop 4, lines := lines }
    let slot : StatSlot := { seq := seq, body := stat.take 4 ++ stat.drop 8 }
    let good := !bit o.flags 7
    let foc : FocusRec := { sum := o.focusSum, pixels := o.focusPixels, valid := o.focusOk, pos := f.focusPos }
    let x := { x with
      frame := none
      bufs := mapAt x.bufs f.buf fun _ => buf
      done := f.buf :: x.done.filter (· ≠ f.buf)
      last := some f.number
      ring := Sparse.put (fun _ => ({} : StatSlot)) x.ring (seq % 64) slot
      seq := x.seq + 1
      hist := if good then ((f.tick, o.hist) :: x.hist).take 16 else x.hist
      focus := { x.focus with recs := foc :: x.focus.recs } }
    let s := ((s.setStream n x).setBlob (Obj.STR_LAST_RECORD n) rec_).setBlob (Obj.ST_LAST n) stat
    let s := s.count (Obj.STR_FRAMES n) 1
    let s := if bit o.flags 0 then s.count (Obj.STR_SHORT n) 1 else s
    if bit o.flags 1 then s.count (Obj.STR_LONG n) 1 else s

/-- The buffer that an accepted frame fills (R365). -/
def StreamSt.choose (x : StreamSt) : Nat :=
  let free := [0, 1, 2].filter fun b => !(x.done.head? == some b) && !(x.held == some b)
  match free.find? fun b => !x.done.contains b with
  | some b => b
  | none => ((x.done.reverse.find? fun b => free.contains b)).getD 0

/-! Shadow sets (R367–R369) -/

/-- A window block: x, y, width, height. -/
def winOf (b : Bytes) : Nat × Nat × Nat × Nat := (field b 0 2, field b 2 2, field b 4 2, field b 6 2)

/-- The shadow set as it stands, under a number. -/
def State.shadow (s : State) (n num : Nat) : ShadowSet :=
  { num := num
    black := (List.range 4).map fun i => s.get (Obj.SH_BLACK n i)
    defect := s.get (Obj.SH_DEFECT_TH n)
    ccm := (List.range 9).map fun i => field (s.getBlob (Obj.SH_CCM n)) (4 * i) 4
    gamma := s.get (Obj.SH_GAMMA n)
    crop := winOf (s.getBlob (Obj.SH_CROP n))
    focus := winOf (s.getBlob (Obj.SH_FOCUS_WIN n))
    cls := winOf (s.getBlob (Obj.SH_CLS_WIN n))
    table := s.getBlob (Obj.SH_CLS_TABLE n) }

/-- A window lies inside another. -/
def winIn (a b : Nat × Nat × Nat × Nat) : Bool :=
  decide (b.1 ≤ a.1 ∧ b.2.1 ≤ a.2.1 ∧ a.1 + a.2.2.1 ≤ b.1 + b.2.2.1 ∧ a.2.1 + a.2.2.2 ≤ b.2.1 + b.2.2.2)

/-- The scaling limits of R363. -/
def State.scaleOk (s : State) (n : Nat) (c : ShadowSet) : Bool :=
  let w := s.get (Obj.STR_OUT_W n)
  let h := s.get (Obj.STR_OUT_H n)
  decide (w ≤ c.crop.2.2.1 ∧ h ≤ c.crop.2.2.2 ∧ c.crop.2.2.1 ≤ 8 * w ∧ c.crop.2.2.2 ≤ 8 * h)

/-- The commit checks of R368. -/
def State.commitOk (s : State) (n : Nat) : Bool :=
  let c := s.shadow n 0
  winIn c.crop (0, 0, s.get (Obj.STR_IN_W n), s.get (Obj.STR_IN_H n)) && s.scaleOk n c && winIn c.focus c.crop &&
    winIn c.cls (0, 0, s.get (Obj.STR_OUT_W n), s.get (Obj.STR_OUT_H n))

/-- The shadow-set number after `n`: 1 to FFFFh (R367). -/
def nextSet (n : Nat) : Nat := if 0xFFFF ≤ n then 1 else n + 1

/-- A commit is served (R367). -/
def State.commit (s : State) (n : Nat) : State :=
  let x := s.stream n
  let num := nextSet x.setNum
  s.setStream n { x with setNum := num, served := some (s.shadow n num, s.k) }

/-! Enables -/

/-- The checks of a stream's enable (R363). -/
def State.streamOk (s : State) (n : Nat) : Bool :=
  let on := (List.range 8).filter fun m => m == n || s.flag (Obj.STR_ENABLE m)
  let rate := (on.map fun m =>
    (s.get (Obj.STR_IN_W m) * s.get (Obj.STR_IN_H m) : Nat) * f32rat (s.get (Obj.STR_FPS_MAX m))).sum
  s.flag (Obj.PORT_ENABLE (n / 4)) && s.commitOk n && decide (rate ≤ 600000000) &&
    decide ((on.map fun m => 3 * s.fbSize m).sum ≤ 384 * 2 ^ 20)

/-- Focus control begins (R376). -/
def State.focusBegin (s : State) (n : Nat) : State :=
  let x := s.stream n
  let s := s.setStream n { x with focus := { step := s.get (Obj.FOC_STEP_INIT n), send := true } }
  (s.set (Obj.FOC_STATE n) 1).set (Obj.FOC_POS n) (s.get (Obj.FOC_POS_INIT n))

/-- A stream's enable comes into force: the buffers and the ring marked, the numbers from 0, the initial exposure (R359, R365,
R371, R374). -/
def State.streamOn (s : State) (n : Nat) : State :=
  let x := s.stream n
  let x : StreamSt := {
    bufs := x.bufs.map fun b => { b with number := 0xFFFFFFFF }
    ring := x.ring.map fun p => (p.1, { p.2 with seq := 0xFFFFFFFF })
    setNum := x.setNum
    force := x.force
    served := x.served
    request := some (s.get (Obj.EXP_INIT_LINES n), s.get (Obj.EXP_INIT_GAIN n), 0)
    expTaken := x.expTaken
    holdTaken := x.holdTaken
    last := x.last
    focus := x.focus }
  let s := (s.setStream n x).set (Obj.STR_HOLD n) 0xFF
  let s := (s.set (Obj.STR_READY n) 0xFF).set (Obj.ST_HEAD n) 0xFFFFFFFF
  if s.flag (Obj.FOC_ENABLE n) then s.focusBegin n else s

/-- A stream's disable comes into force: the open frame closes with flag 4, the hold is released (R361, R366). -/
def State.streamOff (s : State) (n : Nat) : State :=
  let s := s.closeFrame n (s.k * 250000) 16
  let x := s.stream n
  let s := s.setStream n { x with held := none, asked := [], request := none, served := none, waiting := none }
  (s.set (Obj.STR_HOLD n) 0xFF).set (Obj.SH_PENDING n) 0

/-- A write of true to STR_ENABLE: the implicit commit, of the shadow set as it stands (R367); the rest comes with the next
tick (R75). A stream that is enabled goes on. -/
def State.strEnable (s : State) (n : Nat) : State :=
  if s.flag (Obj.STR_ENABLE n) then s else (s.commit n).set (Obj.STR_ENABLE n) 1

/-- A write of false to STR_ENABLE: no commit of this tick completes; the rest comes with the next tick (R75). -/
def State.strDisable (s : State) (n : Nat) : State :=
  (s.setStream n { s.stream n with served := none }).set (Obj.STR_ENABLE n) 0

/-- The frames open on a port close with flag 4 (R357, R361). -/
def State.closePort (s : State) (p t : Nat) : State :=
  (List.range 4).foldl (fun s c => s.closeFrame (4 * p + c) t 16) s

/-- The latest try of a port to train. -/
def State.setTried (s : State) (p : Nat) : State :=
  { s with img := { s.img with tried := Sparse.put (fun _ => 0) s.img.tried p s.k } }

/-- A port tries to train. -/
def State.portTries (s : State) (p : Nat) : State :=
  let t := s.setTried p
  { t with img := { t.img with trying := if t.img.trying.contains p then t.img.trying else t.img.trying ++ [p] } }

/-- A port tries no more: it is up, down until the next try, or off. -/
def State.portRests (s : State) (p : Nat) : State := { s with img := { s.img with trying := s.img.trying.filter (· ≠ p) } }

/-- A port's enable comes into force: it trains (R357). -/
def State.portOn (s : State) (p : Nat) : State := (s.set (Obj.PORT_STATE p) 1).portTries p

/-- A port's disable comes into force (R361). -/
def State.portOff (s : State) (p : Nat) : State :=
  ((s.closePort p (s.k * 250000)).set (Obj.PORT_STATE p) 0).portRests p

/-- At a boundary, the disables written in the tick that ends (R75, R361). -/
def State.imgLeave (s : State) : State :=
  let off := fun key => s.confFlag key && !s.flag key
  let s := [0, 1].foldl (fun s p => if off (Obj.PORT_ENABLE p) then s.portOff p else s) s
  (List.range 8).foldl (fun s n => if off (Obj.STR_ENABLE n) then s.streamOff n else s) s

/-- After it, the enables written in the tick that has ended, where `was` are the objects that were in force in it (R75). -/
def State.imgJoin (s : State) (was : Sparse Nat) : State :=
  let old := fun key => Sparse.find objDefault was key != 0
  let on := fun key => !old key && s.flag key
  let t := [0, 1].foldl (fun t p => if on (Obj.PORT_ENABLE p) then t.portOn p else t) s
  let t := (List.range 8).foldl (fun t n => if on (Obj.STR_ENABLE n) then t.streamOn n else t) t
  if (List.range 8).any (fun n => old (Obj.STR_ENABLE n) != s.flag (Obj.STR_ENABLE n)) ||
      [0, 1].any (fun p => old (Obj.PORT_ENABLE p) != s.flag (Obj.PORT_ENABLE p)) then t.streamStates else t

/-- D7 leaves the on state: both links are down, no frame or record is written (R358). Enabled ports train again when it is
back. -/
def State.imgDown (s : State) : State :=
  let s := (List.range 8).foldl (fun s n => s.setStream n { s.stream n with frame := none }) s
  ([0, 1].foldl (fun s p => if s.get (Obj.PORT_STATE p) = 0 then s else s.portOn p) s).streamStates

/-- Ports and streams at the first tick, as their enables permit; set number 1 of each enabled stream is in force (R379). -/
def State.imgStart (s : State) : State :=
  let s := [0, 1].foldl (fun s p => if s.flag (Obj.PORT_ENABLE p) then s.portOn p else s) s
  let s := (List.range 8).foldl (fun s n =>
    if s.flag (Obj.STR_ENABLE n) then
      let t := (s.streamOn n).set (Obj.SH_NUMBER n) 1
      t.setStream n { t.stream n with setNum := 1, force := some (t.shadow n 1) }
    else if s.flag (Obj.FOC_ENABLE n) then s.focusBegin n else s) s
  { s with snap := s.obj }.streamStates

/-- PORT_ENABLE (R357): the port trains from the next tick on (R75). -/
def execPortEnable (q : Req) (p : Fin 2) (s : State) : Host.Outcome State Fault Refusal :=
  .next (s.serveSet q (Obj.PORT_ENABLE p) 1 (fun _ => {}) fun s => s.set (Obj.PORT_ENABLE p) 1)

/-- PORT_TRAINED (R357): a port that tries to train reaches 02h; one whose link was lost, only once it has tried again. -/
def execPortTrained (p : Fin 2) (s : State) : Host.Outcome State Fault Refusal :=
  let st := s.get (Obj.PORT_STATE p)
  if s.running ∧ s.domOn 7 ∧ (st = 1 ∨ st = 3) ∧ s.img.trying.contains p.val then
    .next ((s.set (Obj.PORT_STATE p) 2).portRests p).streamStates
  else .next s

/-- LINK_DROP (R357). -/
def execLinkDrop (p : Fin 2) (ns : Nat) (s : State) : Host.Outcome State Fault Refusal :=
  if s.running ∧ s.get (Obj.PORT_STATE p) = 2 then
    let s := s.closePort p (s.k * 250000 + ns)
    .next ((((s.set (Obj.PORT_STATE p) 3).count (Obj.PORT_LOSSES p) 1).setTried p).portRests p).streamStates
  else .next s

/-- PORT_RETRY (R357): a port that is down tries to train every 4000 ticks; it stays in 03h until it has. -/
def execPortRetry (p : Fin 2) (s : State) : Host.Outcome State Fault Refusal :=
  if s.running ∧ s.get (Obj.PORT_STATE p) = 3 ∧ Sparse.find (fun _ => 0) s.img.tried p + 4000 ≤ s.k then
    .next (s.portTries p)
  else .next s

/-! Packets -/

/-- The commit that applies at a frame start (R367). While no set has ever been in force, the first one applies at the first
frame start, however early (DESIGN CHOICE, log entry 54). -/
def State.applyCommit (s : State) (n t : Nat) : State :=
  let x := s.stream n
  let first := if x.force.isNone then x.served else none
  match x.waiting.or first with
  | some (c, at_) =>
    if at_ + 2000 ≤ t ∨ x.force.isNone then
      ((s.setStream n { x with force := some c, waiting := none, served := if x.waiting.isSome then x.served else none }).set (Obj.SH_NUMBER n) c.num).set
        (Obj.SH_PENDING n) 0
    else s
  | none => s

/-- The writes of a frame start on the control channel (R371); no focus write in mode state 03h (R377). Of `acks`,
one for each write in order, a write without one is acknowledged. -/
def State.camWrites (s : State) (n : Nat) (acks : List Bool) : State :=
  let x := s.stream n
  let j := x.frames
  let (s, x, used) := match x.request with
    | none => (s, x, 0)
    | some (lines, gain, tag) =>
      let glen := s.conf (Obj.GAIN_REG_LEN n)
      let dev := s.conf (Obj.EXP_DEV n)
      let s := s.send (.i2c n dev (s.conf (Obj.EXP_REG n)) (beBytes (s.conf (Obj.EXP_REG_LEN n)) lines))
      let s := if 0 < glen then s.send (.i2c n dev (s.conf (Obj.GAIN_REG n)) (beBytes glen gain)) else s
      let used := if 0 < glen then 2 else 1
      let bad := ((acks.take used).filter fun a => !a).length
      let w : CamWrite := { from_ := j + s.conf (Obj.EXP_LATENCY n), val := tag, nack := decide (0 < bad) }
      (s.count (Obj.EXP_NACKS n) bad, { x with request := none, exps := (w :: x.exps).take 8 }, used)
  let (s, x) := if x.focus.send ∧ s.get (Obj.FOC_MODE_STATE n) ≠ 3 then
      let s := s.send (.i2c n (s.conf (Obj.FOC_DEV n)) (s.conf (Obj.FOC_REG n))
        (beBytes (s.conf (Obj.FOC_REG_LEN n)) (s.get (Obj.FOC_POS n))))
      let bad := !acks.getD used true
      let w : CamWrite := { from_ := j + s.conf (Obj.FOC_LATENCY n), val := s.get (Obj.FOC_POS n), nack := bad }
      (s.count (Obj.EXP_NACKS n) (boolNat bad),
        { x with focus := { x.focus with send := false }, focs := (w :: x.focs).take 8 })
    else (s, x)
  s.setStream n x

/-- A frame is accepted (R359, R365, R367, R371). -/
def State.openFrame (s : State) (n t csi : Nat) (acks : List Bool) : State :=
  let s := (s.applyCommit n t).camWrites n acks
  let x := s.stream n
  let j := x.frames
  let exp := inForce x.exps j
  let foc := inForce x.focs j
  let tag := (exp.map (·.val)).getD 0xFFFF
  let b := x.choose
  let f : OpenFrame := {
    number := j % 2 ^ 32, csi := csi, tick := s.k, start := t, buf := b
    set := x.force.getD (s.shadow n 0)
    tag := tag
    nack := (exp.map (·.nack)).getD false || (foc.map (·.nack)).getD false
    focusPos := (foc.map (·.val)).getD 0xFFFF }
  let x := { x with
    frames := j + 1, lastStart := some t, frame := some f, lineAt := s.k
    bufs := mapAt x.bufs b fun y => { y with number := 0xFFFFFFFF } }
  (s.setStream n x).set (Obj.EXP_TAG_NOW n) tag

/-- A packet with an uncorrectable header error is discarded, whatever it was, and counted (R356). -/
def State.badHeader (s : State) (p : Nat) : State :=
  if s.running ∧ s.domOn 7 ∧ s.get (Obj.PORT_STATE p) = 2 then s.count (Obj.PORT_ECC_ERR p) 1 else s

/-- FRAME_START (R356, R359, R361, R365, R367, R371): `ns` is the packet's instant after the tick boundary, `number` the
packet's frame number, none where its header has an uncorrectable error. -/
def execFrameStart (n : Fin 8) (ns : Nat) (number : Option Nat) (acks : List Bool) (s : State) :
    Host.Outcome State Fault Refusal :=
  match number with
  | none => .next (s.badHeader (n / 4))
  | some number =>
    if s.streamRuns n then
      let t := s.k * 250000 + ns
      let s := s.closeFrame n t 4
      let early := match (s.stream n).lastStart with
        | some p => decide (((t - p : Nat) : Rat) * s.confRat (Obj.STR_FPS_MAX n) < 900000000)
        | none => false
      .next (if early then s.count (Obj.STR_DROPPED n) 1 else s.openFrame n t number acks)
    else .next s

/-- A line taken into the open frame (R360). -/
def State.takeLine (s : State) (n : Nat) (l : CamLine) : State :=
  let x := s.stream n
  match x.frame with
  | none => s
  | some f =>
    let w := s.conf (Obj.STR_IN_W n)
    let f := if f.lines.length < s.conf (Obj.STR_IN_H n) then
        let px := (l.px ++ List.replicate (w - l.px.length) 0).take w
        { f with lines := f.lines ++ [(px.map fun p => p * 2 ^ dtShift l.dt, l.crc || l.px.length != w)] }
      else { f with dropped := f.dropped + 1 }
    s.setStream n { x with frame := some f, lineAt := s.k }

/-- LINE_PACKET (R356, R360): a packet on a port whose link is up. -/
def execLinePacket (n : Fin 8) (l : CamLine) (s : State) : Host.Outcome State Fault Refusal :=
  let p := n.val / 4
  if s.running ∧ s.domOn 7 ∧ s.get (Obj.PORT_STATE p) = 2 then
    if l.ecc then .next (s.badHeader p)
    else
      let s := if l.crc then s.count (Obj.PORT_CRC_ERR p) 1 else s
      if l.dt ≠ 0x2A ∧ l.dt ≠ 0x2B ∧ l.dt ≠ 0x2C ∨ l.dt ≠ s.conf (Obj.STR_DT n) then
        .next (s.count (Obj.PORT_OTHER p) 1)
      else if s.streamRuns n then .next (s.takeLine n l)
      else .next s
  else .next s

/-- FRAME_END (R356, R361). -/
def execFrameEnd (n : Fin 8) (ns : Option Nat) (s : State) : Host.Outcome State Fault Refusal :=
  match ns with
  | none => .next (s.badHeader (n / 4))
  | some ns => if s.streamRuns n then .next (s.closeFrame n (s.k * 250000 + ns) 0) else .next s

/-- FRAME_TIMEOUT (R361): STR_TIMEOUT ticks without a line. -/
def execFrameTimeout (n : Fin 8) (s : State) : Host.Outcome State Fault Refusal :=
  let x := s.stream n
  if s.streamRuns n ∧ x.frame.isSome ∧ x.lineAt + s.conf (Obj.STR_TIMEOUT n) ≤ s.k then
    .next (s.closeFrame n (s.k * 250000) 8)
  else .next s

/-- STR_ENABLE (R363). -/
def execStrEnable (q : Req) (n : Fin 8) (s : State) : Host.Outcome State Fault Refusal :=
  .next (s.serveSet q (Obj.STR_ENABLE n) 1 (fun s => { state := s.streamOk n })
    fun s => s.strEnable n)

/-- STR_DISABLE (R361, R366). -/
def execStrDisable (q : Req) (n : Fin 8) (s : State) : Host.Outcome State Fault Refusal :=
  .next (s.serveSet q (Obj.STR_ENABLE n) 0 (fun _ => {}) fun s => s.strDisable n)

/-- SH_COMMIT (R367, R368). -/
def execShCommit (q : Req) (n : Fin 8) (s : State) : Host.Outcome State Fault Refusal :=
  .next (s.serveSet q (Obj.SH_COMMIT n) 1
    (fun s => { range := s.commitOk n, held := s.flag (Obj.STR_ENABLE n) }) fun s => s.commit n)

/-- COMMIT_COMPLETE (R367, R369): at the start of the tick after the one in which the commit was served. -/
def execCommitComplete (n : Fin 8) (s : State) : Host.Outcome State Fault Refusal :=
  let x := s.stream n
  match x.served with
  | some (c, t) =>
    if s.running ∧ t < s.k then
      .next ((s.setStream n { x with served := none, waiting := some (c, (t + 1) * 250000) }).set
        (Obj.SH_PENDING n) c.num)
    else .next s
  | none => .next s

/-- A dictionary exposure request is written (R370). -/
def State.askExposure (s : State) (n : Nat) (b : Bytes) : State :=
  let x := s.stream n
  s.setStream n { x with asked := x.asked ++ [(field b 0 4, field b 4 2, field b 6 2)] }

/-- A request's tag is not FFFFh (R370). -/
def expOk (b : Bytes) : Bool := decide (field b 6 2 ≠ 0xFFFF)

/-- EXP_REQUEST (R370). -/
def execExpRequest (q : Req) (n : Fin 8) (block : Bytes) (s : State) : Host.Outcome State Fault Refusal :=
  .next (s.serveWrite q (Obj.EXP_REQUEST n) (tyOf (Obj.EXP_REQUEST n)) block (fun _ => { range := expOk block })
    fun s => s.askExposure n block)

/-! Focus (R376, R377) -/

/-- The unit number of a focus run. -/
def focusUnit (n : Nat) : Nat := 56 + n

/-- A position becomes the commanded one, and is sent when it is new. -/
def State.focusTo (s : State) (n : Nat) (p : Nat) : State :=
  if p = s.get (Obj.FOC_POS n) then s
  else
    let x := s.stream n
    (s.setStream n { x with focus := { x.focus with send := true } }).set (Obj.FOC_POS n) p

/-- The climb on one qualifying record (R376). -/
def State.climb (s : State) (n : Nat) (r : FocusRec) : State :=
  let m : Rat := (r.sum : Rat) / r.pixels
  let x := s.stream n
  let f := x.focus
  let pos := s.get (Obj.FOC_POS n)
  let lo := s.conf (Obj.FOC_MIN n)
  let hi := s.conf (Obj.FOC_MAX n)
  let s := s.set (Obj.FOC_MEASURE n) (ratF32 m)
  if s.get (Obj.FOC_STATE n) = 1 then
    let (f, pos) :=
      if f.best < m then ({ f with best := m, bestPos := pos }, pos)
      else if m < f.best * (1 - s.confRat (Obj.FOC_HYST n)) then
        ({ f with up := !f.up, step := f.step / 2 }, f.bestPos)
      else (f, pos)
    if f.step < s.conf (Obj.FOC_STEP_MIN n) then
      let s := s.setStream n { x with focus := { f with lock := f.best } }
      (s.set (Obj.FOC_STATE n) 2).focusTo n f.bestPos
    else
      let p : Int := if f.up then (pos : Int) + f.step else (pos : Int) - f.step
      let edge : Bool := decide (p ≤ lo ∨ (hi : Int) ≤ p)
      let q := (max (lo : Int) (min (hi : Int) p)).toNat
      (s.setStream n { x with focus := { f with up := if edge then !f.up else f.up } }).focusTo n q
  else if s.get (Obj.FOC_STATE n) = 2 ∧ m < f.lock * s.confRat (Obj.FOC_RESTART n) then
    (s.setStream n { x with focus := { f with step := s.conf (Obj.FOC_STEP_INIT n), best := m, bestPos := pos } }).set
      (Obj.FOC_STATE n) 1
  else s

/-- The climb goes on while its position is not applied: its state is current, the commanded position stays (R35). -/
def State.climbUnapplied (s : State) (n : Nat) (r : FocusRec) : State :=
  let t := s.climb n r
  let x := t.stream n
  (t.setStream n { x with focus := { x.focus with send := (s.stream n).focus.send } }).set (Obj.FOC_POS n)
    (s.get (Obj.FOC_POS n))

/-- One run of focus control. -/
def State.focusStep (s : State) (n : Nat) : State :=
  let key := Obj.FOC_MODE n
  let s := s.modeEnter key
  let hit := s.hit (Obj.FOC_ASSIST_OFFSET n)
  let kind := s.runKind key hit
  let s := s.modeCount key kind
  let x := s.stream n
  let r := x.focus.recs.find? fun r => r.valid && decide (0 < r.pixels) && r.pos == s.get (Obj.FOC_POS n)
  let s := s.setStream n { x with focus := { x.focus with recs := [] } }
  let held := match r with | some r => s.climbUnapplied n r | none => s
  match kind with
  | .hardware => (match r with | some r => s.climb n r | none => s)
  | .assisted =>
    let s : State := held
    let p := (s.area (Obj.FOC_ASSIST_OFFSET n)).at_ 12 2
    s.focusTo n (max (s.conf (Obj.FOC_MIN n)) (min (s.conf (Obj.FOC_MAX n)) p))
  | .miss => held
  | .faulted => held

/-- FOCUS_RUN (R376): at T40/FOC_PHASE, once. -/
def execFocusRun (n : Fin 8) (s : State) : Host.Outcome State Fault Refusal :=
  if s.running ∧ s.domOn 7 ∧ s.confFlag (Obj.FOC_ENABLE n) ∧ s.k % 40 = s.conf (Obj.FOC_PHASE n) ∧
      !s.tick.ran.contains (focusUnit n) then
    .next ((s.focusStep n).ranUnit (focusUnit n))
  else .next s

/-! The capture phase (R366, R370, R375) -/

/-- The application's hold and exposure entries of a stream that is off are taken without effect (DEDUCED, log
entry 81). -/
def State.takeUnused (s : State) (n : Nat) : State :=
  let x := s.stream n
  let hold := s.area0 (Obj.STR_HOLD_OFFSET n)
  let exp := s.area0 (Obj.EXP_APP_OFFSET n)
  let x' := { x with
    holdTaken := if hold.valid then some hold.stamp else x.holdTaken
    expTaken := if exp.valid then some exp.stamp else x.expTaken }
  if x' = x then s else s.setStream n x'

/-- The hold entry of a stream is taken (R366). -/
def State.takeHold (s : State) (n : Nat) : State :=
  let a := s.area0 (Obj.STR_HOLD_OFFSET n)
  let x := s.stream n
  if !a.valid || x.holdTaken == some a.stamp then s
  else
    let x := { x with holdTaken := some a.stamp }
    let b := a.at_ 9 1
    if b = 0xFF then (s.setStream n { x with held := none }).set (Obj.STR_HOLD n) 0xFF
    else if b < 3 ∧ a.at_ 12 4 ≠ 0xFFFFFFFF ∧ (x.bufs.getD b {}).number = a.at_ 12 4 then
      (s.setStream n { x with held := some b }).set (Obj.STR_HOLD n) b
    else (s.setStream n x).count (Obj.STR_HOLD_FAILS n) 1

/-- A request taken, which replaces one that has not gone out (R370). -/
def State.pendRequest (s : State) (n : Nat) (r : Nat × Nat × Nat) : State :=
  let s := if (s.stream n).request.isSome then s.count (Obj.EXP_REPLACED n) 1 else s
  s.setStream n { s.stream n with request := some r }

/-- The exposure requests of a stream are taken, the dictionary's in the order in which they were written (R370). -/
def State.takeExposure (s : State) (n : Nat) : State :=
  let a := s.area0 (Obj.EXP_APP_OFFSET n)
  let x := s.stream n
  let fresh := a.valid && !(x.expTaken == some a.stamp)
  let fromApp := if fresh && decide (a.at_ 18 2 ≠ 0xFFFF) then [(a.at_ 12 4, a.at_ 16 2, a.at_ 18 2)] else []
  let reqs := if x.asked.isEmpty then fromApp else x.asked
  let s := s.setStream n { x with asked := [], expTaken := if fresh then some a.stamp else x.expTaken }
  reqs.foldl (fun s r => s.pendRequest n r) s

/-- The classifier's estimates, where the sample is large enough, and whether it is recent enough too (R375). -/
def State.estimates (s : State) (n : Nat) : Option (Nat × Nat × Bool) :=
  let l := (s.stream n).hist.take (s.conf (Obj.CLS_FRAMES n))
  let over_ := fun mask => (l.map fun f => ((List.range 8).map fun c =>
    if bit (s.conf mask) c then f.2.getD c 0 else 0).sum).sum
  let ns := over_ (Obj.CLS_SAMPLE_MASK n)
  let share := fun gain mask => ratF32 (max 0 (min 100 (s.confRat gain * 100 * (over_ mask : Rat) / ns)))
  match l with
  | [] => none
  | f :: _ =>
    if 0 < ns ∧ s.conf (Obj.CLS_MIN_PIXELS n) ≤ ns then
      some (share (Obj.CLS_BROKEN_GAIN n) (Obj.CLS_BROKEN_MASK n), share (Obj.CLS_FOREIGN_GAIN n) (Obj.CLS_FOREIGN_MASK n),
        decide (s.k ≤ f.1 + s.conf (Obj.CLS_MAX_AGE n)))
    else none

/-- The entries of a stream in the capture phase (R375). -/
def State.streamCapture (s : State) (n : Nat) : State :=
  let s := if s.confFlag (Obj.STR_ENABLE n) && s.domOn 7 then (s.takeHold n).takeExposure n else s.takeUnused n
  if s.streamRuns n then
    let x := s.stream n
    let s := s.capture (Obj.STR_LAST_FRAME n) (x.last.getD (s.get (Obj.STR_LAST_FRAME n))) true
    let s := s.capture (Obj.STR_READY n) (x.done.head?.getD 0xFF) true
    let s := s.capture (Obj.ST_HEAD n) (if x.seq = 0 then 0xFFFFFFFF else statSeq (x.seq - 1)) true
    match s.estimates n with
    | some (b, f, ok) => (s.capture (Obj.CLS_BROKEN n) b ok).capture (Obj.CLS_FOREIGN n) f ok
    | none => (s.capture (Obj.CLS_BROKEN n) (s.get (Obj.CLS_BROKEN n)) false).capture (Obj.CLS_FOREIGN n)
        (s.get (Obj.CLS_FOREIGN n)) false
  else
    let s := if (s.entry (Obj.STR_LAST_FRAME n)).valid then s.clearInput (Obj.STR_LAST_FRAME n) else s
    if (s.entry (Obj.CLS_BROKEN n)).valid then s.clearInput (Obj.CLS_BROKEN n) else s

/-- The capture phase's share of the chapter. -/
def State.imgCapture (s : State) : State := (List.range 8).foldl State.streamCapture s

/-! Writes -/

/-- The stream of an object of index 6810h–6857h. -/
def streamOf (key : Nat) : Nat := key / 256 % 8

/-- The nine numbers of a colour matrix lie from −8 to 8 (Table 9). -/
def ccmOk (b : Bytes) : Bool :=
  (List.range 9).all fun i =>
    f32finite (field b (4 * i) 4) && decide (-8 ≤ f32rat (field b (4 * i) 4) ∧ f32rat (field b (4 * i) 4) ≤ 8)

/-- The entries of a class table keep their reserved bytes at 0 and their enables at 00h or 01h (R8, Table 4). -/
def clsTableOk (b : Bytes) : Bool :=
  (List.range 7).all fun c => decide (field b (16 * c + 10) 1 ≤ 1) && decide (field b (16 * c + 11) 5 = 0)

/-- A write to an object of the chapter that depends on others (R356, R363, R368, R370, Tables 1, 6, 8, 10). -/
def State.imgExtra (s : State) (key v : Nat) (b : Bytes) : Extra :=
  let ix := key / 256
  let sub := key % 256
  let n := streamOf key
  let off := !s.flag (Obj.STR_ENABLE n)
  if ix < 0x6802 then { state := sub != 2 || !s.flag (Obj.PORT_ENABLE (ix - 0x6800)) }
  else if 0x6820 ≤ ix ∧ ix < 0x6828 then
    if sub = 1 then { state := v == 0 || s.streamOk n }
    else if 2 ≤ sub ∧ sub ≤ 9 then { state := off } else {}
  else if 0x6830 ≤ ix ∧ ix < 0x6838 then
    if sub = 6 then { range := ccmOk b }
    else if sub = 0xB then { range := clsTableOk b }
    else if sub = 0xC then { range := s.commitOk n, held := !off } else {}
  else if 0x6840 ≤ ix ∧ ix < 0x6848 then
    if sub = 6 then { state := off } else if sub = 9 then { range := expOk b } else {}
  else {}

/-- The effect of a write to an object of the chapter that does more than hold its value. -/
def State.imgWrite (s : State) (key v : Nat) (b : Bytes) : Option State :=
  let ix := key / 256
  let sub := key % 256
  let n := streamOf key
  if 0x6820 ≤ ix ∧ ix < 0x6828 ∧ sub = 1 then
    some (if v = 0 then s.strDisable n else s.strEnable n)
  else if 0x6830 ≤ ix ∧ ix < 0x6838 ∧ sub = 0xC then some (s.commit n)
  else if 0x6840 ≤ ix ∧ ix < 0x6848 ∧ sub = 9 then some (s.askExposure n b)
  else if 0x6810 ≤ ix ∧ ix < 0x6818 ∧ sub = 4 then
    some (if v = 0 then (s.set key 0).set (Obj.FOC_STATE n) 0
      else if s.flag key then s else (s.set key 1).focusBegin n)
  else none

end Sys2Proof.Machine
end

