-- ==== Sys2Proof/Machine/Can.lean ====
section
/-! DEFINITION. The CAN controllers: bit timing, receive rings, transmit buffers, the module queue and the error
states (R381–R408). -/

namespace Sys2Proof.Machine

/-- A controller. -/
def State.can (s : State) (c : Nat) : CanSt := Sparse.find (fun _ => ({} : CanSt)) s.net.can c

/-- A controller changed. -/
def State.setCan (s : State) (c : Nat) (x : CanSt) : State :=
  { s with net := { s.net with can := Sparse.put (fun _ => ({} : CanSt)) s.net.can c x } }

/-- A controller's domain: D9 for CAN0 to CAN3, D10 for the others (R382). -/
def canDom (c : Nat) : Nat := if c < 4 then 9 else 10

/-- The controller is on the bus. -/
def State.onBus (s : State) (c : Nat) : Bool := s.running && s.domOn (canDom c) && (s.can c).join == 3

/-- Bus-off, awaiting recovery or recovering (R405, R407). -/
def CanSt.isOff (x : CanSt) : Bool := decide (2 ≤ x.err)

/-- The termination is connected (R384). -/
def State.terminated (s : State) (c : Nat) : Bool := s.running && s.domOn (canDom c) && s.confFlag (Obj.CAN_TERM c)

/-! Bit timing (R385, R386) -/

/-- The nominal rate, bit/s. -/
def State.nominalRate (s : State) (c : Nat) : Rat :=
  80000000 / (s.get (Obj.CAN_NBRP c) * (1 + s.get (Obj.CAN_NTSEG1 c) + s.get (Obj.CAN_NTSEG2 c)) : Nat)

/-- The data rate, bit/s. -/
def State.dataRate (s : State) (c : Nat) : Rat :=
  80000000 / (s.get (Obj.CAN_DBRP c) * (1 + s.get (Obj.CAN_DTSEG1 c) + s.get (Obj.CAN_DTSEG2 c)) : Nat)

/-- The code of the first check of Table 2 that fails, 0 when none does. -/
def State.canCfg (s : State) (c : Nat) : Nat :=
  let n := s.nominalRate c
  let d := s.dataRate c
  let tdc := s.flag (Obj.CAN_TDC c)
  if ¬ (125000 ≤ n ∧ n ≤ 1000000) then 1
  else if s.flag (Obj.CAN_FD c) ∧ ¬ (n ≤ d ∧ d ≤ 5000000) then 2
  else if ¬ (s.get (Obj.CAN_NSJW c) ≤ s.get (Obj.CAN_NTSEG2 c) ∧ s.get (Obj.CAN_DSJW c) ≤ s.get (Obj.CAN_DTSEG2 c)) then 3
  else if (1000000 < d ∧ !tdc) ∨ (tdc ∧ 2 < s.get (Obj.CAN_DBRP c)) then 4
  else if s.flag (Obj.CAN_TRIPLE c) ∧ ¬ (n ≤ 250000 ∧ 3 ≤ s.get (Obj.CAN_NTSEG1 c)) then 5
  else 0

/-- CAN_NOMINAL_RATE and CAN_DATA_RATE, in whole bit/s. -/
def State.canRates (s : State) (c : Nat) : State :=
  (s.set (Obj.CAN_NOMINAL_RATE c) ⌊s.nominalRate c⌋.toNat).set (Obj.CAN_DATA_RATE c) ⌊s.dataRate c⌋.toNat

/-! Frames -/

/-- Byte 10 of a ring entry (Table 3); `own` is bit 5. -/
def frameFlags (f : CanFrame) (own : Bool) : Nat :=
  boolNat f.ext + 2 * boolNat f.fd + 4 * boolNat f.brs + 8 * boolNat f.esi + 16 * boolNat f.remote + 32 * boolNat own

/-- A number that orders frames as arbitration does: the lower wins (R400). -/
def frameRank (f : CanFrame) : Nat :=
  if f.ext then f.ident / 2 ^ 18 * 2 ^ 21 + 3 * 2 ^ 19 + f.ident % 2 ^ 18 * 2 + boolNat f.remote
  else f.ident * 2 ^ 21 + boolNat f.remote * 2 ^ 20

/-- The CAN FD data lengths. -/
def canLengths : List Nat := [0, 1, 2, 3, 4, 5, 6, 7, 8, 12, 16, 20, 24, 32, 48, 64]

/-- The smallest CAN FD length that holds so many bytes. -/
def canLength (n : Nat) : Nat := (canLengths.find? fun l => decide (n ≤ l)).getD 64

/-! Receive rings (R389–R396) -/

/-- The reader entry in force asks for a sequence that leaves its slot (R395). -/
def State.overruns (s : State) (c left : Nat) : Bool :=
  let a := s.area0 (Obj.CAN_READER_OFFSET c)
  a.valid && decide (left ≠ 0xFFFFFFFF ∧ (left + 2 ^ 32 - a.at_ 12 4 % 2 ^ 32) % 2 ^ 32 < 2 ^ 31)

/-- The time of a frame's start in whole steps of 12.5 ns, rounded down to a whole ns (Table 3; DESIGN CHOICE, log entry
64). -/
def sofStamp (ns : Nat) : Nat := 2 * ns / 25 * 25 / 2

/-- What a slot holds before a write: bytes of DRAM that nothing has written are free (log entry 3). -/
def State.rxOld (s : State) (c i : Nat) : RxSlot × State :=
  let y := Sparse.find (fun _ => ({} : RxSlot)) (s.can c).ring i
  if y = {} then
    let (b, s) := s.drawBytes 10
    ({ seq := 0xFFFFFFFF, body := b.drop 4 }, s)
  else (y, s)

/-- A frame goes into the ring with the time of its start (R389–R391, Table 3). -/
def State.ringWrite (s : State) (c : Nat) (f : CanFrame) (sof : Nat) (own : Bool) : State :=
  let x := s.can c
  let i := x.next % 2048
  let (old, s) := s.rxOld c i
  let s := if s.overruns c old.seq then s.count (Obj.CAN_RX_OVERRUN c) 1 else s
  let body := leBytes 6 (sofStamp sof % 2 ^ 48) ++ u8 (frameFlags f own) ++ u8 f.data.length ++ u32 f.ident ++
    f.data ++ old.body.drop (12 + f.data.length)
  s.setCan c { x with
    ring := Sparse.put (fun _ => ({} : RxSlot)) x.ring i { seq := x.next, body := body }
    newest := x.next
    next := (x.next + 1) % 0xFFFFFFFF }

/-- The frames that wait for DRAM are written, in order. -/
def State.drain (s : State) (c : Nat) : State :=
  let x := s.can c
  x.wait.foldl (fun s p => s.ringWrite c p.1 p.2.1 p.2.2) (s.setCan c { x with wait := [] })

/-- A valid frame: written, or held while DRAM does not serve, or lost as the seventeenth (R389, R394). -/
def State.receive (s : State) (c : Nat) (f : CanFrame) (sof : Nat) (own dram : Bool) : State :=
  if dram then (s.drain c).ringWrite c f sof own
  else
    let x := s.can c
    if x.wait.length < 16 then s.setCan c { x with wait := x.wait ++ [(f, sof, own)] }
    else s.count (Obj.CAN_RX_LOST c) 1

/-- RING_RESTART (R391). -/
def State.ringRestart (s : State) (c : Nat) : State :=
  let x := s.can c
  s.setCan c { x with
    ring := x.ring.map fun p => (p.1, { p.2 with seq := 0xFFFFFFFF })
    next := 0, newest := 0xFFFFFFFF, wait := []
    epoch := satAdd 32 x.epoch 1 }

/-- The 80 bytes of the slot that holds a sequence, none when it holds another (CAN_RX_ENTRY). -/
def State.rxEntry (s : State) (c seq : Nat) : Option Bytes :=
  let y := Sparse.find (fun _ => ({} : RxSlot)) (s.can c).ring (seq % 2048)
  if y.seq = seq ∧ seq ≠ 0xFFFFFFFF then some (u32 y.seq ++ y.body) else none

/-! Send slots (R413) -/

/-- The ISO 11783 state changed. -/
def State.setIso (s : State) (f : IsoSt → IsoSt) : State := { s with net := { s.net with iso := f s.net.iso } }

/-- The result of a send slot; that of DM1's session is none of the objects. -/
def State.isoResult (s : State) (n v : Nat) : State :=
  if n < 8 then s.setIso fun i => { i with results := Sparse.put (fun _ => 0) i.results n v } else s

/-- The frame that ends a send slot has gone, or will not go: 02h or, as no peer hears it, 04h (DESIGN CHOICE, log entry
100). -/
def State.slotFrame (s : State) (slot : Option Nat) (sent : Bool) : State :=
  match slot with
  | some n => s.isoResult n (if sent then 2 else 4)
  | none => s

/-! The module queue (R404) -/

/-- Buffer b is module-owned. -/
def State.moduleOwned (s : State) (c b : Nat) : Bool := bit (s.get (Obj.CAN_TB_OWNER c)) b

/-- A frame in its place in a queue: by identifier, after those of the same one. -/
def queueInsert (l : List ModFrame) (f : ModFrame) : List ModFrame :=
  l.takeWhile (fun g => decide (frameRank g.frame ≤ frameRank f.frame)) ++ f :: l.dropWhile fun g => decide (frameRank g.frame ≤ frameRank f.frame)

/-- Empty module-owned buffers take frames from the head of the queue; waiting sequence frames follow while there
is room. -/
def State.feed (s : State) (c : Nat) : State :=
  let x := s.can c
  let x := [0, 1, 2].foldl (fun x b =>
    let t := x.bufs.getD b {}
    match x.queue with
    | f :: rest =>
      if s.moduleOwned c b && t.st == 0 then
        { x with queue := rest, bufs := mapAt x.bufs b fun t =>
          { t with st := 1, frame := some f.frame, single := false, stamp := 0, cancel := none, slot := f.slot } }
      else x
    | [] => x) x
  let room := 32 - x.queue.length
  s.setCan c { x with
    queue := (x.later.take room).foldl queueInsert x.queue
    later := x.later.drop room }

/-- The controller cannot carry the frame (R404). -/
def State.cannotCarry (s : State) (c : Nat) (f : CanFrame) : Bool :=
  (f.fd && !s.flag (Obj.CAN_FD c)) || s.get (Obj.CAN_TB_OWNER c) == 0 || (s.can c).join == 0

/-- MODULE_FRAME_ENQUEUE: a state frame (R404). -/
def State.stateFrame (s : State) (c : Nat) (f : CanFrame) : State :=
  if s.cannotCarry c f then s.count (Obj.CAN_MODULE_DROPS c) 1
  else
    let x := s.can c
    let same := fun g : ModFrame => g.state && g.frame.ident == f.ident && g.frame.ext == f.ext
    if x.queue.any same then
      s.setCan c { x with queue := x.queue.map fun g => if same g then { g with frame := f } else g }
    else if x.queue.length < 32 then
      (s.setCan c { x with queue := queueInsert x.queue { frame := f, state := true } }).feed c
    else s.count (Obj.CAN_MODULE_DROPS c) 1

/-- MODULE_FRAME_ENQUEUE: a sequence frame, which waits with its sender while the queue is full (R404). -/
def State.seqFrame (s : State) (c : Nat) (f : CanFrame) (slot : Option Nat := none) : State :=
  if s.cannotCarry c f then (s.count (Obj.CAN_MODULE_DROPS c) 1).slotFrame slot false
  else
    let x := s.can c
    let m : ModFrame := { frame := f, state := false, slot := slot }
    if x.queue.length < 32 ∧ x.later = [] then (s.setCan c { x with queue := queueInsert x.queue m }).feed c
    else s.setCan c { x with later := x.later ++ [m] }

/-! Transmit buffers (R397–R403) -/

/-- A buffer changed. -/
def State.setBuf (s : State) (c b : Nat) (f : TxBuf → TxBuf) : State :=
  let x := s.can c
  s.setCan c { x with bufs := mapAt x.bufs b f }

/-- A buffer. -/
def State.buf (s : State) (c b : Nat) : TxBuf := (s.can c).bufs.getD b {}

/-- A buffer's frame has ended with a result that belongs to a stamp, 01h and 03h where it was sent; module-owned buffers
are filled again. -/
def State.endBuf (s : State) (c b result stamp : Nat) : State :=
  ((s.slotFrame (s.buf c b).slot (result == 1 || result == 3)).setBuf c b fun t => { t with
    st := 0, frame := none, cancel := none, slot := none, result := result, resStamp := stamp }).feed c

/-- The transmit entry in force of a buffer; none when it was taken before (R398). The three entries of
CAN_TX_APP_OFFSET are the areas of that key and of the two that follow. -/
def State.txEntry (s : State) (c b : Nat) : Option AppArea :=
  let a := s.area0 (Obj.CAN_TX_APP_OFFSET c + b)
  if a.valid && !((s.buf c b).seen == some a.stamp) then some a else none

/-- The frame that a transmit entry spells (Tables 3 and 4). -/
def AppArea.frame (a : AppArea) : CanFrame :=
  let f := a.at_ 10 1
  { ext := bit f 0, fd := bit f 1, brs := bit f 2, esi := bit f 3, remote := bit f 4, ident := a.at_ 12 4
    data := (a.body.drop 7).take (a.at_ 11 1) }

/-- An entry's frame is valid on a controller (R399, code 05h). -/
def State.frameOk (s : State) (c : Nat) (a : AppArea) : Bool :=
  let f := a.frame
  let len := a.at_ 11 1
  canLengths.contains len && (f.fd || decide (len ≤ 8)) && (!f.brs || f.fd) && !(f.remote && f.fd) &&
    (!f.fd || s.flag (Obj.CAN_FD c)) && (if f.ext then decide (f.ident < 2 ^ 29) else decide (f.ident ≤ 0x7FF)) &&
    decide (a.at_ 10 1 < 64)

/-- TX_LOAD (R399): an entry with a new stamp and a command other than 02h. -/
def execTxLoad (c : Fin 8) (b : Fin 3) (s : State) : Host.Outcome State Fault Refusal :=
  match s.txEntry c b with
  | some a =>
    if s.running ∧ 2 ≤ (s.can c).join ∧ a.at_ 9 1 ≠ 2 then
      let t := s.buf c b
      let s := s.setBuf c b fun t => { t with seen := some a.stamp }
      let refuse := fun code => s.setBuf c b fun t => { t with result := code, resStamp := a.stamp }
      if a.at_ 9 1 = 1 ∧ t.st ≠ 0 then .next (refuse 4)
      else if a.at_ 9 1 ≠ 1 ∨ !s.frameOk c a then .next (refuse 5)
      else if s.moduleOwned c b then .next (refuse 8)
      else if s.standby then .next (refuse 9)
      else
        .next (s.setBuf c b fun t => { t with
          st := 1, frame := some a.frame, single := bit (a.at_ 10 1) 5, stamp := a.stamp, cancel := none })
    else .next s
  | none => .next s

/-- TX_CANCEL (R402): a buffer that waits is cancelled; a frame on the bus ends as its attempt ends. -/
def execTxCancel (c : Fin 8) (b : Fin 3) (s : State) : Host.Outcome State Fault Refusal :=
  match s.txEntry c b with
  | some a =>
    if s.running ∧ 2 ≤ (s.can c).join ∧ a.at_ 9 1 = 2 then
      let t := s.buf c b
      let s := s.setBuf c b fun t => { t with seen := some a.stamp }
      if t.st = 0 then .next (s.setBuf c b fun t => { t with result := 0xA, resStamp := a.stamp })
      else if t.st = 1 then .next (s.endBuf c b 2 a.stamp)
      else .next (s.setBuf c b fun t => { t with cancel := some a.stamp })
    else .next s
  | none => .next s

/-- The buffer whose frame is on the bus. -/
def CanSt.sending (x : CanSt) : Option Nat := [0, 1, 2].find? fun b => (x.bufs.getD b {}).st == 2

/-- The buffer that competes (R400). -/
def State.chosen (s : State) (c : Nat) : Option Nat :=
  let x := s.can c
  let ready := [0, 1, 2].filter fun b => (x.bufs.getD b {}).st == 1
  if s.conf (Obj.CAN_TX_ORDER c) = 1 then ready.head?
  else
    let rank := fun b => (((x.bufs.getD b {}).frame.map frameRank)).getD 0
    ready.foldl (fun m b => match m with
      | none => some b
      | some a => if rank b < rank a then some b else some a) none

/-- ARBITRATION (R400). -/
def execArbitration (c : Fin 8) (s : State) : Host.Outcome State Fault Refusal :=
  let x := s.can c
  if s.onBus c ∧ !x.isOff ∧ !x.leave ∧ x.sending = none then
    match s.chosen c with
    | some b => .next (s.setBuf c b fun t => { t with st := 2 })
    | none => .next s
  else .next s

/-- The error state after the counters changed: error-passive above 127 (R405, ISO 11898-1). -/
def CanSt.settle (x : CanSt) : CanSt :=
  if x.isOff then x else { x with err := if 127 < x.tec ∨ 127 < x.rec_ then 1 else 0 }

/-- The controller leaves the bus: every pending buffer ends with 07h (R382). The four objects of a buffer show that end,
with no later capture (R403). -/
def State.leaveBus (s : State) (c : Nat) : State :=
  let x := s.can c
  let s := s.setCan c { x with
    join := 0, leave := false, queue := [], later := []
    bufs := x.bufs.map fun t => if t.st = 0 then t else
      { t with st := 0, frame := none, cancel := none, slot := none, result := 7, resStamp := t.stamp } }
  [0, 1, 2].foldl (fun s b =>
    let t := s.buf c b
    s.setAll [(Obj.CAN_TB_STATE c b, t.st), (Obj.CAN_TB_RESULT c b, t.result), (Obj.CAN_TB_STAMP c b, t.resStamp),
      (Obj.CAN_TB_SOF c b, t.sof)]) s

/-- A controller that was to leave does so when nothing of its is on the bus. -/
def State.leaveIfDue (s : State) (c : Nat) : State :=
  let x := s.can c
  if x.leave && x.sending == none then s.leaveBus c else s

/-- The loop delay measured at the FDF-to-res edge of a frame (R388), as the 8 bits of CAN_TDC_MEAS hold it. -/
def State.tdcMeasured (s : State) (c : Nat) (f : CanFrame) (delay : Nat) : State :=
  if f.fd && f.brs && s.flag (Obj.CAN_TDC c) then s.set (Obj.CAN_TDC_MEAS c) delay else s

/-- A frame as the controller sends it: its error state indicator is recessive while the node is error-passive (R381; ISO
11898-1, log entry 28), and a classical frame has none. -/
def CanSt.onWire (x : CanSt) (f : CanFrame) : CanFrame := { f with esi := f.fd && (f.esi || x.err == 1) }

/-- TX_ATTEMPT_FAIL (R388, R401, R402): arbitration lost, or an error with its CAN_LEC code, which adds 8 to the transmit
counter unless ISO 11898-1 excepts it; after the FDF-to-res edge the attempt has a measured delay. -/
def execTxAttemptFail (c : Fin 8) (err : Option (Nat × Bool × Option (Fin 256))) (s : State) :
    Host.Outcome State Fault Refusal :=
  let x := s.can c
  match x.sending with
  | some b =>
    if s.onBus c then
      let x := match err with
        | some (lec, exempt, _) => CanSt.settle { x with lec := lec, tec := if exempt then x.tec else min 256 (x.tec + 8) }
        | none => x
      let s := s.setCan c x
      let t := s.buf c b
      let s := match err, t.frame with
        | some (_, _, some delay), some f => s.tdcMeasured c f delay
        | _, _ => s
      let s := match t.cancel with
        | some stamp => s.endBuf c b 2 stamp
        | none =>
          if t.single then s.endBuf c b 6 t.stamp else s.setBuf c b fun t => { t with st := 1 }
      .next (s.leaveIfDue c)
    else .next s
  | none => .next s

/-- CAN_FRAME_SENT (R389, R394, R403): the frame's end, with the time of its start, whether DRAM serves, and the measured
loop delay. -/
def execCanFrameSent (c : Fin 8) (sof : Nat × Bool) (delay : Fin 256) (s : State) : Host.Outcome State Fault Refusal :=
  let x := s.can c
  match x.sending with
  | some b =>
    if s.onBus c then
      let t := s.buf c b
      match t.frame with
      | some f =>
        let f := x.onWire f
        let s := s.setCan c (CanSt.settle { x with tec := x.tec - 1 })
        let s := (s.receive c f sof.1 true sof.2).count (Obj.CAN_TX_FRAMES c) 1
        let s := (s.tdcMeasured c f delay).send (.can c f)
        let s := s.setBuf c b fun t => { t with sof := sofStamp sof.1 }
        let s := match t.cancel with
          | some stamp => s.endBuf c b 3 stamp
          | none => s.endBuf c b 1 t.stamp
        .next (s.leaveIfDue c)
      | none => .next s
    else .next s
  | none => .next s

/-- CAN_FRAME_RX (R383, R389, R394): a valid frame with the time of its start; `dram` says whether DRAM serves. A
classical controller sees an FD frame as a form error. -/
def execCanFrameRx (c : Fin 8) (f : CanFrame) (sof : Nat) (dram : Bool) (s : State) :
    Host.Outcome State Fault Refusal :=
  let x := s.can c
  if s.onBus c ∧ !x.isOff then
    if f.fd ∧ !s.flag (Obj.CAN_FD c) then
      .next (s.setCan c (CanSt.settle { x with lec := 2, rec_ := min 255 (x.rec_ + 1) }))
    else
      let r := if 127 < x.rec_ then 119 + Config.recAfter.val else x.rec_ - 1
      .next ((s.setCan c (CanSt.settle { x with rec_ := r })).receive c f sof false dram)
  else .next s

/-- CAN_BUS_ERROR (R405): an error while receiving, which adds 1 to the receive counter, or 8 where ISO 11898-1 says
so; no ring entry. -/
def execCanBusError (c : Fin 8) (lec : Nat) (eight : Bool) (s : State) : Host.Outcome State Fault Refusal :=
  let x := s.can c
  if s.onBus c ∧ !x.isOff then
    .next (s.setCan c (CanSt.settle { x with lec := lec, rec_ := min 255 (x.rec_ + (if eight then 8 else 1)) }))
  else .next s

/-- BUS_OFF (R407): the transmit counter has passed 255. -/
def execBusOff (c : Fin 8) (s : State) : Host.Outcome State Fault Refusal :=
  let x := s.can c
  if s.onBus c ∧ !x.isOff ∧ 256 ≤ x.tec then
    let x := { x with
      err := if s.conf (Obj.CAN_BUSOFF_RECOVERY c) = 1 then 2 else 3
      bufs := x.bufs.map fun t => if t.st = 2 then { t with st := 1 } else t }
    .next (((s.setCan c x).count (Obj.CAN_BUSOFFS c) 1).event 0xD 0x6000 (u8 c))
  else .next s

/-- BUS_OFF_RECOVERY_END (R407). -/
def execBusOffRecoveryEnd (c : Fin 8) (s : State) : Host.Outcome State Fault Refusal :=
  let x := s.can c
  if s.onBus c ∧ x.err = 3 then .next (s.setCan c { x with err := 0, tec := 0, rec_ := 0 }) else .next s

/-- A recovery asked for (R407). -/
def State.askRecover (s : State) (c : Nat) : State := s.setCan c { s.can c with recover := true }

/-- CAN_RECOVER (R407). -/
def execCanRecover (q : Req) (c : Fin 8) (s : State) : Host.Outcome State Fault Refusal :=
  .next (s.serveSet q (Obj.CAN_RECOVER c) 1 (fun s => { state := s.get (Obj.CAN_ERR_STATE c) == 2 })
    fun s => s.askRecover c)

/-- A controller's enable: the ring restarted, buffers and counters fresh; it joins from the next boundary
(R382, R391). -/
def State.canOn (s : State) (c : Nat) : State :=
  let s := (((s.set (Obj.CAN_ENABLE c) 1).set (Obj.CAN_CFG_ERR c) 0).set (Obj.CAN_TX_FRAMES c) 0).ringRestart c
  let x := s.can c
  let fresh := fun t : TxBuf => if x.join = 0 then { seen := t.seen } else { t with result := 0 }
  s.setCan c { x with bufs := x.bufs.map fresh, err := 0, tec := 0, rec_ := 0, lec := 0, recover := false }

/-- CAN_ENABLE (R382, R386): refused with STATE, and the code kept, when a check of the bit timing fails. -/
def execCanEnable (q : Req) (c : Fin 8) (s : State) : Host.Outcome State Fault Refusal :=
  .next (s.serveSet q (Obj.CAN_ENABLE c) 1 (fun s => { state := s.canCfg c == 0 })
    (fun s => if s.flag (Obj.CAN_ENABLE c) then s else s.canOn c)
    fun s st => if st = .state ∧ s.canCfg c ≠ 0 then s.set (Obj.CAN_CFG_ERR c) (s.canCfg c) else s)

/-- A controller's disable, for the next boundary (R382). -/
def State.canOff (s : State) (c : Nat) : State := s.set (Obj.CAN_ENABLE c) 0

/-- CAN_DISABLE (R382). -/
def execCanDisable (q : Req) (c : Fin 8) (s : State) : Host.Outcome State Fault Refusal :=
  .next (s.serveSet q (Obj.CAN_ENABLE c) 0 (fun _ => {}) fun s => s.canOff c)

/-- Objects of the controllers have been replaced, not written: the rates follow, and a controller that was enabled or
disabled by it goes on or off as by a write (R382, R385, R391, R438). -/
def State.canFollow (s : State) (was : List (Nat × Bool)) : State :=
  was.foldl (fun s p =>
    let s := s.canRates p.1
    let on := s.flag (Obj.CAN_ENABLE p.1)
    if on && !p.2 then s.canOn p.1 else if p.2 && !on then s.canOff p.1 else s) s

/-- CAN_BUS_JOIN (R382). -/
def execCanBusJoin (c : Fin 8) (s : State) : Host.Outcome State Fault Refusal :=
  let x := s.can c
  if s.running ∧ s.domOn (canDom c) ∧ x.join = 2 then .next (s.setCan c { x with join := 3 }) else .next s

/-- Frames that wait may have reached DRAM by a boundary; whether DRAM has served by then is a free value (R394, log entry
101). -/
def State.drainMaybe (s : State) (c : Nat) : State :=
  if (s.can c).wait = [] then s
  else
    let (v, s) := s.draw
    if v.getLsbD 0 then s.drain c else s

/-- A controller at a tick boundary: waiting frames may reach DRAM, disables and enables and recoveries take effect
(R382, R389, R394, R407). -/
def State.canBoundary (s : State) (c : Nat) : State :=
  let s := s.drainMaybe c
  let s := if (s.can c).join = 0 ∨ s.flag (Obj.CAN_ENABLE c) then s else s.setCan c { s.can c with leave := true }
  let s := s.leaveIfDue c
  let x := s.can c
  let x := if x.join = 0 ∧ s.flag (Obj.CAN_ENABLE c) ∧ s.domOn (canDom c) then { x with join := 2 } else x
  let x := if x.recover ∧ x.err = 2 then { x with err := 3, recover := false } else { x with recover := false }
  if x = s.can c then s else s.setCan c x

/-- A domain of controllers leaves the on state: they are off their buses (R420). -/
def State.canDown (s : State) (c : Nat) : State :=
  let x := s.can c
  if x.join = 0 then s
  else s.setCan c { x with
    join := 0, leave := false, queue := [], later := []
    bufs := x.bufs.map fun t => if t.st = 2 then { t with st := 1 } else t }

/-- The entries of a controller in the capture phase (R393, R403, R405). -/
def State.canCapture (s : State) (c : Nat) : State :=
  let x := s.can c
  if 2 ≤ x.join ∧ s.domOn (canDom c) then
    let s := [(Obj.CAN_RX_SEQ c, x.newest), (Obj.CAN_ERR_STATE c, x.err), (Obj.CAN_TEC c, if x.isOff then 256 else x.tec),
      (Obj.CAN_REC c, x.rec_), (Obj.CAN_LEC c, x.lec), (Obj.CAN_RX_EPOCH c, x.epoch)].foldl
        (fun s p => s.capture p.1 p.2 true) s
    [0, 1, 2].foldl (fun s b =>
      let t := x.bufs.getD b {}
      [(Obj.CAN_TB_STATE c b, t.st), (Obj.CAN_TB_RESULT c b, t.result), (Obj.CAN_TB_STAMP c b, t.resStamp),
        (Obj.CAN_TB_SOF c b, t.sof)].foldl (fun s p => s.capture p.1 p.2 true) s) s
  else if (s.entry (Obj.CAN_RX_SEQ c)).valid then s.clearInput (Obj.CAN_RX_SEQ c) else s

/-- The checks of a write to a controller's objects (R382, R407). -/
def State.canExtra (s : State) (key v : Nat) : Extra :=
  let c := key / 256 - 0x7000
  let sub := key % 256
  if sub = 1 then { state := v == 0 || s.canCfg c == 0 }
  else if (2 ≤ sub ∧ sub ≤ 0xD) ∨ sub = 0x10 then { state := !s.flag (Obj.CAN_ENABLE c) }
  else if sub = 0x12 then { state := s.get (Obj.CAN_ERR_STATE c) == 2 }
  else {}

/-- The effect of a write to a controller's object that does more than hold its value. -/
def State.canWrite (s : State) (key v : Nat) : Option State :=
  let c := key / 256 - 0x7000
  let sub := key % 256
  if sub = 1 then some (if v = 0 then s.canOff c else if s.flag key then s else s.canOn c)
  else if 3 ≤ sub ∧ sub ≤ 9 then some ((s.set key v).canRates c)
  else if sub = 0x12 then some (s.askRecover c)
  else none

end Sys2Proof.Machine
end

