-- ==== Sys2Proof/Machine/Net.lean ====
section
/-! DEFINITION. The service layer on the buses: heartbeat and time message, ISO 11783, DM1, Ethernet frames, and MDP
messages on CAN (R102, R110–R112, R349, R409–R419). Formats of ISO 11783-3 and -5, ARP and ICMP are those standards'
(PRESUMED, log entry 28). -/

namespace Sys2Proof.Machine

/-! Heartbeat and time message -/

/-- The mode objects of Table 9 of the machine chapter (R33). -/
def modeKeys : List Nat :=
  (List.range 8).map Obj.BANK_FUSE_MODE ++ (List.range 48).map Obj.FL_MODE ++
    [Obj.CRB_MODEL_MODE, Obj.SUP_MODE, Obj.POS_MODE] ++ (List.range 8).map Obj.FOC_MODE ++ [Obj.DM1_MODE]

/-- The degraded condition of Table 8. -/
def State.degraded (s : State) : Bool :=
  s.get Obj.TICK_ENGINE_FAULT != 0 || modeKeys.any fun k => s.get (k + 1) == 3

/-- A transmission goes out at the next boundary. -/
def State.stage (s : State) (x : Staged) : State := { s with net := { s.net with staged := s.net.staged ++ [x] } }

/-- A datagram to each port of a mask, [0] E0 to [2] E2. -/
def State.stageUdp (s : State) (ports dest : Nat) (data : Bytes) : State :=
  [0, 1, 2].foldl (fun s p => if bit ports p then s.stage (.udp p dest data) else s) s

/-- A port's settings in force. -/
def State.eth (s : State) (p : Nat) : EthSt := Sparse.find (fun _ => ({} : EthSt)) s.net.eth p

/-- A port's link is up. -/
def State.portUp (s : State) (p : Nat) : Bool := s.domOn 8 && s.get (Obj.ETH_LINK p) == 2

/-- The transmissions of the tick that has ended go out (R44, R349, R409). -/
def State.flushStaged (s : State) : State :=
  s.net.staged.foldl (fun s x => match x with
    | .can c f => s.stateFrame c f
    | .udp p dest data => if s.portUp p && (s.eth p).ip != 0 then s.send (.udp p dest data) else s)
    { s with net := { s.net with staged := [] } }

/-- The heartbeat built in a tick, for the next (R409, R526, Table 8): in the first tick the module is still starting. -/
def State.buildHeartbeat (s : State) : State :=
  let n := s.net.hbNext
  let b := u16 n ++ u8 (if s.start.up = 0 then 0 else if s.degraded then 2 else 1) ++ u8 (if s.pair.inForce then 1 else 0) ++
    u8 (s.get Obj.TIME_STATE) ++ u8 0
  let b := b ++ u16 (crc16 b)
  let hb := s.net.hb
  let f : CanFrame := { ext := true, ident := hb.getD 3 0, data := b }
  let s := (List.range 8).foldl (fun s c => if bit (hb.getD 2 0) c then s.stage (.can c f) else s) s
  let s := s.stageUdp (hb.getD 4 0) (hb.getD 5 0) b
  let s : State := s.set Obj.HB_COUNT n
  { s with net := { s.net with hbNext := (n + 1) % 65536, hbAt := some s.k } }

/-- HEARTBEAT (R409). -/
def execHeartbeat (s : State) : Host.Outcome State Fault Refusal :=
  if s.running ∧ s.acting ∧ s.k % s.net.hb.getD 0 400 = s.net.hb.getD 1 0 ∧ s.net.hbAt ≠ some s.k then
    .next s.buildHeartbeat
  else .next s

/-- The heartbeat's settings (Table 9). -/
def hbKeys : List Nat :=
  [Obj.HB_PERIOD, Obj.HB_PHASE, Obj.HB_CAN, Obj.HB_CAN_ID, Obj.HB_UDP_PORTS, Obj.HB_UDP_DEST]

/-- Heartbeat settings take effect at a T4000/0 tick (R409). -/
def State.applyHb (s : State) : State :=
  if s.k % 4000 = 0 then
    { s with net := { s.net with hb := hbKeys.map s.get } }
  else s

/-- TPULSE is emitted in this tick (R348). -/
def State.pulses (s : State) : Bool :=
  s.gnss.tm.getD 0 0 != 0 && s.k % s.gnss.tm.getD 1 4000 == 0 && bit (s.gnss.tm.getD 3 0) (s.get Obj.TIME_STATE)

/-- The time message of a tick, for the next (R349, Table 14). -/
def State.buildTimeMessage (s : State) : State :=
  let tm := s.gnss.tm
  let b := u64 (s.k * 250000) ++ u8 (s.get Obj.TIME_STATE) ++
    u8 (boolNat s.pulses + 2 * boolNat s.time.utc.isSome + 4 * (s.get Obj.INT_STATE % 4)) ++
    u16 (s.get Obj.GPTP_UTC_OFFSET) ++ u32 (s.get Obj.TIME_ERR_EST) ++ u32 (s.get Obj.TIME_OFFSET_US) ++ u16 0
  let b := b ++ u16 (crc16 b)
  let f : CanFrame := { ext := true, fd := true, ident := tm.getD 5 0, data := b }
  let s := if tm.getD 4 0xFF < 8 then s.stage (.can (tm.getD 4 0xFF) f) else s
  let s := s.stageUdp (tm.getD 6 0) (tm.getD 7 0) b
  { s with gnss := { s.gnss with messageAt := some s.k } }

/-- TIME_MESSAGE (R349): for each tick at which TP_PERIOD comes round; never on a standby (R352). -/
def execTimeMessage (s : State) : Host.Outcome State Fault Refusal :=
  if s.running ∧ s.acting ∧ s.k % s.gnss.tm.getD 1 4000 = 0 ∧ s.gnss.messageAt ≠ some s.k then
    .next s.buildTimeMessage
  else .next s

/-! ISO 11783 -/

/-- The controller of the node (R411). -/
def State.isoCtrl (s : State) : Option Nat :=
  let c := s.conf Obj.ISO_CTRL
  if c < 8 then some c else none

/-- A frame of a parameter group. -/
def isoFrame (prio pgn dest sa : Nat) (data : Bytes) : CanFrame :=
  let p := if pgn / 256 % 256 < 240 then pgn / 256 * 256 + dest else pgn
  { ext := true, ident := prio * 2 ^ 26 + p % 2 ^ 18 * 256 + sa, data := data }

/-- A state frame of the node. -/
def State.isoStateFrame (s : State) (f : CanFrame) : State :=
  match s.isoCtrl with
  | some c => s.stateFrame c f
  | none => s

/-- A sequence frame of the node. -/
def State.isoSeqFrame (s : State) (f : CanFrame) (slot : Option Nat := none) : State :=
  match s.isoCtrl with
  | some c => s.seqFrame c f slot
  | none => s

/-- The claim of an address, 254 for cannot-claim (R412). -/
def State.sendClaim (s : State) (addr : Nat) : State :=
  s.isoStateFrame (isoFrame 6 0xEE00 0xFF addr (leBytes 8 (s.conf Obj.ISO_NAME)))

/-- The node claims an address. -/
def State.claim (s : State) (addr : Nat) : State :=
  let s := s.sendClaim addr
  ((s.setIso fun i => { i with addr := addr, claimAt := s.k }).set Obj.ISO_STATE 1).set Obj.ISO_ADDR 0xFE

/-- The node is on its bus and acts. -/
def State.isoUp (s : State) : Bool :=
  s.running && s.acting && (match s.isoCtrl with | some c => s.onBus c | none => false)

/-- ADDRESS_CLAIM_START (R412). -/
def execAddressClaimStart (s : State) : Host.Outcome State Fault Refusal :=
  if s.isoUp ∧ s.conf Obj.ISO_NAME ≠ 0 ∧ s.get Obj.ISO_STATE = 0 then .next (s.claim (s.conf Obj.ISO_ADDR_PREF))
  else .next s

/-- The next free address, descending from 247 to 128 (R412). -/
def State.freeAddr (s : State) : Option Nat :=
  ((List.range 120).map fun i => 247 - i).find? fun a => !s.net.iso.taken.contains a

/-- An address is lost (R412). -/
def State.addrLost (s : State) (addr : Nat) : State :=
  (s.event 0xD 0x6001 (u8 addr)).count Obj.ISO_ADDR_LOSSES 1

/-- COMPETING_CLAIM_RX (R412): another node's claim, with its NAME. -/
def execCompetingClaimRx (addr : Fin 256) (name : Nat) (s : State) : Host.Outcome State Fault Refusal :=
  if s.isoUp then
    let mine := s.conf Obj.ISO_NAME
    let st := s.get Obj.ISO_STATE
    let held := (st = 1 ∨ st = 2) ∧ s.net.iso.addr = addr.val
    if held ∧ mine < name then .next (s.sendClaim addr)
    else
      let s := s.setIso fun i => { i with taken := if addr.val ≤ 253 ∧ addr.val ∉ i.taken then addr.val :: i.taken else i.taken }
      if held ∧ name < mine then
        let s := s.addrLost addr
        match (if bit mine 63 then s.freeAddr else none) with
        | some a => .next (s.claim a)
        | none =>
          .next (((s.sendClaim 254).set Obj.ISO_STATE 3).set Obj.ISO_ADDR 0xFE)
      else .next s
  else .next s

/-- CLAIM_REQUEST_RX (R412). -/
def execClaimRequestRx (s : State) : Host.Outcome State Fault Refusal :=
  let st := s.get Obj.ISO_STATE
  if s.isoUp ∧ st ≠ 0 then .next (s.sendClaim (if st = 3 then 254 else s.net.iso.addr)) else .next s

/-- ADDRESS_HELD (R412): 1000 ticks after the claim. -/
def execAddressHeld (s : State) : Host.Outcome State Fault Refusal :=
  if s.isoUp ∧ s.get Obj.ISO_STATE = 1 ∧ s.net.iso.claimAt + 1000 ≤ s.k then
    .next ((s.set Obj.ISO_STATE 2).set Obj.ISO_ADDR s.net.iso.addr)
  else .next s

/-- The node goes off: its controller has left the bus, or its settings changed. Send slots in progress end with 04h, as
the peers' timeouts end them (log entry 55). -/
def State.isoOff (s : State) : State :=
  let cut := fun i : IsoSt => (List.range 8).filter fun n => Sparse.find (fun _ => 0) i.results n == 1
  ((s.setIso fun i => { i with
      addr := 0xFE, tx := [], rx := []
      results := (cut i).foldl (fun r n => Sparse.put (fun _ => 0) r n 4) i.results }).set Obj.ISO_STATE 0).set
    Obj.ISO_ADDR 0xFE

/-! Transport sessions (R413, R414) -/

/-- The times of ISO 11783-3 in ticks (R411; PRESUMED, log entry 28): T1 750 ms between packets, T2 and T3 1250 ms for the
answer to a clear-to-send, a request or a block, T4 1050 ms after a clear-to-send that holds the sender. -/
def tpT1 : Nat := 3000
/-- T2 and T3. -/
def tpT3 : Nat := 5000
/-- T4. -/
def tpT4 : Nat := 4200

/-- A send session. -/
def State.tpTx (s : State) (n : Nat) : Option TpTx := Sparse.find (fun _ => none) s.net.iso.tx n

/-- A send session set or ended. -/
def State.setTx (s : State) (n : Nat) (x : Option TpTx) : State :=
  s.setIso fun i => { i with tx := Sparse.put (fun _ => none) i.tx n x }

/-- Packets of seven bytes that a message takes. -/
def packets (len : Nat) : Nat := (len + 6) / 7

/-- A data packet, filled with FFh. -/
def dtBytes (seq : Nat) (data : Bytes) (packet : Nat) : Bytes :=
  let d := (data.drop (7 * (packet - 1))).take 7
  u8 seq ++ d ++ List.replicate (7 - d.length) 0xFF

/-- A connection management frame. -/
def State.cm (s : State) (ext : Bool) (dest : Nat) (b : Bytes) : State :=
  s.isoSeqFrame (isoFrame 7 (if ext then 0xC800 else 0xEC00) dest s.net.iso.addr b)

/-- A connection abort with its reason. -/
def State.tpAbort (s : State) (ext : Bool) (dest pgn reason : Nat) : State :=
  (s.cm ext dest (u8 255 ++ u8 reason ++ [0xFF, 0xFF, 0xFF] ++ leBytes 3 pgn)).count Obj.ISO_ABORTS 1

/-- A transfer begins: single frame, broadcast, connection mode or extended (R413). -/
def State.isoSend (s : State) (n prio dest pgn : Nat) (data : Bytes) : State :=
  let len := data.length
  let slot := if n < 8 then some n else none
  if len ≤ 8 then
    (s.isoResult n 1).isoSeqFrame (isoFrame prio pgn dest s.net.iso.addr data) slot
  else
    let ext := decide (1785 < len)
    let bam := dest == 0xFF
    let x : TpTx := { ext := ext, dest := dest, pgn := pgn, data := data
                      bamAt := if bam then some (s.k + Config.bamGap.toNat) else none, due := s.k + tpT3 }
    let s := (s.isoResult n 1).setTx n (some x)
    if ext then s.cm true dest (u8 20 ++ u32 len ++ leBytes 3 pgn)
    else s.cm false dest (u8 (if bam then 32 else 16) ++ u16 len ++ u8 (packets len) ++ u8 255 ++ leBytes 3 pgn)

/-- A broadcast's next packet, when its time has come. -/
def State.bamStep (s : State) (n : Nat) : State :=
  match s.tpTx n with
  | some x =>
    match x.bamAt with
    | some t =>
      if t ≤ s.k then
        let last := decide (packets x.data.length ≤ x.next)
        let f := isoFrame 7 0xEB00 0xFF s.net.iso.addr (dtBytes x.next x.data x.next)
        let s := s.isoSeqFrame f (if last ∧ n < 8 then some n else none)
        s.setTx n (if last then none else some { x with next := x.next + 1, bamAt := some (s.k + Config.bamGap.toNat) })
      else s
    | none => s
  | none => s

/-- The packets of a block that the receiver asks for go into the queue. -/
def State.sendBlock (s : State) (x : TpTx) (first n : Nat) : State :=
  let count := min n (packets x.data.length + 1 - first)
  (List.range count).foldl (fun s i =>
    let p := first + i
    s.isoSeqFrame (isoFrame 7 (if x.ext then 0xC700 else 0xEB00) x.dest s.net.iso.addr
      (dtBytes (if x.ext then i + 1 else p) x.data p))) s

/-- The send session with a peer and a parameter group. -/
def State.txWith (s : State) (peer pgn : Nat) (ext : Bool) : Option (Nat × TpTx) :=
  (List.range 9).findSome? fun n => match s.tpTx n with
    | some x => if x.dest = peer ∧ x.pgn = pgn ∧ x.ext = ext ∧ x.bamAt = none then some (n, x) else none
    | none => none

/-- ISO_SEND_SLOT (R413, R419: never on a standby): a slot with a new stamp; `data` is what the OEM region holds at its address. The eight
slots of ISO_TX_OFFSET are the areas of that key and of the seven that follow. -/
def execIsoSendSlot (n : Fin 8) (data : Bytes) (s : State) : Host.Outcome State Fault Refusal :=
  let a := s.area0 (Obj.ISO_TX_OFFSET + n)
  let fresh := a.valid && decide (Sparse.find (fun _ => 0) s.net.iso.seen n ≠ a.stamp + 1) &&
    decide (Sparse.find (fun _ => 0) s.net.iso.results n ≠ 1)
  if s.running ∧ s.acting ∧ fresh then
    let s := s.setIso fun i => { i with seen := Sparse.put (fun _ => 0) i.seen n (a.stamp + 1) }
    let len := a.at_ 16 4
    let dest := a.at_ 10 1
    let addr := a.at_ 20 8
    let bad := decide (s.get Obj.ISO_STATE ≠ 2) || (dest == 0xFF && decide (1785 < len)) || decide (117440505 < len) ||
      decide (addr < oemBase ∨ oemBase + oemSize < addr + len) || decide (8 ≤ a.at_ 9 1) || decide (a.at_ 11 1 ≠ 0) ||
      decide (2 ^ 18 ≤ a.at_ 12 4) || decide (a.at_ 28 4 ≠ 0)
    .next (if bad then s.isoResult n 5 else s.isoSend n (a.at_ 9 1) dest (a.at_ 12 4) (padTo len data))
  else .next s

/-- A clear-to-send to a sender: the next block of packets. -/
def State.tpCts (s : State) (x : TpRx) : State × TpRx :=
  let n := min x.max_ (packets x.size + 1 - x.next)
  let x := { x with last := x.next + n - 1, due := s.k + tpT3 }
  let b := if x.ext then u8 21 ++ u8 n ++ leBytes 3 x.next ++ leBytes 3 x.pgn
    else u8 17 ++ u8 n ++ u8 x.next ++ [0xFF, 0xFF] ++ leBytes 3 x.pgn
  (s.cm x.ext x.src b, x)

/-- A complete message goes into the ISO receive ring, over what its slot held (R335, R414, Table 11). -/
def State.isoRecord (s : State) (x : TpRx) (t : Nat) : State :=
  let i := s.net.iso
  let h := u32 i.seq ++ u8 x.src ++ u8 x.dest ++ u8 x.prio ++ u8 0 ++ u32 x.pgn ++ u32 x.size ++ u64 t ++
    List.replicate 6 0
  let r := h ++ u16 (crc16 h) ++ x.got.take x.size
  let old := Sparse.find (fun _ => ([] : Bytes)) i.ring (i.seq % 16)
  s.setIso fun i => { i with
    ring := Sparse.put (fun _ => []) i.ring (i.seq % 16) (r ++ old.drop r.length), head := some i.seq
    seq := (i.seq + 1) % 0xFFFFFFFF }

/-- Every slot of the ISO receive ring is marked before the first record after a start (R414). -/
def State.markIso (s : State) : State :=
  s.setIso fun i => { i with ring := i.ring.map fun p => (p.1, u32 0xFFFFFFFF ++ p.2.drop 4) }

/-- A data packet of a receive session. -/
def State.tpData (s : State) (x : TpRx) (rest : List TpRx) (data : Bytes) (t : Nat) : State :=
  let seq := field data 0 1
  let p := if x.ext then x.offset + seq else seq
  let drop := s.setIso fun i => { i with rx := rest }
  if p ≠ x.next then
    if x.bam then drop else drop.tpAbort x.ext x.src x.pgn 7
  else
    let x := { x with got := x.got ++ padTo 7 (data.drop 1), next := x.next + 1, due := s.k + tpT1 }
    if packets x.size < x.next then
      let s := drop.isoRecord x t
      if x.bam then s
      else if x.ext then s.cm true x.src (u8 23 ++ u32 x.size ++ leBytes 3 x.pgn)
      else s.cm false x.src (u8 19 ++ u16 x.size ++ u8 (packets x.size) ++ u8 255 ++ leBytes 3 x.pgn)
    else if !x.bam && decide (x.last < x.next) then
      let (s, x) := s.tpCts x
      s.setIso fun i => { i with rx := x :: rest }
    else s.setIso fun i => { i with rx := x :: rest }

/-- A request to send, or a broadcast announcement. -/
def State.tpOpen (s : State) (x : TpRx) : State :=
  let rest := s.net.iso.rx.filter fun y => !(y.src == x.src && y.bam == x.bam && y.ext == x.ext)
  if x.ext ∧ s.conf Obj.ISO_ETP_MAX < x.size then s.tpAbort true x.src x.pgn 2
  else if 8 ≤ rest.length then (if x.bam then s else s.tpAbort x.ext x.src x.pgn 1)
  else if x.bam then s.setIso fun i => { i with rx := x :: rest }
  else
    let (s, x) := s.tpCts x
    s.setIso fun i => { i with rx := x :: rest }

/-- A connection management message from a peer. -/
def State.tpControl (s : State) (ext : Bool) (src dest prio : Nat) (d : Bytes) : State :=
  let pgn := field d 5 3
  let op := field d 0 1
  let mine := dest != 0xFF
  match (if op ∈ [17, 19, 21, 23, 255] then s.txWith src pgn ext else none) with
  | some (n, x) =>
    if !mine then s
    else if op = (if ext then 21 else 17) then
      let first := if ext then field d 2 3 else field d 2 1
      let s := s.setTx n (some { x with due := s.k + (if field d 1 1 = 0 then tpT4 else tpT3) })
      if first = 0 ∨ packets x.data.length < first then s
      else
        let s := if ext then s.cm true src (u8 22 ++ u8 (field d 1 1) ++ leBytes 3 (first - 1) ++ leBytes 3 pgn) else s
        s.sendBlock x first (field d 1 1)
    else if op = (if ext then 23 else 19) then (s.setTx n none).isoResult n 2
    else if op = 255 then (s.setTx n none).isoResult n (3 + 256 * field d 1 1)
    else s
  | none =>
    let same := fun y : TpRx => y.src == src && y.pgn == pgn && y.ext == ext && !y.bam
    let rx := s.net.iso.rx
    if op = 16 ∧ !ext ∧ mine then
      s.tpOpen { ext := false, bam := false, src := src, dest := dest, prio := prio, pgn := pgn, size := field d 1 2
                 max_ := field d 4 1 }
    else if op = 32 ∧ !ext ∧ !mine then
      s.tpOpen { ext := false, bam := true, src := src, dest := dest, prio := prio, pgn := pgn, size := field d 1 2
                 max_ := 255, due := s.k + tpT1 }
    else if op = 20 ∧ ext ∧ mine then
      s.tpOpen { ext := true, bam := false, src := src, dest := dest, prio := prio, pgn := pgn, size := field d 1 4
                 max_ := 255 }
    else if op = 22 ∧ ext ∧ mine then
      s.setIso fun i => { i with rx := rx.map fun y => if same y then { y with offset := field d 2 3, due := s.k + tpT1 } else y }
    else if op = 255 ∧ mine ∧ rx.any same then
      (s.setIso fun i => { i with rx := rx.filter fun y => !same y }).count Obj.ISO_ABORTS 1
    else s

/-- TP_RX (R413, R414): a frame of the transport or extended transport protocol, with the time of its end. -/
def execTpRx (f : CanFrame) (time : Nat) (s : State) : Host.Outcome State Fault Refusal :=
  let pf := f.ident / 2 ^ 16 % 256
  let dest := f.ident / 256 % 256
  let src := f.ident % 256
  let prio := f.ident / 2 ^ 26 % 8
  if s.isoUp ∧ f.ext ∧ !f.remote ∧ f.data.length = 8 ∧
      (dest = 0xFF ∨ (s.get Obj.ISO_STATE = 2 ∧ dest = s.get Obj.ISO_ADDR)) then
    if pf = 0xEC then .next (s.tpControl false src dest prio f.data)
    else if pf = 0xC8 then .next (s.tpControl true src dest prio f.data)
    else if pf = 0xEB ∨ pf = 0xC7 then
      let ext := pf == 0xC7
      let same := fun y : TpRx => y.src == src && y.ext == ext && y.bam == (dest == 0xFF)
      match s.net.iso.rx.find? same with
      | some x => .next (s.tpData x (s.net.iso.rx.filter fun y => !same y) f.data time)
      | none => .next s
    else .next s
  else .next s

/-- ISO_TP_TIMEOUT (R411, R413, R414): of a send slot, or of the receive session at a place in the list, when its time of
ISO 11783-3 has run out. A broadcast that is sent waits for no peer. -/
def execIsoTpTimeout (send : Bool) (n : Fin 8) (s : State) : Host.Outcome State Fault Refusal :=
  if s.isoUp then
    if send then
      match s.tpTx n with
      | some x => if x.bamAt = none ∧ x.due ≤ s.k then .next ((s.setTx n none).isoResult n 4) else .next s
      | none => .next s
    else
      match s.net.iso.rx[n.val]? with
      | some x =>
        if s.k < x.due then .next s else
        let s := s.setIso fun i => { i with rx := i.rx.eraseIdx n.val }
        .next (if x.bam then s.count Obj.ISO_ABORTS 1 else s.tpAbort x.ext x.src x.pgn 3)
      | none => .next s
  else .next s

/-- At a takeover the new active's send slots in progress read 04h (R419). -/
def State.isoTakeover (s : State) : State :=
  (List.range 8).foldl (fun s n =>
    if Sparse.find (fun _ => 0) s.net.iso.results n = 1 then (s.setTx n none).isoResult n 4 else s) s

/-! DM1 (R415, R416) -/

/-- The DTC entries that are active now. -/
def State.activeDtcs (s : State) : List Nat := (List.range 32).filter fun d => s.refTrue (s.conf (Obj.DTC_SRC d))

/-- The lamp byte: each field 01b when any active entry sets it. -/
def State.lampByte (s : State) (l : List Nat) : Nat :=
  [0, 2, 4, 6].foldl (fun v i =>
    if l.any fun d => bits (s.conf (Obj.DTC_LAMP d)) (i + 1) i == 1 then v + 2 ^ i else v) 0

/-- A DTC's four bytes. -/
def State.dtcBytes (s : State) (d : Nat) : Bytes :=
  let spn := s.conf (Obj.DTC_SPN d)
  u8 spn ++ u8 (spn / 256) ++ u8 (spn / 65536 * 32 + s.conf (Obj.DTC_FMI d)) ++ u8 (s.get (Obj.DTC_OC d) % 128)

/-- DM1 as S builds it. -/
def State.dm1Bytes (s : State) (l : List Nat) : Bytes :=
  u8 (s.lampByte l) ++ [0xFF] ++ (if l = [] then [0, 0, 0, 0] else l.flatMap s.dtcBytes)

/-- The entries' activity and occurrence counts follow (Table 14). -/
def State.noteDtcs (s : State) (l : List Nat) : State :=
  let s := (List.range 32).foldl (fun s d =>
    let on := l.contains d
    let s := if on && !s.flag (Obj.DTC_ACTIVE d) then s.set (Obj.DTC_OC d) (min 126 (s.get (Obj.DTC_OC d) + 1)) else s
    s.set (Obj.DTC_ACTIVE d) (boolNat on)) s
  s.set Obj.DM1_ACTIVE l.length

/-- DM1 may be sent (R415, R419). -/
def State.dm1Sends (s : State) : Bool := s.isoUp && s.get Obj.ISO_STATE == 2 && s.confFlag Obj.DM1_ENABLE

/-- The DM1 built goes out where it may be sent: one frame, or by broadcast. -/
def State.sendDm1 (s : State) (b : Bytes) : State :=
  let s := s.setIso fun i => { i with dm1 := b }
  if !s.dm1Sends then s
  else if b.length ≤ 8 then
    s.isoStateFrame (isoFrame 6 0xFECA 0xFF (s.get Obj.ISO_ADDR) (b ++ List.replicate (8 - b.length) 0xFF))
  else s.isoSend 8 6 0xFF 0xFECA b

/-- The assisted DM1 of this tick (R416). -/
def State.dm1Assist (s : State) : Option Bytes :=
  let a := s.area Obj.DM1_ASSIST_OFFSET
  let n := a.at_ 9 1
  if s.hit Obj.DM1_ASSIST_OFFSET ∧ n ≤ 32 then some ((a.body.drop 1).take 2 ++ padTo (4 * n) (a.body.drop 7)) else none

/-- The entries whose DTC an assisted DM1 lists: SPN and FMI agree; the all-zero DTC is none (R415, R416, Table 14). -/
def State.listedDtcs (s : State) (b : Bytes) : List Nat :=
  (List.range 32).filter fun d =>
    let x := (s.dtcBytes d).take 3
    x != [0, 0, 0] && (List.range ((b.length - 2) / 4)).any fun i => (b.drop (2 + 4 * i)).take 3 == x

/-- The regular run of DM1 (R415). DM1_ACTIVE and DTC_ACTIVE follow the DM1 of the run: the application's in an assisted
run; with a miss or a fault the one before stands. -/
def State.dm1Run (s : State) : State :=
  let s := s.modeEnter Obj.DM1_MODE
  let hit := s.dm1Assist
  let kind := s.runKind Obj.DM1_MODE hit.isSome
  let s := s.modeCount Obj.DM1_MODE kind
  match kind, hit with
  | .assisted, some b => ((s.noteDtcs (s.listedDtcs b)).sendDm1 b).set Obj.DM1_ACTIVE ((b.length - 2) / 4)
  | .miss, _ => if s.net.iso.dm1 = [] then s else s.sendDm1 s.net.iso.dm1
  | .faulted, _ => s
  | _, _ =>
    let l := s.activeDtcs
    let s := s.noteDtcs l
    s.sendDm1 (s.dm1Bytes l)

/-- DM1_SEND (R415): built at T4000/DM1_PHASE whether it may be sent or not, and, while it may, once more within the second
when the active set has changed. -/
def execDm1Send (s : State) : Host.Outcome State Fault Refusal :=
  let phase := s.conf Obj.DM1_PHASE
  let period := (s.k + 4000 - phase) / 4000
  if s.running ∧ s.acting then
    if s.k % 4000 = phase ∧ s.net.iso.dm1At ≠ some period then
      .next (s.dm1Run.setIso fun i => { i with dm1At := some period })
    else
      let l := s.activeDtcs
      let hw := s.get (Obj.DM1_MODE + 1) = 0 ∨ s.get (Obj.DM1_MODE + 1) = 2
      if s.dm1Sends ∧ s.net.iso.dm1At = some period ∧ s.net.iso.dm1Extra ≠ some period ∧ hw ∧
          (List.range 32).any (fun d => l.contains d != s.flag (Obj.DTC_ACTIVE d)) then
        let s := s.noteDtcs l
        .next ((s.sendDm1 (s.dm1Bytes l)).setIso fun i => { i with dm1Extra := some period })
      else .next s
  else .next s

/-! MDP messages (R102, R110–R112) -/

/-- A message that is not discarded (R101, R102). -/
def mdpOk (b : Bytes) : Bool :=
  decide (12 ≤ b.length) && b.length == 12 + field b 6 2 && decide (field b 6 2 ≤ 1264) &&
    field b (b.length - 4) 4 == crc32c (b.take (b.length - 4)) &&
    decide (field b 0 1 < 64) && bits (field b 0 1) 5 4 != 3 && decide (field b 1 1 < 128)

/-- A message has arrived: queued, or discarded and counted (R102). -/
def State.mdpArrive (s : State) (m : MdpMsg) : State :=
  if mdpOk m.bytes && decide (s.dict.queue.length < 64) then
    { s with dict := { s.dict with queue := s.dict.queue ++ [m] } }
  else s.count Obj.MDP_RX_BAD 1

/-- A whole answer (R101, R103). -/
def mdpAnswer (target svc ses txn st : Nat) (body : Bytes) : Bytes :=
  let p := u8 st ++ body
  let b := u8 (1 + 16 * target) ++ u8 svc ++ u16 ses ++ u16 txn ++ u16 p.length ++ p
  b ++ u32 (crc32c b)

/-- A message's segments (R111). -/
def mdpSegments (m : Bytes) : List Bytes :=
  let l := chunks 63 21 m
  l.zipIdx.map fun p =>
    let b := u8 (128 * boolNat (p.2 == 0) + 64 * boolNat (p.2 + 1 == l.length) + p.2) ++ p.1
    padTo (canLength b.length) b

/-- An answer to a client on CAN enters the module queue in its segments (R110, R111, R404). -/
def State.segmentAnswer (s : State) (o : Out) : State :=
  match o with
  | .mdp t client target svc ses txn st body =>
    if t = 0 ∧ s.dict.can < 8 then
      let id := s.dict.base / 2 ^ 13 * 2 ^ 13 + s.dict.node % 128 * 64 + 32 + client % 32
      (mdpSegments (mdpAnswer target svc ses txn st body)).foldl (fun s b =>
        s.seqFrame s.dict.can { ext := true, fd := true, brs := Config.mdpBrs, ident := id, data := b }) s
    else s
  | _ => s

/-- The answers of a tick that go by CAN. -/
def State.segmentAnswers (s : State) : State := s.sent.foldl State.segmentAnswer s

/-! Ethernet (R417, R418) -/

/-- The port at which something sent leaves, when it leaves by Ethernet. -/
def outPort : Out → Option Nat
  | .mdp t _ _ _ _ _ _ _ => if 1 ≤ t.val ∧ t.val ≤ 4 then some (t.val - 1) else if t.val = 6 then some 4 else none
  | .forward _ _ _ _ => some 4
  | .udp p _ _ => some p
  | .gptpSync _ p _ _ _ _ => some p
  | .gptpAnnounce _ p _ _ _ _ _ _ _ _ _ _ _ => some p
  | .mirror _ => some 4
  | .arp p => some p
  | .eth p _ => some p
  | _ => none

/-- ETH_TX_FRAMES counts what the tick has sent (Table 16). -/
def State.countSent (s : State) : State :=
  s.sent.foldl (fun s o => match outPort o with
    | some p => s.count (Obj.ETH_TX_FRAMES p) 1
    | none => s) s

/-- The Internet checksum of bytes. -/
def inetSum (b : Bytes) : Nat :=
  let t := ((List.range ((b.length + 1) / 2)).map fun i =>
    (b.getD (2 * i) 0).toNat * 256 + (b.getD (2 * i + 1) 0).toNat).sum
  let t := t % 65536 + t / 65536
  65535 - (t % 65536 + t / 65536)

/-- A big-endian field. -/
def beField (b : Bytes) (off n : Nat) : Nat := ofBe ((b.drop off).take n)

/-- The port's MAC address, six bytes as sent. -/
def State.mac (s : State) (p : Nat) : Bytes := beBytes 6 (s.get (Obj.ETH_MAC p) % 2 ^ 48)

/-- The answer to an ARP request for the port's address. -/
def State.arpReply (s : State) (p ip : Nat) (d : Bytes) : Option Bytes :=
  if beField d 12 2 = 0x0806 ∧ beField d 20 2 = 1 ∧ beField d 38 4 = ip then
    some ((d.drop 6).take 6 ++ s.mac p ++ beBytes 2 0x0806 ++ (d.drop 14).take 6 ++ beBytes 2 2 ++ s.mac p ++
      beBytes 4 ip ++ (d.drop 22).take 10)
  else none

/-- The answer to an ICMP echo request for the port's address. -/
def State.echoReply (s : State) (p ip : Nat) (d : Bytes) : Option Bytes :=
  let h := (beField d 14 1) % 16 * 4
  let total := beField d 16 2
  if beField d 12 2 = 0x0800 ∧ beField d 23 1 = 1 ∧ beField d 30 4 = ip ∧ 20 ≤ h ∧ beField d (14 + h) 1 = 8 then
    let icmp := (d.drop (14 + h)).take (total - h)
    let body := [0, 0, 0, 0] ++ icmp.drop 4
    let icmp := [0, 0] ++ beBytes 2 (inetSum body) ++ icmp.drop 4
    some ((d.drop 6).take 6 ++ s.mac p ++ (d.drop 12).take 14 ++ (d.drop 30).take 4 ++ (d.drop 26).take 4 ++
      (d.drop 34).take (h - 20) ++ icmp)
  else none

/-- The MDP datagram in a frame: source address and port, and the message (R112). -/
def State.mdpDatagram (s : State) (p ip : Nat) (d : Bytes) : Option (Nat × Bytes) :=
  let h := (beField d 14 1) % 16 * 4
  let u := 14 + h
  if beField d 12 2 = 0x0800 ∧ beField d 23 1 = 17 ∧ beField d 30 4 = ip ∧ 20 ≤ h ∧ bit s.dict.udpPorts p ∧
      beField d (u + 2) 2 = s.dict.udpPort then
    some (beField d 26 4 * 65536 + beField d u 2, (d.drop (u + 8)).take (beField d (u + 4) 2 - 8))
  else none

/-- A received Announce or Sync message is ignored and counted (R65). -/
def State.gptpForeign (s : State) : State := s.count Obj.GPTP_FOREIGN 1

/-- ETH_FRAME_RX (R65, R112, R114, R115, R418): a frame, without its FCS, on E0 to E2 or SVC; 60 to 1518 bytes, which its FCS
makes 64 to 1522. A module that is not the active of its pair takes no MDP message on E0 to E2. -/
def execEthFrameRx (p : Fin 4) (fcsOk : Bool) (data : Bytes) (s : State) : Host.Outcome State Fault Refusal :=
  if s.running ∧ s.portUp p then
    if !fcsOk ∨ data.length < 60 ∨ 1518 < data.length then .next (s.count (Obj.ETH_RX_ERRORS p) 1)
    else
      let s := s.count (Obj.ETH_RX_FRAMES p) 1
      let ip := (s.eth p).ip
      if beField data 12 2 = 0x88F7 ∧ bit s.gptp.ports p then
        let ty := beField data 14 1 % 16
        .next (if ty = 0 ∨ ty = 0xB then s.gptpForeign else s)
      else if ip = 0 then .next (s.send (.toApp p data))
      else match s.arpReply p ip data with
        | some r => .next (s.send (.eth p r))
        | none => match s.echoReply p ip data with
          | some r => .next (s.send (.eth p r))
          | none => match s.mdpDatagram p ip data with
            | some (src, m) =>
              .next (if s.nodeServes || p == 3 then s.mdpArrive ⟨⟨p.val + 1, by omega⟩, src, m⟩ else s)
            | none => .next (s.send (.toApp p data))
  else .next s

/-- A port's link goes as its enable says: training, or down. -/
def State.ethPower (s : State) (p : Nat) (on : Bool) : State :=
  (s.set (Obj.ETH_LINK p) (boolNat on)).set (Obj.ETH_SQI p) 0xFF

/-- The settings of a port taken into force, as `rd` gives them (R418); P follows the pair configuration. -/
def State.ethApply (rd : Nat → Nat) (s : State) (p : Nat) : State :=
  let on := if p = 4 then s.pair.inForce else rd (Obj.ETH_ENABLE p) != 0
  let x := s.eth p
  let y : EthSt := { on := on, role := rd (Obj.ETH_T1_ROLE p), ip := rd (Obj.ETH_IPV4 p), mask := rd (Obj.ETH_MASK p) }
  let s := { s with net := { s.net with eth := Sparse.put (fun _ => ({} : EthSt)) s.net.eth p y } }
  if x.on = on then s else s.ethPower p on

/-- ETH_CONFIG_APPLY (R75, R418): at a T4000/0 tick, the settings as that tick finds them. -/
def execEthConfigApply (s : State) : Host.Outcome State Fault Refusal :=
  if s.running ∧ s.k % 4000 = 0 then .next ((List.range 5).foldl (State.ethApply s.conf) s) else .next s

/-- D8 leaves the on state: the links are down. -/
def State.ethDown (s : State) : State :=
  (List.range 5).foldl (fun s p => s.ethPower p false) s

/-! The tick boundary's share, and writes -/

/-- The node's share of a boundary: broadcasts in progress; a node whose controller is off the bus is off. -/
def State.isoBoundary (s : State) : State :=
  let up := match s.isoCtrl with | some c => decide (2 ≤ (s.can c).join) | none => false
  if !up then (if s.get Obj.ISO_STATE = 0 then s else s.isoOff)
  else (List.range 9).foldl State.bamStep s

/-- The entries of the chapter in the capture phase (R393, R403, R413, R414). -/
def State.netCapture (s : State) : State :=
  let s := (List.range 8).foldl State.canCapture s
  let i := s.net.iso
  let s := s.capture Obj.ISO_RX_HEAD (i.head.getD 0xFFFFFFFF) true
  (List.range 8).foldl (fun s n => s.capture (Obj.ISO_SLOT_RESULT n) (Sparse.find (fun _ => 0) i.results n) true) s

/-- The first tick: heartbeat, Ethernet and CAN settings as stored (R382, R391, R418, R526). A stored enable whose
bit timing fails a check is not carried out. -/
def State.netStart (s : State) : State :=
  let s : State := { s with net := { s.net with hb := hbKeys.map s.get } }
  let s := ((List.range 5).foldl (State.ethApply s.get) s).markIso
  (List.range 8).foldl (fun s c =>
    let s := s.canRates c
    if s.flag (Obj.CAN_ENABLE c) then
      (if s.canCfg c = 0 then s.canOn c else (s.set (Obj.CAN_ENABLE c) 0).set (Obj.CAN_CFG_ERR c) (s.canCfg c))
    else s) s

/-- The checks of a write to an object of index 7060h to 7850h (R120, R409, Table 16). -/
def State.netExtra (s : State) (key v : Nat) : Extra :=
  let ix := key / 256
  let sub := key % 256
  if 0x7090 ≤ ix ∧ ix < 0x70B0 ∧ sub = 1 then { range := s.refOk [.bool] v }
  else if 0x7800 ≤ ix ∧ ix < 0x7805 then
    { state := !(sub == 1 && ix == 0x7804) && !(sub == 2 && (ix == 0x7803 || ix == 0x7804)) }
  else if key = Obj.HB_PERIOD then { range := decide (s.net.hb.getD 1 0 < v) && 4000 % v == 0 }
  else if key = Obj.HB_PHASE then { range := decide (v < s.net.hb.getD 0 400) }
  else {}

/-- The effect of a write that does more than hold its value: another NAME or controller ends the present claim. -/
def State.netWrite (s : State) (key v : Nat) : Option State :=
  if key = Obj.ISO_NAME ∨ key = Obj.ISO_CTRL then some (if s.get key = v then s else (s.isoOff).set key v)
  else none

end Sys2Proof.Machine
end

