-- ==== Sys2Proof/Machine/Time.lean ====
section
/-! DEFINITION. Overruns, stalled and blocked application writes, time steering and the gPTP grandmaster
(R27, R43–R70). -/

namespace Sys2Proof.Machine

/-! Application writes -/

/-- The mode object of the function whose assisted results an area takes (R38, R100). -/
def assistMode (key : Nat) : Option Nat :=
  let ix := key / 256
  let sub := key % 256
  if 0x3100 ≤ ix ∧ ix < 0x3108 ∧ sub = 0x13 then some (Obj.BANK_FUSE_MODE (ix - 0x3100))
  else if key = Obj.CRB_ASSIST_OFFSET then some Obj.CRB_MODEL_MODE
  else if 0x5000 ≤ ix ∧ ix < 0x5030 ∧ sub = 0x40 then some (Obj.FL_MODE (ix - 0x5000))
  else if key = Obj.SUP_ASSIST_OFFSET then some Obj.SUP_MODE
  else if key = Obj.POS_ASSIST_OFFSET then some Obj.POS_MODE
  else if 0x6810 ≤ ix ∧ ix < 0x6818 ∧ sub = 0x14 then some (Obj.FOC_MODE (ix - 0x6810))
  else if key = Obj.DM1_ASSIST_OFFSET then some Obj.DM1_MODE
  else none

/-- The area may be written now: an assisted result area is blocked while its mode object, as the tick began, is 00h (R27,
R75, R100). -/
def State.writable (s : State) (key : Nat) : Bool :=
  isArea key && (match assistMode key with | some m => s.conf m != 0 | none => true)

/-- A write lands in its area (R27). -/
def State.landArea (s : State) (key : Nat) (a : AppArea) : State :=
  if isArea key then { s with app := Sparse.put (fun _ => ({} : AppArea)) s.app key a } else s

/-- The memory protection unit blocks a write: the access fault on the core that wrote, and the event (R27). -/
def State.blockWrite (s : State) (core : Fin 4) (offset : Nat) : State :=
  (s.send (.accessFault core offset)).event 0 0x1010 (u8 core ++ u64 offset)

/-- A write that is blocked, to an area that the application may not write now: the offset is that of the area in the
current copy (R27, R100). An address outside every area reaches the model as APP_WRITE_BLOCKED alone. -/
def State.blockArea (s : State) (core : Fin 4) (key : Nat) : State :=
  if isArea key then s.blockWrite core (tickOffset s.runSlot.release s.k key) else s

/-- An application write before the compute deadline: it lands, or it is blocked (R27, R100). -/
def State.appWrite (s : State) (core : Fin 4) (key : Nat) (a : AppArea) : State :=
  if s.writable key then
    { s.landArea key a with tick := { s.tick with wrote := if key ∈ s.tick.wrote then s.tick.wrote else key :: s.tick.wrote } }
  else s.blockArea core key

/-- APP_WRITE_STALL (R47): a write between the compute deadline and the end of the tick waits for the next tick;
one that is blocked does not (R27, R100). -/
def execAppWriteStall (w : AppWrite) (s : State) : Host.Outcome State Fault Refusal :=
  if s.running then
    if s.writable w.area then
      let st : Stalled := { area := w.area, val := { stamp := w.stamp, valid := w.valid, body := w.body }, at_ := s.k }
      .next ({ s with tick := { s.tick with stalled := s.tick.stalled ++ [st] } }.count Obj.TICK_APP_STALLS 1)
    else .next (s.blockArea w.core w.area)
  else .next s

/-- STALLED_WRITE_LAND (R47): the writes that stalled in an earlier tick land in this tick's copy. They land at its
start: what the application has written since to the same area stands. -/
def execStalledWriteLand (s : State) : Host.Outcome State Fault Refusal :=
  if s.running then
    let due := s.tick.stalled.filter fun w => decide (w.at_ < s.k)
    let s := due.foldl (fun s w => if w.area ∈ s.tick.wrote then s else s.landArea w.area w.val) s
    .next { s with tick := { s.tick with stalled := s.tick.stalled.filter fun w => decide (s.k ≤ w.at_) } }
  else .next s

/-- APP_WRITE_BLOCKED (R27): a write anywhere else in the 4 MiB tick memory changes nothing and is recorded. -/
def execAppWriteBlocked (core : Fin 4) (offset : Nat) (s : State) : Host.Outcome State Fault Refusal :=
  if 2 * copySize ≤ offset then .fault .outsideTickMemory
  else if s.running then .next (s.blockWrite core offset)
  else .next s

/-! Overruns (R49–R51) -/

/-- Time steering is due: at the epoch's run of L5 (R49, R61). -/
def State.steerDue (s : State) : Bool :=
  s.gnssOn && s.domOn 4 && s.afterEpoch && (s.gnss.epoch == some (s.k - 1)) && !s.engineStopped 5 &&
    !s.tick.ran.contains steerUnit && !s.tick.faulted.contains steerUnit && s.epochAfter steerUnit

/-- The ledger step of a tick that is no run tick, which samples only (R121). -/
def State.ledgerSamples (s : State) : Bool :=
  s.ledgerOn && s.acting && decide (s.k % s.conf Obj.CRB_PERIOD ≠ s.conf Obj.CRB_PHASE)

/-- The units of an engine still due in this tick, in their order. `late` says that the engine was still at work at
the deadline: in a tick without a run it is the ledger's sampling that was, unless the supervisor after it has run. -/
def State.dueUnits (s : State) (e : Nat) (late : Bool) : List Nat :=
  if e < 4 then ((List.range 12).map (· + 12 * e)).filter s.slotDue
  else if e = 4 then
    let samples := late && s.ledgerSamples && !s.tick.ran.contains supUnit
    (if (s.ledgerDue && s.acting) || samples then [ledgerUnit] else []) ++ (if s.supDue then [supUnit] else [])
  else (if s.posDue then [posUnit] else []) ++ (if s.steerDue then [steerUnit] else [])

/-- The engine of a unit. -/
def unitEngine (u : Nat) : Nat := if u < 48 then engineOf u else if u < 50 then 4 else 5

/-- The byte that names a unit in an event (log entry 25). -/
def unitByte (u : Nat) : Bytes := u8 (if u < 48 then u else (Config.unitCode u).toNat)

/-- Overruns in the last 4000 ticks, skipped units among them, by tick and engine. -/
def State.addOverruns (s : State) (e n : Nat) : State :=
  let s := ((s.count Obj.TICK_OVERRUNS n).count (Obj.TICK_OVR e) n).set Obj.TICK_LAST_OVERRUN s.k
  { s with tick := { s.tick with
      window := s.tick.window.filter (fun w => decide (s.k < w.1 + 4000)) ++ [(s.k, e, n)] } }

/-- The deadline of one engine: the first unit still due overruns, the others are skipped (R49). -/
def State.engineDeadline (s : State) (e : Nat) (late : Bool) : State :=
  match s.dueUnits e late with
  | [] => if e = 4 ∧ s.ledgerSamples = true then s.inTime ledgerUnit else s
  | u :: rest =>
    let n := Sparse.find (fun _ => 0) s.tick.consec u
    let s := s.addOverruns e (1 + rest.length)
    let s := if n = 0 then s.event (e + 1) 0x1000 (u8 e ++ unitByte u) else s
    let s := { s with tick := { s.tick with
      ran := s.tick.ran ++ u :: rest, consec := Sparse.put (fun _ => 0) s.tick.consec u (n + 1) } }
    let s := s.discardRuns (u :: rest)
    if u = ledgerUnit then { s with led := { s.led with missed := true } } else s

/-- COMPUTE_DEADLINE (R46, R49): `done` gives, engine by engine, the µs at which its work of the tick ended, for
TICK_PEAK; 200 marks work that had not ended at the deadline. -/
def execComputeDeadline (done : List Nat) (s : State) : Host.Outcome State Fault Refusal :=
  if s.running then
    .next ((List.range 6).foldl (fun s e =>
      let late := decide (200 ≤ done.getD e 0)
      let us := if s.dueUnits e late = [] then min 199 (done.getD e 0) else 200
      let s := s.set (Obj.TICK_PEAK e) (max us (s.get (Obj.TICK_PEAK e)))
      s.engineDeadline e late) s)
  else .next s

/-- The supervisor from its configured initial state (R51, R211). -/
def State.supInit (s : State) : State :=
  let s := { s with sup := {} }
  let s := (List.range 5).foldl (fun s t => s.write (Obj.TGT_NOW t) (s.get (Obj.TGT_BASE t)) true) s
  if s.flag Obj.SUP_ENABLE then s.toSup 2 else s.toSup 0

/-- The path element from its initial state: 00h or 01h as PATH_ENABLE stands, with no path in use (R216). -/
def State.pathInit (s : State) : State :=
  { s with path := { state := boolNat (s.flag Obj.PATH_ENABLE) } }.write Obj.PATH_STATE (boolNat (s.flag Obj.PATH_ENABLE)) true

/-- A unit is faulted: it stops, and the validity of its entries is clear (R50). -/
def State.faultUnit (s : State) (u code : Nat) : State :=
  if u < 48 then (if (s.fl u).fault = 0 then s.faultSlot u code else s)
  else
    let s := { s with tick := { s.tick with
      faulted := if s.tick.faulted.contains u then s.tick.faulted else s.tick.faulted ++ [u] } }
    if u = ledgerUnit then (if s.flag Obj.CRB_ENABLE then s.stopLedger 4 else s)
    else if u = supUnit then (List.range 5).foldl (fun s t => s.invalidate (Obj.TGT_NOW t)) s
    else if u = posUnit then (((s.invalidate Obj.POS_EPOCH).invalidate Obj.MB_ALONG).invalidate Obj.PATH_STATE).invalidate Obj.PATH_ANGLE_DEM
    else s

/-- UNIT_OVERRUN_FAULT (R50): TICK_ESC_CONSEC overruns in a row. -/
def execUnitOverrunFault (unit : Nat) (s : State) : Host.Outcome State Fault Refusal :=
  let gone := s.tick.faulted.contains unit || (decide (unit < 48) && decide ((s.fl unit).fault ≠ 0))
  if s.running ∧ unit ≤ steerUnit ∧ s.conf Obj.TICK_ESC_CONSEC ≤ Sparse.find (fun _ => 0) s.tick.consec unit ∧
      gone = false then
    let e := unitEngine unit
    .next ((s.faultUnit unit 1).event (e + 1) 0x1001 (u8 e ++ unitByte unit))
  else .next s

/-- Overruns of an engine within the last 4000 ticks. -/
def State.ovrWindow (s : State) (e : Nat) : Nat :=
  ((s.tick.window.filter fun w => decide (s.k < w.1 + 4000) && w.2.1 == e).map (·.2.2)).sum

/-- The units of an engine. -/
def engineUnits (e : Nat) : List Nat :=
  if e < 4 then (List.range 12).map (· + 12 * e) else if e = 4 then [ledgerUnit, supUnit] else [posUnit, steerUnit]

/-- ENGINE_OVERRUN_FAULT (R50): TICK_ESC_WINDOW overruns within 4000 ticks. -/
def execEngineOverrunFault (eng : Fin 6) (s : State) : Host.Outcome State Fault Refusal :=
  let n := s.ovrWindow eng
  let f := s.get Obj.TICK_ENGINE_FAULT
  if s.running ∧ s.conf Obj.TICK_ESC_WINDOW ≤ n ∧ !bit f eng then
    let us := (engineUnits eng).filter fun u => decide (48 ≤ u) || s.unitOn u
    let s := us.foldl (fun s u => s.faultUnit u 2) s
    .next ((s.set Obj.TICK_ENGINE_FAULT (setBit f eng true)).event (eng + 1) 0x1002 (u8 eng ++ u16 n))
  else .next s

/-- SUPERVISOR_DEADLINE_FAULT (R50, R518): a reset of cause 04h; `offset` is where S last completed a step. -/
def execSupervisorDeadlineFault (offset : Nat) (s : State) : Host.Outcome State Fault Refusal :=
  if s.running then .next { s with start := { s.start with due := some ⟨4, offset, s.k⟩ } } else .next s

/-- A faulted engine restarts: its overrun counter and its fault bit are cleared; the next T4000/0 tick starts it (R51). -/
def State.restartEngine (s : State) (e : Nat) : State :=
  let s := (s.set Obj.TICK_ENGINE_FAULT (setBit (s.get Obj.TICK_ENGINE_FAULT) e false)).set (Obj.TICK_OVR e) 0
  { s with tick := { s.tick with
      window := s.tick.window.filter fun w => decide (w.2.1 ≠ e)
      restarting := if s.tick.restarting.contains e then s.tick.restarting else s.tick.restarting ++ [e]
      restartAt := Sparse.put (fun _ => 0) s.tick.restartAt e (s.k + 1) } }

/-- TICK_ENGINE_RESTART (R51, Table 5): refused for an engine that is not faulted. -/
def execTickEngineRestart (q : Req) (eng : Fin 6) (s : State) : Host.Outcome State Fault Refusal :=
  .next (s.serveSet q Obj.TICK_ENGINE_RESTART eng
    (fun s => { state := bit (s.get Obj.TICK_ENGINE_FAULT) eng }) fun s => s.restartEngine eng)

/-- The units of a restarted engine begin from their initial state (R51, R125, R177, R558). -/
def State.engineStart (s : State) (e : Nat) : State :=
  let us := engineUnits e
  let clear := fun (m : Sparse Nat) => us.foldl (fun m u => Sparse.put (fun _ => 0) m u 0) m
  let s := { s with tick := { s.tick with
    restarting := s.tick.restarting.filter (· ≠ e)
    restartAt := Sparse.put (fun _ => 0) s.tick.restartAt e 0
    faulted := s.tick.faulted.filter fun u => decide (u = ledgerUnit ∨ u ∉ us)
    consec := clear s.tick.consec } }
  if e < 4 then us.foldl (fun s n => s.setFl n { s.fl n with init := true }) s
  else if e = 4 then s.supInit
  else s.pathInit.posStart.steerStart

/-- ENGINE_RESTART_START (R51): at the next T4000/0 tick after the write. -/
def execEngineRestartStart (eng : Fin 6) (s : State) : Host.Outcome State Fault Refusal :=
  if s.running ∧ s.k % 4000 = 0 ∧ s.tick.restarting.contains eng.val ∧
      Sparse.find (fun _ => 0) s.tick.restartAt eng ≤ s.k then
    .next ((if eng.val = 4 then s.ledgerRestart else s).engineStart eng)
  else .next s

/-! Time states and steering (R54–R63) -/

/-- The slew rate for an error, ns/s (R60, R61). -/
def slewFor (e : Int) : Int :=
  if 10000 < e.natAbs then -(e.sign * 25000) else -(e.sign * (min 1000 (e.natAbs * 10) : Nat))

/-- HOLDOVER is entered (R55, R347). -/
def State.holdover (s : State) : State :=
  let t := { s.time with holdSince := s.k, holdValid := none, entry := s.time.err.natAbs, slewNext := 0, lockSince := none }
  { s with time := t }.setTimeState 4

/-- TIME_OFFSET_US of an error (R62), seen from the next tick on (R24). -/
def State.setOffset (s : State) (e : Int) : State :=
  s.write Obj.TIME_OFFSET_US (encInt 32 (satInt 32 (roundHalfAway (-(e : Rat) / 1000)))) true

/-- OFFSET is entered, and the offset reported from this epoch on (R62; DEDUCED, log entry 43). -/
def State.toOffset (s : State) : State :=
  ({ s with time := { s.time with slewNext := 0, lockSince := none } }.setTimeState 5).setOffset s.time.err

/-- TRACKING with a slew (R54, R60). -/
def State.track (s : State) (e : Int) : State :=
  let lock := if e.natAbs ≤ 100 then some (s.time.lockSince.getD s.k) else none
  { s with time := { s.time with slewNext := slewFor e, lockSince := lock } }.setTimeState 2

/-- The index of the tick that begins at the step: the whole multiple of 250 µs of GPS time that lies 250 µs to
500 µs after the start of this tick (R58). -/
def State.stepIndex (s : State) (e : Int) : Nat :=
  (-(((e - (s.k * 250000 : Nat)) : Int) / 250000) + 1).toNat

/-- What a valid time solution that is not excluded leaves behind, on a standby too: the measured error, in D0 with its tick,
and in HOLDOVER the run of valid solutions that ends it, which starts again where the solution before came no epoch earlier
(R54, R55, R63). -/
def State.measured (s : State) (e : Int) : State :=
  let since := if s.k ≤ s.time.lastSol + epochTicks s.gnss.rate then s.time.holdValid.getD s.k else s.k
  { s with time := { s.time with
    err := e, lastSol := s.k, d0Err := some (e.natAbs, s.k)
    holdValid := if s.get Obj.TIME_STATE = 4 then some since else s.time.holdValid } }

/-- A valid time solution that is not excluded (R54, R58, R60–R62). In HOLDOVER the module never steps, the step window
being open or not: R55 decides against R58 and the pseudocode there (DEDUCED, log entry 63). -/
def State.steer (s : State) (e : Int) : State :=
  let st := s.get Obj.TIME_STATE
  let s := s.measured e
  if st = 5 then s.setOffset e
  else if st = 4 then s
  else if s.time.window.isSome ∧ 1000 < e.natAbs then
    { s with time := { s.time with step := some (s.stepIndex e), slewNext := 0, lockSince := none } }
  else if s.time.window = none ∧ 10000000 < e.natAbs then s.toOffset
  else if st = 3 ∧ e.natAbs ≤ 1000 then { s with time := { s.time with slewNext := slewFor e } }
  else s.track e

/-- No solution, or an excluded one, which an acting module answers with HOLDOVER (R55, R63). -/
def State.unsteered (s : State) (excluded : Bool) : State :=
  let st := s.get Obj.TIME_STATE
  if st = 4 then { s with time := { s.time with holdValid := none } }
  else if (st = 2 ∨ st = 3) ∧ excluded = true ∧ s.acting then s.holdover
  else s

/-- A module that is not the active one steers no longer: no slew, no count toward LOCKED (R61, R63). -/
def State.unsteer (s : State) : State := { s with time := { s.time with slewNext := 0, lockSince := none } }

/-- A standby reports the active's time state (R63); its HOLDOVER counts from the tick in which it first reports it, with its
own measured error (DEDUCED, log entry 86: a mirror carries neither). -/
def State.followTimeState (s : State) (v : Nat) : State :=
  let s := if v = 4 ∧ s.get Obj.TIME_STATE ≠ 4 then
      { s with time := { s.time with holdSince := s.k, entry := s.time.err.natAbs, holdValid := none } }
    else s
  s.setTimeState v

/-- TIME_ERR_EST (Table 6, R347), FFFFFFFFh when unknown or too large. -/
def State.errEst (s : State) : Nat :=
  let sat := fun n : Nat => min n 0xFFFFFFFF
  match s.get Obj.TIME_STATE with
  | 0 => 0xFFFFFFFF
  | 1 => (match s.time.d0Err with
    | some (e, t) => sat (e + (s.k - t) * 5)
    | none => 0xFFFFFFFF)
  | 4 =>
    let t := s.k - s.time.holdSince
    sat (s.time.entry + (if t ≤ 600 * 4000 then 1500 else if t ≤ 3600 * 4000 then 20000 else 20000 * t / (3600 * 4000)))
  | _ => sat s.time.err.natAbs

/-- TIME_STEERING_RUN (R61): at an epoch, after the position solution; a standby's measures and does not act (R63). -/
def execTimeSteeringRun (s : State) : Host.Outcome State Fault Refusal :=
  if s.steerDue ∧ !s.posDue then
    let excluded := s.get Obj.INT_STATE == 2
    let t := match s.gnss.timeSol with
      | some (e, at_) =>
        if at_ = s.k ∧ excluded = false then (if s.acting then s.steer e else s.measured e)
        else s.unsteered excluded
      | none => s.unsteered excluded
    .next ((t.write Obj.TIME_ERR_EST t.errEst true).ranUnit steerUnit)
  else .next s

/-- LOCK_COUNT_COMPLETE (R54): 40000 ticks in TRACKING at 100 ns or less. -/
def execLockCountComplete (s : State) : Host.Outcome State Fault Refusal :=
  match s.time.lockSince with
  | some t =>
    if s.running ∧ s.acting ∧ s.get Obj.TIME_STATE = 2 ∧ t + 40000 ≤ s.k then .next (s.setTimeState 3) else .next s
  | none => .next s

/-- HOLDOVER_TIMEOUT (R55): no valid time solution for 4000 ticks, or the solution excluded. -/
def execHoldoverTimeout (s : State) : Host.Outcome State Fault Refusal :=
  let st := s.get Obj.TIME_STATE
  if s.running ∧ s.acting ∧ (st = 2 ∨ st = 3) ∧ (s.time.lastSol + 4000 ≤ s.k ∨ s.get Obj.INT_STATE = 2) then
    .next s.holdover
  else .next s

/-- HOLDOVER_END (R55): valid solutions at every epoch of 4000 ticks, the latest of them no epoch ago. -/
def execHoldoverEnd (s : State) : Host.Outcome State Fault Refusal :=
  match s.time.holdValid with
  | some t =>
    if s.running ∧ s.acting ∧ s.get Obj.TIME_STATE = 4 ∧ t + 4000 ≤ s.k ∧ s.k ≤ s.time.lastSol + epochTicks s.gnss.rate then
      .next (if 10000000 < s.time.err.natAbs then s.toOffset else s.track s.time.err)
    else .next s
  | none => .next s

/-- STEP_WINDOW_CLOSE (R56): this is the last of the TIME_STEP_WINDOW ticks of the window. -/
def execStepWindowClose (s : State) : Host.Outcome State Fault Refusal :=
  match s.time.window with
  | some t => if s.running ∧ t + s.conf Obj.TIME_STEP_WINDOW ≤ s.k + 1 then .next s.closeWindow else .next s
  | none => .next s

/-- clockClass by the time state (Table 9). -/
def clockClass (st : Nat) : Nat := if st = 3 then 6 else if st = 2 ∨ st = 4 then 7 else 248

/-- The time objects at the start of a tick (R54, R61, Tables 8 and 10). The keep-alive counter becomes valid in
TRACKING or LOCKED. -/
def State.timeTick (s : State) : State :=
  let st := s.get Obj.TIME_STATE
  let s := { s with time := { s.time with d0Valid := s.time.d0Valid || st == 2 || st == 3 } }
  s.setAll [(Obj.TIME_SLEW, if st = 4 ∨ st = 5 then 0 else encInt 16 s.time.slewNext), (Obj.TIME_ERR_EST, s.errEst),
    (Obj.TIME_HOLDOVER_S, if st = 4 then (s.k - s.time.holdSince) / 4000 else 0),
    (Obj.TIME_OFFSET_US, if st = 5 then s.get Obj.TIME_OFFSET_US else 0),
    (Obj.GPTP_CLOCK_CLASS, clockClass st),
    (Obj.GPTP_UTC_OFFSET, encInt 16 (match s.time.utc with | some u => u + 19 | none => 37))]

/-! The grandmaster (R65–R70) -/

/-- A port sends: enabled in the settings in force, its link up, the module acting. -/
def State.gptpSends (s : State) (p : Nat) : Bool :=
  s.running && s.acting && bit s.gptp.ports p && s.portUp p

/-- A port that a write disables stops sending at once; it sends again from the T4000/0 tick that enables it (R70). -/
def State.gptpPortsWritten (s : State) (v : Nat) : State :=
  { s with gptp := { s.gptp with ports := s.gptp.ports &&& v } }

/-- Ticks of an interval of 2^log s. -/
def logTicks (log : Int) : Nat := if 0 ≤ log then 4000 * 2 ^ log.toNat else 4000 / 2 ^ (-log).toNat

/-- An interval since the latest message, held as its tick plus one, is over. -/
def intervalOver (last : Sparse Nat) (p k : Nat) (log : Int) : Bool :=
  let t := Sparse.find (fun _ => 0) last p
  t == 0 || decide (t - 1 + logTicks log ≤ k)

/-- A time in ns as the timestamp unit gives it, in whole steps of 8 ns, rounded down (R68; DESIGN CHOICE, log
entry 64). -/
def stamp8 (ns : Nat) : Nat := ns / 8 * 8

/-- The E0 address that the clockIdentity derives from: that of the module with PAIR-ID 0 (R432). -/
def State.clockMac (s : State) : Nat :=
  let own := s.get (Obj.ETH_MAC 0)
  if s.pair.inForce ∧ s.get Obj.PAIR_ID = 1 then s.gptp.clock.getD own else own

/-- GPTP_SYNC (R66, R68): a two-step Sync; `sub` is the ns of its start within the tick. -/
def execGptpSync (port : Fin 3) (sub : Nat) (s : State) : Host.Outcome State Fault Refusal :=
  let g := s.gptp
  if s.gptpSends port ∧ intervalOver g.lastSync port s.k g.syncLog then
    let seq := Sparse.find (fun _ => 0) g.seqSync port
    let s := s.send (.gptpSync s.clockMac port g.domain g.syncLog seq (stamp8 (s.k * 250000 + sub) + 315964819 * 10 ^ 9))
    .next { s with gptp := { g with
      lastSync := Sparse.put (fun _ => 0) g.lastSync port (s.k + 1)
      seqSync := Sparse.put (fun _ => 0) g.seqSync port ((seq + 1) % 65536) } }
  else .next s

/-- clockAccuracy: the smallest IEEE 1588 value whose range includes an error in ns (R67; log entry 29). -/
def clockAccuracy (ns : Nat) : Nat :=
  if ns = 0xFFFFFFFF then 0xFE
  else (([(0, 0x17), (1, 0x1D), (2, 0x1E), (10, 0x1F), (25, 0x20), (100, 0x21), (250, 0x22), (1000, 0x23), (2500, 0x24),
    (10000, 0x25), (25000, 0x26), (100000, 0x27), (250000, 0x28), (1000000, 0x29), (2500000, 0x2A), (10000000, 0x2B),
    (25000000, 0x2C), (100000000, 0x2D), (250000000, 0x2E), (1000000000, 0x2F)] : List (Nat × Nat)).find?
      fun p => decide (ns ≤ p.1)).elim 0x30 (·.2)

/-- GPTP_ANNOUNCE (R66, R67). -/
def execGptpAnnounce (port : Fin 3) (s : State) : Host.Outcome State Fault Refusal :=
  let g := s.gptp
  if s.gptpSends port ∧ intervalOver g.lastAnnounce port s.k g.announceLog then
    let seq := Sparse.find (fun _ => 0) g.seqAnnounce port
    let cls := clockClass (s.get Obj.TIME_STATE)
    let utc := decInt 16 (s.get Obj.GPTP_UTC_OFFSET)
    let s := s.send (.gptpAnnounce s.clockMac port g.domain g.announceLog seq g.priority1 cls
      (clockAccuracy (s.get Obj.TIME_ERR_EST)) (cls != 248) utc s.time.utc.isSome true 0x20)
    .next { s with gptp := { g with
      lastAnnounce := Sparse.put (fun _ => 0) g.lastAnnounce port (s.k + 1)
      seqAnnounce := Sparse.put (fun _ => 0) g.seqAnnounce port ((seq + 1) % 65536) } }
  else .next s

/-- GPTP_FOREIGN_RX (R65). -/
def execGptpForeignRx (port : Fin 3) (s : State) : Host.Outcome State Fault Refusal :=
  if s.running ∧ s.portUp port ∧ bit s.gptp.ports port then .next s.gptpForeign else .next s

/-- The grandmaster's settings taken into force, as they stood at the start of the tick (R75); a port that a write of
this tick has disabled stays so (R70). -/
def State.gptpApply (s : State) : State :=
  { s with gptp := { s.gptp with
      ports := s.conf Obj.GPTP_PORTS &&& s.get Obj.GPTP_PORTS, domain := s.conf Obj.GPTP_DOMAIN
      syncLog := decInt 16 (s.conf Obj.GPTP_SYNC_LOG), announceLog := decInt 16 (s.conf Obj.GPTP_ANNOUNCE_LOG)
      priority1 := s.conf Obj.GPTP_PRIORITY1 } }

/-- GPTP_CONFIG_APPLY (R70): at a T4000/0 tick. -/
def execGptpConfigApply (s : State) : Host.Outcome State Fault Refusal :=
  if s.running ∧ s.k % 4000 = 0 then .next s.gptpApply else .next s

end Sys2Proof.Machine
end

