-- ==== Sys2Proof/Machine/Sensing.lean ====
section
/-! DEFINITION. Loss-sensor inputs, universal inputs, sensor supplies and external values (R218–R244). -/

namespace Sys2Proof.Machine

/-- A loss-sensor input. -/
def State.ls (s : State) (n : Nat) : LsSt := Sparse.find (fun _ => ({} : LsSt)) s.sense.ls n
/-- A loss-sensor input changed. -/
def State.setLs (s : State) (n : Nat) (x : LsSt) : State :=
  { s with sense := { s.sense with ls := Sparse.put (fun _ => ({} : LsSt)) s.sense.ls n x } }
/-- A universal input. -/
def State.ui (s : State) (n : Nat) : UiSt := Sparse.find (fun _ => ({} : UiSt)) s.sense.ui n
/-- A universal input changed. -/
def State.setUi (s : State) (n : Nat) (x : UiSt) : State :=
  { s with sense := { s.sense with ui := Sparse.put (fun _ => ({} : UiSt)) s.sense.ui n x } }
/-- A sensor supply. -/
def State.ss (s : State) (n : Nat) : SsSt := Sparse.find (fun _ => ({} : SsSt)) s.sense.ss n
/-- A sensor supply changed. -/
def State.setSs (s : State) (n : Nat) (x : SsSt) : State :=
  { s with sense := { s.sense with ss := Sparse.put (fun _ => ({} : SsSt)) s.sense.ss n x } }

/-- S holds its on-vote for D13 while any input or supply is enabled (R220). -/
def State.senseWants (s : State) : Bool :=
  (List.range 16).any (fun n => s.flag (Obj.LS_ENABLE n)) || (List.range 48).any (fun n => s.flag (Obj.UI_MODE n)) ||
    (List.range 4).any fun n => s.flag (Obj.SS_ENABLE n)

/-! Impacts (R222–R225) -/

/-- The detector of an input works. -/
def State.lsOn (s : State) (n : Nat) : Bool := s.running && s.domOn 13 && s.confFlag (Obj.LS_ENABLE n)

/-- The first sample of a tick, µs after its start (R222). -/
def State.firstSample (s : State) : Nat := if s.k % 2 = 0 then 0 else 2

/-- The number of samples in a tick (R222). -/
def State.sampleCount (s : State) : Nat := if s.k % 2 = 0 then 63 else 62

/-- The samples of a tick up to the one at an offset, µs; none where none falls there (R222). -/
def State.samplesTo (s : State) (us : Nat) : Option Nat :=
  if us < 250 ∧ us % 4 = s.firstSample then some (us / 4 + 1) else none

/-- A second-order section: b0, b1, b2, a1, a2 in binary64. -/
structure Biquad where
  b0 : Nat
  b1 : Nat
  b2 : Nat
  a1 : Nat
  a2 : Nat
  deriving DecidableEq, Repr

/-- One step of a section on its two states, in binary64, transposed direct form II (DESIGN CHOICE, log entry 76). -/
def Biquad.step (c : Biquad) (st : Nat × Nat) (x : Nat) : Nat × Nat × Nat :=
  let y := f64add (f64mul c.b0 x) st.1
  (y, f64add (f64sub (f64mul c.b1 x) (f64mul c.a1 y)) st.2, f64sub (f64mul c.b2 x) (f64mul c.a2 y))

/-- A second-order Butterworth section at a corner, by bilinear transform at 250 kHz with the corner kept, high-pass or
low-pass (R223; DESIGN CHOICE, log entry 76). -/
def butterworth (high : Bool) (corner : Nat) : Biquad :=
  let one := ratF64 1
  let two := ratF64 2
  let w := f64tan (f64div (f64mul 0x400921FB54442D18 (f64of32 corner)) (ratF64 250000))
  let ww := f64mul w w
  let rw := f64mul (f64sqrt two) w
  let a0 := f64add (f64add one rw) ww
  let b := if high then f64div one a0 else f64div ww a0
  let b2 := f64mul two b
  { b0 := b, b1 := if high then f64sub 0 b2 else b2, b2 := b
    a1 := f64div (f64mul two (f64sub ww one)) a0
    a2 := f64div (f64add (f64sub one rw) ww) a0 }

/-- A detector's settings in force. -/
structure LsCfg where
  hp : Biquad
  lp : Biquad
  /-- exp(−4 / LS_DECAY), binary64. -/
  decay : Nat
  thresh : Rat
  release : Rat
  dead : Nat
  maxLen : Nat
  base : Rat
  deriving DecidableEq, Repr

/-- The settings in force in this tick. -/
def State.lsCfg (s : State) (n : Nat) : LsCfg :=
  let thresh : Rat := s.conf (Obj.LS_THRESH n)
  { hp := butterworth true (s.conf (Obj.LS_F_LOW n)), lp := butterworth false (s.conf (Obj.LS_F_HIGH n))
    decay := f64exp (f64div (ratF64 (-4)) (ratF64 (s.conf (Obj.LS_DECAY n))))
    thresh := thresh, release := thresh * s.confRat (Obj.LS_RELEASE n)
    dead := s.conf (Obj.LS_DEADTIME n), maxLen := s.conf (Obj.LS_MAX_LEN n), base := s.confRat (Obj.LS_HIST_BASE n) }

/-- What a sample does: nothing, it starts an impact, it ends one, or it ends one by LS_MAX_LEN. -/
inductive LsEvent where
  | none_
  | started
  | ended
  | forced
  deriving DecidableEq, Repr

/-- The histogram bin of an energy (R224). -/
def histBin (base e : Rat) : Nat :=
  if e < base then 0 else ((List.range 14).find? fun b => decide (e < base * 2 ^ (b + 1))).elim 15 (· + 1)

/-- An impact ends with its sample at an instant: counted, with its whole energy, in the window under way (R224). -/
def LsSt.endImpact (x : LsSt) (c : LsCfg) (t : Nat) (i : Impact) (forced : Bool) : LsSt :=
  { x with
    impact := none
    last := some t
    count := x.count + 1
    energy := x.energy + i.energy
    peak := max x.peak i.peak
    hist := mapAt x.hist (histBin c.base i.energy) fun n => min 255 (n + 1)
    forced := x.forced || forced }

/-- The detector on one sample at an instant, µs (R223): filters, envelope, then the start or the end of an impact. -/
def LsSt.sample (x : LsSt) (c : LsCfg) (t : Nat) (v : Int) : LsSt × LsEvent :=
  let h := c.hp.step x.hp (ratF64 v)
  let l := c.lp.step x.lp h.1
  let bp := f64rat l.1
  let held := f64mul x.env c.decay
  let env := if f64rat x.env < |bp| then ratF64 |bp| else held
  let x := { x with
    got := x.got + 1, hp := h.2, lp := l.2, env := env, full := x.full || v == 32767 || v == -32768 }
  let e := f64rat env
  match x.impact with
  | none =>
    if (x.last.all fun u => decide (u + c.dead ≤ t)) ∧ c.thresh ≤ e then ({ x with impact := some ⟨t, bp * bp / 1048576, |bp|⟩ }, .started) else (x, .none_)
  | some i =>
    let i := { i with energy := i.energy + bp * bp / 1048576, peak := max i.peak |bp| }
    if e < c.release then (x.endImpact c t i false, .ended)
    else if i.start + c.maxLen ≤ t then (x.endImpact c t i true, .forced)
    else ({ x with impact := some i }, .none_)

/-- The detector on consecutive samples of a tick whose first sample stands at `t0` µs: the state after them and what each
did. -/
def LsSt.samples (c : LsCfg) (t0 : Nat) : LsSt → List Int → LsSt × List LsEvent
  | x, [] => (x, [])
  | x, v :: vs =>
    let r := x.sample c (t0 + 4 * x.got) v
    let rest := LsSt.samples c t0 r.1 vs
    (rest.1, r.2 :: rest.2)

/-- The detector run on the next samples of this tick. -/
def State.lsRun (s : State) (n : Nat) (vs : List Int) : LsSt × List LsEvent :=
  LsSt.samples (s.lsCfg n) (250 * s.k + s.firstSample) (s.ls n) vs

/-- What a run of the detector leaves: the input's state, LS_TOTAL and LS_FORCED. -/
def State.lsTake (s : State) (n : Nat) (r : LsSt × List LsEvent) : State :=
  let forced := (r.2.filter (· == .forced)).length
  let s := (s.setLs n r.1).count (Obj.LS_TOTAL n) ((r.2.filter (· == .ended)).length + forced)
  s.count (Obj.LS_FORCED n) forced

/-- The samples bring the input from the last one taken to the one at `us`, and only the last of them does something:
`e`. -/
def State.lsReaches (s : State) (n us : Nat) (vs : List Int) (e : LsEvent) : Bool :=
  s.lsOn n && (s.ls n).on && (s.ls n).restart.all (fun t => decide (s.k ≤ t)) &&
    s.samplesTo us == some ((s.ls n).got + vs.length) &&
    (s.lsRun n vs).2 == List.replicate (vs.length - 1) .none_ ++ [e]

/-- IMPACT_START (R223): at the sample at `us` the envelope reaches LS_THRESH outside an impact and outside dead time;
`last` is its ADC count, `samples` those of the tick's samples before it that are not taken yet. -/
def execImpactStart (n : Fin 16) (us : Nat) (samples : List Int) (last : Int) (s : State) : Host.Outcome State Fault Refusal :=
  if s.lsReaches n us (samples ++ [last]) .started then .next (s.lsTake n (s.lsRun n (samples ++ [last]))) else .next s

/-- IMPACT_END (R223): at the sample at `us` the envelope has fallen below LS_THRESH × LS_RELEASE. -/
def execImpactEnd (n : Fin 16) (us : Nat) (samples : List Int) (last : Int) (s : State) : Host.Outcome State Fault Refusal :=
  if s.lsReaches n us (samples ++ [last]) .ended then .next (s.lsTake n (s.lsRun n (samples ++ [last]))) else .next s

/-- IMPACT_MAX_LEN (R223): at the sample at `us`, the last of `samples`, the impact's length has reached LS_MAX_LEN. -/
def execImpactMaxLen (n : Fin 16) (us : Nat) (samples : List Int) (s : State) : Host.Outcome State Fault Refusal :=
  if s.lsReaches n us samples .forced then .next (s.lsTake n (s.lsRun n samples)) else .next s

/-- The detector begins anew: filter states and envelope cleared, an impact in progress discarded (R225). -/
def State.lsRestart (s : State) (n : Nat) : State :=
  let x := s.ls n
  let s := if x.impact.isSome then s.count (Obj.LS_DISCARDED n) 1 else s
  s.setLs n { x with hp := (0, 0), lp := (0, 0), env := 0, impact := none, restart := none, restarted := true }

/-- A restart whose boundary has passed is carried out, once. -/
def State.lsRestartDue (s : State) (n : Nat) : State :=
  match (s.ls n).restart with
  | some t => if t < s.k then s.lsRestart n else s
  | none => s

/-- LS_DETECTOR_RESTART (R225): after the boundary at which a change of filter, gain or decay takes effect. -/
def execLsDetectorRestart (n : Fin 16) (s : State) : Host.Outcome State Fault Refusal :=
  if s.running then .next (s.lsRestartDue n) else .next s

/-- The tick ends for an input: a restart that has come due, and the samples that no command has brought (R222, R225). -/
def State.lsFinish (s : State) (inp : List LsSample) (n : Nat) : State :=
  if s.lsOn n ∧ (s.ls n).on then
    let s := s.lsRestartDue n
    let rest := match inp.find? fun x => x.n == n with
      | some a => a.samples.take (s.sampleCount - (s.ls n).got)
      | none => []
    let s := s.lsTake n (s.lsRun n rest)
    s.setLs n { s.ls n with got := 0 }
  else s

/-- A capture was late in this tick; TICK_CAPTURE_LATE counts the tick once (R50, Table 5). -/
def State.lateTick (s : State) : State :=
  if s.tick.late || !s.running then s else { s.count Obj.TICK_CAPTURE_LATE 1 with tick := { s.tick with late := true } }

/-- A loss-sensor entry whose capture is late: bit 5, its values and stamp kept (R219, R227). -/
def State.lsLate (s : State) (n : Nat) : State :=
  (s.lateTick.set (Obj.LS_STATUS n) (setBit (s.get (Obj.LS_STATUS n)) 5 true)).clearInput (Obj.LS_COUNT n)

/-- The entry of a loss-sensor input (R218, R226, R227); an input whose window is missing is late. The window's impacts end
with it. Bit 4 stands in the entry of the first window that the restarted detector saw, one tick after the boundary of the
restart (R225; DESIGN CHOICE, log entry 102). -/
def State.lsCapture (s : State) (inp : List LsSample) (n : Nat) : State :=
  if s.domOn 13 ∧ s.confFlag (Obj.LS_ENABLE n) then
    let x := s.ls n
    let next : LsSt := if x.on then { x with
        count := 0, energy := 0, peak := 0, hist := List.replicate 16 0, forced := false, full := false, restarted := false }
      else { ({} : LsSt) with on := true }
    match inp.find? fun x => x.n == n with
    | none => (s.lsLate n).setLs n next
    | some a =>
      let excite := s.confFlag (Obj.LS_EXCITE n)
      let dc := f32rat a.dc
      let open_ := excite && decide (20 < dc)
      let short := excite && decide (dc < 1)
      let st := boolNat x.full + 2 * boolNat x.forced + 4 * boolNat open_ + 8 * boolNat short + 16 * boolNat x.restarted
      let ok := !open_ && !short
      let s := s.setBlob (Obj.LS_HIST n) (x.hist.map fun c => BitVec.ofNat 8 c)
      let s := s.set (Obj.LS_DC_V n) (if excite then a.dc else 0)
      let s := [(Obj.LS_COUNT n, x.count), (Obj.LS_ENERGY n, ratF32 x.energy), (Obj.LS_PEAK n, (roundHalfAway x.peak).toNat),
        (Obj.LS_STATUS n, st)].foldl (fun s p => s.capture p.1 p.2 ok) s
      s.setLs n next
  else
    let s := if (s.ls n).on then s.setLs n {} else s
    if (s.entry (Obj.LS_COUNT n)).valid then s.clearInput (Obj.LS_COUNT n) else s

/-! Universal inputs (R228–R237) -/

/-- The nominal voltage of a supply, F32. -/
def State.ssNominal (s : State) (n : Nat) : Nat := if s.conf (Obj.SS_VOLTAGE n) = 1 then 0x41200000 else 0x40A00000

/-- A supply serves its dependents: on, within 5 % of nominal, not settling (R236, R239). -/
def State.ssOk (s : State) (n : Nat) : Bool :=
  let nom := f32rat (s.ssNominal n)
  let v := f32rat (s.get (Obj.SS_V_NOW n))
  s.get (Obj.SS_STATE n) == 1 && decide (|v - nom| ≤ nom / 20) &&
    (match (s.ss n).settle with | some t => decide (t + 16 ≤ s.k) | none => true)

/-- The input is in a mode that its raw sample serves. -/
def State.uiOn (s : State) (n : Nat) : Bool := s.domOn 13 && s.conf (Obj.UI_MODE n) != 0

/-- The bits of Table 6 that invalidate. -/
def uiInvalid : Nat := 0xF7F
/-- The bits that make the raw value invalid: those but 0 and 1 (R230). -/
def uiRawInvalid : Nat := 0xF7C

/-- The status bits that do not depend on the value: shunt, supply, settling, odd input taken. -/
def State.uiBits (s : State) (n : Nat) : Nat :=
  let x := s.ui n
  let sup := s.conf (Obj.UI_SUPPLY n)
  8 * boolNat x.shunt.isSome + 16 * boolNat (decide (sup < 4) && !s.ssOk sup) +
    32 * boolNat (match x.settle with | some t => decide (s.k < t + 16) | none => false) +
    1024 * boolNat (s.conf (Obj.UI_MODE n) == 7 && n % 2 == 1)

/-- The mean of a window's samples, F32 (R228). -/
def meanOf (l : List Nat) : Nat := ratF32 ((l.map f32rat).sum / (l.length : Rat))

/-- The raw engineering value of an analogue mode, with its bits (R230, R232). -/
def State.uiAnalogue (s : State) (n : Nat) (a : UiSample) : Nat × Nat :=
  let m := (s.ui n).mode
  let sup := s.conf (Obj.UI_SUPPLY n)
  let mean := meanOf a.samples
  let x := if s.confFlag (Obj.UI_RATIO n) ∧ m ≤ 2 ∧ sup < 4 then
      f32div (f32mul mean (s.ssNominal sup)) (s.get (Obj.SS_V_NOW sup))
    else mean
  let v := f32rat x
  let b := if m = 3 then 4 * boolNat (decide (v < 18 / 5)) + 2 * boolNat (decide (21 < v))
    else if m = 4 then 4 * boolNat (decide (12000 < v)) else 0
  (x, b + 512 * boolNat a.full)

/-- Pulses shorter than 4 µs are ignored: a level that has stood for 4 µs at an instant is taken, with the instant at which
it began, in whole steps of 10 ns (R228; DEDUCED, log entry 77). -/
def CmpSt.settle (c : CmpSt) (t : Nat) : CmpSt × List (Nat × Bool) :=
  match c.level with
  | none => ({ c with level := some c.out }, [])
  | some l =>
    if l ≠ c.out ∧ c.since + 4000 ≤ t then ({ c with level := some c.out }, [(c.since / 10 * 10, c.out)]) else (c, [])

/-- The comparator at a point of the input's voltage, with 10 % hysteresis centred on the threshold (R228). -/
def CmpSt.point (c : CmpSt) (thr : Rat) (t v : Nat) : CmpSt × List (Nat × Bool) :=
  let r := if c.level.isSome then c.settle t else (c, [])
  let v := f32rat v
  let out := if 105 / 100 * thr < v then true else if v < 95 / 100 * thr then false else r.1.out
  let c := if out = r.1.out then r.1 else { r.1 with out := out, since := t }
  (if c.level.isNone then (c.settle t).1 else c, r.2)

/-- The comparator over a window: the points of the voltage, each with its ns of module time, then the window's end. -/
def CmpSt.window (c : CmpSt) (thr : Rat) (tEnd : Nat) : List (Nat × Nat) → CmpSt × List (Nat × Bool)
  | [] => c.settle tEnd
  | p :: ps =>
    let r := c.point thr p.1 p.2
    let rest := r.1.window thr tEnd ps
    (rest.1, r.2 ++ rest.2)

/-- The level with which a window begins; before the first, that of its first point (DEDUCED, log entry 77). -/
def CmpSt.begins (c : CmpSt) (thr : Rat) (l : List (Nat × Nat)) : Bool :=
  (c.level.orElse fun _ => l.head?.bind fun p => (c.point thr p.1 p.2).1.level).getD false

/-- The points of an input's voltage in the window of the entry, each with its ns of module time. -/
def State.uiWave (s : State) (a : UiSample) : List (Nat × Nat) := a.wave.map fun p => ((s.k - 1) * 250000 + p.1, p.2)

/-- An input's comparator over the window of the entry, at the threshold that was in force in it, and its edges (R221). -/
def State.uiEdges (s : State) (n : Nat) (a : UiSample) : CmpSt × List (Nat × Bool) :=
  (s.ui n).cmp.window (f32rat (s.ui n).thresh) (s.k * 250000) (s.uiWave a)

/-- The instants of rising edges. -/
def rising (l : List (Nat × Bool)) : List Nat := (l.filter (·.2)).map (·.1)

/-- The frequency of two instants, ns. -/
def freqOf (n t1 t0 : Nat) : Rat := if t0 < t1 then (n : Rat) * 1000000000 / ((t1 - t0 : Nat) : Rat) else 0

/-- The frequency of the entry with its bits, and the edge memory after it (R234). -/
def State.uiFrequency (s : State) (n : Nat) (new : List Nat) : Nat × Nat × UiSt :=
  let x := s.ui n
  let tk := s.k * 250000
  let within := fun w : Nat => fun t : Nat => decide ((s.k - w) * 250000 ≤ t)
  let all := (x.edges ++ new).filter (within 4000)
  let g := all.filter (within (s.conf (Obj.UI_GATE n)))
  let (e1, e2) := new.foldl (fun (p : Option Nat × Option Nat) t => (some t, p.1)) (x.e1, x.e2)
  let x := { x with edges := all, e1 := e1, e2 := e2 }
  let f : Rat :=
    if 2 ≤ g.length then freqOf (g.length - 1) (g.getLastD 0) (g.headD 0)
    else match e1, e2 with | some p, some q => freqOf 1 p q | _, _ => 0
  let f : Rat := match e1 with
    | some p => if p < tk then min f (freqOf 1 tk p) else f
    | none => f
  let still := match e1 with
    | some p => decide (s.conf (Obj.UI_ZERO_TIME n) * 250000 < tk - p)
    | none => true
  let f := if still then 0 else f
  (ratF32 f, 128 * boolNat still + 64 * boolNat (decide (22000 < f)), x)

/-! Quadrature (R235) -/

/-- What the decoder keeps while it goes through the edges of a window: the levels of A and B, the latest edge, the net
count and whether a step was illegal. -/
structure QuadSt where
  a : Bool
  b : Bool
  turn : Option (Nat × Bool × Int)
  net : Int := 0
  illegal : Bool := false
  deriving DecidableEq, Repr

/-- One edge: the instant, the line (true B), its new level. A leads B counts up; both lines within 1 µs is no step. -/
def QuadSt.edge (q : QuadSt) (e : Nat × Bool × Bool) : QuadSt :=
  let a := if e.2.1 then q.a else e.2.2
  let b := if e.2.1 then e.2.2 else q.b
  let d : Int := if (a == b) == e.2.1 then 1 else -1
  match q.turn with
  | some (t, line, d') =>
    if line ≠ e.2.1 ∧ e.1 ≤ t + 1000 then { a := a, b := b, turn := none, net := q.net - d', illegal := true }
    else { q with a := a, b := b, turn := some (e.1, e.2.1, d), net := q.net + d }
  | none => { q with a := a, b := b, turn := some (e.1, e.2.1, d), net := q.net + d }

/-- The edges of both lines in the order of their instants, those of A first at one instant. -/
def mergeEdges : List (Nat × Bool) → List (Nat × Bool) → List (Nat × Bool × Bool)
  | [], bs => bs.map fun p => (p.1, true, p.2)
  | a :: as, bs =>
    ((bs.filter fun p => decide (p.1 < a.1)).map fun p => (p.1, true, p.2)) ++
      (a.1, false, a.2) :: mergeEdges as (bs.filter fun p => decide (a.1 ≤ p.1))

/-- The filter of a tick: its state after, and the value shown (R230, R231). -/
def uiFilter (tau : Nat) (y : Option Nat) (x : Nat) (ok : Bool) : Option Nat × Nat :=
  if ok then
    let y' := match y with
      | none => x
      | some y => f32add y (f32div (f32sub x y) (ratF32 (tau + 1 : Nat)))
    (some y', y')
  else (none, x)

/-- UI_ENG and the status written with the validity they give (R219, R231). -/
def State.uiWrite (s : State) (n eng st : Nat) : State :=
  let lo := f32lt eng (s.conf (Obj.UI_VALID_MIN n))
  let hi := f32lt (s.conf (Obj.UI_VALID_MAX n)) eng
  let st := st ||| boolNat lo ||| (2 * boolNat hi)
  let ok := st &&& uiInvalid == 0
  let v := f32add (f32mul eng (s.conf (Obj.UI_SCALE n))) (s.conf (Obj.UI_OFFSET n))
  ((s.capture (Obj.UI_ENG n) eng ok).capture (Obj.UI_VALUE n) v ok).capture (Obj.UI_STATUS n) st ok

/-- UI_BAD_TICKS counts the window when its entry is invalid (Table 5). -/
def State.uiCountBad (s : State) (n : Nat) : State :=
  if (s.entry (Obj.UI_ENG n)).valid then s else s.count (Obj.UI_BAD_TICKS n) 1

/-- The entry of this tick written again: its window counts once. -/
def State.uiRewrite (s : State) (n eng st : Nat) : State :=
  let s := if (s.entry (Obj.UI_ENG n)).valid then s else s.set (Obj.UI_BAD_TICKS n) (s.get (Obj.UI_BAD_TICKS n) - 1)
  (s.uiWrite n eng st).uiCountBad n

/-- An entry whose capture is late: bit 11, values and stamp kept, the window counted, the filter to be seeded anew, and the
level too where this entry was to take it at once (R219, R230, R233, Table 5). -/
def State.uiLate (s : State) (n : Nat) : State :=
  let x := s.ui n
  let t := (s.lateTick.set (Obj.UI_STATUS n) (setBit (s.get (Obj.UI_STATUS n)) 11 true)).clearInput (Obj.UI_ENG n)
  (t.setUi n { x with y := none, seeded := if x.seeded = some s.k then none else x.seeded }).uiCountBad n

/-- A quadrature window that has not come: no count is known of it, and a position set for its end stands (R235). -/
def State.uiQuadMissing (s : State) (n : Nat) : State :=
  let x := s.ui n
  if x.mode = 7 ∧ n % 2 = 0 then
    s.setUi n { x with
      counts := (0 :: x.counts).take 4000, turn := none
      total := (x.setTo.map (encInt 32)).getD x.total, setTo := none }
  else s

/-- The tick at whose boundary a restart takes effect, when that has come (R221, R229). -/
def State.uiRestartAt (s : State) (n : Nat) : Option Nat :=
  match (s.ui n).restart with
  | some t => if t < s.k then some (t + 1) else none
  | none => none

/-- An input without the state of comparator, filter and decoder (R220, R229). -/
def UiSt.fresh (x : UiSt) : UiSt := { restart := x.restart, settle := x.settle, total := x.total, setTo := x.setTo }

/-- An analogue window (R228, R230, R232). -/
def State.uiAnalogueIn (s : State) (n : Nat) (a : UiSample) : State :=
  let (x, b) := s.uiAnalogue n a
  let st := s.uiBits n ||| b
  let u := s.ui n
  let (y, eng) := uiFilter (s.conf (Obj.UI_FILTER n)) u.y x (st &&& uiRawInvalid == 0)
  let over_ := u.mode == 3 && decide (25 < f32rat x)
  (s.setUi n { u with y := y, raw := x, overC := if over_ then u.overC + 1 else 0 }).uiWrite n eng st

/-- A digital window (R233). -/
def State.uiDigitalIn (s : State) (n : Nat) (a : UiSample) : State :=
  let r := s.uiEdges n a
  let level := r.1.level.getD false
  let u := s.ui n
  let now := s.get (Obj.UI_ENG n) != 0
  let total := (u.total + (rising r.2).length) % 2 ^ 32
  let u := { u with
    cmp := r.1, total := total, level := level, seeded := some (u.seeded.getD s.k)
    diff := if u.seeded.isSome ∧ level ≠ now then u.diff + 1 else 0 }
  let eng := if (s.ui n).seeded.isSome then now else level
  ((s.setUi n u).set (Obj.UI_COUNT n) total).uiWrite n (if eng then 0x3F800000 else 0) (s.uiBits n)

/-- A frequency window (R234). -/
def State.uiFrequencyIn (s : State) (n : Nat) (a : UiSample) : State :=
  let r := s.uiEdges n a
  let (f, b, u) := s.uiFrequency n (rising r.2)
  let st := s.uiBits n ||| b
  let (y, eng) := uiFilter (s.conf (Obj.UI_FILTER n)) u.y f (st &&& uiRawInvalid == 0)
  (s.setUi n { u with cmp := r.1, y := y, raw := f }).uiWrite n eng st

/-- A quadrature window of the even input n, A, with the odd input's as B (R235). -/
def State.uiQuadIn (s : State) (n : Nat) (a b : UiSample) : State :=
  let ra := s.uiEdges n a
  let rb := s.uiEdges (n + 1) b
  let u := s.ui n
  let v := s.ui (n + 1)
  let q := (mergeEdges ra.2 rb.2).foldl QuadSt.edge
    { a := u.cmp.begins (f32rat u.thresh) (s.uiWave a), b := v.cmp.begins (f32rat v.thresh) (s.uiWave b), turn := u.turn }
  let gate := s.conf (Obj.UI_GATE n)
  let counts := (q.net :: u.counts).take 4000
  let pos := u.setTo.getD (decInt 32 u.total + q.net)
  let rate : Rat := ((counts.take gate).sum : Rat) / ((gate : Rat) / 4000)
  let u := { u with cmp := ra.1, turn := q.turn, counts := counts, total := encInt 32 pos, setTo := none }
  let s := ((s.setUi n u).setUi (n + 1) { v with cmp := rb.1 }).set (Obj.UI_COUNT n) u.total
  s.uiWrite n (ratF32 rate) (s.uiBits n ||| 256 * boolNat q.illegal)

/-- The window of an input, in the mode that was in force in it; none where the converter or the comparator has given
none. -/
def State.uiWindow (s : State) (inp : List UiSample) (n : Nat) : Option State :=
  let at_ := fun n => inp.find? fun x : UiSample => x.n == n
  let m := (s.ui n).mode
  if m = 7 then
    if n % 2 = 1 then some (s.capture (Obj.UI_STATUS n) (s.uiBits n) false)
    else match at_ n, at_ (n + 1) with
      | some a, some b => some (s.uiQuadIn n a b)
      | _, _ => none
  else match at_ n with
    | some a =>
      if m = 5 then some (s.uiDigitalIn n a)
      else if m = 6 then some (s.uiFrequencyIn n a)
      else if a.samples = [] then none else some (s.uiAnalogueIn n a)
    | none => none

/-- The entry of the window that has ended: an input whose window is missing is late; an input that had none, since its mode
was 00h or its domain was not on, has an entry only when a restart marks it. -/
def State.uiEntry (s : State) (inp : List UiSample) (n : Nat) (restarts : Bool) : State :=
  if (s.ui n).mode = 0 then
    (if restarts then (s.capture (Obj.UI_STATUS n) (s.uiBits n) false).uiCountBad n else s)
  else match s.uiWindow inp n with
    | some t => t.uiCountBad n
    | none => (s.uiQuadMissing n).uiLate n

/-- The entry of a universal input (R228–R236), and the settings with which its next window goes on. At the boundary of a
restart the window that ends is still one of the old mode, its entry the first of the 16 that settle (R221, R229). -/
def State.uiCapture (s : State) (inp : List UiSample) (n : Nat) : State :=
  let due := s.uiRestartAt n
  let on := s.uiOn n
  let s := if due.isSome then s.setUi n { s.ui n with settle := due } else s
  let s := if on then s.uiEntry inp n due.isSome
    else if (s.entry (Obj.UI_ENG n)).valid then s.clearInput (Obj.UI_ENG n) else s
  let x := s.ui n
  let x := if due.isSome then { x.fresh with restart := none } else if on then x else x.fresh
  let x := if on then { x with mode := s.conf (Obj.UI_MODE n), thresh := s.conf (Obj.UI_THRESH n) } else x
  if x = s.ui n then s else s.setUi n x

/-- An input restarts at the next boundary (R229). -/
def State.uiRestart (s : State) (n : Nat) : State := s.setUi n { s.ui n with restart := some s.k }

/-- UI_MODE written (R229). -/
def State.uiMode (s : State) (n m : Nat) : State :=
  let old := s.get (Obj.UI_MODE n)
  let s := (s.set (Obj.UI_MODE n) m).uiRestart n
  if n % 2 = 1 then s
  else if m = 7 then (s.set (Obj.UI_MODE (n + 1)) 7).uiRestart (n + 1)
  else if old = 7 then (s.set (Obj.UI_MODE (n + 1)) 0).uiRestart (n + 1)
  else s

/-- The odd input is taken by the even one's quadrature: its writes are refused with STATE (R229). -/
def State.uiTaken (s : State) (n : Nat) : Bool :=
  n % 2 == 1 && s.get (Obj.UI_MODE n) == 7 && s.get (Obj.UI_MODE (n - 1)) == 7

/-- The checks of a write of UI_MODE (R229). -/
def State.uiModeExtra (s : State) (n m : Nat) : Extra :=
  if n % 2 = 1 then { range := m != 7, state := !s.uiTaken n }
  else { state := m != 7 || s.get (Obj.UI_MODE (n + 1)) == 0 }

/-- UI_MODE_WRITE (R229). -/
def execUiModeWrite (q : Req) (n : Fin 48) (mode : Nat) (s : State) : Host.Outcome State Fault Refusal :=
  .next (s.serveSet q (Obj.UI_MODE n) mode (fun s => s.uiModeExtra n mode) fun s => s.uiMode n mode)

/-- UI_SETTLE_END (R229): 16 ticks after the boundary at which the mode took effect. -/
def execUiSettleEnd (n : Fin 48) (s : State) : Host.Outcome State Fault Refusal :=
  let x := s.ui n
  match x.settle with
  | some t => if s.running ∧ t + 16 ≤ s.k then .next (s.setUi n { x with settle := none }) else .next s
  | none => .next s

/-- The entry of this tick is late: nothing rewrites it (R219). -/
def State.uiLateNow (s : State) (n : Nat) : Bool := bit (s.get (Obj.UI_STATUS n)) 11

/-- SHUNT_DISCONNECT (R232): above 25 mA in 2 consecutive ticks. -/
def execShuntDisconnect (n : Fin 48) (s : State) : Host.Outcome State Fault Refusal :=
  let x := s.ui n
  if s.running ∧ s.uiOn n ∧ s.conf (Obj.UI_MODE n) = 3 ∧ 2 ≤ x.overC ∧ x.shunt = none then
    let st := setBit (s.get (Obj.UI_STATUS n) &&& 0xFFC) 3 true ||| 2 * boolNat (decide (21 < f32rat x.raw))
    let t := s.setUi n { x with shunt := some s.k, overC := 0, y := none }
    .next (if s.uiLateNow n then t else t.uiRewrite n x.raw st)
  else .next s

/-- SHUNT_RECONNECT (R232): after 4000 ticks. -/
def execShuntReconnect (n : Fin 48) (s : State) : Host.Outcome State Fault Refusal :=
  let x := s.ui n
  match x.shunt with
  | some t => if s.running ∧ t + 4000 ≤ s.k then .next (s.setUi n { x with shunt := none, overC := 0 }) else .next s
  | none => .next s

/-- UI_DEBOUNCE_CHANGE (R233): the raw level has differed from UI_ENG in UI_DEBOUNCE + 1 windows in a row; a late entry keeps
its values, so the change waits for the next. -/
def execUiDebounceChange (n : Fin 48) (s : State) : Host.Outcome State Fault Refusal :=
  let x := s.ui n
  if s.running ∧ s.uiOn n ∧ s.conf (Obj.UI_MODE n) = 5 ∧ s.uiLateNow n = false ∧ s.conf (Obj.UI_DEBOUNCE n) + 1 ≤ x.diff then
    let st := s.get (Obj.UI_STATUS n) &&& 0xFFC
    .next ((s.setUi n { x with diff := 0 }).uiRewrite n (if x.level then 0x3F800000 else 0) st)
  else .next s

/-- A new quadrature position for the next boundary (R235). -/
def State.uiSetCount (s : State) (n : Nat) (v : Int) : State := s.setUi n { s.ui n with setTo := some v }

/-- UI_COUNT_SET (R235). -/
def execUiCountSet (q : Req) (n : Fin 48) (value : Int) (s : State) : Host.Outcome State Fault Refusal :=
  .next (s.serveSet q (Obj.UI_COUNT_SET n) (encInt 32 value) (fun s => { held := s.get (Obj.UI_MODE n) == 7 && n.val % 2 == 0 })
    fun s => s.uiSetCount n (decInt 32 (encInt 32 value)))

/-! Sensor supplies (R238–R240) -/

/-- A supply that is off: the 16 ticks of a change of voltage go on (R239). -/
def SsSt.idle (x : SsSt) : SsSt := { volt := x.volt, settle := x.settle }

/-- A supply in the capture phase (R219, R238): the output is measured whether the supply is enabled or not. It is in current
limit at some current from 260 mA to 340 mA (R555). -/
def State.ssCapture (s : State) (inp : List SsSample) (n : Nat) : State :=
  if s.domOn 13 then
    let on := s.confFlag (Obj.SS_ENABLE n)
    let st := s.get (Obj.SS_STATE n)
    let volt := s.conf (Obj.SS_VOLTAGE n)
    let x := s.ss n
    let s := s.setSs n { x with
      volt := volt, settle := if (st = 1 ∨ st = 2) ∧ x.volt ≠ volt then some s.k else x.settle }
    let s := if on ∧ st = 0 then s.set (Obj.SS_STATE n) 1
      else if !on ∧ st ≠ 0 ∧ st ≠ 4 then (s.set (Obj.SS_STATE n) 0).setSs n (s.ss n).idle else s
    match inp.find? fun x => x.n == n with
    | none => if (s.entry (Obj.SS_V_NOW n)).valid then s.lateTick.clearInput (Obj.SS_V_NOW n) else s.lateTick
    | some a =>
      let st := s.get (Obj.SS_STATE n)
      let on := st = 1 ∨ st = 2
      let x := s.ss n
      let limited := inBand 260 340 (f32rat a.i) a.limit
      let x := { x with limit := if on ∧ limited then x.limit + 1 else 0 }
      let s := if on then s.set (Obj.SS_STATE n) (if limited then 2 else 1) else s
      ((s.setSs n x).capture (Obj.SS_V_NOW n) a.v true).capture (Obj.SS_I_NOW n) a.i true
  else
    let s := if s.get (Obj.SS_STATE n) = 0 ∨ s.get (Obj.SS_STATE n) = 4 then s else (s.set (Obj.SS_STATE n) 0).setSs n (s.ss n).idle
    if (s.entry (Obj.SS_V_NOW n)).valid then s.clearInput (Obj.SS_V_NOW n) else s

/-- SS_LIMIT_TRIP (R238): 40 consecutive ticks in limit. -/
def execSsLimitTrip (n : Fin 4) (s : State) : Host.Outcome State Fault Refusal :=
  let x := s.ss n
  if s.running ∧ s.get (Obj.SS_STATE n) = 2 ∧ 40 ≤ x.limit then
    let s := (s.setSs n { x with limit := 0, since := s.k }).count (Obj.SS_TRIPS n) 1
    .next (s.set (Obj.SS_STATE n) (if s.get (Obj.SS_LEFT n) = 0 then 4 else 3))
  else .next s

/-- SS_RETRY (R238): after SS_RETRY ticks the supply restarts and consumes a retry. -/
def execSsRetry (n : Fin 4) (s : State) : Host.Outcome State Fault Refusal :=
  if s.running ∧ s.get (Obj.SS_STATE n) = 3 ∧ (s.ss n).since + s.conf (Obj.SS_RETRY n) ≤ s.k then
    .next ((s.set (Obj.SS_STATE n) 1).set (Obj.SS_LEFT n) (s.get (Obj.SS_LEFT n) - 1))
  else .next s

/-- The retries restored and a latched supply restarted (R238). -/
def State.ssRearm (s : State) (n : Nat) : State :=
  let on := s.confFlag (Obj.SS_ENABLE n)
  ((s.set (Obj.SS_LEFT n) (s.get (Obj.SS_RETRIES n))).set (Obj.SS_STATE n) (boolNat on)).setSs n (s.ss n).idle

/-- SS_REARM (R238, Table 7): refused with STATE in any state but 04h. -/
def execSsRearm (q : Req) (n : Fin 4) (s : State) : Host.Outcome State Fault Refusal :=
  .next (s.serveSet q (Obj.SS_REARM n) 1 (fun s => { state := s.get (Obj.SS_STATE n) == 4 }) fun s => s.ssRearm n)

/-! External values (R241, R242) -/

/-- The entry of an external value. -/
def State.xvCapture (s : State) (n : Nat) : State :=
  if s.confFlag (Obj.XV_ENABLE n) then
    let a := s.area0 (Obj.XV_APP_OFFSET n)
    let v := a.at_ 12 4
    let ok := a.valid && f32finite v && decide (s.k ≤ a.stamp + s.conf (Obj.XV_MAX_AGE n))
    let s := s.capture (Obj.XV_VALUE n) v ok
    if ok then s else s.count (Obj.XV_STALE n) 1
  else if (s.entry (Obj.XV_VALUE n)).valid then s.clearInput (Obj.XV_VALUE n) else s

/-- The chapter's share of the capture phase. -/
def State.senseCapture (s : State) (inp : TickIn) : State :=
  let s := (List.range 4).foldl (fun s n => s.ssCapture inp.ss n) s
  let s := (List.range 48).foldl (fun s n => s.uiCapture inp.ui n) s
  let s := (List.range 16).foldl (fun s n => s.lsCapture inp.ls n) s
  (List.range 32).foldl State.xvCapture s

/-- The retries of every supply are whole at a start. -/
def State.senseStart (s : State) : State :=
  (List.range 4).foldl (fun s n => s.set (Obj.SS_LEFT n) (s.get (Obj.SS_RETRIES n))) s

/-- D13 leaves the on state (R220): supplies off, detectors and filters without state. Restarts that wait and the ticks of
settling go on (R229, R239). -/
def State.senseDown (s : State) : State :=
  let s := (List.range 4).foldl (fun s n => if s.get (Obj.SS_STATE n) = 4 then s else s.set (Obj.SS_STATE n) 0) s
  { s with sense := {
    ui := Sparse.mapVals (fun _ => {}) UiSt.fresh s.sense.ui, ss := Sparse.mapVals (fun _ => {}) SsSt.idle s.sense.ss } }

/-- The checks of a write to an object of the chapter (R229, R230, R235, R240, Table 1). -/
def State.senseExtra (s : State) (key v : Nat) : Extra :=
  let ix := key / 256
  let sub := key % 256
  if 0x4010 ≤ ix ∧ ix < 0x4020 then
    let n := ix - 0x4010
    if sub = 2 then { range := f32lt v (s.get (Obj.LS_F_HIGH n)) }
    else if sub = 3 then { range := f32lt (s.get (Obj.LS_F_LOW n)) v }
    else {}
  else if 0x4040 ≤ ix ∧ ix < 0x4070 then
    let n := ix - 0x4040
    let free := !s.uiTaken n
    if sub = 1 then s.uiModeExtra n v
    else if sub = 8 then
      { range := v == 0 || (decide (s.get (Obj.UI_SUPPLY n) ≠ 0xFF) &&
          (s.get (Obj.UI_MODE n) == 1 || s.get (Obj.UI_MODE n) == 2)), state := free }
    else if sub = 0xE then { held := s.get (Obj.UI_MODE n) == 7 && n % 2 == 0 }
    else { state := free }
  else if 0x4080 ≤ ix ∧ ix < 0x4084 ∧ sub = 5 then { state := s.get (Obj.SS_STATE (ix - 0x4080)) == 4 }
  else {}

/-- The effect of a write to an object of the chapter that does more than hold its value (R225, R229, R235,
R238). -/
def State.senseWrite (s : State) (key v : Nat) : Option State :=
  let ix := key / 256
  let sub := key % 256
  if 0x4010 ≤ ix ∧ ix < 0x4020 ∧ 2 ≤ sub ∧ sub ≤ 5 then
    let n := ix - 0x4010
    some (if s.get key = v then s else
      let s := s.lsRestartDue n
      (s.set key v).setLs n { s.ls n with restart := some s.k })
  else if 0x4040 ≤ ix ∧ ix < 0x4070 then
    let n := ix - 0x4040
    if sub = 1 then some (s.uiMode n v) else if sub = 0xE then some (s.uiSetCount n (decInt 32 v)) else none
  else if 0x4080 ≤ ix ∧ ix < 0x4084 then
    let n := ix - 0x4080
    if sub = 5 then some (s.ssRearm n) else none
  else none

end Sys2Proof.Machine
end

