-- ==== Sys2Proof/Machine/Switches.lean ====
section
/-! DEFINITION. Protected load switch channels and their banks (R245–R291). -/

namespace Sys2Proof.Machine

/-! binary64 helpers -/

/-- binary64 strictly less. -/
def f64lt (a b : Nat) : Bool := (fp64 a).lt (fp64 b)
/-- binary64 at most. -/
def f64le (a b : Nat) : Bool := (fp64 a).le (fp64 b)
/-- 1 − exp(−0.00025 / tau), in binary64 (R260, R282). -/
def decay64 (tau : Nat) : Nat := f64sub (ratF64 1) (f64exp (f64div (ratF64 (-1 / 4000)) tau))

/-! Classes (R245, Table 1) -/

/-- The class of a channel: 0 A, 1 B, 2 C. -/
def chClass (n : Nat) : Nat := if n % 16 < 12 then 0 else if n % 16 < 15 then 1 else 2
/-- Rating, A. -/
def chRating (n : Nat) : Rat := ([2, 8, 20] : List Rat).getD (chClass n) 0
/-- Current limit, A. -/
def chLimit (n : Nat) : Rat := ([10, 40, 100] : List Rat).getD (chClass n) 0
/-- Normal range, A per count. -/
def chCount (n : Nat) : Rat := ([1 / 500, 1 / 125, 1 / 50] : List Rat).getD (chClass n) 0
/-- Clamp energy, mJ: single pulse. -/
def chSingle (n : Nat) : Rat := ([60, 250, 600] : List Rat).getD (chClass n) 0
/-- Clamp energy, mJ: repetitive. -/
def chRepetitive (n : Nat) : Rat := ([8, 30, 80] : List Rat).getD (chClass n) 0
/-- Shortest PWM period, ticks. -/
def chPwmMin (n : Nat) : Nat := if chClass n = 2 then 40 else 10

/-- Wire constants by CH_WIRE_CSA: r20, Ω/m; rth, K·m/W; tau, s (Table 2). -/
def wireTable : List (Rat × Rat × Rat) :=
  [(52 / 1000, 14, 12), (371 / 10000, 12, 16), (247 / 10000, 10, 22), (185 / 10000, 17 / 2, 28), (127 / 10000, 7, 40),
    (76 / 10000, 28 / 5, 60), (471 / 100000, 23 / 5, 85), (314 / 100000, 39 / 10, 115), (182 / 100000, 3, 170),
    (116 / 100000, 12 / 5, 240)]

/-- The insulation limit by CH_WIRE_CLASS, °C (R262). -/
def insulation (c : Nat) : Rat := ([85, 100, 125, 150, 175] : List Rat).getD c 85

/-! State -/

/-- A channel. -/
def State.ch (s : State) (n : Nat) : ChSt := Sparse.find (fun _ => ({} : ChSt)) s.sw.ch n
/-- A channel changed. -/
def State.setCh (s : State) (n : Nat) (x : ChSt) : State :=
  { s with sw := { s.sw with ch := Sparse.put (fun _ => ({} : ChSt)) s.sw.ch n x } }
/-- A bank. -/
def State.bank (s : State) (b : Nat) : BankSt := Sparse.find (fun _ => ({} : BankSt)) s.sw.bank b
/-- A bank changed. -/
def State.setBank (s : State) (b : Nat) (x : BankSt) : State :=
  { s with sw := { s.sw with bank := Sparse.put (fun _ => ({} : BankSt)) s.sw.bank b x } }

/-- The channels of a bank (R245). -/
def bankChannels (b : Nat) : List Nat := (List.range 16).map (16 * b + ·)

/-- S holds its on-vote for D11 while any channel is enabled or a pair hold is in force (R248). -/
def State.swWants (s : State) : Bool :=
  (List.range 128).any (fun n => s.flag (Obj.CH_ENABLE n)) || s.pair.hold.isSome

/-- The controller switches and changes states: D11 is on, and the module acts or holds (R287, R288). -/
def State.swActs (s : State) : Bool := s.running && s.domOn 11 && s.acting && s.pair.hold.isNone

/-- A bank feed below −0.5 V holds its switches off in hardware: by the mean of the bank's latest entry (R542, log entry
78). -/
def State.feedReversed (s : State) (b : Nat) : Bool := decide (f32rat (s.get (Obj.BANK_FEED_V b)) < -1 / 2)

/-- The switch conducts. -/
def State.conducts (s : State) (n : Nat) : Bool := (s.ch n).on && !s.feedReversed (n / 16)

/-- The switch commanded on or off; where it stops conducting there is an off edge (R273). -/
def State.putOn (s : State) (n : Nat) (on : Bool) : State :=
  s.setCh n { s.ch n with on := on, edge := (s.ch n).edge || (s.conducts n && !on) }

/-- A bit of CH_STATUS made `b`. -/
def State.chBit (s : State) (n i : Nat) (b : Bool) : State :=
  s.set (Obj.CH_STATUS n) (setBit (s.get (Obj.CH_STATUS n)) i b)

/-- A bit of BANK_STATUS made `v`. -/
def State.bankBit (s : State) (b i : Nat) (v : Bool) : State :=
  s.set (Obj.BANK_STATUS b) (setBit (s.get (Obj.BANK_STATUS b)) i v)

/-! Demand (R249–R252) -/

/-- A source's value is usable: its flag is set, its stamp is recent enough, it is finite (R251). -/
def State.usable (s : State) (valid : Bool) (stamp age v : Nat) : Bool :=
  valid && decide (s.k ≤ stamp + age) && f32finite v

/-- Stamp, validity and value of the application or loop entry that a source selects. -/
def State.srcEntry (s : State) (src app loop : Nat) : Nat × Bool × Nat :=
  if src = 1 then
    let a := s.area app
    (a.stamp, a.valid, a.at_ 12 4)
  else
    let w := s.cur loop
    (w.stamp, w.valid, w.val)

/-- The demand taken in this tick, and whether its source is valid (R249 to R251; the entry of an application as R250 lays it
out). -/
def State.chDemand (s : State) (n : Nat) : Nat × Bool :=
  let src := s.conf (Obj.CH_SOURCE n)
  if src = 0 then (s.conf (Obj.CH_DEMAND n), true)
  else
    let e := s.srcEntry src (Obj.CH_APP_OFFSET n) (Obj.CH_LOOP_CMD n)
    if s.usable e.2.1 e.1 (s.conf (Obj.CH_CMD_MAX_AGE n)) e.2.2 then (f32clamp 0 0x42C80000 e.2.2, true)
    else
      let fb := s.conf (Obj.CH_FALLBACK n)
      (if fb = 0 then 0 else if fb = 1 then (s.ch n).lastValid else s.conf (Obj.CH_FALLBACK_DUTY n), false)

/-- The demand is above 0. -/
def State.chAsked (s : State) (n : Nat) : Bool := f32lt 0 (s.chDemand n).1

/-! Wire model (R260–R263) -/

/-- The ambient temperature, binary64, and whether the default is in use (R261, R314). -/
def State.ambient (s : State) (src dflt : Nat) : Nat × Bool :=
  let v := s.ref src
  if v.named && v.valid && decide (s.k ≤ v.stamp + 4000) then
    (f64of32 v.f32, false)
  else (f64of32 dflt, true)

/-- One update of theta, with t_wire, in the order of R260. -/
def wireStep (csa bundle amb i ton theta : Nat) : Nat × Nat :=
  let c := wireTable.getD csa (0, 0, 1)
  let b := f64of32 bundle
  let a := decay64 (f64mul (ratF64 c.2.2) b)
  let ieff2 := if ton = 0 then 0 else f64div (f64mul (f64mul i i) (ratF64 250)) (ratF64 ton)
  let warm := f64sub (f64add amb theta) (ratF64 20)
  let r := f64mul (ratF64 c.1) (f64add (ratF64 1) (f64mul (ratF64 (393 / 100000)) warm))
  let heat := f64mul (f64mul (f64mul ieff2 r) (ratF64 c.2.1)) b
  let th := f64add theta (f64mul (f64sub heat theta) a)
  let th := if f64lt th 0 then 0 else th
  (th, f64add amb th)

/-- T_ins of a channel, °C. -/
def State.tIns (s : State) (n : Nat) : Rat := insulation (s.conf (Obj.CH_WIRE_CLASS n))

/-- t_wire has reached T_ins. -/
def State.hot (s : State) (n : Nat) : Bool := f64le (ratF64 (s.tIns n)) (s.ch n).wire

/-- t_wire lies at or below the restart level. -/
def State.cool (s : State) (n : Nat) : Bool :=
  f64le (s.ch n).wire (f64sub (ratF64 (s.tIns n)) (f64of32 (s.conf (Obj.CH_RESTART_MARGIN n))))

/-! Capture (R218, R254–R256, R259, R260, R280–R282) -/

/-- The count, the range at the window's end and the change of range of a window that began in the fine range or not: a
fine window whose charge reaches the range's full scale of 80 mA ends in the normal range (R254, R255). -/
def chConvert (n : Nat) (fine : Bool) (mean : Rat) : Nat × Bool × Bool :=
  let moved := fine && decide (8 / 100 ≤ mean)
  let size := if fine && !moved then 1 / 50000 else chCount n
  (min 4095 (roundHalfAway (mean / size)).toNat, fine && !moved, moved)

/-- theta and t_wire of this tick: updated, but on a standby, whose theta follows the mirror (R260, R263, R287). -/
def State.wireUpdate (s : State) (n : Nat) : State :=
  let x := s.ch n
  let amb := (s.ambient (s.conf (Obj.CH_AMB_SRC n)) (s.conf (Obj.CH_AMB_DEF n))).1
  let i := if s.get (Obj.CH_CURRENT_RAW n) % 4096 = 4095 then ratF64 (chLimit n) else f64of32 (s.get (Obj.CH_CURRENT n))
  let th := if s.standby then (x.theta, f64add amb x.theta)
    else wireStep (s.conf (Obj.CH_WIRE_CSA n)) (s.conf (Obj.CH_BUNDLE n)) amb i x.winOn x.theta
  s.setCh n { x with theta := th.1, wire := th.2 }

/-- What the converter and the sensors of a channel have measured; the entry sees the layer-2 turn-offs of its window, and
the next window's range follows it (R254, R255, R259). -/
def State.chMeasured (s : State) (n : Nat) (a : ChSample) : State :=
  let x := s.ch n
  let c := chConvert n x.fine a.mean
  let cur := ratF32 ((c.1 : Rat) * (if c.2.1 then 1 / 50000 else chCount n))
  let x := { x with
    winOn := a.ton
    vout := a.vout
    seenCl := x.offCl
    seenTh := x.offTh
    offCl := false
    offTh := false
    onCurrent := if 0 < a.ton then some (ratF32 (f32rat cur * 250 / a.ton)) else x.onCurrent
    fine := s.confFlag (Obj.CH_FINE n) && chClass n != 2 && decide (f32rat cur ≤ 72 / 1000) }
  ((s.setCh n x).setAll [(Obj.CH_CURRENT_RAW n, c.1 + 4096 * boolNat c.2.1 + 8192 * boolNat c.2.2),
    (Obj.CH_DIE_TEMP n, a.die)]).capture (Obj.CH_CURRENT n) cur true

/-- The switch was in current limit in the window: it limits at some current within 15 % of its class limit (R257, R555). -/
def limited (a : ChSample) : Bool :=
  a.limit.any fun i => decide (85 / 100 * chLimit a.n ≤ i ∧ i ≤ 115 / 100 * chLimit a.n)

/-- The other fields of a channel's entry, after its wire model (Table 10). -/
def State.chFields (s : State) (n : Nat) (limit : Bool) : State :=
  let x := s.ch n
  let amb := (s.ambient (s.conf (Obj.CH_AMB_SRC n)) (s.conf (Obj.CH_AMB_DEF n))).2
  let fresh := boolNat limit + 2 * boolNat x.seenCl + 4 * boolNat (x.latch || x.seenTh) + 8 * boolNat (!s.cool n) +
    256 * boolNat amb + 512 * boolNat (s.get (Obj.CH_FUSE_STATE n) == 8) +
    1024 * boolNat (decide (4000 < s.get (Obj.CH_CURRENT_RAW n) % 4096)) +
    16384 * boolNat (s.standby || decide (0 < (s.bank (n / 16)).suspend)) + 32768 * boolNat x.learn.isSome
  s.setAll [(Obj.CH_STATUS n, (s.get (Obj.CH_STATUS n) &&& 0x38F0) ||| fresh), (Obj.CH_DUTY_NOW n, x.lastDuty),
    (Obj.CH_WIRE_TEMP n, f64to32 x.wire), (Obj.CH_WIRE_RISE n, f64to32 x.theta)]

/-- The entry of one channel, and its wire model; a channel without a sample is late: its entry stays as it is (R219). -/
def State.chCapture (inp : List ChSample) (s : State) (n : Nat) : State :=
  match inp.find? fun a => a.n == n with
  | some a => ((s.chMeasured n a).wireUpdate n).chFields n (limited a)
  | none =>
    let s := s.setCh n { s.ch n with seenCl := false, seenTh := false }
    (s.wireUpdate n).lateTick.clearInput (Obj.CH_CURRENT n)

/-- The entry of this tick was late: the controller has seen no turn-off in it (R50, R259). -/
def State.chUnseen (s : State) (n : Nat) : State :=
  let x := s.ch n
  s.setCh n { x with offCl := x.offCl || x.seenCl, offTh := x.offTh || x.seenTh, seenCl := false, seenTh := false }

/-- The sag test shared by the bank feeds and FEED-V: the lowest sample lies more than `dv` below the mean of the
windows before, if there were any (R280, R320). -/
def sagged (feeds : List Nat) (low dv : Nat) : Bool :=
  match feeds with
  | [] => false
  | _ => decide (f32rat low < (feeds.map f32rat).sum / feeds.length - f32rat dv)

/-- Sag of a bank's entry, before its channels' entries are written (R280); not evaluated on a standby (R287). -/
def State.bankSag (inp : TickIn) (s : State) (b : Nat) : State :=
  let x := s.bank b
  let smp := inp.bank.find? fun a => a.b == b
  let sag := !s.standby && ((inp.ch.any fun a => a.n / 16 == b && limited a) ||
    (match smp with | some a => sagged x.feeds a.low (s.conf (Obj.BANK_SAG_DV b)) | none => false))
  let s := s.setBank b { x with
    suspend := if sag then 3 else x.suspend - 1
    feeds := match smp with | some a => (a.mean :: x.feeds).take 16 | none => x.feeds }
  if sag then s.count (Obj.BANK_SAGS b) 1 else s

/-- One update of a bank's load (R282). -/
def loadStep (tau rating current load : Nat) : Nat :=
  let q := f64div (f64of32 current) (f64of32 rating)
  f64add load (f64mul (f64sub (f64mul q q) load) (decay64 (f64of32 tau)))

/-- The entry of one bank: current, feed, load, undervoltage counts, status (R256, R281, R282, Table 11). -/
def State.bankCapture (inp : TickIn) (s : State) (b : Nat) : State :=
  let smp := inp.bank.find? fun a => a.b == b
  let cur := if smp.isSome then ratF32 ((bankChannels b).map fun n => f32rat (s.get (Obj.CH_CURRENT n))).sum
    else s.get (Obj.BANK_CURRENT b)
  let x := s.bank b
  let x := if s.standby then x
    else { x with load := loadStep (s.conf (Obj.BANK_TAU b)) (s.conf (Obj.BANK_RATING b)) cur x.load }
  match smp with
  | none => (s.setBank b x).lateTick.clearInput (Obj.BANK_FEED_V b)
  | some a =>
    let v := f32rat a.mean
    let uv := s.confRat (Obj.BANK_UV_LEVEL b)
    let x := if s.standby || decide (0 < x.suspend) then x
      else { x with
        underC := if v < uv then x.underC + 1 else 0
        overC := if uv + 3 / 10 < v then x.overC + 1 else 0 }
    let s := s.setBank b x
    let old := s.get (Obj.BANK_STATUS b)
    let shed := boolNat (s.get (Obj.BANK_SHED_MASK b) != 0)
    let st := if s.standby then (old &&& 0x3E) ||| shed
      else shed + 2 * boolNat x.only0 + 4 * boolNat (decide (0 < x.suspend)) + (if 4 ≤ x.overC then 0 else old &&& 8) +
        16 * boolNat (decide (v < 6)) + 32 * boolNat (s.sw.dipReported.isSome || !x.dipShed.isEmpty)
    (s.setAll [(Obj.BANK_CURRENT b, cur), (Obj.BANK_FEED_MIN b, a.low), (Obj.BANK_LOAD b, f64to32 x.load),
      (Obj.BANK_STATUS b, st)]).capture (Obj.BANK_FEED_V b) a.mean true

/-- A bank's entry; a feed that reverses cuts the switches that conduct, which is an off edge of each (R273, R542). -/
def State.bankEntry (inp : TickIn) (s : State) (b : Nat) : State :=
  let was := (bankChannels b).filter s.conducts
  let s := s.bankCapture inp b
  was.foldl (fun s n => if s.conducts n then s else s.setCh n { s.ch n with edge := true }) s

/-- The chapter's share of the capture phase: nothing while D11 is not on (R219). -/
def State.swCapture (s : State) (inp : TickIn) : State :=
  if s.domOn 11 then
    let s := (List.range 8).foldl (State.bankSag inp) s
    let s := (List.range 128).foldl (State.chCapture inp.ch) s
    (List.range 8).foldl (State.bankEntry inp) s
  else
    let s := (List.range 128).foldl (fun s n =>
      if (s.entry (Obj.CH_CURRENT n)).valid then s.clearInput (Obj.CH_CURRENT n) else s) s
    (List.range 8).foldl (fun s b =>
      if (s.entry (Obj.BANK_FEED_V b)).valid then s.clearInput (Obj.BANK_FEED_V b) else s) s

/-! State changes (R262–R272) -/

/-- The mask bit of a channel in its bank's BANK_SHED_MASK made `v`. -/
def State.shedBit (s : State) (n : Nat) (v : Bool) : State :=
  let m := setBit (s.get (Obj.BANK_SHED_MASK (n / 16))) (n % 16) v
  (s.set (Obj.BANK_SHED_MASK (n / 16)) m).bankBit (n / 16) 0 (m != 0)

/-- A channel enters a state; its shed bit clears as it leaves 06h (R266, R272). -/
def State.enterCh (s : State) (n st : Nat) : State :=
  let s := if s.get (Obj.CH_FUSE_STATE n) = 6 ∧ st ≠ 6 then
      let x := s.bank (n / 16)
      let l := x.dipShed.filter (· ≠ n)
      ((s.shedBit n false).setBank (n / 16) { x with dipShed := l }).bankBit (n / 16) 5
        (s.sw.dipReported.isSome || !l.isEmpty)
    else s
  let x := s.ch n
  (s.set (Obj.CH_FUSE_STATE n) st).setCh n { x with since := s.k, changed := true, test := false }

/-- A channel of the bank has been shed in this tick (R283). -/
def State.shedNoted (s : State) (b : Nat) : State :=
  let x := s.bank b
  s.setBank b { x with shedAt := if x.shedAt.head? = some s.k then x.shedAt else (s.k :: x.shedAt).take 2 }

/-- A channel would enter 01h: while dip shedding is reported, one of priority 4 to 7 enters 06h (R286). -/
def State.switchOn (s : State) (n : Nat) : State :=
  if s.sw.dipReported.isSome ∧ 4 ≤ s.conf (Obj.CH_PRIORITY n) then
    let s := (s.enterCh n 6).shedBit n true
    let b := s.bank (n / 16)
    let s := (s.setBank (n / 16) { b with dipShed := b.dipShed ++ [n] }).shedNoted (n / 16)
    s.setCh n { s.ch n with shedCurrent := s.get (Obj.CH_CURRENT n) }
  else s.enterCh n 1

/-- The thermal latch as the entry of this tick shows it (Table 8 of the switch chapter: a restart waits for the entry). -/
def State.latchShown (s : State) (n : Nat) : Bool := bit (s.get (Obj.CH_STATUS n)) 2

/-- The 00h rules of Table 4, for a channel in `st` that is to be on or off. -/
def State.zeroRules (s : State) (n : Nat) : State :=
  let block := s.chAsked n && (s.latchShown n || s.hot n)
  if s.confFlag (Obj.CH_ENABLE n) && s.chAsked n && !block then (s.switchOn n).chBit n 13 false
  else (if s.get (Obj.CH_FUSE_STATE n) = 0 then s else s.enterCh n 0).chBit n 13 block

/-- The hardware's layer-1 decision, in the codes of R264: 1 trip, 2 restart permitted, 0 neither (R262). -/
def State.hwDecision (s : State) (n : Nat) : Nat := if s.hot n then 1 else if s.cool n then 2 else 0

/-- The decision in the assisted area of a channel's bank; any other value counts as 01h (R264). -/
def State.areaDecision (s : State) (n : Nat) : Nat :=
  let d := (s.area (Obj.BANK_ASSIST_OFFSET (n / 16))).at_ (16 + n % 16) 1
  if d = 0 ∨ d = 2 then d else 1

/-- The kind of the bank's run of this tick. -/
def State.fuseKind (s : State) (b : Nat) : RunKind :=
  (s.modeEnter (Obj.BANK_FUSE_MODE b)).runKind (Obj.BANK_FUSE_MODE b) (s.hit (Obj.BANK_ASSIST_OFFSET b))

/-- The layer-1 decision of this tick, and whether it is an assisted one (R262, R264, R265, R288). -/
def State.layer1 (s : State) (n : Nat) : Nat × Bool :=
  if s.pair.hold.isSome then (s.hwDecision n, false)
  else match s.fuseKind (n / 16) with
    | .hardware => (s.hwDecision n, false)
    | .assisted => (s.areaDecision n, true)
    | .miss => ((s.ch n).decision, true)
    | .faulted => (0, true)

/-- The cause of a trip with a layer-1 decision, assisted or not (R267, Table 5); layer 2 before layer 1 (R271). -/
def State.causeOf (s : State) (n : Nat) (d : Nat × Bool) : Option Nat :=
  let x := s.ch n
  if x.seenTh then some 3 else if x.seenCl then some 2
  else if d.1 = 1 then some (if d.2 then 4 else 1) else none

/-- The cause of a trip that is seen in this tick. -/
def State.tripCause (s : State) (n : Nat) : Option Nat := s.causeOf n (s.layer1 n)

/-- The waiting state of a cause. -/
def tripState (cause : Nat) : Nat := [1, 2, 3, 4, 2, 2].getD cause 2

/-- The count, cause and event of a trip (R267). -/
def State.tripRecord (s : State) (n cause : Nat) : State :=
  let s := (s.count (Obj.CH_TRIPS n) 1).set (Obj.CH_LAST_TRIP n) cause
  s.event 8 0x3000 (u8 n ++ u8 cause ++ u32 (s.get (Obj.CH_CURRENT n)) ++ u32 (s.get (Obj.CH_WIRE_TEMP n)))

/-- CHANNEL_TRIP (R267): the channel waits, or is locked out when no retry is left or none is allowed (R270). -/
def State.trip (s : State) (n cause : Nat) : State :=
  let s := s.tripRecord n cause
  s.enterCh n (if s.get (Obj.CH_RETRY_LEFT n) = 0 ∨ s.conf (Obj.CH_RETRIES n) = 0 then 5 else tripState cause)

/-- A trip during a pair hold turns the switch off, static or PWM (R288). -/
def State.holdTrip (s : State) (n : Nat) : State :=
  match s.tripCause n with
  | some c =>
    let x := s.ch n
    if f32lt 0 x.duty || x.seenCl || x.seenTh then
      let s := (s.tripRecord n c).putOn n false
      s.setCh n { s.ch n with duty := 0 }
    else s
  | none => s

/-- A rearm in force restores the retries, and moves a channel in 05h to 00h (R270). One that has entered 05h in this tick
moves with the next (R266). -/
def State.rearmDo (s : State) (n : Nat) : State :=
  if (s.ch n).rearmDue then
    let s := s.set (Obj.CH_RETRY_LEFT n) (s.conf (Obj.CH_RETRIES n))
    let locked := s.get (Obj.CH_FUSE_STATE n) == 5
    if locked && (s.ch n).changed then s
    else
      let s := s.setCh n { s.ch n with rearmDue := false }
      if locked then s.enterCh n 0 else s
  else s

/-- Layer-2 turn-offs and layer-1 trips of a channel in 01h, with the decision of the tick's run. -/
def State.chTrips (s : State) (n : Nat) (d : Nat × Bool) : State :=
  if s.get (Obj.CH_FUSE_STATE n) = 1 ∧ (s.ch n).changed = false then
    match s.causeOf n d with
    | some c => s.trip n c
    | none => s
  else s

/-- A channel is shed: event, count, mask (R283, R286). -/
def State.shed (s : State) (n : Nat) : State :=
  let b := n / 16
  let s := (s.enterCh n 6).shedBit n true
  let s := s.setCh n { s.ch n with shedCurrent := s.get (Obj.CH_CURRENT n) }
  let s := s.shedNoted b
  (s.count (Obj.BANK_SHEDS b) 1).event 8 0x3004 (u8 b ++ u8 n)

/-- Channel `a` is shed before channel `b`: higher priority number, then larger current, then higher number (R283). -/
def State.shedBefore (s : State) (a b : Nat) : Bool :=
  let pa := s.conf (Obj.CH_PRIORITY a)
  let pb := s.conf (Obj.CH_PRIORITY b)
  let ia := f32rat (s.get (Obj.CH_CURRENT a))
  let ib := f32rat (s.get (Obj.CH_CURRENT b))
  decide (pb < pa ∨ (pa = pb ∧ (ib < ia ∨ (ia = ib ∧ b < a))))

/-- The load of a bank has reached its rating. -/
def State.overloaded (s : State) (b : Nat) : Bool := f64le (ratF64 1) (s.bank b).load

/-- The channel that an overloaded bank sheds in this tick, among those that do not trip (R271, R283). -/
def State.shedPick (s : State) (b : Nat) (trips : Nat → Bool) : Option Nat :=
  let high := decide (9 / 10 * s.confRat (Obj.BANK_RATING b) < f32rat (s.get (Obj.BANK_CURRENT b)))
  let recent := (s.bank b).shedAt.any fun t => t + 1 == s.k
  if s.overloaded b && high && !recent then
    let cand := (bankChannels b).filter fun n =>
      s.get (Obj.CH_FUSE_STATE n) == 1 && !(s.ch n).changed && !trips n && decide (1 ≤ s.conf (Obj.CH_PRIORITY n))
    cand.foldl (fun (a : Option Nat) n => match a with
      | none => some n
      | some m => if s.shedBefore n m then some n else a) none
  else none

/-- Bank supervision: one channel is shed, or only channels of priority 0 remain (R283, R285). -/
def State.bankShed (s : State) (b : Nat) : State :=
  let over_ := s.overloaded b
  let x := s.bank b
  let s : State := match s.shedPick b (fun _ => false) with
    | some n => s.shed n
    | none => s
  let left := (bankChannels b).filter fun n => s.get (Obj.CH_FUSE_STATE n) == 1
  let only := over_ && !left.isEmpty && left.all fun n => s.conf (Obj.CH_PRIORITY n) == 0
  let s := if only && !x.only0 then s.event 8 0x3005 (u8 b ++ u32 (s.get (Obj.BANK_CURRENT b))) else s
  (s.setBank b { s.bank b with only0 := only }).bankBit b 1 only

/-- The changes that the demand decides (R267, R271 item 7). -/
def State.chByDemand (s : State) (n : Nat) : State :=
  let st := s.get (Obj.CH_FUSE_STATE n)
  let en := s.confFlag (Obj.CH_ENABLE n)
  let d := (s.chDemand n).1
  if (s.ch n).changed then s
  else if st = 0 then s.zeroRules n
  else if st = 1 ∧ (en = false ∨ f32lt 0 d = false) then s.enterCh n 0
  else if (st = 6 ∨ st = 8) ∧ en = false then s.enterCh n 0
  else if st = 8 ∧ (f32lt 0 d = false ∨ f32le 0x42C80000 d ∨ (s.ch n).loadDue) then
    (s.enterCh n 0).zeroRules n
  else s

/-! Diagnostics (R277–R279) -/

/-- The counts of ticks with and without a condition, and the bit they give, `f` the filter. -/
def filterBit (f : Nat) (c : Nat × Nat) (cond old : Bool) : (Nat × Nat) × Bool :=
  let c' := if cond then (c.1 + 1, 0) else (0, c.2 + 1)
  (c', if f ≤ c'.1 then true else if f ≤ c'.2 then false else old)

/-- The on-state check is evaluated, but for CH_OL_EXPECT (R277). -/
def State.olEval (s : State) (n : Nat) : Bool :=
  let raw := s.get (Obj.CH_CURRENT_RAW n)
  s.confFlag (Obj.CH_OL_ON n) && s.confFlag (Obj.CH_FINE n) && s.conf (Obj.CH_PWM_PERIOD n) == 0 &&
    s.get (Obj.CH_FUSE_STATE n) == 1 && decide ((s.ch n).since + 40 ≤ s.k) && (bit raw 12 || bit raw 13) &&
    decide ((s.bank (n / 16)).suspend = 0) && decide (6 ≤ f32rat (s.get (Obj.BANK_FEED_V (n / 16))))

/-- The current of the entry, mA. -/
def State.milliamps (s : State) (n : Nat) : Rat := 1000 * f32rat (s.get (Obj.CH_CURRENT n))

/-- OL_ON_CHECK (R277). -/
def State.olOn (s : State) (n : Nat) : State :=
  let exp := s.confRat (Obj.CH_OL_EXPECT n)
  if s.olEval n ∧ 0 < exp then
    let tol := s.confRat (Obj.CH_OL_TOL n)
    let f := s.conf (Obj.CH_OL_FILTER n)
    let moved := bit (s.get (Obj.CH_CURRENT_RAW n)) 13
    let i := s.milliamps n
    let old := s.get (Obj.CH_STATUS n)
    let x := s.ch n
    let lo := filterBit f x.below (!moved && decide (i < exp * (1 - tol))) (bit old 4)
    let hi := filterBit f x.above (moved || decide (exp * (1 + tol) < i)) (bit old 5)
    let s := s.setCh n { x with below := lo.1, above := hi.1 }
    let s := if lo.2 && !bit old 4 then s.event 8 0x3003 (u8 n ++ u8 4) else s
    let s := if hi.2 && !bit old 5 then s.event 8 0x3003 (u8 n ++ u8 5) else s
    (s.chBit n 4 lo.2).chBit n 5 hi.2
  else s

/-- A tick of learning: entries measured wholly in the fine range (R278). -/
def State.olLearn (s : State) (n : Nat) : State :=
  match (s.ch n).learn with
  | some (k, sum) =>
    let raw := s.get (Obj.CH_CURRENT_RAW n)
    if s.olEval n ∧ (s.ch n).learnAt < s.k ∧ bit raw 13 = false ∧ k < 400 then
      s.setCh n { s.ch n with learn := some (k + 1, sum + raw % 4096) }
    else s
  | none => s

/-- OFF_STATE_TEST (R279). -/
def State.olOff (s : State) (n : Nat) : State :=
  let st := s.get (Obj.CH_FUSE_STATE n)
  let b := n / 16
  let feed := f32rat (s.get (Obj.BANK_FEED_V b))
  let x := s.ch n
  let live := decide ((s.bank b).suspend = 0) && decide (6 ≤ feed) && decide (x.since + 40 ≤ s.k)
  let f := s.conf (Obj.CH_OL_FILTER n)
  let v := f32rat x.vout
  let test := decide (st = 0 ∧ x.since + 40 ≤ s.k) && s.confFlag (Obj.CH_OL_OFF n)
  let x := { x with test := test }
  let s := s.setCh n x
  let s : State := if live && test then
      let o := filterBit f x.openC (decide (3 < v)) (bit (s.get (Obj.CH_STATUS n)) 6)
      (s.setCh n { x with openC := o.1 }).chBit n 6 o.2
    else s
  if live ∧ st ≠ 1 ∧ st ≠ 7 ∧ 8 ≤ feed then
    let x := s.ch n
    let o := filterBit f x.shortC (decide (feed - 1 < v)) (bit (s.get (Obj.CH_STATUS n)) 7)
    (s.setCh n { x with shortC := o.1 }).chBit n 7 o.2
  else s

/-! The end of a tick -/

/-- The fuse run of a bank: the mode's counts, and the decisions that it applies, which a miss holds (R264, R265); the run
of the third consecutive miss changes the mode state in that run (R98). -/
def State.fuseRun (s : State) (b : Nat) : State × List (Nat × Nat × Bool) :=
  let key := Obj.BANK_FUSE_MODE b
  let s := s.modeEnter key
  let kind := s.fuseKind b
  let l := (bankChannels b).map fun n => (n, s.layer1 n)
  let s := s.modeCount key kind
  let s := (s.fallBack key).assistFault key
  let s := s.setBank b { s.bank b with
    faultAt := if kind = .faulted then (s.bank b).faultAt else if s.get (key + 1) = 3 then some s.k else none }
  (match kind with
    | .faulted => s
    | _ => l.foldl (fun s p => s.setCh p.1 { s.ch p.1 with decision := p.2.1 }) s, l)

/-- The run after the one that faulted a bank's fuse decision (R265). -/
def State.fuseTripDue (s : State) (b : Nat) : Bool :=
  s.swActs && s.fuseKind b == .faulted && (match (s.bank b).faultAt with
    | some t => decide (t < s.k)
    | none => false)

/-- In that run the channels of the bank in 01h trip with cause 05h, once (R265, R271). -/
def State.assistedTrip (s : State) (b : Nat) : State :=
  if s.fuseTripDue b then
    let s := s.setBank b { s.bank b with faultAt := none }
    (bankChannels b).foldl (fun s n =>
      if s.get (Obj.CH_FUSE_STATE n) = 1 ∧ (s.ch n).changed = false ∧ (s.ch n).seenCl = false ∧ (s.ch n).seenTh = false
      then s.trip n 5 else s) s
  else s

/-- A trip that takes a channel in 01h is seen in this tick (R267, R271). -/
def State.tripSeen (s : State) (n : Nat) : Bool := (s.tripCause n).isSome || s.fuseTripDue (n / 16)

/-- The demand of a channel is taken (R251, R252). -/
def State.chTake (s : State) (n : Nat) : State :=
  let d := s.chDemand n
  let x := s.ch n
  let src := s.conf (Obj.CH_SOURCE n)
  let x := { x with taken := d.1, lastValid := if src ≠ 0 ∧ d.2 then d.1 else x.lastValid }
  (s.setCh n x).chBit n 11 (!d.2)

/-- CHANNEL_STATE_EVAL (R266–R272): the end of the tick for one bank. -/
def State.bankEval (s : State) (b : Nat) : State :=
  let l := bankChannels b
  let s := s.assistedTrip b
  let run := s.fuseRun b
  let s := l.foldl (fun s n => ((s.olOn n).olLearn n).olOff n) run.1
  let s := run.2.foldl (fun s p => (s.rearmDo p.1).chTrips p.1 p.2) s
  let s := s.bankShed b
  let s := l.foldl State.chByDemand s
  l.foldl State.chTake s

/-- The chapter's work at the end of a tick. -/
def State.swEnd (s : State) : State :=
  if s.domOn 11 then
    if s.pair.hold.isSome then (List.range 128).foldl (fun s n => (s.holdTrip n).rearmDo n) s
    else if s.running && s.acting then (List.range 8).foldl State.bankEval s
    else (List.range 128).foldl State.rearmDo s
  else (List.range 128).foldl State.rearmDo s

/-- What a channel notes at a tick boundary: the writes that come into force, a disable that ends learning, an enable that
forgets the on-current, the ticks with 01h at their start (R75, R252, R253, R269, R273, R278). -/
def State.chNotes (s : State) (held : Bool) (n : Nat) : State :=
  let x := s.ch n
  let was := s.confFlag (Obj.CH_ENABLE n)
  let is_ := s.flag (Obj.CH_ENABLE n)
  s.setCh n { x with
    lastDuty := x.duty, changed := false, was := s.get (Obj.CH_FUSE_STATE n)
    rearm := false, rearmDue := x.rearm || x.rearmDue, loadWritten := false, loadDue := x.loadWritten
    learn := if was && !is_ then none else x.learn
    onCurrent := if !was && is_ then none else x.onCurrent
    period := if held then x.period else s.get (Obj.CH_PWM_PERIOD n)
    phase := if held then x.phase else s.get (Obj.CH_PWM_PHASE n)
    onTicks := if s.get (Obj.CH_FUSE_STATE n) = 1 then x.onTicks + 1 else 0 }

/-- The PWM period under way still has on-time at the start of a tick, or is on throughout (R253). -/
def ChSt.onTime (x : ChSt) (k : Nat) : Bool := decide (250 * x.period ≤ x.ton ∨ 250 * (k - x.pwmAt) < x.ton)

/-- The switch of a channel at the start of the next tick, `k`: a static channel follows its state and demand, a PWM
channel in 01h or in a pair hold stays on for its on-time, any other is off (R252, R253, R266, R287, R288). At the boundary
at which the lease lapses nothing that is staged is applied: the switches stand as in a hold (R426, R429). -/
def State.chApply (k : Nat) (s : State) (n : Nat) : State :=
  let held := s.pair.hold.isSome || s.unapplied k
  let s := s.chNotes held n
  let x := s.ch n
  let left := x.period == 0 || x.onTime k
  if held then s.putOn n (x.on && left)
  else
    let drives := s.get (Obj.CH_FUSE_STATE n) == 1 && s.acting && s.domOn 11 && !x.latch &&
      !(x.offCl || x.offTh || x.seenCl || x.seenTh)
    let on := drives && (if x.period = 0 then f32lt 0 x.taken else x.on && left)
    let s := s.putOn n on
    s.setCh n { s.ch n with duty := if !drives then 0 else if x.period = 0 then (if on then 0x42C80000 else 0) else x.duty }

/-- The chapter's work at a tick boundary, before the new tick's entries (R252). -/
def State.swBoundary (s : State) (k : Nat) : State := (List.range 128).foldl (State.chApply k) s

/-- Every switch off and every test source disconnected: the end of a hold, a role that drives nothing (R279, R287,
R289, R433). -/
def State.swOff (s : State) : State :=
  (List.range 128).foldl (fun s n =>
    let s := s.putOn n false
    s.setCh n { s.ch n with duty := 0, test := false }) s

/-- The wire model and the retries of a channel as at a start (R263, R526). -/
def State.chStart (s : State) (n : Nat) : State :=
  let th := f64of32 (s.get (Obj.CH_START_RISE n))
  let s := s.setAll [(Obj.CH_RETRY_LEFT n, s.get (Obj.CH_RETRIES n)), (Obj.CH_STATUS n, 0)]
  s.setCh n { s.ch n with theta := th, wire := f64add (f64of32 (s.get (Obj.CH_AMB_DEF n))) th, since := s.k }

/-- Every channel begins as at a start: 00h, theta at CH_START_RISE, its retries whole (R263, R469, R526). -/
def State.swStart (s : State) : State :=
  let s := { s with sw := { s.sw with ch := [], bank := [] } }
  let s := (List.range 128).foldl (fun s n => (s.set (Obj.CH_FUSE_STATE n) 0).chStart n) s
  (List.range 8).foldl (fun s b => s.setAll [(Obj.BANK_SHED_MASK b, 0), (Obj.BANK_STATUS b, 0)]) s

/-- A start within a pair hold: the switches keep what they applied, and all else begins as at a start (R263, R288,
R433). -/
def State.swStartHeld (s : State) : State :=
  let s := { s with sw := { s.sw with bank := [] } }
  let s := (List.range 128).foldl (fun s n =>
    (s.setAll [(Obj.CH_TRIPS n, 0), (Obj.CH_LAST_TRIP n, 0), (Obj.CH_E_OFF n, 0)]).chStart n) s
  (List.range 8).foldl (fun s b => s.setAll [(Obj.BANK_SHEDS b, 0), (Obj.BANK_SAGS b, 0), (Obj.BANK_SHED_MASK b, 0),
    (Obj.BANK_STATUS b, 0), (Obj.BANK_FUSE_MODE_STATE b, 0), (Obj.BANK_FUSE_MODE_MISSES b, 0)]) s

/-- A pair hold begins: every channel enters 07h and keeps what it applied (R267, R288). -/
def State.swHold (s : State) : State :=
  (List.range 128).foldl (fun s n => s.enterCh n 7) s

/-! Rows: layer 2 -/

/-- CURRENT_LIMIT_TURNOFF (R257): `us` is the time for which the current has been in limit without a break, 200 µs with
a tolerance of −0 and +4 µs. -/
def execCurrentLimitTurnoff (n : Fin 128) (us : Nat) (s : State) : Host.Outcome State Fault Refusal :=
  if s.conducts n ∧ 200 ≤ us ∧ us ≤ 204 then .next (s.setCh n { s.ch n with on := false, offCl := true, edge := true })
  else .next s

/-- THERMAL_LATCH_SET (R258): the die has reached 175 °C ±5 °C. -/
def execThermalLatchSet (n : Fin 128) (temp : Rat) (s : State) : Host.Outcome State Fault Refusal :=
  let x := s.ch n
  if 170 ≤ temp ∧ temp ≤ 180 ∧ x.latch = false then
    .next (s.setCh n { x with
      latch := true, on := false, offTh := x.offTh || s.conducts n, edge := x.edge || s.conducts n })
  else .next s

/-- THERMAL_LATCH_CLEAR (R258): the die is below 150 °C. -/
def execThermalLatchClear (n : Fin 128) (temp : Rat) (s : State) : Host.Outcome State Fault Refusal :=
  let x := s.ch n
  if temp < 150 ∧ x.latch then .next (s.setCh n { x with latch := false }) else .next s

/-! Rows: restart, retries, rearm -/

/-- Layer 1 permits a restart: the decision of this tick is 02h; never while the bank's fuse mode is faulted
(R262, R264, R265). -/
def State.permits (s : State) (n : Nat) : Bool := (s.layer1 n).1 == 2

/-- CHANNEL_RESTART (R268). -/
def execChannelRestart (n : Fin 128) (s : State) : Host.Outcome State Fault Refusal :=
  let x := s.ch n
  let st := s.get (Obj.CH_FUSE_STATE n)
  if s.swActs ∧ (st = 2 ∨ st = 3 ∨ st = 4) ∧ x.changed = false ∧ s.confFlag (Obj.CH_ENABLE n) ∧ s.chAsked n ∧
      x.since + s.conf (Obj.CH_RETRY_DELAY n) ≤ s.k ∧ 0 < s.get (Obj.CH_RETRY_LEFT n) ∧ s.latchShown n = false ∧
      s.permits n then
    let s := s.set (Obj.CH_RETRY_LEFT n) (s.get (Obj.CH_RETRY_LEFT n) - 1)
    .next (s.switchOn n)
  else .next s

/-- RETRY_RESTORE (R269). -/
def execRetryRestore (n : Fin 128) (s : State) : Host.Outcome State Fault Refusal :=
  if s.swActs ∧ s.get (Obj.CH_FUSE_STATE n) = 1 ∧ s.conf (Obj.CH_RETRY_RESET n) ≤ (s.ch n).onTicks ∧ s.tripSeen n = false then
    .next (s.set (Obj.CH_RETRY_LEFT n) (s.conf (Obj.CH_RETRIES n)))
  else .next s

/-- A rearm of one channel, in force from the next tick (R75): the state changes at that tick's end (R266, R270). -/
def State.rearmCh (s : State) (n : Nat) : State := s.setCh n { s.ch n with rearm := true }

/-- CH_REARM (R270). -/
def execChRearm (q : Req) (n : Fin 128) (s : State) : Host.Outcome State Fault Refusal :=
  .next (s.serveSet q (Obj.CH_REARM n) 1 (fun _ => {}) fun s => s.rearmCh n)

/-- BANK_REARM (R270): as CH_REARM on all 16 channels of the bank. -/
def execBankRearm (q : Req) (b : Fin 8) (s : State) : Host.Outcome State Fault Refusal :=
  .next (s.serveSet q (Obj.BANK_REARM b) 1 (fun _ => {}) fun s => (bankChannels b).foldl State.rearmCh s)

/-- ASSISTED_FUSE_TRIP (R265): in the run after the mode state became 03h. -/
def execAssistedFuseTrip (b : Fin 8) (s : State) : Host.Outcome State Fault Refusal := .next (s.assistedTrip b)

/-! Rows: PWM and switch-off -/

/-- The clamp energy, mJ, for an off-current (R273); at a feed of 52 V the formula has no value. -/
def State.clampEnergy (s : State) (n : Nat) (i : Rat) : Rat :=
  let v := f32rat (s.get (Obj.BANK_FEED_V (n / 16)))
  1 / 2 * s.confRat (Obj.CH_L_LOAD n) * i * i * 52 / (52 - v)

/-- The off-current of the latest on-time, or the class rating before the first since the enable (R273). -/
def State.offCurrent (s : State) (n : Nat) : Rat :=
  match (s.ch n).onCurrent with
  | some i => f32rat i
  | none => chRating n

/-- The estimate, with a free value where the formula has none (log entry 3). -/
def State.energy (s : State) (n : Nat) (i : Rat) : Nat × State :=
  if f32rat (s.get (Obj.BANK_FEED_V (n / 16))) = 52 then
    let d := s.draw
    (d.1.toNat % 2 ^ 32, d.2)
  else (ratF32 (s.clampEnergy n i), s)

/-- The on-time, µs, of a PWM period of `period` ticks with a duty (R253). -/
def pwmOnTime (period duty : Nat) : Nat :=
  let ton := (roundHalfAway (f32rat duty / 100 * period * 250)).toNat
  if ton < 10 then 0 else if period * 250 < ton + 10 then period * 250 else ton

/-- The switch at the start of a PWM period with a duty: on for the on-time, unless layer 2 has turned it off (R253,
R258). -/
def State.pwmBegin (s : State) (n duty : Nat) : State :=
  let x := s.ch n
  let ton := pwmOnTime x.period duty
  let off := x.latch || x.offCl || x.offTh || x.seenCl || x.seenTh
  let s := s.putOn n (decide (0 < ton) && !off)
  s.setCh n { s.ch n with duty := if off then 0 else duty, ton := ton, pwmAt := s.k }

/-- A trip or a shedding, which goes before a PWM refusal, takes the channel in this tick (R271). -/
def State.refusalWaits (s : State) (n : Nat) : Bool :=
  (s.ch n).changed || s.tripSeen n || s.shedPick (n / 16) s.tripSeen == some n ||
    (match s.sw.dipReported with
     | some t => decide (t < s.k ∧ 4 ≤ s.conf (Obj.CH_PRIORITY n))
     | none => false)

/-- PWM is refused: the switch stays off, and the channel enters 08h unless something before a refusal takes it in this
tick (R271, R275). -/
def State.pwmRefuse (s : State) (n e : Nat) : State :=
  let s := if s.refusalWaits n then s
    else ((s.enterCh n 8).event 8 0x3001 (u8 n ++ u32 e)).chBit n 9 true
  let s := s.putOn n false
  s.setCh n { s.ch n with duty := 0 }

/-- A PWM period of a channel starts with this tick: the boundary where k mod N is the phase (R253). -/
def State.pwmDue (s : State) (n : Nat) : Bool :=
  s.domOn 11 && decide (0 < (s.ch n).period ∧ s.k % (s.ch n).period = (s.ch n).phase)

/-- PWM_PERIOD_START (R253, R275) of a channel that the boundary found in 01h (R266). In a pair hold, and where the lease has
lapsed, the duty applied last goes on, module running or in reset (R288, R429). -/
def execPwmPeriodStart (n : Fin 128) (s : State) : Host.Outcome State Fault Refusal :=
  let held := s.pair.hold.isSome || s.unapplied s.k
  if s.pwmDue n ∧ held ∧ f32lt 0 (s.ch n).duty then .next (s.pwmBegin n (s.ch n).duty)
  else if s.pwmDue n ∧ s.swActs ∧ held = false ∧ (s.ch n).was = 1 then
    let d := (s.ch n).taken
    if f32lt 0 d ∧ f32lt d 0x42C80000 ∧ s.confFlag (Obj.CH_FREEWHEEL n) = false then
      let e := s.energy n (s.offCurrent n)
      if chRepetitive n < f32rat e.1 then .next (e.2.pwmRefuse n e.1) else .next (e.2.pwmBegin n d)
    else .next (s.pwmBegin n d)
  else .next s

/-- The on-time of a PWM channel that conducts ends within this tick (R253). -/
def State.pwmEnds (s : State) (n : Nat) : Bool :=
  let x := s.ch n
  s.conducts n && x.period != 0 && !x.onTime (s.k + 1)

/-- SWITCH_OFF_EDGE (R273, R276): `current` is the mean current of the window that holds the edge, A (F32), `ton` its
on-time, µs; 0 for an edge at the boundary, whose current is that of the on-time before. A PWM channel turns off with
its edge. -/
def execSwitchOffEdge (n : Fin 128) (current ton : Nat) (s : State) : Host.Outcome State Fault Refusal :=
  let x := s.ch n
  let pwm := s.pwmEnds n
  if x.edge || pwm then
    let x := { x with
      on := x.on && !pwm
      edge := false
      onCurrent := if ton = 0 then x.onCurrent else some (ratF32 (f32rat current * 250 / ton)) }
    let s := s.setCh n x
    let e := s.energy n (if ton = 0 then s.offCurrent n else f32rat current * 250 / ton)
    let s := e.2.set (Obj.CH_E_OFF n) e.1
    let high := !s.confFlag (Obj.CH_FREEWHEEL n) && decide (chSingle n < f32rat e.1)
    let s := s.chBit n 12 high
    .next (if high then s.event 8 0x3002 (u8 n ++ u32 e.1) else s)
  else .next s

/-! Rows: learning -/

/-- Learning starts, or starts again (R278). -/
def State.learnCh (s : State) (n : Nat) : State := s.setCh n { s.ch n with learn := some (0, 0), learnAt := s.k }

/-- CH_OL_LEARN (R278): refused with STATE while CH_FINE is false. -/
def execChOlLearn (q : Req) (n : Fin 128) (s : State) : Host.Outcome State Fault Refusal :=
  .next (s.serveSet q (Obj.CH_OL_LEARN n) 1 (fun s => { held := s.flag (Obj.CH_FINE n) }) fun s => s.learnCh n)

/-- OL_LEARN_COMPLETE (R278): after 400 qualifying ticks CH_OL_EXPECT is their mean current, mA. -/
def execOlLearnComplete (n : Fin 128) (s : State) : Host.Outcome State Fault Refusal :=
  let x := s.ch n
  match x.learn with
  | some (k, sum) =>
    if s.running ∧ 400 ≤ k then
      .next (((s.setCh n { x with learn := none }).set (Obj.CH_OL_EXPECT n) (ratF32 (sum / 50 / k))).chBit n 15 false)
    else .next s
  | none => .next s

/-! Rows: banks -/

/-- BANK_UNDERVOLTAGE (R281): 4 consecutive evaluated ticks below the level. -/
def execBankUndervoltage (b : Fin 8) (s : State) : Host.Outcome State Fault Refusal :=
  if s.swActs ∧ 4 ≤ (s.bank b).underC then .next (s.bankBit b 3 true) else .next s

/-- The shed channels of a bank in the order of R284: lowest priority number, then lowest channel number. -/
def State.restoreOrder (s : State) (l : List Nat) : List Nat :=
  l.mergeSort fun a b =>
    decide (s.conf (Obj.CH_PRIORITY a) < s.conf (Obj.CH_PRIORITY b) ∨
      (s.conf (Obj.CH_PRIORITY a) = s.conf (Obj.CH_PRIORITY b) ∧ a ≤ b))

/-- The channel that the bank restores in this tick, if any: after a dip, from the tick after its end (R284, R286). -/
def State.restorable (s : State) (b : Nat) : Option Nat :=
  let x := s.bank b
  let free := (bankChannels b).filter fun n => s.get (Obj.CH_FUSE_STATE n) == 6 && !(s.ch n).changed
  let dip := free.filter fun n => x.dipShed.contains n
  let load := free.filter fun n => !x.dipShed.contains n
  let rating := 9 / 10 * s.confRat (Obj.BANK_RATING b)
  if s.sw.dipReported = none ∧ s.conf Obj.SUPPLY_STATE ≠ 2 ∧ dip ≠ [] then
    (if x.restoreAt = some s.k then none else (s.restoreOrder dip).head?)
  else if f64le x.load (f64of32 (s.conf (Obj.BANK_RESTORE b))) ∧
      (match x.restoreAt with
        | some t => decide (t + s.conf (Obj.BANK_RESTORE_GAP b) ≤ s.k)
        | none => true) = true then
    (s.restoreOrder load).find? fun n =>
      decide (f32rat (s.get (Obj.BANK_CURRENT b)) + f32rat (s.ch n).shedCurrent ≤ rating)
  else none

/-- CHANNEL_RESTORE (R284, R286): on by the 00h rules, else off. -/
def execChannelRestore (b : Fin 8) (n : Fin 128) (s : State) : Host.Outcome State Fault Refusal :=
  if s.swActs ∧ s.restorable b = some n.val then
    let s := s.setBank b { s.bank b with restoreAt := some s.k }
    .next (s.zeroRules n)
  else .next s

/-- DIP_SHED (R286): in the tick after dip shedding was reported every bank sheds its channels of priority 4 to 7. -/
def execDipShed (s : State) : Host.Outcome State Fault Refusal :=
  match s.sw.dipReported with
  | some t =>
    if s.swActs ∧ t < s.k then
      .next ((List.range 8).foldl (fun s b =>
        let l := (bankChannels b).filter fun n => s.get (Obj.CH_FUSE_STATE n) == 1 && !(s.ch n).changed &&
          decide (4 ≤ s.conf (Obj.CH_PRIORITY n)) && !s.tripSeen n
        let s := l.foldl State.shed s
        let x := s.bank b
        (s.setBank b { x with dipShed := x.dipShed ++ l }).bankBit b 5 true) s)
    else .next s
  | none => .next s

/-! Written objects -/

/-- The checks of a write to an object of the chapter (R253, R255, R261, R278). -/
def State.swExtra (s : State) (key v : Nat) : Extra :=
  let ix := key / 256
  let sub := key % 256
  if 0x3000 ≤ ix ∧ ix < 0x3080 then
    let n := ix - 0x3000
    let off := !s.flag (Obj.CH_ENABLE n)
    if sub = 0x20 then
      { range := v == 0 || (decide (chPwmMin n ≤ v ∧ v ≤ 160) && decide (s.get (Obj.CH_PWM_PHASE n) < v)), state := off }
    else if sub = 0x21 then
      { range := s.get (Obj.CH_PWM_PERIOD n) == 0 || decide (v < s.get (Obj.CH_PWM_PERIOD n)), state := off }
    else if sub = 0x26 then { range := v == 0 || chClass n != 2 }
    else if sub = 0x13 then { range := s.refOk numTys v }
    else if sub = 0x2B then { held := s.flag (Obj.CH_FINE n) }
    else {}
  else {}

/-- The effect of a write that does more than hold its value (R270, R273, R278, Table 4). -/
def State.swWrite (s : State) (key v : Nat) : Option State :=
  let ix := key / 256
  let sub := key % 256
  if 0x3000 ≤ ix ∧ ix < 0x3080 then
    let n := ix - 0x3000
    if sub = 0x22 ∨ sub = 0x23 then some ((s.set key v).setCh n { s.ch n with loadWritten := true })
    else if sub = 0x1C then some (s.rearmCh n)
    else if sub = 0x2B then some (s.learnCh n)
    else none
  else if 0x3100 ≤ ix ∧ ix < 0x3108 ∧ sub = 0xF then some ((bankChannels (ix - 0x3100)).foldl State.rearmCh s)
  else none

end Sys2Proof.Machine
end

