-- ==== Sys2Proof/Machine/Valves.lean ====
section
/-! DEFINITION. Valve and solenoid drive: profiles, boost sharing, coil models, groups and the boost converter
(R292–R327). -/

namespace Sys2Proof.Machine

/-- A valve channel. -/
def State.vd (s : State) (n : Nat) : VdSt := Sparse.find (fun _ => ({} : VdSt)) s.valve.vd n
/-- A valve channel changed. -/
def State.setVd (s : State) (n : Nat) (x : VdSt) : State :=
  { s with valve := { s.valve with vd := Sparse.put (fun _ => ({} : VdSt)) s.valve.vd n x } }

/-- The members of a group (R292). -/
def groupMembers (g : Nat) : List Nat := (List.range 4).map (4 * g + ·)
/-- The even channel of a paralleled pair (R323). -/
def State.paralleled (s : State) (n : Nat) : Bool := n % 2 == 0 && s.confFlag (Obj.VD_PARALLEL n)
/-- The odd channel of a paralleled pair, which follows the even one (R323). -/
def State.oddMember (s : State) (n : Nat) : Bool := n % 2 == 1 && s.confFlag (Obj.VD_PARALLEL (n - 1))
/-- Enabled by itself. -/
def State.vdOn (s : State) (n : Nat) : Bool := s.confFlag (Obj.VD_ENABLE n) && !s.oddMember n

/-- S holds its on-vote for D12 (R296); the VD_ENABLE of an odd member is ignored (R323). -/
def State.valveWants (s : State) : Bool :=
  (List.range 48).any (fun n => s.flag (Obj.VD_ENABLE n) && !(n % 2 == 1 && s.flag (Obj.VD_PARALLEL (n - 1)))) ||
    s.pair.hold.isSome

/-- The stages work: D12 is on, and the module acts or holds (R324, R325). -/
def State.vdLive (s : State) : Bool := s.domOn 12 && ((s.running && s.acting) || s.pair.hold.isSome)

/-- A saturating step of a counter held in a channel. -/
def up32 (n : Nat) : Nat := satAdd 32 n 1

/-! Profiles (R303–R306) -/

/-- The hold target, F32: the demand of a proportional channel, else VD_I_HOLD; limited while derating (R303, R316). -/
def State.holdTarget (s : State) (n : Nat) : Nat :=
  let x := s.vd n
  let t := if s.conf (Obj.VD_KIND n) = 1 then x.demand else s.conf (Obj.VD_I_HOLD n)
  if x.derate then f32min t (s.conf (Obj.VD_I_HOLD_MIN n)) else t

/-- The stage rating of R297. -/
def State.stageRating (s : State) (n : Nat) : Nat := if s.paralleled n then 0x40A00000 else 0x40200000

/-- A setpoint at the stage's resolution of 1 mA, to the nearest (R297; log entry 79). -/
def milliamp (v : Nat) : Nat := ratF32 ((roundHalfAway (f32rat v * 1000) : Rat) / 1000)

/-- The phase whose target the stage regulates: a restarted boost that waits leaves it as it was (R307, R312). -/
def VdSt.phase (x : VdSt) : Nat := if x.st = 1 then x.waitIn else x.st

/-- The target of the stage without dither, F32; 0 where it regulates none (R303, R312). -/
def State.vdTarget (s : State) (n : Nat) : Nat :=
  let p := (s.vd n).phase
  if p = 3 then milliamp (s.conf (Obj.VD_I_PEAK n))
  else if p = 5 ∨ ((s.vd n).st = 1 ∧ p = 4) then milliamp (s.holdTarget n)
  else 0

/-- What the stage regulates at an instant, F32: the target, in the hold phase with its dither, within 0 and the stage's
rating (R303, R306). -/
def State.vdSetpoint (s : State) (n t : Nat) : Nat :=
  let x := s.vd n
  let f := s.conf (Obj.VD_DITHER_F n)
  if x.st = 5 ∧ s.conf (Obj.VD_KIND n) = 1 ∧ 0 < f then
    let p := (roundHalfAway (1000000 / (f : Rat))).toNat
    let v := s.holdTarget n
    let a := s.conf (Obj.VD_DITHER_A n)
    milliamp (f32clamp 0 (s.stageRating n) (if 2 * ((t - x.enabledAt) % p) < p then f32add v a else f32sub v a))
  else s.vdTarget n

/-! Decay (R298) -/

/-- A decay setting's value. -/
def decayOf (v : Nat) : Decay := if v = 1 then .slow else .fast

/-- The decay that a channel's current undergoes now: a fast decay acts as a slow one while another member has the group
rail on the boost rail (R298). -/
def State.decayNow (s : State) (n : Nat) : Option Decay :=
  (s.vd n).decay.map fun d => if s.get (Obj.HG_STATE (n / 4)) = 2 then .slow else d

/-- The channel's freewheel switch is closed: a slow decay, and never on a standby (R298, R324). -/
def State.freewheels (s : State) (n : Nat) : Bool := (s.vd n).decay == some .slow && !s.standby

/-! Groups (R293, R542) -/

/-- FEED-V below −0.5 V holds every group switch off in hardware: by its latest entry (R542, log entry 78). -/
def State.valveFeedReversed (s : State) : Bool := decide (f32rat (s.get (Obj.BST_V_FEED 0)) < -1 / 2)

/-- The group switch conducts. -/
def State.groupConducts (s : State) (g : Nat) : Bool :=
  (s.get (Obj.HG_STATE g) == 1 || s.get (Obj.HG_STATE g) == 2) && !s.valveFeedReversed

/-- The input of the group switch that the members call for: the boost rail while one boosts on it (R293, R295). -/
def State.groupInput (s : State) (g : Nat) : Nat :=
  if (groupMembers g).any fun n => (s.vd n).st == 2 && !(s.vd n).lowBoost then 2 else 1

/-- The group switch turns on at the first instant a member needs it (R293). -/
def State.groupOn (s : State) (g : Nat) : State :=
  if s.get (Obj.HG_STATE g) = 0 then s.set (Obj.HG_STATE g) 1 else s

/-- A member becomes the boost owner at an instant (R293, R295, R309). The switch of a faulted group stays off (R321). -/
def State.beginBoost (s : State) (n t : Nat) : State :=
  let g := n / 4
  let low := !(s.valve.bst == 1 && decide (40 ≤ f32rat (s.get (Obj.BST_V_RAIL 0))))
  let x := s.vd n
  let s := s.setVd n { x with
    st := 2, boostAt := t, lowBoost := low, decay := none, flags := if low then x.flags ||| 16 else x.flags }
  let s := s.set (Obj.HG_BOOST_OWNER g) n
  let s := s.set (Obj.HG_STATE g) (if s.get (Obj.HG_FAULT g) = 0 then s.groupInput g else 3)
  if low then { s with valve := { s.valve with lowStarts := up32 s.valve.lowStarts } } else s

/-- The boost path of a member's group is given up: the waiter becomes the owner (R309). -/
def State.releaseBoost (s : State) (n t : Nat) : State :=
  let g := n / 4
  let w := s.get (Obj.HG_WAITER g)
  if s.get (Obj.HG_BOOST_OWNER g) = n then
    if w < 48 then
      let x := s.vd w
      let us := min 65535 (t - x.waitFrom)
      let s := (s.setVd w { x with waitUs := us }).setAll
        [(Obj.HG_WAITER g, 0xFF), (Obj.HG_MAX_WAIT g, max us (s.get (Obj.HG_MAX_WAIT g)))]
      s.beginBoost w t
    else s.setAll [(Obj.HG_BOOST_OWNER g, 0xFF), (Obj.HG_STATE g, if s.get (Obj.HG_STATE g) = 2 then 1 else s.get (Obj.HG_STATE g))]
  else if w = n then s.set (Obj.HG_WAITER g) 0xFF
  else s

/-- The hold phase begins. -/
def State.toHold (s : State) (n t : Nat) : State := s.setVd n { s.vd n with st := 5, holdFrom := t, decay := none }

/-- The transition begins: the stage opens under VD_TRANS_DECAY (R298, R303). -/
def State.toTransition (s : State) (n : Nat) : State :=
  s.setVd n { s.vd n with st := 4, decay := some (decayOf (s.conf (Obj.VD_TRANS_DECAY n))) }

/-- The phase after the peak: the transition, left out when the target is at or above VD_I_PEAK (R303), or when the
profile had neither boost nor peak. -/
def State.afterPeak (s : State) (n t : Nat) (bare : Bool) : State :=
  if bare || f32le (s.conf (Obj.VD_I_PEAK n)) (s.holdTarget n) then s.toHold n t
  else s.toTransition n

/-- The phase after the boost, or after a boost left out. -/
def State.afterBoost (s : State) (n t : Nat) : State :=
  if s.conf (Obj.VD_PEAK_TIME n) = 0 then s.afterPeak n t (s.conf (Obj.VD_BOOST_TIME n) == 0)
  else s.setVd n { s.vd n with st := 3, peakFrom := t, decay := none }

/-- A profile starts, or starts again, at an instant: boost, wait for it, or skip it (R303, R307, R309, R310). -/
def State.startProfile (s : State) (n t : Nat) (len : Option Nat) : State :=
  let g := n / 4
  let x := s.vd n
  let s := s.setVd n { x with events := up32 x.events, inj := len.map fun l => (t, l), waitIn := x.st }
  let s := s.groupOn g
  if s.conf (Obj.VD_BOOST_TIME n) = 0 then s.afterBoost n t
  else if s.get (Obj.HG_BOOST_OWNER g) = 0xFF then
    (s.setVd n { s.vd n with waitUs := 0 }).beginBoost n t
  else if s.get (Obj.HG_WAITER g) = 0xFF then
    let s := (s.set (Obj.HG_WAITER g) n).count (Obj.HG_DEFERRALS g) 1
    let x := s.vd n
    s.setVd n { x with st := 1, waitFrom := t, flags := x.flags ||| 8 }
  else
    let s := s.count (Obj.HG_SKIPS g) 1
    let x := s.vd n
    (s.setVd n { x with flags := x.flags ||| 12 }).afterBoost n t

/-- VD_BOOST_US of a channel that stops boosting at an instant, by whatever end (R304). -/
def VdSt.boosted (x : VdSt) (t : Nat) : Nat := if x.st = 2 then t - x.boostAt else x.boostUs

/-- The stage turns off and decays under VD_OFF_DECAY (R305). -/
def State.stageOff (s : State) (n t : Nat) : State :=
  let x := s.vd n
  if 1 ≤ x.st ∧ x.st ≤ 5 then
    s.setVd n { x with
      st := 6, offAt := some t, inj := none, boostUs := x.boosted t, decay := some (decayOf (s.conf (Obj.VD_OFF_DECAY n))) }
  else s

/-- The stage turns off, and the boost path that it held or awaited is free (R305, R309). -/
def State.vdOff (s : State) (n t : Nat) : State :=
  if 1 ≤ (s.vd n).st ∧ (s.vd n).st ≤ 5 then (s.stageOff n t).releaseBoost n t else s

/-- A channel is faulted (R313, R317–R321): fast decay after an over-temperature, else VD_OFF_DECAY (R317; log entry 79). It
stays commanded as it was, and an event that waits will find it in 08h (R307). -/
def State.vdFault (s : State) (n f t : Nat) : State :=
  let x := s.vd n
  let on := decide (1 ≤ x.st ∧ x.st ≤ 5)
  (s.setVd n { x with
    st := 8, fault := f, inj := none, heldLen := none, boostUs := x.boosted t
    offAt := if on then some t else x.offAt
    decay := if f = 4 then some .fast else if on then some (decayOf (s.conf (Obj.VD_OFF_DECAY n))) else x.decay
    }).releaseBoost n t

/-- The event of a valve fault: channel, fault, t_w. -/
def State.vdFaultEvent (s : State) (n f : Nat) : State :=
  s.event 9 0x4000 (u8 n ++ u8 f ++ u32 (f64to32 (s.vd n).tw))

/-! Demand at the end of a tick (R300–R302, R305) -/

/-- The demand of a channel that is no injector, and whether its source is valid (R300). -/
def State.vdDemand (s : State) (n : Nat) : Nat × Bool :=
  let src := s.conf (Obj.VD_SOURCE n)
  if src = 0 then (s.conf (Obj.VD_DEMAND n), true)
  else
    let e := s.srcEntry src (Obj.VD_APP_OFFSET n) (Obj.VD_LOOP_CMD n)
    if s.usable e.2.1 e.1 (s.conf (Obj.VD_CMD_MAX_AGE n)) e.2.2 then (e.2.2, true)
    else
      let fb := s.conf (Obj.VD_FALLBACK n)
      (if fb = 0 then 0 else if fb = 1 then (s.vd n).lastValid else s.conf (Obj.VD_FALLBACK_I n), false)

/-- An injector's entry: whether it is valid, and the start offset and length of a new event (R302). -/
def State.injEntry (s : State) (n : Nat) : Bool × Option (Nat × Nat) :=
  let a := s.area (Obj.VD_APP_OFFSET n)
  let off := a.at_ 16 2
  let len := a.at_ 18 4
  let ok := a.valid && decide (s.k ≤ a.stamp + s.conf (Obj.VD_CMD_MAX_AGE n)) &&
    decide (off ≤ 249 ∧ 100 ≤ len ∧ len ≤ 100000)
  (ok, if ok ∧ a.at_ 22 1 = 1 ∧ (s.vd n).taken ≠ some a.stamp then some (off, len) else none)

/-- A channel is commanded off at an instant: its stage turns off, a held event is dropped (R305, R308); the boost path is
passed on when every demand of the boundary is taken (R309). -/
def State.vdCommandOff (s : State) (n t : Nat) : State :=
  let x := s.vd n
  let s := s.setVd n { x with cmdOn := false, event := none, heldLen := none, st := if x.st = 7 then 6 else x.st }
  s.stageOff n t

/-- The demand of a tick applied at the boundary at instant `t`: commands, events, the regulated target
(R301, R302, R305). -/
def State.vdTake (s : State) (t n : Nat) : State :=
  let x := s.vd n
  if s.oddMember n then (if x.st = 0xA then s else s.setVd n { x with st := 0xA, cmdOn := false, event := none })
  else
  let x := if x.st = 0xA then { x with st := 0 } else x
  let s := s.setVd n x
  if s.vdOn n = false then
    if x.cmdOn ∨ (1 ≤ x.st ∧ x.st ≤ 7) then s.vdCommandOff n t else s
  else if s.conf (Obj.VD_KIND n) = 2 then
    let e := s.injEntry n
    let x := { x with srcBad := !e.1, clamped := false }
    match e.2 with
    | some (off, len) => s.setVd n { x with
        taken := some (s.area (Obj.VD_APP_OFFSET n)).stamp, event := some (t + off, some len) }
    | none => s.setVd n x
  else
    let d := s.vdDemand n
    let prop := s.conf (Obj.VD_KIND n) == 1
    let v := if prop then f32clamp 0 (s.conf (Obj.VD_I_MAX n)) d.1 else d.1
    let clamped := prop && (f32lt d.1 0 || f32lt (s.conf (Obj.VD_I_MAX n)) d.1)
    let cmd := f32lt 0 v
    let old := s.holdTarget n
    let was := x.cmdOn
    let x := { x with
      srcBad := !d.2
      clamped := clamped
      lastValid := if d.2 ∧ s.conf (Obj.VD_SOURCE n) ≠ 0 then d.1 else x.lastValid
      demand := v
      cmdOn := cmd
      event := if cmd && !was then some (t, none) else x.event }
    let s := s.setVd n x
    if !cmd then s.vdCommandOff n t
    else if prop ∧ x.st = 5 ∧ 1 / 2 < f32rat old - f32rat (s.holdTarget n) then s.toTransition n
    else s

/-- A group at a boundary: off once every member is idle or the stages may not drive, faulted, or on (R293, R318, R319,
R324). -/
def State.groupBoundary (s : State) (g : Nat) : State :=
  let idle := !s.vdLive || (groupMembers g).all fun n => (s.vd n).st == 0 || (s.vd n).st == 8 || (s.vd n).st == 0xA
  let s := s.set (Obj.HG_STATE g) (if s.get (Obj.HG_FAULT g) ≠ 0 then 3 else if idle then 0 else s.groupInput g)
  let odd := fun n => n % 2 == 1 && s.flag (Obj.VD_PARALLEL (n - 1))
  let longest := ((groupMembers g).map fun n =>
    if s.flag (Obj.VD_ENABLE n) && !odd n then s.get (Obj.VD_BOOST_TIME n) else 0).foldl max 0
  s.set (Obj.HG_LONGEST_BOOST g) longest

/-- The boost path of a group when the demands of a boundary at instant `t` are taken: a waiter that waits no longer is none,
and an owner that boosts no longer passes it on (R309). -/
def State.boostSettle (t : Nat) (s : State) (g : Nat) : State :=
  let w := s.get (Obj.HG_WAITER g)
  let o := s.get (Obj.HG_BOOST_OWNER g)
  let s := if w < 48 ∧ (s.vd w).st ≠ 1 then s.set (Obj.HG_WAITER g) 0xFF else s
  if o < 48 ∧ (s.vd o).st ≠ 2 then s.releaseBoost o t else s

/-- A channel's fault cleared: it is in 00h, and starts at the first boundary at which it is commanded on (R321). -/
def State.vdClear (s : State) (n : Nat) : State :=
  s.setVd n { s.vd n with st := 0, fault := 0, cmdOn := false, openC := 0, pinC := 0, decay := none }

/-- A write of false to VD_ENABLE comes into force: a faulted channel is in 00h (R75, R321). -/
def State.vdDisabled (s : State) (n : Nat) : State :=
  if s.confFlag (Obj.VD_ENABLE n) && !s.flag (Obj.VD_ENABLE n) && (s.vd n).st == 8 then s.vdClear n else s

/-- The effect of VD_REARM: faults 01h, 03h and 04h (R321, Table 5). -/
def State.vdRearmed (s : State) (n : Nat) : State :=
  let x := s.vd n
  if x.rearm ∧ x.st = 8 ∧ (x.fault = 1 ∨ x.fault = 3 ∨ x.fault = 4) then s.vdClear n else s

/-- The effect of HG_REARM: the group fault and the member faults 02h, 05h and 06h (R321, Table 7). -/
def State.hgRearmed (s : State) (g : Nat) : State :=
  let s := (groupMembers g).foldl (fun s n =>
    let x := s.vd n
    if x.st = 8 ∧ (x.fault = 2 ∨ x.fault = 5 ∨ x.fault = 6) then s.vdClear n else s) s
  s.setAll [(Obj.HG_FAULT g, 0), (Obj.HG_STATE g, if s.get (Obj.HG_STATE g) = 3 then 0 else s.get (Obj.HG_STATE g))]

/-- What the boundary notes of a channel: the state and targets of the window that ends (R312, R315). -/
def State.vdNotes (s : State) (n : Nat) : State :=
  let x := s.vd n
  let aim := s.holdTarget n
  s.setVd n { x with
    last := x.st, lastTarget := aim, lastAim := s.vdTarget n
    targets := if s.vdOn n then (aim :: x.targets).take 40 else [] }

/-- The rearms and the demands of a tick, at the boundary at instant `t` (R75, R301, R309, R321). -/
def State.vdApply (s : State) (t : Nat) : State :=
  let s := s.valve.hgRearm.foldl State.hgRearmed ((List.range 48).foldl State.vdRearmed s)
  let s := (List.range 48).foldl (fun s n => (s.vdTake t n).vdDisabled n) s
  (List.range 12).foldl (State.boostSettle t) s

/-- No rearm waits any more. -/
def State.rearmsPast (s : State) : State :=
  let s := (List.range 48).foldl (fun s n => if (s.vd n).rearm then s.setVd n { s.vd n with rearm := false } else s) s
  { s with valve := { s.valve with hgRearm := [] } }

/-- The chapter's work at the end of a tick, for the boundary at instant `t`: nothing takes effect in a pair hold
(R325), nor where one begins or the lease lapses (R313, R426), nor where the module does not act (R324). -/
def State.vdEnd (s : State) (t : Nat) : State :=
  let s := (List.range 48).foldl State.vdNotes s
  let s := if s.vdLive && s.pair.hold.isNone && !s.unapplied (t / 250) then s.vdApply t else s
  let s := s.rearmsPast
  let s := (List.range 12).foldl State.groupBoundary s
  if s.vdLive then (List.range 48).foldl (fun s n => s.setVd n { s.vd n with setpoint := s.vdSetpoint n t }) s else s

/-! Capture: entries, coil model, checks (R299, R312–R320) -/

/-- A window that was not captured counts down the suspension. -/
def State.feedMissed (s : State) : State := { s with valve := { s.valve with suspend := s.valve.suspend - 1 } }

/-- FEED-V, the rail, the converter's state (R294, R320). -/
def State.bstCapture (s : State) (b : Option BstSample) : State :=
  match b with
  | none => (s.lateTick.clearInput (Obj.BST_V_RAIL 0)).feedMissed
  | some a =>
    let sag := sagged s.valve.feeds a.low (s.conf (Obj.BST_SAG_DV 0))
    let v : ValveSt := { s.valve with
      suspend := if sag then 3 else s.valve.suspend - 1
      feeds := (a.feed :: s.valve.feeds).take 16
      bstStart := if 40 ≤ f32rat a.rail then none else s.valve.bstStart }
    let s : State := { s with valve := v }
    let want := (List.range 48).any fun n => s.vdOn n && decide (0 < s.conf (Obj.VD_BOOST_TIME n))
    let st := s.valve.bst
    let low := decide (f32rat a.feed < 6)
    let st' := if !want then 0 else if low then 2 else if st = 3 then 3 else 1
    let v : ValveSt := { s.valve with
      bst := st'
      bstStart := if st' = 1 ∧ st ≠ 1 ∧ f32rat a.rail < 40 then some s.k else if st' ≠ 1 then none else s.valve.bstStart
      bstFail := if st' = 3 then s.valve.bstFail else none }
    let s := { s with valve := v }
    let s := s.setAll [(Obj.BST_STATE 0, st'), (Obj.BST_V_FEED 0, a.feed), (Obj.BST_LOW_STARTS 0, s.valve.lowStarts)]
    s.capture (Obj.BST_V_RAIL 0) a.rail true

/-- One update of the two-node model in the order of R314: t_w and t_b. -/
def coilStep (r20 cw cb rwb rba gain amb sq tw tb : Nat) (meas : Option Nat) : Nat × Nat :=
  let dt := ratF64 (1 / 4000)
  let k := ratF64 (393 / 100000)
  let rw := f64mul r20 (f64add (ratF64 1) (f64mul k (f64sub tw (ratF64 20))))
  let p := f64mul sq rw
  let q := f64div (f64sub tw tb) rwb
  let tw' := f64add tw (f64mul (f64div dt cw) (f64sub p q))
  let tb' := f64add tb (f64mul (f64div dt cb) (f64sub q (f64div (f64sub tb amb) rba)))
  match meas with
  | none => (tw', tb')
  | some r =>
    let tm := f64add (ratF64 20) (f64div (f64sub (f64div r r20) (ratF64 1)) k)
    (f64add tw' (f64mul gain (f64sub tm tw')), tb')

/-- A resistance measurement is valid in the window (R315). -/
def State.rValid (s : State) (n cur : Nat) : Bool :=
  let x := s.vd n
  let now := f32rat x.lastTarget
  x.last == 5 && decide (x.holdFrom + 250 ≤ 250 * s.k) && x.targets.all (fun t => decide (|f32rat t - now| ≤ now / 100)) && decide (1 / 5 ≤ f32rat cur)

/-- The open coil of R320 is found in the window that has ended: it decides before what else reaches the channel at its end
(R313). -/
def State.openCoil (s : State) (n : Nat) : Bool :=
  let x := s.vd n
  s.vdLive && s.pair.hold.isNone && x.last == 5 && decide (4 ≤ x.st ∧ x.st ≤ 6) && decide (4 ≤ x.openC) &&
    decide (s.valve.suspend = 0)

/-- Derating and trip of the coil (R316, R317); in a pair hold no target changes (R325). -/
def State.coilLimits (s : State) (n : Nat) : State :=
  let x := s.vd n
  let d := f64of32 (s.conf (Obj.VD_T_DERATE n))
  let on := f64le d x.tw
  let off := f64le x.tw (f64sub d (ratF64 10))
  let held := s.pair.hold.isSome
  let s := if held then s else s.setVd n { x with derate := on || (x.derate && !off) }
  let s := if on && !x.derate && !held then s.event 9 0x4001 (u8 n ++ u32 (f64to32 x.tw)) else s
  if f64le (f64of32 (s.conf (Obj.VD_T_TRIP n))) x.tw ∧ x.st ≠ 8 ∧ s.openCoil n = false then
    (s.vdFault n 4 (250 * s.k)).vdFaultEvent n 4
  else s

/-- The coil model of a channel in a tick: an enabled channel's is updated, but on a standby, whose t_w and t_b follow the
mirror (R314, R324). -/
def State.coilUpdate (s : State) (n : Nat) (r : Option Nat) : State :=
  if s.vdOn n && !s.standby then
    let x := s.vd n
    let c := fun key => f64of32 (s.conf key)
    let amb := (s.ambient (s.conf (Obj.VD_AMB_SRC n)) (s.conf (Obj.VD_AMB_DEF n))).1
    let t := coilStep (c (Obj.VD_R20 n)) (c (Obj.VD_C_W n)) (c (Obj.VD_C_B n)) (c (Obj.VD_R_WB n)) (c (Obj.VD_R_BA n))
      (c (Obj.VD_FUSE_GAIN n)) amb (f64of32 x.sq) x.tw x.tb (r.map f64of32)
    let s := s.setVd n { x with tw := t.1, tb := t.2 }
    if s.vdLive then s.coilLimits n else s
  else s

/-- The entry of an odd member of a paralleled pair, which reports nothing of its own (R299, R323). -/
def State.oddEntry (s : State) (n : Nat) : State :=
  (s.setAll [(Obj.VD_CURRENT n, 0), (Obj.VD_STATUS n, 0), (Obj.VD_R_NOW n, nan32), (Obj.VD_T_WIND n, 0), (Obj.VD_T_BODY n, 0),
    (Obj.VD_FAULT n, 0), (Obj.VD_BOOST_US n, 0), (Obj.VD_WAIT_US n, 0)]).capture (Obj.VD_STATE n) 0xA true

/-- The entry of one valve channel, with its coil model (R299, R312, R314–R320, Table 8). -/
def State.vdCapture (inp : List VdSample) (s : State) (n : Nat) : State :=
  if s.oddMember n then s.oddEntry n
  else
  match inp.find? fun a => a.n == n with
  | none => (s.coilUpdate n none).lateTick.clearInput (Obj.VD_STATE n)
  | some a =>
    let x := s.vd n
    let cur := ratF32 ((min 4095 a.count : Nat) * (if s.paralleled n then 1 / 250 else 1 / 500))
    let i := f32rat cur
    let susp := decide (0 < s.valve.suspend) || s.standby
    let valid := s.rValid n cur
    let r := if valid then f32div a.vcoil cur else nan32
    let amb := s.ambient (s.conf (Obj.VD_AMB_SRC n)) (s.conf (Obj.VD_AMB_DEF n))
    let weak := a.full && decide (i < f32rat x.lastAim * 95 / 100)
    let look := s.groupConducts (n / 4) && (x.last == 0 || x.last == 7) && !susp
    let flags := x.flags
    let y := { x with
      sq := a.sq
      openC := if susp then x.openC
        else if x.last = 5 ∧ x.holdFrom + 250 ≤ 250 * s.k ∧ a.full ∧ i < 1 / 20 then x.openC + 1 else 0
      pinC := if look then (if a.pinLow then x.pinC + 1 else 0) else if susp then x.pinC else 0
      pinHigh := if a.pinLow then 0 else x.pinHigh + 1
      openOff := x.openOff && (a.pinLow || decide (x.pinHigh + 1 < 40))
      flags := 0 }
    let s := (s.setVd n y).coilUpdate n (if valid then some r else none)
    let y := s.vd n
    let st := boolNat weak + flags % 32 / 2 * 2 + 32 * boolNat y.derate + 64 * boolNat y.openOff + 512 * boolNat amb.2 +
      1024 * boolNat y.srcBad + 2048 * boolNat y.clamped + 4096 * boolNat valid + 8192 * boolNat susp
    let shown := if s.pair.hold.isSome ∧ x.last ≠ 8 then 9 else x.last
    let s := [(Obj.VD_CURRENT n, cur), (Obj.VD_STATUS n, st), (Obj.VD_R_NOW n, r),
      (Obj.VD_T_WIND n, f64to32 y.tw), (Obj.VD_T_BODY n, f64to32 y.tb), (Obj.VD_EVENTS n, y.events),
      (Obj.VD_RETRIGS n, y.retrigs), (Obj.VD_HELD n, y.held), (Obj.VD_FAULT n, y.fault),
      (Obj.VD_BOOST_US n, y.boostUs), (Obj.VD_WAIT_US n, y.waitUs)].foldl (fun s p => s.set p.1 p.2) s
    s.capture (Obj.VD_STATE n) shown true

/-- The chapter's share of the capture phase: nothing while D12 is not on (R219). -/
def State.valveCapture (s : State) (inp : TickIn) : State :=
  if s.domOn 12 then
    let s := s.bstCapture inp.bst
    let s := (List.range 12).foldl (fun s g => match inp.hg.find? fun a => a.g == g with
      | some a => s.capture (Obj.HG_CURRENT g) a.current true
      | none => s.lateTick.clearInput (Obj.HG_CURRENT g)) s
    (List.range 48).foldl (State.vdCapture inp.vd) s
  else
    let s := if (s.entry (Obj.BST_V_RAIL 0)).valid then s.clearInput (Obj.BST_V_RAIL 0) else s
    let s := (List.range 12).foldl (fun s g =>
      if (s.entry (Obj.HG_CURRENT g)).valid then s.clearInput (Obj.HG_CURRENT g) else s) s
    (List.range 48).foldl (fun s n =>
      if (s.entry (Obj.VD_STATE n)).valid then s.clearInput (Obj.VD_STATE n) else s) s

/-- t_w and t_b at a start and at an enable, whose dither runs from the instant `t` (R306, R314). -/
def State.coilStart (s : State) (t0 n : Nat) : State :=
  let amb := (s.ambient (s.get (Obj.VD_AMB_SRC n)) (s.get (Obj.VD_AMB_DEF n))).1
  let t := f64add amb (f64of32 (s.get (Obj.VD_START_RISE n)))
  s.setVd n { s.vd n with tw := t, tb := t, enabledAt := t0, derate := false }

/-- A channel with nothing but what it has counted since the start (R327). -/
def VdSt.counters (x : VdSt) : VdSt := { events := x.events, retrigs := x.retrigs, held := x.held }

/-- Every channel begins as at a start (R314, R469, R526). -/
def State.valveStart (s : State) : State :=
  let old := s
  let s := { s with valve := { lowStarts := old.valve.lowStarts } }
  let s := (List.range 12).foldl (fun s g => s.setAll [(Obj.HG_STATE g, 0), (Obj.HG_FAULT g, 0),
    (Obj.HG_BOOST_OWNER g, 0xFF), (Obj.HG_WAITER g, 0xFF)]) s
  (List.range 48).foldl (fun s n => (s.setVd n (old.vd n).counters).coilStart (250 * s.k) n) s

/-- A start within a pair hold: the stages keep what they regulate, and all else begins as at a start (R314, R325). -/
def State.valveStartHeld (s : State) : State :=
  let s := { s with valve := { s.valve with lowStarts := 0 } }
  let s := (List.range 12).foldl (fun s g =>
    s.setAll [(Obj.HG_DEFERRALS g, 0), (Obj.HG_SKIPS g, 0), (Obj.HG_MAX_WAIT g, 0)]) s
  (List.range 48).foldl (fun s n =>
    (s.setVd n { s.vd n with events := 0, retrigs := 0, held := 0 }).coilStart (s.vd n).enabledAt n) s

/-- Every stage opens under VD_OFF_DECAY and every group switch turns off: the end of a hold, a role that drives nothing
(R433). -/
def State.valveOff (s : State) : State :=
  let s := (List.range 48).foldl (fun s n =>
    let x := s.vd n
    let on := decide (1 ≤ x.st ∧ x.st ≤ 5)
    s.setVd n { x with
      st := if 1 ≤ x.st ∧ x.st ≤ 7 then 6 else x.st, inj := none, event := none, heldLen := none, cmdOn := false
      offAt := if on then some (250 * s.k) else x.offAt
      boostUs := x.boosted (250 * s.k)
      decay := if on then some (decayOf (s.conf (Obj.VD_OFF_DECAY n))) else x.decay }) s
  (List.range 12).foldl (fun s g => s.setAll [(Obj.HG_STATE g, if s.get (Obj.HG_FAULT g) = 0 then 0 else 3),
    (Obj.HG_BOOST_OWNER g, 0xFF), (Obj.HG_WAITER g, 0xFF)]) s

/-! Rows: profiles -/

/-- Of the events that wait in a group, the channel's is the next: the earliest, at one instant the lowest channel's
(R309). -/
def State.eventTurn (s : State) (n : Nat) : Bool :=
  match (s.vd n).event with
  | some (t, _) => (groupMembers (n / 4)).all fun m => match (s.vd m).event with
    | some (u, _) => decide (t < u ∨ (t = u ∧ n ≤ m))
    | none => true
  | none => false

/-- VALVE_EVENT (R307, R308): the event that waits reaches the channel at its instant, after a fault of that instant (R313). One
that a mirror has brought starts in the tick in which the module acts (R324). -/
def execValveEvent (n : Fin 48) (s : State) : Host.Outcome State Fault Refusal :=
  let x := s.vd n
  match x.event with
  | some (t, len) =>
    if s.vdLive ∧ s.pair.hold = none ∧ t < 250 * (s.k + 1) ∧ s.eventTurn n ∧
        ¬ (s.openCoil n = true ∧ t = 250 * s.k) then
      let t := max t (250 * s.k)
      let s := s.setVd n { x with event := none }
      let x := s.vd n
      if x.st = 0xA then .next s
      else if x.st = 8 then .next (s.setVd n { x with retrigs := if s.paralleled n then x.retrigs else up32 x.retrigs })
      else if s.paralleled n then
        let soon : Bool := match x.offAt with
          | some o => decide (t < o + s.conf (Obj.VD_MIN_OFF n))
          | none => false
        if 1 ≤ x.st ∧ x.st ≤ 5 then
          let s := s.vdOff n t
          let x := s.vd n
          .next (s.setVd n { x with st := 7, held := up32 x.held, heldLen := len })
        else if x.st = 7 ∨ soon = true then
          .next ((s.setVd n { x with st := 7, held := up32 x.held, heldLen := len }).groupOn (n / 4))
        else .next (s.startProfile n t len)
      else if x.st = 0 then .next (s.startProfile n t len)
      else
        let x := { x with retrigs := up32 x.retrigs }
        if x.st ≤ 2 then
          .next (s.setVd n { x with inj := match len with | some l => some (t, l) | none => x.inj })
        else .next ((s.setVd n x).startProfile n t len)
    else .next s
  | none => .next s

/-- BOOST_END (R303, R304): the current has reached VD_I_PEAK, or VD_BOOST_TIME has elapsed. -/
def execBoostEnd (n : Fin 48) (us : Nat) (current : Rat) (s : State) : Host.Outcome State Fault Refusal :=
  let x := s.vd n
  let t := 250 * s.k + us
  let peak := s.confRat (Obj.VD_I_PEAK n)
  if s.vdLive ∧ us < 250 ∧ x.st = 2 ∧ x.boostAt ≤ t ∧ (peak ≤ current ∨ x.boostAt + s.conf (Obj.VD_BOOST_TIME n) ≤ t) then
    let s := s.setVd n { x with
      boostUs := t - x.boostAt, flags := if current < peak then x.flags ||| 2 else x.flags }
    if current < peak / 10 then .next (s.vdFault n 1 t)
    else .next ((s.afterBoost n t).releaseBoost n t)
  else .next s

/-- PEAK_END (R303). -/
def execPeakEnd (n : Fin 48) (us : Nat) (s : State) : Host.Outcome State Fault Refusal :=
  let x := s.vd n
  let t := 250 * s.k + us
  if s.vdLive ∧ us < 250 ∧ x.st = 3 ∧ x.peakFrom + s.conf (Obj.VD_PEAK_TIME n) ≤ t then .next (s.afterPeak n t false)
  else .next s

/-- TRANSITION_END (R303): the current has reached the hold target. -/
def execTransitionEnd (n : Fin 48) (us : Nat) (current : Rat) (s : State) : Host.Outcome State Fault Refusal :=
  if s.vdLive ∧ us < 250 ∧ (s.vd n).st = 4 ∧ current ≤ f32rat (s.holdTarget n) then .next (s.toHold n (250 * s.k + us))
  else .next s

/-- INJECTOR_EVENT_END (R305): the event length has elapsed from the event's start. -/
def execInjectorEventEnd (n : Fin 48) (us : Nat) (s : State) : Host.Outcome State Fault Refusal :=
  let x := s.vd n
  let t := 250 * s.k + us
  match x.inj with
  | some (a, len) => if s.vdLive ∧ us < 250 ∧ a + len ≤ t then .next (s.vdOff n t) else .next s
  | none => .next s

/-- SWITCH_OFF_COMPLETE (R305): the current is below 20 mA. -/
def execSwitchOffComplete (n : Fin 48) (current : Rat) (s : State) : Host.Outcome State Fault Refusal :=
  let x := s.vd n
  if x.st = 6 ∧ current < 1 / 50 then .next (s.setVd n { x with st := 0, decay := none }) else .next s

/-- PAIR_MIN_OFF_END (R308): VD_MIN_OFF has elapsed, and the held event starts. -/
def execPairMinOffEnd (n : Fin 48) (us : Nat) (s : State) : Host.Outcome State Fault Refusal :=
  let x := s.vd n
  let t := 250 * s.k + us
  match x.offAt with
  | some o =>
    if s.vdLive ∧ s.pair.hold = none ∧ us < 250 ∧ x.st = 7 ∧ o + s.conf (Obj.VD_MIN_OFF n) ≤ t then
      let s := s.setVd n { x with heldLen := none, st := 0 }
      .next (s.startProfile n t x.heldLen)
    else .next s
  | none => .next s

/-- An event by command, at the next boundary (R307). -/
def State.vdRetrigger (s : State) (n : Nat) : State :=
  s.setVd n { s.vd n with event := some (250 * (s.k + 1), none) }

/-- The conditions of VD_RETRIGGER: an on/off channel, that is commanded on. -/
def State.retriggerExtra (s : State) (n : Nat) : Extra :=
  { held := s.get (Obj.VD_KIND n) == 0, state := (s.vd n).cmdOn }

/-- VD_RETRIGGER (R307, Table 6). -/
def execVdRetrigger (q : Req) (n : Fin 48) (s : State) : Host.Outcome State Fault Refusal :=
  .next (s.serveSet q (Obj.VD_RETRIGGER n) 1 (fun s => s.retriggerExtra n) fun s => s.vdRetrigger n)

/-! Rows: protection -/

/-- The channel whose objects govern a stage (R323). -/
def State.governorOf (s : State) (n : Nat) : Nat := if s.oddMember n then n - 1 else n

/-- STAGE_OVERCURRENT (R318): the current of the stage exceeds 12 A. -/
def execStageOvercurrent (n : Fin 48) (current : Rat) (s : State) : Host.Outcome State Fault Refusal :=
  let m := s.governorOf n
  if s.vdLive ∧ 12 < current ∧ (s.vd m).st ≠ 8 then .next (s.vdFault m 3 (250 * s.k)) else .next s

/-- Every member of a group but the odd one of a pair enters 08h at once, `f` giving its fault: no member is left to which the
boost path could pass (R309). -/
def State.groupFault (s : State) (g : Nat) (f : Nat → Nat) : State :=
  let s := s.setAll [(Obj.HG_BOOST_OWNER g, 0xFF), (Obj.HG_WAITER g, 0xFF),
    (Obj.HG_STATE g, if s.get (Obj.HG_STATE g) = 2 then 1 else s.get (Obj.HG_STATE g))]
  (groupMembers g).foldl (fun s n => if s.oddMember n then s else s.vdFault n (f n) (250 * s.k)) s

/-- GROUP_OVERCURRENT (R318): `us` gives the time in limit, µs, and the current at which the switch limits, 40 A ±15 %
(R555). -/
def execGroupOvercurrent (g : Fin 12) (us : Nat × Rat) (s : State) : Host.Outcome State Fault Refusal :=
  if s.vdLive ∧ 100 ≤ us.1 ∧ 34 ≤ us.2 ∧ us.2 ≤ 46 ∧ s.groupConducts g then
    .next ((s.groupFault g fun _ => 5).setAll [(Obj.HG_FAULT g, 5), (Obj.HG_STATE g, 3)])
  else .next s

/-- The sum of what the members regulate, A (R319). -/
def State.regulatedSum (s : State) (g : Nat) : Rat :=
  ((groupMembers g).map fun n => f32rat (s.vdTarget n)).sum

/-- LOW_PIN_CHECK (R319): the pin has been low for 40 windows: a short to ground, or an open coil. -/
def execLowPinCheck (n : Fin 48) (s : State) : Host.Outcome State Fault Refusal :=
  let x := s.vd n
  let g := n.val / 4
  if s.vdLive ∧ (x.st = 0 ∨ x.st = 7) ∧ 40 ≤ x.pinC ∧ s.valve.suspend = 0 ∧ s.groupConducts g then
    if s.regulatedSum g + 3 / 10 < f32rat (s.get (Obj.HG_CURRENT g)) then
      let s := s.groupFault g fun m => if m = n.val then 2 else 6
      .next ((s.set (Obj.HG_FAULT g) 2).vdFaultEvent n 2)
    else if x.openOff then .next s
    else .next ((s.setVd n { x with openOff := true }).event 9 0x4003 (u8 n))
  else .next s

/-- HOLD_OPEN_COIL (R313, R320): 4 windows below 50 mA at full duty in hold. -/
def execHoldOpenCoil (n : Fin 48) (s : State) : Host.Outcome State Fault Refusal :=
  if s.openCoil n then .next (s.vdFault n 1 (250 * s.k)) else .next s

/-- A rearm, in force from the next tick (R75, R321). -/
def State.vdRearm (s : State) (n : Nat) : State := s.setVd n { s.vd n with rearm := true }

/-- t_w lies at or below VD_T_DERATE (R317). -/
def State.vdCool (s : State) (n : Nat) : Bool := f64le (s.vd n).tw (f64of32 (s.get (Obj.VD_T_DERATE n)))

/-- VD_REARM (R317, R321). -/
def execVdRearm (q : Req) (n : Fin 48) (s : State) : Host.Outcome State Fault Refusal :=
  .next (s.serveSet q (Obj.VD_REARM n) 1 (fun s => { state := s.vdCool n }) fun s => s.vdRearm n)

/-- A group's rearm, in force from the next tick (R75, R321). -/
def State.hgRearm (s : State) (g : Nat) : State :=
  { s with valve := { s.valve with hgRearm := if g ∈ s.valve.hgRearm then s.valve.hgRearm else g :: s.valve.hgRearm } }

/-- HG_REARM (R321). -/
def execHgRearm (q : Req) (g : Fin 12) (s : State) : Host.Outcome State Fault Refusal :=
  .next (s.serveSet q (Obj.HG_REARM g) 1 (fun _ => {}) fun s => s.hgRearm g)

/-- BOOST_START_FAIL (R294): below 40 V 800 ticks after a start. -/
def execBoostStartFail (s : State) : Host.Outcome State Fault Refusal :=
  match s.valve.bstStart with
  | some t =>
    if s.domOn 12 ∧ s.valve.bst = 1 ∧ t + 800 ≤ s.k then
      let s := { s with valve := { s.valve with bst := 3, bstStart := none, bstFail := some s.k } }
      .next (s.event 9 0x4002 (u32 (s.get (Obj.BST_V_RAIL 0))))
    else .next s
  | none => .next s

/-- BOOST_RETRY (R294): 4000 ticks after the failure. -/
def execBoostRetry (s : State) : Host.Outcome State Fault Refusal :=
  match s.valve.bstFail with
  | some t =>
    if s.domOn 12 ∧ s.valve.bst = 3 ∧ t + 4000 ≤ s.k ∧ 6 ≤ f32rat (s.get (Obj.BST_V_FEED 0)) then
      .next { s with valve := { s.valve with bst := 1, bstStart := some s.k, bstFail := none } }
    else .next s
  | none => .next s

/-! Instants -/

/-- The instants and ticks of the load switches and the valve drive moved with the ticks (R59). -/
def State.moveOutputs (s : State) (d : Int) : State :=
  let o := fun x : Option Nat => x.map (moved d)
  let us := d * 250
  let ous := fun x : Option Nat => x.map (moved us)
  let pair := fun x : Option (Nat × Nat) => x.map fun p => (moved us p.1, p.2)
  { s with
    sw := { s.sw with
      ch := Sparse.mapVals (fun _ => {}) (fun x : ChSt => { x with
        since := moved d x.since, pwmAt := moved d x.pwmAt, learnAt := moved d x.learnAt }) s.sw.ch
      bank := Sparse.mapVals (fun _ => {}) (fun x : BankSt => { x with
        restoreAt := o x.restoreAt, shedAt := x.shedAt.map (moved d), faultAt := o x.faultAt }) s.sw.bank
      dipReported := o s.sw.dipReported }
    valve := { s.valve with
      vd := Sparse.mapVals (fun _ => {}) (fun x : VdSt => { x with
        event := x.event.map fun p => (moved us p.1, p.2), taken := o x.taken, inj := pair x.inj
        boostAt := moved us x.boostAt, peakFrom := moved us x.peakFrom, waitFrom := moved us x.waitFrom
        offAt := ous x.offAt, holdFrom := moved us x.holdFrom, enabledAt := moved us x.enabledAt }) s.valve.vd
      bstStart := o s.valve.bstStart, bstFail := o s.valve.bstFail } }

/-- What a reset without a pair hold leaves of the stages: open, the current of those that conducted under fast decay
(R326). -/
def ValveSt.opened (v : ValveSt) : ValveSt :=
  { vd := (v.vd.filter fun p => decide (1 ≤ p.2.st ∧ p.2.st ≤ 7)).map fun p => (p.1, { decay := some .fast }) }

/-! Written objects -/

/-- The conditions of a write of true to VD_ENABLE (R327). -/
def State.vdEnableOk (s : State) (n : Nat) : Bool :=
  let g := s.get
  let r := fun k => f32rat (g k)
  !(g (Obj.VD_KIND n) == 2 && g (Obj.VD_SOURCE n) != 1) &&
    !(decide (0 < g (Obj.VD_BOOST_TIME n)) && f32lt (g (Obj.VD_I_PEAK n)) (g (Obj.VD_I_HOLD n))) &&
    !f32lt (g (Obj.VD_I_HOLD n)) (g (Obj.VD_I_HOLD_MIN n)) && f32lt (g (Obj.VD_T_DERATE n)) (g (Obj.VD_T_TRIP n)) &&
    decide (1 / 10 ≤ r (Obj.VD_C_W n) * r (Obj.VD_R_WB n)) && decide (1 / 10 ≤ r (Obj.VD_C_B n) * r (Obj.VD_R_BA n))

/-- The checks of a write to an object of the chapter (R307, R314, R317, R323, R327). -/
def State.valveExtra (s : State) (key v : Nat) : Extra :=
  let ix := key / 256
  let sub := key % 256
  if 0x3800 ≤ ix ∧ ix < 0x3830 then
    let n := ix - 0x3800
    let off := !s.flag (Obj.VD_ENABLE n)
    let two := n % 2 == 0 && s.flag (Obj.VD_PARALLEL n)
    let r := f32rat v
    let odd := n % 2 == 1 && s.flag (Obj.VD_PARALLEL (n - 1))
    if sub = 1 then { state := v == 0 || odd || s.vdEnableOk n }
    else if sub = 4 then { state := off || odd }
    else if sub = 2 ∨ (0x20 ≤ sub ∧ sub ≤ 0x24) then { state := off }
    else if sub = 3 then { range := n % 2 == 0, state := off && !s.flag (Obj.VD_ENABLE (n + 1)) }
    else if sub = 0xB then s.retriggerExtra n
    else if sub = 0x10 then { range := two || decide (r ≤ 8) }
    else if sub = 0x14 ∨ sub = 0x17 then { range := two || decide (r ≤ 5 / 2) }
    else if sub = 0x15 then { range := decide (near (1 / 10) ≤ r ∧ r ≤ f32rat (s.get (Obj.VD_I_HOLD n))) }
    else if sub = 0x25 then { range := s.refOk numTys v }
    else if sub = 0x2A then { state := s.vdCool n }
    else {}
  else {}

/-- The effect of a write that does more than hold its value (R307, R314, R321). -/
def State.valveWrite (s : State) (key v : Nat) : Option State :=
  let ix := key / 256
  let sub := key % 256
  if 0x3800 ≤ ix ∧ ix < 0x3830 then
    let n := ix - 0x3800
    if sub = 1 then
      if v = 0 ∨ s.flag key then none else some ((s.set key 1).coilStart (250 * (s.k + 1)) n)
    else if sub = 0xB then some (s.vdRetrigger n)
    else if sub = 0x2A then some (s.vdRearm n)
    else none
  else if 0x3880 ≤ ix ∧ ix < 0x388C ∧ sub = 0xA then some (s.hgRearm (ix - 0x3880))
  else none

end Sys2Proof.Machine
end

