-- ==== Sys2Proof/Machine/Power.lean ====
section
/-! DEFINITION. Power domains, their votes and transitions, and supply supervision (R453–R476). The base sensors of
R549. -/

namespace Sys2Proof.Machine

/-! Votes (R456–R463) -/

/-- The domains on which a domain depends (Table 1). -/
def domDeps (d : Nat) : List Nat :=
  if d = 2 ∨ d = 6 then [5] else if d = 7 ∨ d = 9 ∨ d = 10 ∨ d = 8 then [2, 5] else []

/-- A domain allows retention (Table 1). -/
def allowsRet (d : Nat) : Bool := decide (2 ≤ d ∧ d ≤ 6)

/-- The time from off to on, µs (Table 1). -/
def onTime (d : Nat) : Nat := if d = 6 then 80000 else 2000

/-- The SRAM banks of a domain that carry check codes (R467). -/
def retBanks (d : Nat) : Nat := if d = 2 then 32 else if d = 3 ∨ d = 4 then 24 else if d = 6 then 16 else 0

/-- A loop engine has work enabled (R164, R459). -/
def State.engineWork (s : State) (e : Nat) : Bool :=
  if e < 4 then (List.range 12).any fun i => s.unitOn (12 * e + i) || s.unitPending (12 * e + i)
  else if e = 4 then s.flag Obj.CRB_ENABLE || s.flag Obj.SUP_ENABLE
  else s.flag Obj.GNSS_ENABLE || s.flag Obj.PATH_ENABLE

/-- A controller needs its domain: it is enabled, or has not left the bus yet (R382). -/
def State.canWants (s : State) (c : Nat) : Bool := s.flag (Obj.CAN_ENABLE c) || (s.can c).join != 0

/-- S needs a domain for the blocks of the other chapters or for itself (R220, R248, R296, R353, R358, R420, R459). -/
def State.sNeeds (s : State) (d : Nat) : Bool :=
  if d = 6 then s.flag Obj.GNSS_ENABLE
  else if d = 7 then s.imgWants
  else if d = 8 then (List.range 4).any (fun p => s.flag (Obj.ETH_ENABLE p) || (s.eth p).on) || s.flag Obj.PAIR_ENABLE || (s.eth 4).on
  else if d = 9 then (List.range 4).any s.canWants
  else if d = 10 then (List.range 4).any fun c => s.canWants (4 + c)
  else if d = 11 then s.swWants
  else if d = 12 then s.valveWants
  else if d = 13 then s.senseWants
  else d == 14

/-- The vote of a client on a domain by itself, but for access: 0 none, 1 retention, 2 on. A retention vote on a domain
that allows none is an on-vote (R453, R459–R462); DOM_SERVICE_VOTE of D0 and D1 has no effect (Table 6). -/
def State.ownVote (s : State) (c d : Nat) : Nat :=
  let v := if c = 0 then Sparse.find (fun _ => 0) s.pwr.app d
    else if c < 7 then (if (if c ≤ 3 then 3 else 4) = d ∧ s.engineWork (c - 1) then 2 else 0)
    else if c = 7 then max (if d ≤ 1 then 0 else s.get (Obj.DOM_SERVICE_VOTE d)) (if s.sNeeds d then 2 else 0)
    else if c = 8 then (if s.pwr.wakeVote && bit (s.get Obj.PWR_EXT_MASK) d then 2 else 0)
    else if s.standby && bit s.pwr.partnerOn d then 2 else 0
  if v = 1 ∧ allowsRet d = false then 2 else v

/-- A client holds an access vote on a domain (R463). -/
def State.accessVote (s : State) (c d : Nat) : Bool := s.pwr.access.any fun a => a.client == c && a.dom == d

/-- The vote with those of the domains that depend on it (R457). -/
def State.vote (s : State) (c d : Nat) : Nat :=
  let one := fun d => max (s.ownVote c d) (if s.accessVote c d then 2 else 0)
  ((List.range 15).filter fun e => (domDeps e).contains d).foldl (fun v e => max v (one e)) (one d)

/-- The deepest state that every vote permits (R453, R458). -/
def State.allowed (s : State) (d : Nat) : Nat :=
  if d ≤ 1 then 2
  else
    let v := (List.range 10).foldl (fun v c => max v (s.vote c d)) 0
    if v = 1 ∧ allowsRet d = false then 2 else v

/-- DOM_VOTES (R456). -/
def State.votesWord (s : State) (d : Nat) : Nat := ((List.range 10).map fun c => s.vote c d * 4 ^ c).sum

/-- A domain is in transition. -/
def State.moving (s : State) (d : Nat) : Bool := decide (4 ≤ s.get (Obj.DOM_STATE d))

/-- The allowed state of a domain brought up to date; a change during a transition is held pending (R458, R465). -/
def State.domAllow (s : State) (d : Nat) : State :=
  let a := s.allowed d
  let s := s.set (Obj.DOM_VOTES d) (s.votesWord d)
  if s.get (Obj.DOM_ALLOWED d) = a then s
  else
    let s := s.set (Obj.DOM_ALLOWED d) a
    if s.moving d then
      let s := if s.get (Obj.DOM_PENDING d) = 0xFF then s else s.count (Obj.DOM_REPLACED d) 1
      s.set (Obj.DOM_PENDING d) a
    else s

/-- APP_VOTE_TAKE (R460): a valid entry is in force from the next tick. -/
def State.appVotes (s : State) : State :=
  let a := s.area Obj.PWR_APP_OFFSET
  let l := (List.range 15).map fun d => (d, a.at_ (12 + d) 1)
  if a.valid ∧ l.all (fun p => decide (p.2 ≤ 2)) then
    { s with pwr := { s.pwr with app := l.foldl (fun m p => Sparse.put (fun _ => 0) m p.1 p.2) s.pwr.app } }
  else s

/-! Transitions (R455, R464–R469) -/

/-- Biasing of a state (Table 2). -/
def State.bias (s : State) (d st : Nat) : State :=
  s.setAll [(Obj.DOM_BODY_BIAS_MV d, if st = 1 then 400 else 0),
    (Obj.DOM_ARRAY_MV d, if st = 2 then 800 else if st = 1 then 600 else 0)]

/-- The logic supply of a domain's state, mV, and the word-line underdrive of its arrays on reads, mV (R466, Table 2). -/
def logicSupply (st : Nat) : Nat × Nat := if st = 2 then (800, 50) else (0, 0)

/-- The wake record of a domain that is to be on: the lowest client whose vote or access asks for it (R464; that a
transition from off to retention is no wake is DEDUCED, log entry 44). -/
def State.wakeRecord (s : State) (d goal : Nat) : State :=
  let asks := fun c => decide (goal ≤ s.vote c d)
  let c := ((List.range 10).find? asks).getD 0
  let byVote := ((List.range 15).filter fun e => e == d || (domDeps e).contains d).any fun e =>
    decide (goal ≤ s.ownVote c e)
  (s.setAll [(Obj.DOM_WAKE_SRC d, c + (if byVote then 0 else 16)), (Obj.DOM_WAKE_TICK d, s.k)]).count (Obj.DOM_WAKES d) 1

/-- The blocks of a domain that leaves the on state. -/
def State.domDown (s : State) (d : Nat) : State :=
  if d = 7 then s.imgDown
  else if d = 8 then s.ethDown
  else if d = 9 then [0, 1, 2, 3].foldl State.canDown s
  else if d = 10 then [4, 5, 6, 7].foldl State.canDown s
  else if d = 11 then s.swStart
  else if d = 12 then s.valveStart
  else if d = 13 then s.senseDown
  else s

/-- DOMAIN_TRANSITION_BEGIN (R455, R458, R464, R465): a domain that rests in another state than its allowed one
begins to move, after a transition not before the next tick boundary. -/
def execDomainTransitionBegin (d : Fin 15) (s : State) : Host.Outcome State Fault Refusal :=
  let st := s.get (Obj.DOM_STATE d)
  let a := s.get (Obj.DOM_ALLOWED d)
  if s.running ∧ 2 ≤ d.val ∧ st ≤ 2 ∧ a ≠ st ∧ Sparse.find (fun _ => 0) s.pwr.settled d ≤ s.k then
    let s := s.set (Obj.DOM_PENDING d) 0xFF
    let s := { s with pwr := { s.pwr with
      goal := Sparse.put (fun _ => 0) s.pwr.goal d a, part := Sparse.put (fun _ => 0) s.pwr.part d 0 } }
    let s := if a = 2 then s.wakeRecord d a else s
    let s := if st = 2 then s.domDown d else s
    .next (s.set (Obj.DOM_STATE d) (if st = 0 then 7 else if a = 2 then 5 else if a = 1 then 4 else 6))
  else .next s

/-- The engines of a domain's banks: bank 8p + j belongs to the engine at position p (R467). -/
def bankEngine (d j : Nat) : Nat := (if d = 3 then 0 else 3) + j / 8

/-- The engines of D3 or D4 start from their units' initial state. -/
def State.enginesStart (s : State) (l : List Nat) : State := l.foldl State.engineStart s

/-- Retention-lost banks: flags, counts, events; an engine with a lost data bank starts its units (R467, R468). -/
def State.retLost (s : State) (d : Nat) (lost : List Nat) : State :=
  let l := ((List.range (retBanks d)).filter fun j => lost.contains j)
  let s := l.foldl (fun s j =>
    let s := s.set (Obj.DOM_RET_LOST d) (setBit (s.get (Obj.DOM_RET_LOST d)) j true)
    ((s.count (Obj.DOM_RET_LOST_N d) 1).count Obj.PWR_RET_LOST_TOTAL 1).event 0 0x2000 (u8 d ++ u8 j)) s
  if d = 3 ∨ d = 4 then
    let data := l.filter fun j => !bit (s.get (Obj.DOM_CODE_BANKS d)) j
    s.enginesStart (((List.range 6).filter fun e => data.any fun j => bankEngine d j == e))
  else s

/-- A domain has come on from off: its blocks begin as at a start (R469). -/
def State.domUp (s : State) (d : Nat) : State :=
  if d = 3 then s.enginesStart [0, 1, 2]
  else if d = 4 then s.enginesStart [3, 4, 5]
  else if d = 8 then (List.range 5).foldl (fun s p => if (s.eth p).on then s.ethPower p true else s) s
  else if d = 11 then s.swStart
  else if d = 12 then s.valveStart
  else s

/-- A transition ends in a state: biasing, duration, check codes, a pending state already reached (R455, R465–R467). -/
def State.domReach (s : State) (d st us : Nat) : State :=
  let s := s.setAll [(Obj.DOM_STATE d, st), (Obj.DOM_LAST_US d, us)]
  let s := s.bias d st
  let s := { s with pwr := { s.pwr with
    codes := if st = 1 ∧ 0 < retBanks d then s.pwr.codes.filter (· ≠ d) ++ [d] else s.pwr.codes.filter (· ≠ d)
    goal := Sparse.put (fun _ => 0) s.pwr.goal d 0, part := Sparse.put (fun _ => 0) s.pwr.part d 0
    settled := Sparse.put (fun _ => 0) s.pwr.settled d (s.k + 1) } }
  if s.get (Obj.DOM_PENDING d) = st then s.set (Obj.DOM_PENDING d) 0xFF else s

/-- DOMAIN_TRANSITION_END (R455, R466–R469): `us` is the duration of the part that ends, `lost` the banks whose check
code differs on the exit from retention. -/
def execDomainTransitionEnd (d : Fin 15) (us : Nat) (lost : List Nat) (s : State) : Host.Outcome State Fault Refusal :=
  let st := s.get (Obj.DOM_STATE d)
  let part := Sparse.find (fun _ => 0) s.pwr.part d
  let goal := Sparse.find (fun _ => 0) s.pwr.goal d
  if st = 5 ∧ us ≤ 20 then
    let held := s.pwr.codes.contains d.val
    let s := s.domReach d 2 us
    .next (if held then s.retLost d lost else s)
  else if st = 7 ∧ us ≤ onTime d then
    if goal = 1 then
      let s := { s with pwr := { s.pwr with part := Sparse.put (fun _ => 0) s.pwr.part d us } }
      .next ((s.domUp d).set (Obj.DOM_STATE d) 4)
    else .next ((s.domReach d 2 us).domUp d)
  else if st = 4 ∧ us ≤ 40 then .next (s.domReach d 1 (part + us))
  else if st = 6 ∧ us ≤ 40 then .next (s.domReach d 0 us)
  else .next s

/-- ARRAY_SUPPLY_SWITCH (R466): the array supply in retention follows the junction temperature. -/
def State.arraySupply (s : State) (l : List (Nat × Nat)) : State :=
  l.foldl (fun s p =>
    if 2 ≤ p.1 ∧ p.1 ≤ 6 ∧ s.get (Obj.DOM_STATE p.1) = 1 then
      let t := f32rat p.2
      if 105 < t then s.set (Obj.DOM_ARRAY_MV p.1) 650 else if t ≤ 100 then s.set (Obj.DOM_ARRAY_MV p.1) 600 else s
    else s) s

/-- The domains at a tick boundary: the application's votes, then every allowed state (R458, R460). -/
def State.powerBoundary (s : State) (inp : TickIn) : State :=
  let s := s.appVotes
  let s := (List.range 15).foldl State.domAllow s
  s.arraySupply inp.junction

/-- The domains at the first tick: D0, D1, D14 and, from step 5 of the start, D2 and D5 are on, and so are those that
votes keep on (Table 3 of the start chapter). Only the last have a client that woke them; how long their transition took
is free (log entry 3). -/
def State.powerStart (s : State) : State :=
  (List.range 15).foldl (fun s d =>
    let a := s.allowed d
    let st := if d = 2 ∨ d = 5 then 2 else a
    let s := s.setAll [(Obj.DOM_ALLOWED d, a), (Obj.DOM_VOTES d, s.votesWord d), (Obj.DOM_PENDING d, 0xFF), (Obj.DOM_STATE d, st)]
    let s := s.bias d st
    if 2 ≤ d ∧ 0 < a ∧ d ≠ 2 ∧ d ≠ 5 ∧ d ≠ 14 then
      let v := s.draw
      let s := v.2.set (Obj.DOM_LAST_US d) (v.1.toNat % (onTime d + 1))
      if a = 2 then s.wakeRecord d a else s
    else s) s

/-! Access and wake (R461, R463) -/

/-- ACCESS_WAKE (R463): a client accesses a domain; one that is not on gives it an access vote. -/
def execAccessWake (client : Fin 10) (d : Fin 15) (s : State) : Host.Outcome State Fault Refusal :=
  if s.running then
    if s.accessVote client d then
      .next { s with pwr := { s.pwr with access := s.pwr.access.map fun a =>
        if a.client = client.val ∧ a.dom = d.val then { a with last := s.k } else a } }
    else if s.domOn d then .next s
    else .next { s with pwr := { s.pwr with access := s.pwr.access ++ [⟨client, d, s.k⟩] } }
  else .next s

/-- ACCESS_VOTE_EXPIRY (R463): PWR_ACCESS_HOLD ticks after the client's last access. -/
def execAccessVoteExpiry (client : Fin 10) (d : Fin 15) (s : State) : Host.Outcome State Fault Refusal :=
  if s.running then
    .next { s with pwr := { s.pwr with access := s.pwr.access.filter fun a =>
      !(a.client == client.val && a.dom == d.val && decide (a.last + s.conf Obj.PWR_ACCESS_HOLD ≤ s.k)) } }
  else .next s

/-- WAKE_CHANGE (R461, R544): a new level has lasted 1 ms. -/
def execWakeChange (level : Bool) (s : State) : Host.Outcome State Fault Refusal :=
  if s.pwr.wake = level then .next s
  else
    let s := s.set Obj.PWR_WAKE_IN (boolNat level)
    .next { s with pwr := { s.pwr with
      wake := level, wakeVote := level || s.pwr.wakeVote, wakeLow := if level then none else some (s.k + 1) } }

/-- WAKE_HOLD_EXPIRY (R461): PWR_EXT_HOLD ticks from the first boundary after the low level was accepted. -/
def execWakeHoldExpiry (s : State) : Host.Outcome State Fault Refusal :=
  match s.pwr.wakeLow with
  | some t =>
    if t + s.conf Obj.PWR_EXT_HOLD ≤ s.k then .next { s with pwr := { s.pwr with wakeVote := false, wakeLow := none } }
    else .next s
  | none => .next s

/-- DOM_RET_ACK (R469). -/
def execDomRetAck (q : Req) (d : Fin 15) (s : State) : Host.Outcome State Fault Refusal :=
  .next (s.serveSet q (Obj.DOM_RET_ACK d) 1 (fun _ => {}) fun s => s.set (Obj.DOM_RET_LOST d) 0)

/-! Supply (R470–R473) -/

/-- The warning level in force, F32 (R470). -/
def State.warnLevel (s : State) : Nat :=
  let w := s.conf Obj.SUPPLY_WARN
  if f32rat w ≠ 0 then w else if s.conf Obj.SUPPLY_SYSTEM = 1 then 0x41880000 else 0x41000000

/-- The supply entry (R470–R473, R476). -/
def State.supplyCapture (s : State) (inp : TickIn) : State :=
  let s := s.set Obj.SUPPLY_WARN_NOW s.warnLevel
  match inp.supply with
  | none => if (s.entry Obj.SUPPLY_V_A).valid then s.clearInput Obj.SUPPLY_V_A else s
  | some (a, b, low) =>
    let flags := boolNat (decide (f32rat a < 11 / 2)) + 2 * boolNat (decide (f32rat b < 11 / 2))
    let s := { s with pwr := { s.pwr with
      feedLow := s.pwr.feedLow &&& flags
      dip := s.pwr.dip.map fun (p : Nat × Nat) => (p.1, f32min p.2 low) } }
    let s := s.setAll [(Obj.SUPPLY_V_B, b), (Obj.SUPPLY_V_MIN, low), (Obj.SUPPLY_FEED_FLAGS, flags)]
    s.capture Obj.SUPPLY_V_A a true

/-- The entry of this tick holds a supply measurement. -/
def State.supplySeen (s : State) : Bool := (s.entry Obj.SUPPLY_V_A).valid && (s.entry Obj.SUPPLY_V_A).stamp == s.k

/-- DIP_BEGIN (R471): the lowest sample lies below the warning level. -/
def execDipBegin (s : State) : Host.Outcome State Fault Refusal :=
  let low := s.get Obj.SUPPLY_V_MIN
  if s.running ∧ s.supplySeen ∧ s.get Obj.SUPPLY_STATE = 0 ∧ f32lt low s.warnLevel then
    .next ({ s with pwr := { s.pwr with dip := some (s.k, low) } }.set Obj.SUPPLY_STATE 1)
  else .next s

/-- DIP_SHEDDING (R471, R286): the entry that makes the dip 201 ticks long. -/
def execDipShedding (s : State) : Host.Outcome State Fault Refusal :=
  match s.pwr.dip with
  | some (t, _) =>
    if s.running ∧ s.get Obj.SUPPLY_STATE = 1 ∧ t + 200 ≤ s.k then
      .next ({ s with sw := { s.sw with dipReported := some s.k } }.set Obj.SUPPLY_STATE 2)
    else .next s
  | none => .next s

/-- DIP_END (R471): the lowest sample lies at or above the release level, 0.5 V above the warning level. -/
def execDipEnd (s : State) : Host.Outcome State Fault Refusal :=
  match s.pwr.dip with
  | some (t, low) =>
    if s.running ∧ s.supplySeen ∧ f32rat s.warnLevel + 1 / 2 ≤ f32rat (s.get Obj.SUPPLY_V_MIN) then
      let n := s.k - t
      let s := { s with pwr := { s.pwr with dip := none }, sw := { s.sw with dipReported := none } }
      let s := (s.setAll [(Obj.SUPPLY_STATE, 0), (Obj.SUPPLY_DIP_MIN, low), (Obj.SUPPLY_DIP_TICKS, n % 2 ^ 32)]).count Obj.SUPPLY_DIPS 1
      .next (s.event 0xF 0x2001 (u32 low ++ u32 n))
    else .next s
  | none => .next s

/-- FEED_LOW (R473): one feed has fallen below 5.5 V while the other stays above it. -/
def execFeedLow (feed : Fin 2) (s : State) : Host.Outcome State Fault Refusal :=
  let f := s.get Obj.SUPPLY_FEED_FLAGS
  if s.running ∧ bit f feed ∧ bit f (1 - feed.val) = false ∧ bit s.pwr.feedLow feed = false then
    .next ({ s with pwr := { s.pwr with feedLow := setBit s.pwr.feedLow feed true } }.event 0xF 0x2003 (u8 feed))
  else .next s

/-! Base temperature (R549, R550) -/

/-- THERM_STATE after a reading (Table 8). -/
def thermNext (st : Nat) (t : Rat) : Nat :=
  if 90 < t then 2
  else if t ≤ 72 then 0
  else if st = 0 then (if 75 < t then 1 else 0)
  else if st = 2 then (if t ≤ 85 then 1 else 2)
  else 1

/-- The base sensors at a tick boundary. -/
def State.thermCapture (s : State) (b : Option (Nat × Nat)) : State :=
  match b with
  | none => if (s.entry Obj.THERM_BASE_TEMP).valid then s.clearInput Obj.THERM_BASE_TEMP else s
  | some (x, y) =>
    let t := f32max x y
    let old := s.get Obj.THERM_STATE
    let st := thermNext old (f32rat t)
    let s := (s.capture Obj.THERM_BASE_TEMP t true).setAll
      [(Obj.THERM_STATE, st), (Obj.THERM_APP_CLOCK, if old = 2 then 800 else 1600),
        (Obj.THERM_BASE_PEAK, if s.start.up = 0 then t else f32max t (s.get Obj.THERM_BASE_PEAK))]
    let s := if st = 2 then s.count Obj.THERM_HOT_TICKS 1 else s
    if st = old then s else s.event 0xF 0x2010 (u8 st ++ u32 t)

/-- The checks of a write to an object of the chapter: D0 and D1 accept any vote (Table 6). -/
def State.powerWrite (s : State) (key : Nat) : Option State :=
  let ix := key / 256
  if 0x2110 ≤ ix ∧ ix < 0x211F ∧ key % 256 = 0xF then some (s.set (Obj.DOM_RET_LOST (ix - 0x2110)) 0) else none

end Sys2Proof.Machine
end

