-- ==== Sys2Proof/Machine/Update.lean ====
section
/-! DEFINITION. The field update (R493–R517): wafers, the manifest, verification and install, activation, proofing,
confirmation and fallback. What a start does in an update stands with the start sequence. -/

namespace Sys2Proof.Machine

/-! The update state record (R496, R497) -/

/-- The lowest index that a rising list of held indices lacks, counting from `n`. -/
def firstMissing : Nat → List Nat → Nat
  | n, [] => n
  | n, x :: t => if x = n then firstMissing (n + 1) t else n

/-- The objects of the update, from the record in force and the bitmaps (Table 8). -/
def State.showUpd (s : State) : State :=
  let r := s.upd.rec_
  s.setAll [(Obj.UPD_STATE, r.state), (Obj.UPD_RESULT, r.result), (Obj.UPD_PACKAGE, r.package),
    (Obj.UPD_ACT_TICK, r.actTick), (Obj.UPD_PROOF_SECONDS, r.proofSeconds), (Obj.UPD_PROOF_STARTS, r.proofStarts),
    (Obj.UPD_BAD_STARTS, r.badStarts), (Obj.UPD_NEW_RELEASE, r.newRelease), (Obj.UPD_OLD_RELEASE, r.oldRelease),
    (Obj.UPD_FLOOR, r.floor), (Obj.UPD_WAFERS_TOTAL, (s.upd.manifest.map (·.n)).getD 0),
    (Obj.UPD_WAFERS_HELD, s.upd.held.length), (Obj.UPD_FIRST_MISSING, firstMissing 0 (s.upd.held.map (·.1)))]

/-- The bytes of the region that a CRC-16 closes. -/
def withCrc16 (b : Bytes) : Bytes := b ++ u16 (crc16 b)

/-- A record of `n` bytes whose marker is `mark` and whose last two bytes are the CRC-16 of those before them (R496). -/
def copyOk (n mark : Nat) (b : Bytes) : Bool :=
  b.length == n && field b 0 2 == mark && field b (n - 2) 2 == crc16 (b.take (n - 2))

/-- A copy of the update state record (Table 4). -/
def UpdRec.bytes (r : UpdRec) : Bytes :=
  withCrc16 (u16 0x55AA ++ u16 1 ++ u32 r.seq ++ u8 r.state ++ u8 r.result ++ u8 (boolNat r.newSlot) ++
    u8 (boolNat r.newArea) ++ u32 r.package ++ u32 r.oldRelease ++ u32 r.newRelease ++ u64 r.actTick ++
    u32 r.proofSeconds ++ u8 r.proofStarts ++ u8 r.badStarts ++ u32 r.floor ++ u8 r.cause ++ List.replicate 19 0)

/-- The fields that a copy of the update state record spells (Table 4). -/
def updRecOf (b : Bytes) : UpdRec :=
  { seq := field b 4 4, state := field b 8 1, result := field b 9 1, newSlot := field b 10 1 == 1
    newArea := field b 11 1 == 1, package := field b 12 4, oldRelease := field b 16 4, newRelease := field b 20 4
    actTick := field b 24 8, proofSeconds := field b 32 4, proofStarts := field b 36 1, badStarts := field b 37 1
    floor := field b 38 4, cause := field b 42 1 }

/-- The copy of the update state record that is in force (R496). -/
def UpdSt.recForce (u : UpdSt) : Option Bool := copyInForce (copyOk 64 0x55AA) (fun b => field b 4 4) u.recA u.recB

/-- The copy of the slot selector that is in force (R496). -/
def UpdSt.selForce (u : UpdSt) : Option Bool := copyInForce (copyOk 16 0x5AC3) (fun b => field b 2 4) u.selA u.selB

/-- The update state record is written to the copy that is not in force, with the next sequence (R496). -/
def State.putUpd (s : State) (r : UpdRec) : State :=
  let u := s.upd
  let r := { r with seq := (u.rec_.seq + 1) % 2 ^ 32 }
  let u : UpdSt := if u.recForce = some false then { u with recB := r.bytes } else { u with recA := r.bytes }
  ({ s with upd := { u with rec_ := r } }).showUpd

/-- The slot that is not the selector's (R503). -/
def State.otherSlot (s : State) : ImageSlot := if s.upd.sel then s.upd.slotA else s.upd.slotB

/-- The sequence of the slot selector in force. -/
def UpdSt.selSeq (u : UpdSt) : Nat :=
  match u.selForce with
  | some false => field u.selA 2 4
  | some true => field u.selB 2 4
  | none => 0

/-- The slot selector names a slot: the copy that is not in force is written, with the next sequence (R496, Table 3). -/
def State.putSel (s : State) (b : Bool) : State :=
  let u := s.upd
  let copy := withCrc16 (u16 0x5AC3 ++ u32 ((u.selSeq + 1) % 2 ^ 32) ++ u8 (boolNat b) ++ List.replicate 7 0)
  let u : UpdSt := if u.selForce = some false then { u with selB := copy } else { u with selA := copy }
  { s with upd := { u with sel := b } }

/-- At every start S reads the slot selector and the update state record; with no valid copy they stand as at
manufacture (R496, log entry 82). -/
def State.readRegion (s : State) : State :=
  let u := s.upd
  let r := match u.recForce with
    | some b => updRecOf (if b then u.recB else u.recA)
    | none => {}
  let sel := match u.selForce with
    | some b => field (if b then u.selB else u.selA) 6 1 == 1
    | none => false
  { s with upd := { u with rec_ := r, sel := sel } }

/-! Wafers (R493, R499) -/

/-- The fields of a written wafer. -/
structure Wafer where
  package : Nat
  index : Nat
  len : Nat
  reserved : Nat
  crc : Nat
  payload : Bytes
  deriving DecidableEq, Repr

/-- The wafer that a block spells (Table 1). -/
def waferOf (b : Bytes) : Wafer := ⟨field b 0 4, field b 4 4, field b 8 2, field b 10 2, field b 12 4, b.drop 16⟩

/-- A wafer of the package being received, or of a new one (R499). -/
def State.waferState (s : State) (w : Wafer) : Bool :=
  s.upd.rec_.state == 0 || (s.upd.rec_.state == 1 && w.package == s.upd.rec_.package)

/-- The checks that refuse a wafer with RANGE (R493, R499). -/
def State.waferRange (s : State) (b : Bytes) : Bool :=
  let w := waferOf b
  let form := w.payload.length == w.len && decide (1 ≤ w.len ∧ w.len ≤ 1024) && w.reserved == 0 &&
    decide (w.index ≤ 131071) && crc32c (b.take 12 ++ w.payload) == w.crc
  let known := s.upd.rec_.state == 1 && w.package == s.upd.rec_.package
  let fits := match s.upd.manifest with
    | some m => decide (w.index < m.n) && (decide (w.index = m.m - 1 ∨ w.index = m.n - 1) || w.len == 1024)
    | none => true
  let same := match Sparse.find (fun _ => 0) s.upd.held w.index with
    | 0 => true
    | c => c == w.crc + 1
  form && (s.upd.rec_.state != 1 || fits) && (!known || same)

/-- The payload staged under an index. -/
def State.staged (s : State) (i : Nat) : Bytes := Sparse.find (fun _ => []) s.upd.staging i

/-- The payloads of `n` wafers from an index on, in order. -/
def State.payloads (s : State) (i n : Nat) : Bytes := ((List.range n).map fun j => s.staged (i + j)).flatten

/-! The manifest (R494, R500) -/

/-- Number of hash groups of N wafers of which M are the manifest's. -/
def hashGroups (n m : Nat) : Nat := (n - m + 255) / 256

/-- The record of a key in the region: 32 bytes, 01h when it is present, and the CRC-16 (Table 3). -/
def keyRecord (key : Bytes) : Bytes :=
  withCrc16 (padTo 32 key ++ u8 (boolNat (!key.isEmpty)) ++ List.replicate 29 0)

/-- The key that a manifest names: 0 is the manufacturer's, 1 to 3 are the OEM keys whose record says present; a record
with a bad CRC-16 reads empty (R495, R530). -/
def State.keyOf (s : State) (i : Nat) : Option Bytes :=
  if i = 0 then some (blobDefault Obj.UPD_KEY_0)
  else
    let b := Sparse.find (fun _ => ([] : Bytes)) s.upd.keys i
    if field b 32 1 = 1 ∧ field b 62 2 = crc16 (b.take 62) then some (b.take 32) else none

/-- The signature of a manifest verifies with the key that byte 44 names (R494; DEDUCED, log entry 31). -/
def State.signed (s : State) (b : Bytes) (g : Nat) : Bool :=
  match s.keyOf (field b 44 1) with
  | some key => ed25519Ok key (b.take (192 + 32 * g)) ((b.drop (192 + 32 * g)).take 64)
  | none => false

/-- Step 1 of the checks: marker, format, lengths, M, N, G and image length (R494, R500). -/
def manifestForm (b : Bytes) (total : Nat) : Bool :=
  let n := field b 12 4
  let m := field b 16 4
  let len := field b 6 2
  let image := field b 20 4
  decide (b.take 4 = [0x43, 0x54, 0x55, 0x50]) && field b 4 2 == 1 && decide (m < n) && decide (n ≤ 131072) &&
    len == 256 + 32 * hashGroups n m && m == (len + 1023) / 1024 && total == len &&
    decide ((n - m - 1) * 1024 < image ∧ image ≤ (n - m) * 1024)

/-- The four checks of a manifest, in order: the rejecting result, or none (R500). -/
def State.manifestErr (s : State) (b : Bytes) (total : Nat) : Option Nat :=
  if manifestForm b total = false then some 4
  else if s.signed b (hashGroups (field b 12 4) (field b 16 4)) = false then some 3
  else if (b.drop 24).take 8 ≠ ascii "CTM-M128" ∨ bit (field b 32 2) (s.get Obj.ID_HW_ISSUE - 0x41) = false then some 4
  else if field b 36 4 < s.upd.rec_.floor then some 5
  else none

/-- The manifest as its bytes give it. -/
def manifestOf (b : Bytes) : Manifest :=
  { n := field b 12 4, m := field b 16 4, imageLen := field b 20 4, fmt := field b 34 2, release := field b 36 4
    floor := field b 40 4, key := field b 44 1
    hashes := (List.range (hashGroups (field b 12 4) (field b 16 4))).map fun g => (b.drop (192 + 32 * g)).take 32 }

/-- A rejection: state 00h, its result, both bitmaps cleared, event 8002h (R500, R503). -/
def State.rejectUpd (s : State) (code : Nat) : State :=
  let pkg := s.upd.rec_.package
  let s : State := { s with upd := { s.upd with held := [], groups := [], manifest := none } }
  (s.putUpd { s.upd.rec_ with state := 0, result := code }).event 0 0x8002 (u32 pkg ++ u8 code)

/-- The manifest wafers are complete: they are checked, and the package is accepted or rejected (R500). -/
def State.checkManifest (s : State) : State :=
  let first := s.staged 0
  let m := field first 16 4
  let held := s.upd.held.filter fun p => decide (p.1 < m)
  if s.upd.manifest.isSome ∨ Sparse.find (fun _ => 0) s.upd.held 0 = 0 ∨ held.length < m then s
  else
    let b := s.payloads 0 (max m 1)
    match s.manifestErr b (if m = 0 then 0 else b.length) with
    | some code => s.rejectUpd code
    | none =>
      let f := manifestOf b
      let s : State := { s with upd := { s.upd with
        manifest := some f, held := s.upd.held.filter fun p => decide (p.1 < f.n) } }
      (s.putUpd { s.upd.rec_ with newRelease := f.release }).event 0 0x8001
        (u32 s.upd.rec_.package ++ u32 f.release ++ u32 f.n)

/-- The image wafers of a hash group: the first index and their number (R494). -/
def Manifest.group (m : Manifest) (g : Nat) : Nat × Nat := (m.m + 256 * g, min 256 (m.n - (m.m + 256 * g)))

/-- A hash group matches the manifest. -/
def State.groupOk (s : State) (m : Manifest) (g : Nat) : Bool :=
  sha256 (s.payloads (m.group g).1 (m.group g).2) == m.hashes.getD g []

/-- A mismatching group: its wafers are to be sent again (R501, R503). -/
def State.groupFail (s : State) (m : Manifest) (g way : Nat) : State :=
  let r := m.group g
  let s : State := { s with upd := { s.upd with
    held := s.upd.held.filter fun p => !(decide (r.1 ≤ p.1) && decide (p.1 < r.1 + r.2))
    groups := s.upd.groups.filter (· ≠ g) } }
  (s.count Obj.UPD_GROUP_FAILS 1).event 0 0x8003 (u16 g ++ u8 way)

/-- GROUP_HASH (R501): a group whose last wafer has become held is hashed from staging. -/
def State.hashGroup (s : State) (i : Nat) : State :=
  match s.upd.manifest with
  | none => s
  | some m =>
    if i < m.m then s
    else
      let g := (i - m.m) / 256
      let r := m.group g
      let have_ := s.upd.held.filter fun p => decide (r.1 ≤ p.1) && decide (p.1 < r.1 + r.2)
      if have_.length < r.2 then s
      else if s.groupOk m g then { s with upd := { s.upd with groups := s.upd.groups ++ [g] } }
      else s.groupFail m g 1

/-- Every wafer is held: Verifying (Table 5). -/
def State.allHeld (s : State) : State :=
  match s.upd.manifest with
  | some m => if s.upd.rec_.state = 1 ∧ s.upd.held.length = m.n then s.putUpd { s.upd.rec_ with state := 2 } else s
  | none => s

/-- A wafer that passed its checks (R499–R501); a manifest whose check a reset has cut is checked now (Table 7). -/
def State.takeWafer (s : State) (b : Bytes) : State :=
  let w := waferOf b
  let s : State := if s.upd.rec_.state = 0 then
      let s : State := { s with upd := { s.upd with held := [], groups := [], manifest := none } }
      (s.putUpd { s.upd.rec_ with state := 1, package := w.package }).event 0 0x8000 (u32 w.package)
    else s
  if Sparse.find (fun _ => 0) s.upd.held w.index ≠ 0 then s.checkManifest.allHeld.showUpd
  else
    let accepted := s.upd.manifest.isSome
    let s : State := { s with upd := { s.upd with
      staging := Sparse.put (fun _ => []) s.upd.staging w.index w.payload
      held := Sparse.put (fun _ => 0) s.upd.held w.index (w.crc + 1) } }
    let s := if accepted then s.hashGroup w.index else s.checkManifest
    s.allHeld.showUpd

/-- UPD_WAFER (R499): a wafer refused with RANGE is counted. -/
def execUpdWafer (q : Req) (block : Bytes) (s : State) : Host.Outcome State Fault Refusal :=
  .next (s.serveWrite q Obj.UPD_WAFER (tyOf Obj.UPD_WAFER) block
    (fun s => { range := s.waferRange block, state := s.waferState (waferOf block) })
    (fun s => s.takeWafer block)
    fun s st => if st = .range then s.count Obj.UPD_WAFER_BAD 1 else s)

/-! Verification and install (R503) -/

/-- The image in staging, as a slot of the flash holds it. -/
def State.imageOf (s : State) (m : Manifest) : ImageSlot :=
  { present := true, release := m.release, fmt := m.fmt, floor := m.floor
    image := (s.upd.staging.filter fun p => decide (m.m ≤ p.1) && decide (p.1 < m.n)).map fun p => (p.1 - m.m, p.2) }

/-- VERIFICATION (R503), from the first tick after every wafer is held: groups hashed, the firmware part's signature, the copy to the other slot and its read-back.
`fwSigOk` says whether the signature of the firmware part verifies, `readback` whether each read-back matches. -/
def execVerification (fwSigOk : Bool) (readback : List Bool) (s : State) : Host.Outcome State Fault Refusal :=
  match s.upd.manifest, s.upd.verify with
  | some m, none =>
    if s.running ∧ s.upd.rec_.state = 2 ∧ s.conf Obj.UPD_STATE = 2 then
      let (v, s) := s.draw
      let s := s.set Obj.UPD_PROGRESS (v.toNat % 101)
      let bad := (List.range m.hashes.length).filter fun g => !s.groupOk m g
      if bad ≠ [] then .next { s with upd := { s.upd with verify := some (.receiving bad) } }
      else if fwSigOk = false then .next { s with upd := { s.upd with verify := some (.rejected 6) } }
      else
        let ok := readback.getD 0 true || readback.getD 1 true
        let img := s.imageOf m
        let u : UpdSt := if s.upd.sel then { s.upd with slotA := img } else { s.upd with slotB := img }
        .next { s with upd := { u with verify := some (if ok then .ready else .rejected 7) } }
    else .next s
  | _, _ => .next s

/-- VERIFICATION_COMPLETE (R503). -/
def execVerificationComplete (s : State) : Host.Outcome State Fault Refusal :=
  match s.upd.manifest, s.upd.verify with
  | some m, some v =>
    if s.running then
      let s : State := { s with upd := { s.upd with verify := none } }
      match v with
      | .ready =>
        let slot := !s.upd.sel
        let s := (s.putUpd { s.upd.rec_ with state := 3, newSlot := slot }).set Obj.UPD_PROGRESS 100
        .next (s.event 0 0x8004 (u32 s.upd.rec_.package ++ u8 (boolNat slot)))
      | .receiving bad =>
        let s := bad.foldl (fun s g => s.groupFail m g 2) s
        .next (s.putUpd { s.upd.rec_ with state := 1 })
      | .rejected code => .next (s.rejectUpd code)
    else .next s
  | _, _ => .next s

/-! Activation (R504, R505) -/

/-- The value of UPD_ACTIVATE that removes the schedule. -/
def removeTick : Nat := 0xFFFFFFFFFFFFFFFF

/-- The checks of a write to UPD_ACTIVATE. -/
def State.activateExtra (s : State) (v : Nat) : Extra :=
  { range := v == 0 || v == removeTick || decide (s.k + 400 ≤ v ∧ v ≤ s.k + 345600000)
    state := (s.upd.rec_.state == 4 || (s.upd.rec_.state == 3 && v != removeTick)) && s.get Obj.UPD_PARKED_SRC != 0 }

/-- A write to UPD_ACTIVATE: the schedule, or its removal. -/
def State.activate (s : State) (v : Nat) : State :=
  if v = removeTick then s.putUpd { s.upd.rec_ with state := 3, actTick := 0 }
  else s.putUpd { s.upd.rec_ with state := 4, actTick := if v = 0 then (s.k + 4000 + 3999) / 4000 * 4000 else v }

/-- UPD_ACTIVATE (R504). -/
def execUpdActivate (q : Req) (tick : Nat) (s : State) : Host.Outcome State Fault Refusal :=
  .next (s.serveSet q Obj.UPD_ACTIVATE tick (fun s => s.activateExtra tick) fun s => s.activate tick)

/-- UPD_ACTIVATE_REMOVE (R504): all ones in Scheduled removes the schedule. -/
def execUpdActivateRemove (q : Req) (s : State) : Host.Outcome State Fault Refusal :=
  .next (s.serveSet q Obj.UPD_ACTIVATE removeTick (fun s => s.activateExtra removeTick) fun s => s.activate removeTick)

/-- The parked source reads true and valid in this tick; its tick joins those before (R505). -/
def State.parkedNow (s : State) : Nat := if s.refTrue (s.conf Obj.UPD_PARKED_SRC) then s.upd.parked + 1 else 0

/-- At the end of a tick, the ticks in a row for which the parked source has read true. -/
def State.countParked (s : State) : State := { s with upd := { s.upd with parked := s.parkedNow } }

/-- The interlock of an activation (R505). -/
def State.interlock (s : State) : Bool :=
  decide (s.conf Obj.UPD_PARK_TICKS ≤ s.parkedNow) && decide (s.get Obj.STORE_STATUS ≠ 1 ∧ s.get Obj.STORE_STATUS ≠ 2) &&
    s.get Obj.SUPPLY_STATE == 0

/-- A reset becomes due at the start of the next tick, unless one is due already (R518). -/
def State.resetNext (s : State) (cause detail : Nat) : State :=
  match s.start.due with
  | some _ => s
  | none => { s with start := { s.start with due := some ⟨cause, detail, s.k + 1⟩ } }

/-- ACTIVATION_INTERLOCK (R505): in the tick before the scheduled one. -/
def execActivationInterlock (s : State) : Host.Outcome State Fault Refusal :=
  let r := s.upd.rec_
  if s.running ∧ r.state = 4 ∧ r.actTick = s.k + 1 then
    if s.interlock then
      let area := match s.store.inForce with
        | some b => !b
        | none => false
      let s := (s.putUpd { r with state := 5, newArea := area, oldRelease := s.selSlot.release }).putSel r.newSlot
      .next ({ s with upd := { s.upd with noOld := s.store.inForce.isNone } }.resetNext 6 1)
    else
      let s := s.putUpd { r with state := 3, result := 9, actTick := 0 }
      .next (s.event 0 0x8005 (u8 9 ++ u64 r.actTick))
  else .next s

/-- Cancelled (R516): Idle with result 08h. -/
def State.cancelUpd (s : State) : State := s.putUpd { s.upd.rec_ with state := 0, result := 8, actTick := 0 }

/-- UPD_CANCEL (R516). -/
def execUpdCancel (q : Req) (s : State) : Host.Outcome State Fault Refusal :=
  .next (s.serveSet q Obj.UPD_CANCEL 1
    (fun s => { state := s.upd.rec_.state == 1 || s.upd.rec_.state == 3 || s.upd.rec_.state == 4 }) State.cancelUpd)

/-! Proofing, confirmation and fallback (R511–R513) -/

/-- The proofing criteria hold (R512). -/
def State.proven (s : State) : Bool :=
  decide (s.conf Obj.UPD_PROOF_HOURS * 3600 ≤ s.upd.rec_.proofSeconds) &&
    decide (s.conf Obj.UPD_PROOF_CYCLES ≤ s.upd.rec_.proofStarts)

/-- Confirmation: one write of the record, with the floor raised (R512). -/
def State.confirm (s : State) : State :=
  let r := s.upd.rec_
  let img := if r.newSlot then s.upd.slotB else s.upd.slotA
  let s := s.putUpd { r with state := 0, result := 1, floor := max r.floor img.floor }
  s.event 0 0x8009 (u32 img.release ++ u32 s.upd.rec_.floor)

/-- UPD_CONFIRM (R512): by command in mode 01h only (DEDUCED, log entry 32). -/
def execUpdConfirm (q : Req) (s : State) : Host.Outcome State Fault Refusal :=
  .next (s.serveSet q Obj.UPD_CONFIRM 1
    (fun s => { state := s.upd.rec_.state == 7 && s.proven && s.conf Obj.UPD_CONFIRM_MODE == 1 }) State.confirm)

/-- AUTO_CONFIRM (R512). -/
def execAutoConfirm (s : State) : Host.Outcome State Fault Refusal :=
  if s.running ∧ s.upd.rec_.state = 7 ∧ s.conf Obj.UPD_CONFIRM_MODE = 0 ∧ s.k % 4000 = 0 ∧ s.proven then .next s.confirm
  else .next s

/-- PROOF_SECOND (R511). -/
def execProofSecond (s : State) : Host.Outcome State Fault Refusal :=
  if s.running ∧ s.upd.rec_.state = 7 ∧ s.k % 4000 = 0 ∧ s.upd.secondAt ≠ some s.k then
    let s : State := { s with upd := { s.upd with secondAt := some s.k } }
    .next (s.putUpd { s.upd.rec_ with proofSeconds := satAdd 32 s.upd.rec_.proofSeconds 1 })
  else .next s

/-- The header of a settings area becomes zeros; its content stays (R508, R513). -/
def State.zeroHeader (s : State) (area : Bool) : State :=
  let zero := fun a : SetArea => { a with head := List.replicate 32 0 }
  if area then { s with store := { s.store with areaB := zero s.store.areaB } }
  else { s with store := { s.store with areaA := zero s.store.areaA } }

/-- A fallback is decided (R513): steps 1 to 3; the reset follows. -/
def State.fallback (s : State) (cause : Nat) : State :=
  let r := s.upd.rec_
  let s := s.putUpd { r with state := 8, cause := cause }
  let s := (s.zeroHeader r.newArea).putSel (!r.newSlot)
  let s : State := { s with upd := { s.upd with falling := true } }
  s.event 0 0x800A (u8 cause)

/-- UPD_REJECT (R513): cause 03h, then the commanded reset. -/
def execUpdReject (q : Req) (s : State) : Host.Outcome State Fault Refusal :=
  .next (s.serveSet q Obj.UPD_REJECT 1 (fun s => { state := s.upd.rec_.state == 7 })
    fun s => (s.fallback 3).resetNext 6 2)

/-! Keys (R516) -/

/-- An OEM key is written to the update state region. -/
def State.putKey (s : State) (i : Nat) (key : Bytes) : State :=
  { s with upd := { s.upd with keys := Sparse.put (fun _ => []) s.upd.keys i (keyRecord key) } }

/-- UPD_KEY_WRITE (R516): keys 1 to 3; a present key is refused with STATE. -/
def execUpdKeyWrite (q : Req) (slot : Fin 3) (key : Bytes) (s : State) : Host.Outcome State Fault Refusal :=
  .next (s.serveWrite q (Obj.UPD_KEY slot) (tyOf (Obj.UPD_KEY slot)) key
    (fun s => { state := (s.keyOf (slot + 1)).isNone }) fun s => s.putKey (slot + 1) key)

/-- UPD_KEY_CLEAR (R516): the key is emptied. -/
def execUpdKeyClear (q : Req) (slot : Fin 3) (s : State) : Host.Outcome State Fault Refusal :=
  .next (s.serveSet q Obj.UPD_KEY_CLEAR (slot + 1) (fun _ => {}) fun s => s.putKey (slot + 1) [])

/-- The checks of a write to an object of the chapter. -/
def State.updExtra (s : State) (key : Nat) (b : Bytes) : Extra :=
  let v := ofLe b
  if key = Obj.UPD_WAFER then { range := s.waferRange b, state := s.waferState (waferOf b) }
  else if key = Obj.UPD_ACTIVATE then s.activateExtra v
  else if key = Obj.UPD_CANCEL then
    { state := s.upd.rec_.state == 1 || s.upd.rec_.state == 3 || s.upd.rec_.state == 4 }
  else if key = Obj.UPD_PARKED_SRC then { range := s.refOk [.bool] v }
  else if key = Obj.UPD_CONFIRM then
    { state := s.upd.rec_.state == 7 && s.proven && s.conf Obj.UPD_CONFIRM_MODE == 1 }
  else if key = Obj.UPD_REJECT then { state := s.upd.rec_.state == 7 }
  else if key / 256 = 0x2301 ∧ 2 ≤ key % 256 ∧ key % 256 ≤ 4 then { state := (s.keyOf (key % 256 - 1)).isNone }
  else {}

/-- What a write to an object of the chapter does beyond holding its value. -/
def State.updWrite (s : State) (key : Nat) (b : Bytes) : Option State :=
  let v := ofLe b
  if key = Obj.UPD_WAFER then some (s.takeWafer b)
  else if key = Obj.UPD_ACTIVATE then some (s.activate v)
  else if key = Obj.UPD_CANCEL then some s.cancelUpd
  else if key = Obj.UPD_CONFIRM then some s.confirm
  else if key = Obj.UPD_REJECT then some ((s.fallback 3).resetNext 6 2)
  else if key / 256 = 0x2301 ∧ 2 ≤ key % 256 ∧ key % 256 ≤ 4 then some (s.putKey (key % 256 - 1) b)
  else if key = Obj.UPD_KEY_CLEAR then some (s.putKey v [])
  else none

end Sys2Proof.Machine
end

