-- ==== Sys2Proof/Machine/Lease.lean ====
section
/-! DEFINITION. The lease of a redundant pair (R421–R434, R440–R446, R449): promises and words, the paths, joining,
planned switchovers, the hold, and the faults of paths and receivers. -/

namespace Sys2Proof.Machine

/-! Words and frames (R427, R428) -/

/-- The role bits of the module (Table 2). -/
def State.roleBits (s : State) : Nat := if s.pair.state = 3 then 1 else if s.pair.state = 4 then 2 else if s.pair.state = 7 then 3 else 0

/-- The module shows a health fault: an engine fault, with PAIR_HEALTH_SWAP true (R443). -/
def State.healthFault (s : State) : Bool := s.confFlag Obj.PAIR_HEALTH_SWAP && s.get Obj.TICK_ENGINE_FAULT != 0

/-- What a word or frame says of its sender. -/
structure PartnerWord where
  id : Nat
  role : Nat
  holdover : Bool
  /-- Promise of an active, tick index of any other, its low 32 bits. -/
  value : Nat
  handover : Bool
  health : Bool
  deriving DecidableEq, Repr

/-- What this module's words and frames say. -/
def State.ownWord (s : State) : PartnerWord :=
  { id := s.get Obj.PAIR_ID % 2, role := s.roleBits, holdover := s.get Obj.TIME_STATE == 4
    value := (if s.pair.state = 4 then s.pair.promise else s.k) % 2 ^ 32
    handover := s.pair.handover, health := s.healthFault }

/-- What a lease frame that enters the queue at the start of this tick says: the active's promise is the one that stands
then, of the tick before (R428). -/
def State.frameWord (s : State) : PartnerWord :=
  { s.ownWord with value := (if s.pair.state = 4 then s.pair.promised else s.k) % 2 ^ 32 }

/-- The 64 bits of a lease word (Table 3). -/
def PartnerWord.word (w : PartnerWord) : Nat :=
  let v := 9 + w.id * 2 ^ 4 + w.role * 2 ^ 5 + boolNat w.holdover * 2 ^ 7 + w.value * 2 ^ 8 + boolNat w.handover * 2 ^ 40 +
    boolNat w.health * 2 ^ 41
  v + crc16 (leBytes 6 v) * 2 ^ 48

/-- What a lease word says; none for a wrong marker or CRC (R427). -/
def ofWord (w : Nat) : Option PartnerWord :=
  if bits w 3 0 = 9 ∧ bits w 63 48 = crc16 (leBytes 6 (w % 2 ^ 48)) then
    some { id := bits w 4 4, role := bits w 6 5, holdover := bit w 7, value := bits w 39 8, handover := bit w 40, health := bit w 41 }
  else none

/-- The 8 bytes of a lease frame sent in a tick (Table 4). -/
def PartnerWord.frame (w : PartnerWord) (tick : Nat) : Bytes :=
  let b := u32 w.value ++ u8 (w.id + 2 * w.role + 8 * boolNat w.holdover + 16 * boolNat w.handover + 32 * boolNat w.health) ++ u8 tick
  b ++ u16 (crc16 b)

/-- What a lease frame says, with its send tick; none for a wrong length or CRC. -/
def ofFrame (b : Bytes) : Option (PartnerWord × Nat) :=
  if b.length = 8 ∧ field b 6 2 = crc16 (b.take 6) then
    let f := field b 4 1
    some ({ id := f % 2, role := bits f 2 1, holdover := bit f 3, value := field b 0 4, handover := bit f 4, health := bit f 5 }, field b 5 1)
  else none

/-- The value congruent to a field modulo 2³² that lies nearest to a tick index (R427). -/
def nearestTick (k v : Nat) : Nat :=
  let base := k - k % 2 ^ 32 + v % 2 ^ 32
  if base + 2 ^ 31 ≤ k then base + 2 ^ 32 else if k + 2 ^ 31 < base ∧ 2 ^ 32 ≤ base then base - 2 ^ 32 else base

/-! Paths (R430, R444, R445) -/

/-- A path of the lease: 0 the lease lines, 1 P, 2 the CAN path. -/
def State.leasePath (s : State) (i : Nat) : PathSt := if i = 0 then s.pair.line else if i = 1 then s.pair.p else s.pair.canPath

/-- A path changed. -/
def State.setPath (s : State) (i : Nat) (x : PathSt) : State :=
  if i = 0 then { s with pair := { s.pair with line := x } }
  else if i = 1 then { s with pair := { s.pair with p := x } }
  else { s with pair := { s.pair with canPath := x } }

/-- The configured paths (R430). -/
def State.leasePaths (s : State) : List Nat := if s.pair.canUsed then [0, 1, 2] else [0, 1]

/-- A path shows a valid partner word now: one in this tick or the last, five ticks on CAN (DEDUCED, log entry 33). -/
def State.shows (s : State) (i : Nat) : Bool :=
  match (s.leasePath i).word with
  | some t => decide (s.k ≤ t + (if i = 2 then 5 else 1))
  | none => false

/-- A bit of PAIR_STATUS. -/
def State.pairBit (s : State) (i : Nat) (b : Bool) : State := s.set Obj.PAIR_STATUS (setBit (s.get Obj.PAIR_STATUS) i b)

/-- A module begins to fill its mirror state: state 02h, a refill (R425, R435, R438). -/
def State.fill (s : State) : State :=
  let s : State := { s.unsteer with pair := { s.pair with state := 2, replay := [], filled := none, gotMirror := false, got := [] } }
  (s.set Obj.PAIR_FILL 0).count Obj.PAIR_REFILLS 1

/-- The tick of the last boundary at which the partner has applied outputs, as its promise tells: the tick of the renewal, or
the promise itself at a handover (R426, R431, Table 5; DEDUCED, log entry 87). -/
def State.renewedAt (s : State) (promise : Nat) (handover : Bool) : Nat := if handover then promise else promise - s.pair.lease

/-- A valid word, frame or mirror header of the partner (R425, R430, R433, R444). -/
def State.seePartner (s : State) (i : Nat) (w : PartnerWord) : State :=
  let x := s.leasePath i
  let gap := match x.word with
    | some t => decide (t + 40 < s.k)
    | none => true
  let active := w.role == 2
  let promise := nearestTick s.k w.value
  let s := s.setPath i { x with
    promise := if active then some promise else x.promise
    expired := if active ∧ s.k ≤ promise then 0 else x.expired
    word := some s.k
    okSince := if gap || x.okSince.isNone then some s.k else x.okSince }
  let s : State := { s with pair := { s.pair with
    role := some w.role, holdover := w.holdover, health := w.health, partnerId := w.id
    seen := if w.role ≤ 2 then some s.k else s.pair.seen
    quiet := if s.pair.state = 1 ∧ w.role ≤ 2 ∧ s.get Obj.PAIR_ID = 1 then s.k else s.pair.quiet
    actives := if !active then s.pair.actives else if s.pair.activeAt = some s.k then s.pair.actives
      else if s.pair.activeAt = some (s.k - 1) then s.pair.actives + 1 else 1
    activeAt := if active then some s.k else s.pair.activeAt
    lastApplied := if active then max s.pair.lastApplied (s.renewedAt promise w.handover) else s.pair.lastApplied
    lastLate := if s.pair.state = 4 ∧ w.role = 0 then some s.k else s.pair.lastLate
    holdEnd := s.pair.holdEnd || (s.pair.hold.isSome && active) } }
  let s := if w.role ≤ 2 then s.pairBit 0 false else s
  let s := if s.pair.state = 4 then s.pairBit 1 (w.role == 0) else s
  if s.pair.state = 1 ∧ active then s.fill else s

/-- LEASE_WORD_SEND (R427). -/
def execLeaseWordSend (s : State) : Host.Outcome State Fault Refusal :=
  if s.running ∧ s.pair.state ≠ 0 then .next (s.send (.lease s.ownWord.word)) else .next s

/-- LEASE_WORD_RX (R427, R433, R449): `receiver` is false for receiver A. In reset, the monitor of D0 looks only for the
word that ends a hold. -/
def execLeaseWordRx (receiver : Bool) (word : Nat) (s : State) : Host.Outcome State Fault Refusal :=
  match ofWord word with
  | none => .next s
  | some w =>
    let cut := match s.pair.rxTest with
      | some (serve, _) => serve != boolNat receiver
      | none => false
    if cut then .next s
    else if s.running ∧ s.pair.inForce then .next (s.seePartner 0 w)
    else if s.pair.hold.isSome ∧ w.role = 2 then .next { s with pair := { s.pair with holdEnd := true } }
    else .next s

/-- LEASE_FRAME_SEND (R428). -/
def execLeaseFrameSend (s : State) : Host.Outcome State Fault Refusal :=
  if s.running ∧ s.pair.inForce ∧ s.pair.canUsed ∧ s.k % 4 = (if s.pair.state = 4 then 1 else 3) then
    let id := s.pair.canId - s.pair.canId % 2 + s.get Obj.PAIR_ID % 2
    .next (s.stateFrame s.pair.can { ext := true, ident := id, data := s.frameWord.frame s.k })
  else .next s

/-- LEASE_FRAME_RX (R428, R433): a frame that took longer than PAIR_LEASE − 3 ticks is counted. -/
def execLeaseFrameRx (ctrl : Fin 8) (ident : Nat) (data : Bytes) (s : State) : Host.Outcome State Fault Refusal :=
  match ofFrame data with
  | none => .next s
  | some (w, tick) =>
    if s.running ∧ s.pair.inForce ∧ s.pair.canUsed ∧ ctrl.val = s.pair.can ∧
        ident = s.pair.canId - s.pair.canId % 2 + (1 - s.get Obj.PAIR_ID % 2) then
      let s := s.seePartner 2 w
      .next (if s.pair.lease - 3 < (s.k + 256 - tick) % 256 then (s.count Obj.PAIR_CAN_LATE 1).pairBit 9 true else s)
    else .next s

/-! Joining (R425) -/

/-- The module takes the token: it is active, with its first promise (R426, R432). -/
def State.takeToken (s : State) : State :=
  { s with
    dict := { s.dict with local_ := [] }
    pair := { s.pair with
      state := 4, promise := s.k + s.pair.lease, promised := s.k + s.pair.lease, handover := false, overdue := false, replay := [] } }

/-- The ledger as after a start (R159, R526). -/
def State.ledgerAnew (s : State) : State :=
  { s with led := { recs := [], ys := s.led.ys, ckA := s.led.ckA, ckB := s.led.ckB, ratio := s.led.ratio, startRun := true } }

/-- Every unit starts as after a start (R425, R526). -/
def State.unitsStart (s : State) : State :=
  ((s.ledgerAnew.enginesStart [0, 1, 2, 3, 4, 5]).swStart).valveStart

/-- PAIR_JOIN_TIMEOUT (R425): 400 ticks with PAIR-ID 0, 800 with PAIR-ID 1; the operating count starts at 0 (R442). -/
def execPairJoinTimeout (s : State) : Host.Outcome State Fault Refusal :=
  if s.running ∧ s.pair.state = 1 ∧ s.pair.quiet + (if s.get Obj.PAIR_ID = 0 then 400 else 800) ≤ s.k then
    let s : State := { s with pair := { s.pair with operTicks := 0 } }
    .next s.takeToken.unitsStart
  else .next s

/-! The hold (R429, R433) -/

/-- The output stages begin the pair hold, under the PAIR_HOLD_LIMIT in force (R433, R451). -/
def State.holdBegin (s : State) : State :=
  let s : State := { s with pair := { s.pair with hold := some s.k, holdEnd := false, holdLimit := s.conf Obj.PAIR_HOLD_LIMIT } }
  (s.count Obj.PAIR_HOLDS 1).swHold

/-- PAIR_HOLD_BEGIN (R429): no newer promise has come by the start of tick T + 1. The supervisor resets the module, with
cause 04h (DEDUCED, log entry 34). -/
def execPairHoldBegin (s : State) : Host.Outcome State Fault Refusal :=
  if s.running ∧ s.lapsedAt s.k then
    .next (s.holdBegin.resetNext 4 0)
  else .next s

/-- The objects of the load switches and the valve drive, which a pair hold leaves standing. -/
def heldKey (key : Nat) : Bool :=
  let ix := key / 256
  decide (0x3000 ≤ ix ∧ ix < 0x3108) || decide (0x3800 ≤ ix ∧ ix < 0x388C) || key == Obj.DOM_STATE 11 || key == Obj.DOM_STATE 12

/-- The hold ends: every switch, valve stage and group switch turns off (R433). In a reset the drives are then as it leaves
them where no hold is in force (R523). -/
def State.holdDone (s : State) : State :=
  let s : State := { s.swOff.valveOff with pair := { s.pair with hold := none, holdEnd := false } }
  if s.phase = .running then s
  else { s with
    obj := s.obj.filter fun p => !heldKey p.1
    snap := s.snap.filter fun p => !heldKey p.1
    ent := s.ent.filter fun p => !heldKey p.1
    sw := {}, valve := s.valve.opened }

/-- PAIR_HOLD_END (R433). -/
def execPairHoldEnd (s : State) : Host.Outcome State Fault Refusal :=
  match s.pair.hold with
  | some t =>
    if s.pair.holdEnd ∨ t + s.pair.holdLimit ≤ s.k then .next s.holdDone else .next s
  | none => .next s

/-! Planned switchover (R441–R443) -/

/-- The conditions of a planned switchover: the newest partner word says 03h, a path shows the partner now, and no mirror was
late in the last 4 ticks. -/
def State.swapReady (s : State) : Bool :=
  s.running && s.pair.state == 4 && s.pair.releaseAt.isNone && s.pair.role == some 1 && s.leasePaths.any s.shows &&
    (match s.pair.lastLate with
     | some t => decide (t + 4 < s.k)
     | none => true)

/-- Tick s of a planned switchover on the active (Table 8). -/
def State.beginSwap (s : State) : State :=
  let s : State := { s with pair := { s.pair with
    promise := s.k + 1, handover := true, releaseAt := some (s.k + 2), swapAt := some (s.k + 2), next := some 3
    operTicks := 0, overdue := false } }
  s.pairBit 6 false

/-- PAIR_SWAP_NOW (R441). -/
def execPairSwapNow (q : Req) (s : State) : Host.Outcome State Fault Refusal :=
  .next (s.serveSet q Obj.PAIR_SWAP_NOW 1 (fun s => { state := s.swapReady }) State.beginSwap)

/-- PLANNED_RELEASE (R441): at the start of tick s+2. -/
def execPlannedRelease (s : State) : Host.Outcome State Fault Refusal :=
  match s.pair.releaseAt with
  | some t =>
    if t ≤ s.k then .next { s.swOff.valveOff with pair := { s.pair with releaseAt := none } } else .next s
  | none => .next s

/-- PERIODIC_SWAP (R442). -/
def execPeriodicSwap (s : State) : Host.Outcome State Fault Refusal :=
  if s.swapReady ∧ s.swapInterval ≤ s.pair.operTicks ∧ s.confFlag Obj.PAIR_SWAP_WINDOW ∧ !s.pair.health then .next s.beginSwap
  else .next s

/-- SWAP_OVERDUE (R442). -/
def execSwapOverdue (s : State) : Host.Outcome State Fault Refusal :=
  if s.running ∧ s.pair.state = 4 ∧ 2 * s.swapInterval ≤ s.pair.operTicks ∧ !s.pair.overdue then
    let s : State := { s with pair := { s.pair with overdue := true } }
    .next ((s.pairBit 6 true).event 0 0x7006 [])
  else .next s

/-- HEALTH_SWAP (R443). -/
def execHealthSwap (s : State) : Host.Outcome State Fault Refusal :=
  if s.swapReady ∧ s.healthFault ∧ !s.pair.health then .next s.beginSwap else .next s

/-! Absence, path faults, two actives (R444–R446) -/

/-- PARTNER_ABSENT (R444). -/
def execPartnerAbsent (s : State) : Host.Outcome State Fault Refusal :=
  if s.running ∧ s.pair.state = 4 ∧ s.pair.seen.getD s.pair.quiet + 40 ≤ s.k then .next (s.pairBit 0 true) else .next s

/-- PAIR_PATH_FAULT (R445). -/
def execPairPathFault (path : Fin 3) (s : State) : Host.Outcome State Fault Refusal :=
  let x := s.leasePath path
  if s.running ∧ s.pair.inForce ∧ s.leasePaths.contains path.val ∧ !x.fault ∧ x.word.getD s.pair.quiet + 40 ≤ s.k ∧
      (s.leasePaths.any fun i => i != path.val && s.shows i) then
    let s := s.setPath path { x with fault := true, okSince := none }
    .next (((s.pairBit (2 + path) true).count Obj.PAIR_PATH_FAULTS 1).event 0 0x7007 (u8 path))
  else .next s

/-- PAIR_PATH_FAULT_CLEAR (R445). -/
def execPairPathFaultClear (path : Fin 3) (s : State) : Host.Outcome State Fault Refusal :=
  let x := s.leasePath path
  match x.okSince, x.word with
  | some t, some w =>
    if s.running ∧ x.fault ∧ t + 4000 ≤ s.k ∧ s.k ≤ w + 40 then .next ((s.setPath path { x with fault := false }).pairBit (2 + path) false)
    else .next s
  | _, _ => .next s

/-- The characters of two serial numbers compared. -/
def higherSerial : Bytes → Bytes → Bool
  | [], _ => false
  | _ :: _, [] => true
  | a :: x, b :: y => if a = b then higherSerial x y else decide (b.toNat < a.toNat)

/-- TWO_ACTIVES (R446): `serial` is the partner's serial number. -/
def execTwoActives (serial : Bytes) (s : State) : Host.Outcome State Fault Refusal :=
  if s.running ∧ s.pair.state = 4 ∧ 4 ≤ s.pair.actives ∧ s.pair.activeAt = some s.k then
    let id := s.get Obj.PAIR_ID
    let own := if id = s.pair.partnerId then (if higherSerial (s.getBlob Obj.ID_SERIAL) serial then 7 else 4) else if id = 1 then 2 else 4
    let s := ((s.count Obj.PAIR_SPLITS 1).pairBit 7 true).event 0 0x7008 (u8 own)
    .next { s with pair := { s.pair with actives := 0, next := if own = 4 then none else some own } }
  else .next s

/-! Receiver test, time disagreement (R440, R449) -/

/-- The checks of a receiver test. -/
def State.rxTestOk (s : State) : Bool := s.pair.state == 3 && s.shows 0

/-- A receiver test begins: only the receiver named serves the path. -/
def State.rxTestBegin (s : State) (v : Nat) : State :=
  ({ s with pair := { s.pair with rxTest := some (v - 1, s.k) } }).set Obj.PAIR_RX_RESULT 1

/-- PAIR_RX_TEST (R449). -/
def execPairRxTest (q : Req) (which : Fin 2) (s : State) : Host.Outcome State Fault Refusal :=
  .next (s.serveSet q Obj.PAIR_RX_TEST (which + 1) (fun s => { state := s.rxTestOk }) fun s => s.rxTestBegin (which + 1))

/-- RX_TEST_END (R449). -/
def execRxTestEnd (s : State) : Host.Outcome State Fault Refusal :=
  match s.pair.rxTest with
  | some (serve, t) =>
    let done : State := { s with pair := { s.pair with rxTest := none } }
    if !s.running then .next s
    else if !s.shows 0 then .next ((done.set Obj.PAIR_RX_RESULT (3 + serve)).event 0 0x7009 (u8 serve))
    else if t + 4000 ≤ s.k then .next (done.set Obj.PAIR_RX_RESULT 2)
    else .next s
  | none => .next s

/-- TIME_DISAGREEMENT (R440). -/
def execTimeDisagreement (s : State) : Host.Outcome State Fault Refusal :=
  match s.pair.timeOff with
  | some t =>
    if s.running ∧ s.standby ∧ t + 4000 ≤ s.k ∧ !s.pair.timeSeen then
      let s : State := { s with pair := { s.pair with timeSeen := true } }
      .next ((s.pairBit 5 true).event 0 0x7005 (u32 (s.get Obj.PAIR_TIME_DIFF)))
    else .next s
  | none => .next s

/-! The tick boundary's share -/

/-- The standby's own time against the followed time (R440). -/
def State.timeDiff (s : State) : State :=
  match s.gnss.timeSol with
  | some (e, _) =>
    if s.standby then
      let off := decide ((s.conf Obj.PAIR_TIME_TOL * 1000 : Int) < |e|)
      let s := s.set Obj.PAIR_TIME_DIFF (encInt 32 (satInt 32 (-e)))
      { s with pair := { s.pair with
        timeOff := if off then some (s.pair.timeOff.getD s.k) else none
        timeSeen := s.pair.timeSeen && off } }
    else s
  | none => s

/-- The newest promise seen on any path. -/
def State.newestPromise (s : State) : Nat :=
  ([s.pair.line, s.pair.p, s.pair.canPath].filterMap (·.promise)).foldl max 0

/-- Tick s+2 of a planned switchover counts it, with a gap of 1 tick (Table 8). -/
def State.countSwap (s : State) : State :=
  match s.pair.swapAt with
  | some t =>
    if t ≤ s.k then
      let s : State := { s with pair := { s.pair with swapAt := none } }
      (s.count Obj.PAIR_SWAPS 1).set Obj.PAIR_LAST_GAP 1
    else s
  | none => s

/-- At the start of a tick: paths expired, the promise published by a supervisor that runs (`served`), whose lease has not
lapsed (R426, R429, R430), the
operating count (R442), the guard, and the entries of Table 11. -/
def State.pairTick (s : State) (served : Bool) : State :=
  let s : State := { s with pair := { s.pair with slice := 0, writes := [], promised := s.pair.promise } }
  let s := s.write Obj.PAIR_STATE s.pair.state true
  if s.pair.state = 0 then (s.write Obj.PAIR_PROMISE 0 true).write Obj.PAIR_PATHS 0 true
  else
    let s := s.countSwap
    let s := s.leasePaths.foldl (fun s i =>
      let x := s.leasePath i
      let out := match x.promise with
        | some t => decide (t < s.k)
        | none => true
      s.setPath i { x with expired := if s.standby && out then x.expired + 1 else 0 }) s
    let s : State := if s.pair.state = 4 ∧ s.pair.inForce ∧ s.pair.releaseAt = none ∧ served = true ∧ s.lapsedAt s.k = false then
        { s with pair := { s.pair with
          promise := s.k + s.pair.lease, handover := false
          operTicks := if s.pair.role = some 1 ∧ s.k ≤ s.pair.seen.getD 0 + 40 then s.pair.operTicks + 1 else s.pair.operTicks } }
      else s
    let s := s.timeDiff
    let s := s.set Obj.PAIR_GUARD_NOW (if s.pair.holdover ∨ s.portUp 4 = false then 4 else 2)
    let s := (s.pairBit 10 (s.standby && !s.portUp 4)).pairBit 11 s.healthFault
    let paths := (s.leasePaths.map fun i => boolNat (s.shows i) * 2 ^ i).sum
    (s.write Obj.PAIR_PROMISE
      (if s.pair.state = 4 then s.pair.promise else if s.standby then s.newestPromise else 0) true).write Obj.PAIR_PATHS paths true

/-- The checks of a write to an object of the chapter (R441, R449, Table 10). -/
def State.pairExtra (s : State) (key v : Nat) : Extra :=
  if key = Obj.PAIR_LEASE then { range := decide (v + 5 ≤ s.get Obj.PAIR_HOLD_LIMIT) }
  else if key = Obj.PAIR_HOLD_LIMIT then { range := decide (s.get Obj.PAIR_LEASE + 5 ≤ v) }
  else if key = Obj.PAIR_SWAP_NOW then { state := s.swapReady }
  else if key = Obj.PAIR_RX_TEST then { state := s.rxTestOk }
  else {}

/-- What a write to an object of the chapter does beyond holding its value. -/
def State.pairWrite (s : State) (key v : Nat) : Option State :=
  if key = Obj.PAIR_SWAP_NOW then some s.beginSwap
  else if key = Obj.PAIR_RX_TEST then some (s.rxTestBegin v)
  else none

end Sys2Proof.Machine
end

