-- ==== Sys2Proof/Machine/Service.lean ====
section
/-! DEFINITION. The rows of the object dictionary: messages, sessions, credentials, READ and WRITE over every object,
the store command, and function modes (R71–R117, R557). -/

namespace Sys2Proof.Machine

/-! Messages (R102, R110–R113) -/

/-- A transport that the settings in force serve (R110, R112); the pair link while pair operation is in force. -/
def State.transportServed (s : State) (t : Transport) : Bool :=
  if t = 0 then s.dict.can != 255
  else if t.val ≤ 4 then bit s.dict.udpPorts (t.val - 1)
  else if t = 5 then true else s.pair.inForce

/-- What comes on CAN or on E0 to E2 is the active's alone (R114, R115). -/
def State.receives (s : State) (t : Transport) : Bool :=
  s.running && s.transportServed t && (s.nodeServes || decide (4 ≤ t.val))

/-- MDP_MESSAGE_RX (R102). -/
def execMdpMessageRx (m : MdpMsg) (s : State) : Host.Outcome State Fault Refusal :=
  if s.receives m.transport then .next (s.mdpArrive m) else .next s

/-- A client's reassembly is dropped. -/
def State.dropReasm (s : State) (c : Nat) : State :=
  { s with dict := { s.dict with reasm := s.dict.reasm.filter fun r => r.client ≠ c } }

/-- A client's unfinished message is discarded and counted (R102, R111). -/
def State.discardReasm (s : State) (c : Nat) : State :=
  if s.dict.reasm.any (fun r => r.client == c) then (s.dropReasm c).count Obj.MDP_RX_BAD 1 else s

/-- A message whose last segment has come: bytes beyond its length are ignored (R111). -/
def State.reassembled (s : State) (c : Nat) (b : Bytes) : State :=
  (s.dropReasm c).mdpArrive ⟨0, c, b.take (max 12 (12 + field b 6 2))⟩

/-- MDP_SEGMENT_RX (R110, R111). A classical frame of the range is counted in MDP_RX_BAD (DEDUCED, log
entry 35); identifiers of answers, bit 5 = 1, are the module's own and are not looked at (DESIGN CHOICE, log entry 35). A
segment that is no first one, of a client with no message under reassembly, is ignored and not counted; one that is not
the last and no 64-byte frame discards the message and is counted (DESIGN CHOICE, log entry 35). -/
def execMdpSegmentRx (ctrl : Fin 8) (ident : Nat) (fd : Bool) (data : Bytes) (s : State) : Host.Outcome State Fault Refusal :=
  if s.receives 0 = false ∨ ctrl.val ≠ s.dict.can ∨ bits ident 28 13 ≠ bits s.dict.base 28 13 ∨ bits ident 12 6 ≠ s.dict.node ∨
      bit ident 5 then .next s
  else if fd = false then .next (s.count Obj.MDP_RX_BAD 1)
  else
    let c := bits ident 4 0
    let seg := field data 0 1
    let first := bit seg 7
    let last := bit seg 6
    let body := data.drop 1
    let s := if first then s.discardReasm c else s
    let r := if first then some ⟨c, 0, [], s.k⟩ else s.dict.reasm.find? fun r => r.client == c
    match r with
    | none => .next s
    | some r =>
      if bits seg 5 0 ≠ r.next ∨ 20 < r.next ∨ (last = false ∧ data.length ≠ 64) then
        .next ((s.dropReasm c).count Obj.MDP_RX_BAD 1)
      else if last then .next (s.reassembled c (r.bytes ++ body))
      else
        let s := s.dropReasm c
        .next { s with dict := { s.dict with reasm := s.dict.reasm ++ [⟨c, r.next + 1, r.bytes ++ body, s.k⟩] } }

/-- MDP_SEG_TIMEOUT (R111). -/
def execMdpSegTimeout (client : Fin 32) (s : State) : Host.Outcome State Fault Refusal :=
  if s.running ∧ s.dict.reasm.any (fun r => r.client == client.val && decide (r.last + s.dict.segTimeout < s.k)) then
    .next (s.discardReasm client)
  else .next s

/-- MDP_TRANSPORT_APPLY (R113): at a T4000/0 tick. A CAN client is a source on one controller, base and node address:
where any of these changes, none is served any longer (DEDUCED, log entry 70). -/
def execMdpTransportApply (s : State) : Host.Outcome State Fault Refusal :=
  if s.running ∧ s.k % 4000 = 0 then
    let moved := s.dict.can != s.conf Obj.MDP_CAN_CTRL || s.dict.base != s.conf Obj.MDP_CAN_BASE ||
      s.dict.node != s.conf Obj.MDP_NODE
    let s : State := { s with dict := { s.dict with
      can := s.conf Obj.MDP_CAN_CTRL, base := s.conf Obj.MDP_CAN_BASE, node := s.conf Obj.MDP_NODE
      udpPorts := s.conf Obj.MDP_UDP_PORTS, udpPort := s.conf Obj.MDP_UDP_PORT, segTimeout := s.conf Obj.MDP_SEG_TIMEOUT } }
    let keep := fun x : Session => s.transportServed x.transport && !(moved && x.transport == 0)
    .next { s with dict := { s.dict with sessions := s.dict.sessions.filter keep, local_ := s.dict.local_.filter keep } }
  else .next s

/-! Sessions and credentials (R81–R85) -/

/-- OPEN (R81, R83, R105). A mismatch is counted. -/
def execOpen (q : Req) (level len : Nat) (code : Bytes) (s : State) : Host.Outcome State Fault Refusal :=
  let s := s.serveFormless 4
  if !s.serves q then .next s
  else
    let s := s.takeUp q
    match s.openStatus q level len code with
    | .ok =>
      let (s, n) := s.openSession q level
      .next (s.answer q 1 n .ok (u8 level))
    | .credential => .next ((s.mismatch q).answer q 1 q.session .credential [])
    | st => .next (s.answer q 1 q.session st [])

/-- CLOSE (R82). -/
def execClose (q : Req) (extra : Bytes) (s : State) : Host.Outcome State Fault Refusal :=
  .next (s.serve q 2 extra (extra == []) fun s _ =>
    ⟨.ok, [], (match s.findSession q with | some x => s.closeSession x | none => s), false⟩)

/-- KEEPALIVE (R103). -/
def execKeepalive (q : Req) (extra : Bytes) (s : State) : Host.Outcome State Fault Refusal :=
  .next (s.serve q 5 extra (extra == []) fun s _ => ⟨.ok, [], s, false⟩)

/-- SESSION_TIMEOUT (R82). -/
def execSessionTimeout (num : Nat) (s : State) : Host.Outcome State Fault Refusal :=
  let live := fun x : Session => !(x.num == num && decide (x.last + 4000 * s.conf Obj.SESS_TIMEOUT ≤ s.k))
  if s.running then
    .next { s with dict := { s.dict with sessions := s.dict.sessions.filter live, local_ := s.dict.local_.filter live } }
  else .next s

/-- Every session but the request's own is closed (R85). Requests that waited in a session go with it, unanswered, as
they do at a timeout (DESIGN CHOICE, log entry 71). -/
def State.closeOthers (s : State) (q : Req) : State :=
  s.setTable (s.table.filter fun x => x.is q.session q.transport q.source)

/-- SESS_CLOSE_ALL (R85). -/
def execSessCloseAll (q : Req) (s : State) : Host.Outcome State Fault Refusal :=
  .next (s.serveSet q Obj.SESS_CLOSE_ALL 1 (fun _ => {}) fun s => s.closeOthers q)

/-- CREDENTIAL_LOCKOUT (R83): the fifth mismatch within 60 s. -/
def execCredentialLockout (s : State) : Host.Outcome State Fault Refusal :=
  let n := (s.dict.fails.filter fun t => decide (s.k < t + 240000)).length
  if s.running ∧ 5 ≤ n ∧ s.dict.lockout = none then
    .next ({ s with dict := { s.dict with lockout := some s.k } }.event 0 0x1020 (u8 s.dict.failTransport))
  else .next s

/-- LOCKOUT_END (R83): after 60 s. -/
def execLockoutEnd (s : State) : Host.Outcome State Fault Refusal :=
  match s.dict.lockout with
  | some t => if t + 240000 ≤ s.k then .next { s with dict := { s.dict with lockout := none, fails := [] } } else .next s
  | none => .next s

/-- A new credential takes the copy that is not in force: a random salt, the hash of the salt and the code, the next
sequence number and the CRC (R84). -/
def State.putCred (s : State) (lvl : Nat) (code : Bytes) : State :=
  let (a, s) := s.draw
  let (b, s) := s.draw
  let salt := u64 a.toNat ++ u64 b.toNat
  let old := if lvl = 1 then s.dict.cred1 else s.dict.cred2
  let c : CredCopy := { seq := (((credInForce old).map (·.seq)).getD 0 + 1) % 2 ^ 32, salt := salt, hash := sha256 (salt ++ code), crc := [] }
  let now := credReplace old { c with crc := u16 (crc16 c.bytes) }
  let d : DictSt := if lvl = 1 then { s.dict with cred1 := now } else { s.dict with cred2 := now }
  ({ s with dict := d }).count Obj.CRED_CHANGES 1

/-- The object of a credential. -/
def credKey (which : Fin 2) : Nat := if which = 0 then Obj.CRED_L1 else Obj.CRED_L2

/-- CREDENTIAL_WRITE (R84). -/
def execCredentialWrite (q : Req) (which : Fin 2) (code : Bytes) (s : State) : Host.Outcome State Fault Refusal :=
  .next (s.serveWrite q (credKey which) (tyOf (credKey which)) code (fun _ => {}) fun s => s.putCred (which + 1) code)

/-! The store command (R86–R95) -/

/-- The store group of an object (Table 8). -/
def groupOf (key : Nat) : Nat :=
  let ix := key / 256
  if ix < 0x2000 then 1 else if ix < 0x3000 then 2 else if ix < 0x4000 then 3 else if ix < 0x4800 then 4
  else if ix < 0x6000 then 5 else if ix < 0x7000 then 6 else if ix < 0x8000 then 7 else 8

/-- A settings area changed. -/
def State.setArea (s : State) (b : Bool) (x : SetArea) : State :=
  if b then { s with store := { s.store with areaB := x } } else { s with store := { s.store with areaA := x } }

/-- The area that a store writes (R88): the one not in force, SET-A when none is. -/
def State.target_ (s : State) : Bool := match s.store.inForce with | some b => !b | none => false

/-- The checks of a store command (R89, R510). -/
def State.storeExtra (s : State) : Extra :=
  { state := !(decide (5 ≤ s.upd.rec_.state ∧ s.upd.rec_.state ≤ 8))
    busy := s.store.run.isSome || s.store.deferred.isSome }

/-- The supply is below the warning level (R89, R471). -/
def State.supplyLow (s : State) : Bool := s.get Obj.SUPPLY_STATE != 0

/-- A table's saved entries: those of the group from a snapshot, the others from the area in force (R88). -/
def stored {α : Type} (group : Nat) (snap old : Sparse α) : Sparse α :=
  let mine := fun p : Nat × α => isRws p.1 && (group == 0 || groupOf p.1 == group)
  (snap.filter mine ++ old.filter fun p => !mine p).mergeSort fun a b => decide (a.1 ≤ b.1)

/-- Steps 1 to 3 of a store begin (R88): the snapshot is taken and the target's header zeroed. -/
def State.beginStore (s : State) (group : Nat) (req : Option Req) : State :=
  let old : SetArea := match s.store.inForce with | some b => s.areaOf b | none => {}
  let r : StoreRun := { group := group, step := 3, began := s.k, vals := stored group s.snap old.vals
                        strs := stored group s.snapBlob old.strs, req := req }
  let s := s.setArea s.target_ {}
  ({ s with store := { s.store with run := some r, deferred := none } }).set Obj.STORE_STATUS 1

/-- A store command that passed its checks: it begins, or is deferred while the supply is low (R89). -/
def State.askStore (s : State) (group : Nat) (req : Option Req) : State :=
  if s.supplyLow then
    ({ s with store := { s.store with deferred := some { group := group, step := 0, began := s.k, vals := [], strs := [], req := none } } }).set
      Obj.STORE_STATUS 2
  else s.beginStore group req

/-- A store command served: its answer comes with its end, or says that it is deferred (R91). -/
def State.serveStore (s : State) (q : Req) (key group : Nat) (b : Bytes) (ty : Nat) : State :=
  s.serve q 4 (u16 (key / 256) ++ u8 key ++ u8 ty ++ u16 b.length ++ b) true fun s lvl =>
    match (if q.forwarded.isSome then .access else s.writeStatus lvl key ty b s.storeExtra) with
    | .ok =>
      let low := s.supplyLow
      let s := (s.slice key b).askStore group (some q)
      if low then ⟨.storeDeferred, [], s, false⟩ else ⟨.ok, [], s, true⟩
    | st => ⟨st, [], s, false⟩

/-- STORE_ALL (R88, R93). -/
def execStoreAll (q : Req) (s : State) : Host.Outcome State Fault Refusal :=
  .next (s.serveStore q Obj.STORE_ALL 0 (u16 1) 3)

/-- STORE_GROUP (R88, R92, R93). -/
def execStoreGroup (q : Req) (group : Nat) (s : State) : Host.Outcome State Fault Refusal :=
  .next (s.serveStore q Obj.STORE_GROUP group (u8 group) 2)

/-- The later answer of a store, when it was commanded here. -/
def State.storeAnswer (s : State) (r : StoreRun) (st : Status) : State :=
  match r.req with
  | some q => s.answerLater q st
  | none => s

/-- A store ends with its header written: steps 4 and 5 (R88). -/
def State.completeStore (s : State) (r : StoreRun) : State :=
  let seq := match s.store.inForce with | some b => nextSeq32 (s.areaOf b).seq | none => 1
  let t := s.target_
  let s := s.setArea t (SetArea.written s.runSlot.fmt seq s.runSlot.release r.vals r.strs)
  let s : State := { s with store := { s.store with inForce := some t, run := none } }
  s.setAll [(Obj.STORE_STATUS, 3), (Obj.STORE_SEQ, seq), (Obj.STORE_AREA, boolNat t), (Obj.STORE_LAST_TICK, s.k)]

/-- STORE_COMPLETE (R88, R90): `bad` names a read-back mismatch in step 3 or step 4. -/
def execStoreComplete (bad : Option (Fin 2)) (s : State) : Host.Outcome State Fault Refusal :=
  match s.store.run with
  | none => .next s
  | some r =>
    if !s.running then .next s
    else match bad with
    | none => .next ((s.completeStore r).storeAnswer r .ok)
    | some i =>
      let s : State := { s with store := { s.store with run := none } }
      let s := (s.set Obj.STORE_STATUS 4).event 0 0x1022 (u8 (3 + i))
      let s := if s.standby then (s.pairBit 8 true).event 0 0x7004 [] else s
      .next (s.storeAnswer r .storeFailed)

/-- STORE_DEFERRED_BEGIN (R89): the supply has recovered. -/
def execStoreDeferredBegin (s : State) : Host.Outcome State Fault Refusal :=
  match s.store.deferred with
  | some r =>
    if s.running ∧ s.supplyLow = false ∧ s.conf Obj.SUPPLY_STATE = 0 then .next (s.beginStore r.group none) else .next s
  | none => .next s

/-! Function modes (R96–R100) -/

/-- A mode object (R33). -/
def isMode (key : Nat) : Bool := modeKeys.contains key

/-- MODE_WRITE (R99). -/
def execModeWrite (q : Req) (key value : Nat) (s : State) : Host.Outcome State Fault Refusal :=
  if isMode key then .next (s.serveSet q key value (fun _ => {}) fun s => s.writeMode key value) else .next s

/-- ASSISTED_FALLBACK (R98). -/
def execAssistedFallback (key : Nat) (s : State) : Host.Outcome State Fault Refusal :=
  .next (if isMode key then s.fallBack key else s)

/-- ASSISTED_FAULT (R98); no forecast is valid while the stage model is faulted (R155). -/
def execAssistedFault (key : Nat) (s : State) : Host.Outcome State Fault Refusal :=
  if isMode key then
    let s' := s.assistFault key
    .next (if key = Obj.CRB_MODEL_MODE ∧ s.thirdMiss key 2 then s'.clearLedger else s')
  else .next s

/-! Reset command (R522) -/

/-- The checks of a write to RST_COMMAND. -/
def State.resetExtra (s : State) : Extra :=
  { state := s.get Obj.STORE_STATUS != 1 && s.get Obj.STORE_STATUS != 2 &&
      !(decide (5 ≤ s.upd.rec_.state ∧ s.upd.rec_.state ≤ 8)) &&
      (s.get Obj.UPD_PARKED_SRC == 0 || s.refTrue (s.get Obj.UPD_PARKED_SRC)) }

/-- RST_COMMAND (R522): the reset is entered at the start of the next tick; the detail is the session number. -/
def execRstCommand (q : Req) (s : State) : Host.Outcome State Fault Refusal :=
  .next (s.serveSet q Obj.RST_COMMAND 1 State.resetExtra fun s => s.resetNext 7 q.session)

/-! WRITE over every object -/

/-- The unit whose own index an object stands at. -/
def unitOf (key : Nat) : Option Nat :=
  let ix := key / 256
  if 0x5000 ≤ ix ∧ ix < 0x5030 then some (ix - 0x5000)
  else if 0x8000 ≤ ix ∧ ix < 0x9000 ∧ ix % 16 = 0 then some (0x100 + (ix - 0x8000) / 16) else none

/-- The checks of a write to a unit's object (R176, R181, R192). -/
def State.unitExtra (s : State) (u sub v : Nat) : Extra :=
  if sub = 0x10 then { state := (s.parent u).isNone && (v == 0 || (s.unitCheck u).isNone) }
  else if sub = 0x1D then
    { state := !((s.below 257 u).any fun v => decide (v < 48) && bit (s.get Obj.TICK_ENGINE_FAULT) (engineOf v)) }
  else if u < 48 then s.slotWriteExtra u sub v else s.asWriteExtra (u - 0x100) sub v

/-- The checks that the chapters add to a write (R105 steps 9 to 12). -/
def State.writeExtra (s : State) (key : Nat) (b : Bytes) : Extra :=
  let v := ofLe b
  let ix := key / 256
  let sub := key % 256
  if ix < 0x2000 then {}
  else if key = Obj.TICK_ENGINE_RESTART then { state := bit (s.get Obj.TICK_ENGINE_FAULT) v }
  else if key = Obj.RST_COMMAND then s.resetExtra
  else if ix < 0x2200 then {}
  else if ix < 0x2300 then
    (if key = Obj.REC_CLEAR_CIRC ∨ key = Obj.REC_CLEAR_KEPT then { busy := s.clearing }
     else if key = Obj.REC_APP_EVENT then { range := appEventOk b } else {})
  else if ix < 0x2400 then s.updExtra key b
  else if ix < 0x3000 then s.pairExtra key v
  else if ix < 0x3800 then s.swExtra key v
  else if ix < 0x4000 then s.valveExtra key v
  else if ix < 0x4800 then s.senseExtra key v
  else if key = Obj.CRB_ENABLE then { state := v == 0 || graphErr s.get == 0 }
  else if key = Obj.YS_SET_MARK then { range := s.led.ys.markOk v }
  else if ix < 0x5000 then s.ledgerExtra key v
  else match unitOf key with
  | some u => s.unitExtra u sub v
  | none =>
    if key = Obj.TPL_BUILD then { state := s.tplCode == 0 }
    else if ix < 0x6000 then s.functionExtra key v
    else if ix < 0x6800 then s.gnssExtra key v
    else if ix < 0x7000 then s.imgExtra key v b
    else if ix < 0x7008 then s.canExtra key v
    else if ix < 0x8000 then s.netExtra key v
    else if ix % 16 = 1 ∧ 1 ≤ sub ∧ sub ≤ 64 then s.memberExtra ((ix - 0x8000) / 16) v
    else if ix % 16 = 3 ∧ sub = 1 then s.templateExtra ((ix - 0x8000) / 16) v
    else {}

/-- What a write to an object of the ledger does beyond holding its value. -/
def State.ledgerWrite (s : State) (key v : Nat) : Option State :=
  if key = Obj.CRB_ENABLE then some (if v = 0 then s.disableLedger else s.enableLedger)
  else if key = Obj.CRB_CLEAR then some s.closeAll
  else if key = Obj.CRB_GRAIN_RATIO ∨ key = Obj.CRB_RATIO_TAU then some (s.set key v).ratioWritten
  else if key = Obj.YS_SET_MARK then some (s.putMark v)
  else if key = Obj.YS_SEAL then some s.sealOpen
  else none

/-- What a write to a unit's object does beyond holding its value. -/
def State.unitWrite (s : State) (u sub v : Nat) : Option State :=
  if sub = 0x10 then some (if v = 0 then s.disableUnit u else s.enableUnit u)
  else if sub = 0x1D then some (s.resetUnit u)
  else none

/-- What a write to an object of the supervisor, the path element or the builder does beyond holding its value. -/
def State.functionWrite (s : State) (key v : Nat) : Option State :=
  if key = Obj.TPL_BUILD then
    (templateOf (s.get Obj.TPL_NUMBER)).map fun t => (s.buildTemplate (s.get Obj.TPL_NUMBER) t).set Obj.TPL_RESULT 0
  else if key = Obj.SUP_ADOPT then some s.adopt
  else if key = Obj.SUP_ENABLE ∧ v ≠ 0 then
    some { s.set key v with tick := { s.tick with
      faulted := s.tick.faulted.filter (· ≠ supUnit), consec := Sparse.put (fun _ => 0) s.tick.consec supUnit 0 } }
  else if 0x5120 ≤ key / 256 ∧ key / 256 < 0x5125 ∧ key % 256 = 1 then some (s.writeBase (key / 256 - 0x5120) v)
  else none

/-- What a write does in the chapters beyond holding its value; none where it does no more. `q` is the request, none for
a write that reaches a standby over the mirror: there the recorder's clear records carry a level and a session that the
spec leaves open, and a reset, a switchover or the closing of sessions is the active's own (R117, R439, R522). -/
def State.chapterWrite (s : State) (q : Option Req) (key : Nat) (b : Bytes) : Option State :=
  let v := ofLe b
  let ix := key / 256
  let clear := fun code : Nat => match q with
    | some q => s.event 0 code (u8 (s.reqLevel q) ++ u16 q.session)
    | none => (s.draw).2.event 0 code (u8 (s.draw).1.toNat ++ u16 ((s.draw).1.toNat / 256))
  if key = Obj.SESS_CLOSE_ALL then some (match q with | some q => s.closeOthers q | none => s)
  else if key = Obj.CRED_L1 then some (s.putCred 1 b)
  else if key = Obj.CRED_L2 then some (s.putCred 2 b)
  else if key = Obj.STORE_ALL then some (s.askStore 0 none)
  else if key = Obj.STORE_GROUP then some (s.askStore v none)
  else if key = Obj.TICK_ENGINE_RESTART then some (s.restartEngine v)
  else if key = Obj.GPTP_PORTS then some ((s.set key v).gptpPortsWritten v)
  else if key = Obj.RST_COMMAND then some (match q with | some q => s.resetNext 7 q.session | none => s)
  else if key = Obj.REC_CLEAR_CIRC then some (clear 4)
  else if key = Obj.REC_CLEAR_KEPT then some (clear 3)
  else if key = Obj.REC_APP_EVENT then some (s.appEvent b)
  else if ix < 0x2300 then s.powerWrite key
  else if ix < 0x2400 then s.updWrite key b
  else if ix < 0x3000 then (if q.isNone ∧ key = Obj.PAIR_SWAP_NOW then some s else s.pairWrite key v)
  else if ix < 0x3800 then s.swWrite key v
  else if ix < 0x4000 then s.valveWrite key v
  else if ix < 0x4800 then s.senseWrite key v
  else if ix < 0x5000 then s.ledgerWrite key v
  else match unitOf key with
  | some u => s.unitWrite u (key % 256) v
  | none =>
    if ix < 0x6000 then s.functionWrite key v
    else if key = Obj.GNSS_ENABLE then some (if v = 0 then s.set key 0 else s.gnssEnable)
    else if ix < 0x6800 then none
    else if ix < 0x7000 then s.imgWrite key v b
    else if ix < 0x7008 then s.canWrite key v
    else if ix < 0x8000 then s.netWrite key v
    else if ix % 16 = 1 ∧ 1 ≤ key % 256 ∧ key % 256 ≤ 64 then some (s.setMember ((ix - 0x8000) / 16) (key % 256 - 1) v)
    else if ix % 16 = 3 ∧ key % 256 = 1 ∧ v = 0 then some (s.removeTemplate ((ix - 0x8000) / 16))
    else none

/-- The object is a string or a block. -/
def isBlob (key : Nat) : Bool :=
  match rowOf key with
  | some r => r.ty == .str || r.ty == .block
  | none => false

/-- A write that passed its checks takes effect (R75): the chapters' effects, a mode's, or the value held. Writes of one tick
take effect one after the other, so that the later decides (R76). -/
def State.applyWrite (s : State) (q : Option Req) (key : Nat) (b : Bytes) : State :=
  if isMode key then s.writeMode key (ofLe b)
  else match s.chapterWrite q key b with
  | some t => t
  | none => if isBlob key then s.setBlob key b else s.set key (ofLe b)

/-- What a refused write leaves behind: the codes that name the failed check, and the count of bad wafers. -/
def State.writeRefused (s : State) (key : Nat) (b : Bytes) (st : Status) : State :=
  if key = Obj.UPD_WAFER then (if st = .range then s.count Obj.UPD_WAFER_BAD 1 else s)
  else if st ≠ .state ∨ s.standby then s
  else if key = Obj.CRB_ENABLE then s.set Obj.CRB_GRAPH_ERR (graphErr s.get)
  else if key = Obj.TPL_BUILD then s.set Obj.TPL_RESULT s.tplCode
  else if 0x7000 ≤ key / 256 ∧ key / 256 < 0x7008 ∧ key % 256 = 1 then
    s.set (Obj.CAN_CFG_ERR (key / 256 - 0x7000)) (s.canCfg (key / 256 - 0x7000))
  else match unitOf key with
  | some u =>
    if key % 256 = 0x10 ∧ ofLe b ≠ 0 ∧ (s.parent u).isNone then
      (match s.unitCheck u with
       | some (v, c) => s.set (unitKey u 0x1C) (v * 65536 + c)
       | none => s)
    else s
  | none => s

/-- STORE_DEFAULTS (R557): one write, with its default, of every RWS object that differs from it. -/
def State.storeDefaults (s : State) (q : Option Req) : State :=
  let nums := s.obj.filter fun p => isRws p.1
  let blobs := s.blob.filter fun p => isRws p.1
  let s := nums.foldl (fun s p => s.applyWrite q p.1 (valBytes p.1 (objDefault p.1))) s
  blobs.foldl (fun s p => s.applyWrite q p.1 (blobDefault p.1)) s

/-- A write that reaches a standby over the mirror (R439): a command that sets the defaults does so there too. -/
def State.applyMirrored (s : State) (key : Nat) (b : Bytes) : State :=
  if key = Obj.STORE_DEFAULTS then s.storeDefaults none else s.applyWrite none key b

/-- STORE_DEFAULTS (R93, R557). -/
def execStoreDefaults (q : Req) (s : State) : Host.Outcome State Fault Refusal :=
  .next (s.serveSet q Obj.STORE_DEFAULTS 1 (fun _ => {}) fun s => s.storeDefaults (some q))

/-- An index of the OEM application's objects that it has registered (R80). -/
def State.oemIndex (s : State) (index : Nat) : Bool := decide (0xC000 ≤ index ∧ index ≤ 0xEFFF) && s.dict.oem.contains index

/-- The OEM application answers a request for an index it has registered (R80). A standby forwards no write to it, and
writes none for its partner (R114, R115). -/
def State.oemReply (s : State) (q : Req) (write : Bool) : Reply :=
  if write && q.forwarded.isSome then ⟨.access, [], s, false⟩
  else if write && s.standby then ⟨.state, [], s, false⟩
  else ⟨Status.ofCode q.oem.1, if write then [] else q.oem.2, s, false⟩

/-- The indices that the OEM application has registered from now on (R80). -/
def State.registerOem (s : State) (l : Option (List Nat)) : State :=
  match l with
  | some l => { s with dict := { s.dict with oem := l.filter fun i => decide (0xC000 ≤ i ∧ i ≤ 0xEFFF) } }
  | none => s

/-- WRITE (R75, R104, R105): the value length and the bytes that follow must agree. -/
def execWrite (q : Req) (index sub type_ len : Nat) (value : Bytes) (s : State) : Host.Outcome State Fault Refusal :=
  let key := index * 256 + sub
  let head := u16 index ++ u8 sub ++ u8 type_ ++ u16 len ++ value
  if len ≠ value.length ∨ 256 ≤ sub then .next (s.serve q 4 head false fun s _ => ⟨.type, [], s, false⟩)
  else if s.oemIndex index then .next (s.serve q 4 head true fun s _ => s.oemReply q true)
  else if key = Obj.STORE_ALL then .next (s.serveStore q key 0 value type_)
  else if key = Obj.STORE_GROUP then .next (s.serveStore q key (ofLe value) value type_)
  else if key = Obj.STORE_DEFAULTS then .next (s.serveWrite q key type_ value (fun _ => {}) fun s => s.storeDefaults (some q))
  else .next (s.serveWrite q key type_ value (fun s => s.writeExtra key value) (fun s => s.applyWrite (some q) key value)
    fun s st => s.writeRefused key value st)

/-! READ (R75, R103, R104) -/

/-- A window of DRAM that the module has assigned. -/
def isDramBase (key : Nat) : Bool :=
  let ix := key / 256
  key == Obj.GQ_RING_BASE || key == Obj.ISO_RX_RING_BASE ||
    (decide (0x6820 ≤ ix ∧ ix < 0x6828) && (key % 256 == 0xC || key % 256 == 0x13)) ||
    (decide (0x7000 ≤ ix ∧ ix < 0x7008) && key % 256 == 0x1B)

/-- The object reads the stamp of the entry that it stands beside. -/
def isStamp (key : Nat) : Bool :=
  let ix := key / 256
  let sub := key % 256
  (decide (0x3000 ≤ ix ∧ ix < 0x3080) && sub == Obj.CH_STAMP 0 % 256) ||
    (decide (0x3800 ≤ ix ∧ ix < 0x3830) && sub == Obj.VD_STAMP 0 % 256) ||
    (decide (0x4010 ≤ ix ∧ ix < 0x4020) && sub == 0x15) || (decide (0x4040 ≤ ix ∧ ix < 0x4070) && sub == 0x14) ||
    (decide (0x40C0 ≤ ix ∧ ix < 0x40E0) && sub == 0x11) || key == Obj.POS_STAMP || key == Obj.PATH_STAMP ||
    (decide ((0x5000 ≤ ix ∧ ix < 0x5030) ∨ (0x8000 ≤ ix ∧ ix < 0x9000 ∧ ix % 16 = 0)) && sub == 0x17)

/-- The number that a READ answers for an object of a fixed size. -/
def State.readNum (s : State) (q : Req) (key : Nat) : Nat :=
  if isStamp key then (s.entry (s.alias key)).stamp
  else if key = Obj.SESS_OWN then q.session
  else if key = Obj.SESS_OWN_LEVEL then s.reqLevel q
  else if key = Obj.TICK_INDEX then s.k % 2 ^ 64
  else if key = Obj.TIME_NOW then s.k * 250000 % 2 ^ 64
  else if isDramBase key then dramWindow s.dramWindows key
  else s.live key

/-- The bytes of a string or block object; none where its state refuses the READ. -/
def State.readBlob (s : State) (key : Nat) : Option Bytes :=
  let ix := key / 256
  if key = Obj.YS_PAGE then
    ((s.led.ys.pages.filterMap (·.2)).find? fun p => p.ok && p.seq == s.get Obj.YS_SEL).map s.pageBytes
  else if key = Obj.GQ_RECORD then
    let seq := s.get Obj.GQ_SEL
    let b := Sparse.find (fun _ => ([] : Bytes)) s.gnss.ring (seq % 32768)
    if b ≠ [] ∧ field b 4 4 = seq ∧ seq ≠ 0xFFFFFFFF then some b else none
  else if 0x7000 ≤ ix ∧ ix < 0x7008 ∧ key % 256 = 0x21 then s.rxEntry (ix - 0x7000) (s.get (Obj.CAN_RX_SEL (ix - 0x7000)))
  else some (
    if key = Obj.CRB_TABLE then s.crbTable
    else if key = Obj.UPD_BITMAP then
      (List.range 16384).map fun i => BitVec.ofNat 8 (((List.range 8).map fun j =>
        boolNat (Sparse.find (fun _ => 0) s.upd.held (8 * i + j) != 0) * 2 ^ j).sum)
    else if key / 256 = 0x2301 then (s.keyOf (key % 256 - 1)).getD []
    else s.getBlob key)

/-- RO objects of a block's indexes that no block produces: constants of the module, and what S sets at a check or when
the settings change; a slot writes CH_LOOP_CMD and VD_LOOP_CMD (DEDUCED, log entry 42). -/
def heldByS (key : Nat) : Bool :=
  let ix := key / 256
  let sub := key % 256
  isOffset key || isDramBase key || key == Obj.CRB_GRAPH_ERR || (decide (0x7000 ≤ ix ∧ ix < 0x7008) && sub == 0x24) ||
    (decide (0x3000 ≤ ix ∧ ix < 0x3080) && (sub == 2 || sub == 0xC)) || (decide (0x3800 ≤ ix ∧ ix < 0x3830) && sub == 6) ||
    (decide (0x5000 ≤ ix ∧ ix < 0x5030) && (sub == 1 || sub == 0x1C || sub == 0x1E))

/-- An object whose READ a domain that is not on refuses (R77, R354). -/
def State.readOff (s : State) (r : ObjRow) (key : Nat) : Bool :=
  r.acc == .ro && key % 256 != 0 && !heldByS key && (s.domainOff key ||
    (decide (key / 256 = 0x6040 ∨ key / 256 = 0x6070) && !(s.flag Obj.GNSS_ENABLE && s.domOn 6)))

/-- READ (R103–R105). -/
def execRead (q : Req) (index sub offset maxLen : Nat) (s : State) : Host.Outcome State Fault Refusal :=
  let key := index * 256 + sub
  if key = Obj.REC_WINDOW ∧ sub < 256 then execRecWindow q offset maxLen s
  else if s.oemIndex index ∧ sub < 256 then
    .next (s.serve q 3 (readTail index sub offset maxLen) true fun s _ => s.oemReply q false)
  else .next (s.serve q 3 (readTail index sub offset maxLen) true fun s _ =>
    match (if sub < 256 then s.presentRow key else none) with
    | none => ⟨.noObject, [], s, false⟩
    | some r =>
      if r.acc = .wo ∨ r.acc = .cmd then ⟨.access, [], s, false⟩
      else
        let blob := r.ty == .str || r.ty == .block
        let data := if blob then s.readBlob key else some (leBytes r.ty.size (s.readNum q key))
        let b := data.getD []
        if (blob = false ∧ offset ≠ 0) ∨ (data.isSome ∧ b.length < offset) then ⟨.range, [], s, false⟩
        else if s.readOff r key then ⟨.domainOff, [], s, false⟩
        else if data.isNone then ⟨.state, [], s, false⟩
        else ⟨.ok, readReply r.ty.code b.length ((b.drop offset).take (min maxLen 1256)), s, false⟩)

end Sys2Proof.Machine
end

