-- ==== Sys2Proof/Machine/Pair.lean ====
section
/-! DEFINITION. The mirror of a redundant pair, the takeover and the links of the Ethernet ports (R430–R440, R117,
R418): what the active sends in every tick, what the standby makes of it, the refill. -/

namespace Sys2Proof.Machine

/-! The check code (R437) -/

/-- An origin entry in the check code (log entry 36). -/
def Origin.bytes (o : Origin) : Bytes :=
  u32 o.crumb ++ u64 o.origin ++ u32 o.lat ++ u32 o.lon ++ u16 o.width ++ u16 o.dist ++ u32 o.intake ++ u16 o.flags ++
    u32 (ratF32 o.grain) ++ (o.losses.map fun q => u32 (ratF32 q)).flatten ++ u32 (ratF32 o.notMeasured)

/-- The CRC-32C over the piece records, the origin entries and the supervisor's state (R437; log entry 36). -/
def State.checkCode (s : State) : Nat :=
  let w := match s.sup.window with
    | some w => u64 w.open_ ++ u32 w.want ++ u32 w.taken ++ u8 (boolNat w.void) ++ u32 (ratF32 w.grain)
    | none => []
  crc32c (s.crbTable ++ ((s.led.origins.filterMap (·.2)).map Origin.bytes).flatten ++ w ++ u32 s.supState ++
    u32 s.sup.tried ++ u64 s.sup.since)

/-! The active's side (R435, R436) -/

/-- The objects whose values the ledger step and the supervisor step read in a tick: the references' and the position
solution's. -/
def State.replayKeys (s : State) : List Nat :=
  let refs := ([Obj.CRB_GROUND_SRC, Obj.CRB_WORK_SRC, Obj.CRB_WIDTH_SRC, Obj.CRB_INTAKE_SRC, Obj.SUP_TAIL_SRC] ++
    (List.range 8).map Obj.MP_SRC ++ (List.range 24).map Obj.STG_SPEED_SRC).filterMap fun key =>
      if s.conf key = 0 then none else some (s.alias (s.conf key / 256))
  (refs ++ [Obj.POS_EPOCH, Obj.POS_LAT, Obj.POS_LAT_FINE, Obj.POS_LON, Obj.POS_LON_FINE, Obj.POS_V_EAST, Obj.POS_V_NORTH,
    Obj.POS_SPEED, Obj.POS_HDG_SRC, Obj.POS_HEADING, Obj.POS_QUALITY]).dedup

/-- An application area as a mirror carries it. -/
def State.areaWrite (s : State) (key : Nat) : AppWrite :=
  let a := s.area key
  { area := key, stamp := a.stamp, valid := a.valid, body := a.body }

/-- The largest size of a slice in a tick; what remains is the refill's, the least of it here (Table 6). -/
def sliceLargest : MirrorSlice → Nat
  | .dictionary => 4096 | .loop => 3072 | .replay => 768 | .outputs => 1600 | .valve => 960 | .module_ => 256
  | .application => 512 | .refill => 896

/-- The largest size of the header, and of a mirror (Tables 6 and 7). -/
def headerLargest : Nat := 128
/-- The slices of Table 6. -/
def mirrorSlices : List MirrorSlice := [.dictionary, .loop, .replay, .outputs, .valve, .module_, .application, .refill]
/-- The bytes that the mirror of one tick carries at most (R436, Table 7). -/
def mirrorBudget : Nat := headerLargest + (mirrorSlices.map sliceLargest).sum

/-- The mirror of the tick that ends (R435, Table 6); `slots` are those whose states it carries. A request that still executes
has no status code to mirror and is left out of the cache, though it is the newest: after a takeover its repeat is answered
STALE (DESIGN CHOICE, log entry 73). The heartbeat counter is that of the latest one sent, which a heartbeat built in the tick that ends is not yet
(DEDUCED, log entry 90). -/
def State.buildMirror (s : State) (slots : List Nat) : Mirror :=
  { tick := s.k, promise := s.pair.promise, role := s.roleBits, handover := s.pair.handover
    timeState := s.get Obj.TIME_STATE
    slices := [.dictionary, .loop, .replay, .outputs, .valve, .module_, .application]
    domains := ((List.range 15).map fun d => boolNat (s.domOn d) * 2 ^ d).sum
    writes := s.pair.writes
    sessions := s.dict.sessions.map fun x =>
      ⟨x.num, x.level, x.transport, x.source, x.last, x.newest, x.cache.filterMap fun c => c.ans.map fun a => (c.txn, a.1)⟩
    lastNum := s.dict.lastNum
    fl := slots.map fun n => (n, s.fl n)
    flMode := slots.map fun n =>
      (n, s.modeState (Obj.FL_MODE n), (s.cur (Obj.FL_MODE n + 2)).val, s.modeRun (Obj.FL_MODE n))
    asm := s.loop.asms.map fun a => (a, s.asm a)
    replay := s.replayKeys.map fun key => ⟨key, s.get key, (s.entry key).stamp, (s.entry key).valid⟩
    areas := [s.areaWrite Obj.CRB_ASSIST_OFFSET, s.areaWrite Obj.SUP_ASSIST_OFFSET]
    ran := s.tick.made.filter fun u => u == ledgerUnit || u == supUnit
    missed := s.led.missed
    check := if s.tick.made.contains ledgerUnit then some s.checkCode else none
    ch := (List.range 128).map fun n =>
      ⟨n, (s.ch n).duty, s.get (Obj.CH_FUSE_STATE n), s.get (Obj.CH_RETRY_LEFT n), (s.ch n).theta, s.get (Obj.CH_STATUS n)⟩
    bank := (List.range 8).map fun b => ⟨b, (s.bank b).load, s.get (Obj.BANK_SHED_MASK b)⟩
    vd := (List.range 48).map fun n =>
      let x := s.vd n
      ⟨n, x.setpoint, x.st, x.fault, x.tw, x.tb, x.boostAt, x.peakFrom, x.waitFrom, x.holdFrom, x.offAt,
        s.get (Obj.HG_WAITER (n / 4)) == n, x.demand, x.cmdOn, x.inj, x.heldLen, x.event, x.waitIn⟩
    path := s.path
    hb := if s.net.hbAt = some s.k then (s.net.hbNext + 65535) % 65536 else s.net.hbNext, isoState := s.get Obj.ISO_STATE, isoAddr := s.net.iso.addr
    seqSync := s.gptp.seqSync, seqAnnounce := s.gptp.seqAnnounce, clock := s.clockMac
    oper := s.pair.operTicks
    app := if s.area Obj.PAIR_APP_OUT_OFFSET = {} then none else some (s.areaWrite Obj.PAIR_APP_OUT_OFFSET) }

/-- The slots that completed a run in the tick that ends. -/
def State.slotsRan (s : State) : List Nat := s.tick.ran.filter (· < 48)

/-- The refill that begins with the tick that ends (R438): the running values that differ from their defaults, and the states
that the other slices carry one tick at a time. -/
def State.buildRefill (s : State) : Refill :=
  let held := fun key => match rowOf key with
    | some row => (row.acc == Access.rw || row.acc == Access.rws) && !moduleLocal key
    | none => false
  { vals := s.obj.filter fun p => held p.1, strs := s.blob.filter fun p => held p.1
    storeSeq := s.get Obj.STORE_SEQ, tick := s.k, led := s.led, sup := s.sup, loop := s.loop
    snapshot := s.buildMirror s.loop.slots }

/-- The bytes of a refill: 8 for a number, 4 and its length for a string, 128 for a piece or an origin entry, 256 for a slot
of a loop, 4096 for the rest (DESIGN CHOICE, log entry 88: the spec gives it no layout). -/
def refillSize (r : Refill) : Nat :=
  8 * r.vals.length + (r.strs.map fun p => 4 + p.2.length).sum + 128 * (r.led.recs.length + r.led.origins.length) +
    256 * r.loop.slots.length + 4096

/-- The partner shows that it fills, or joins. -/
def State.partnerFills (s : State) : Bool := s.pair.role == some 0 && s.leasePaths.any s.shows

/-- The refill slice of a mirror: while the partner shows 00b, 896 bytes of the refill under way, or of a new one; the mirror
that carries the last of one brings its content (DESIGN CHOICE, log entry 88). -/
def State.sendRefill (s : State) : State × Option (Nat × Nat) :=
  if s.partnerFills then
    let (r, n) := s.pair.refill.getD (s.buildRefill, 0)
    let n := min (refillSize r) (n + sliceLargest .refill)
    let s : State := { s with pair := { s.pair with refill := if n = refillSize r then none else some (r, n) } }
    (if n = refillSize r then s.send (.refill r) else s, some (n, refillSize r))
  else ({ s with pair := { s.pair with refill := none } }, none)

/-- At the end of a tick the active of a pair sends its mirror while P is up (R435). -/
def State.sendMirror (s : State) : State :=
  if s.pair.state = 4 ∧ s.pair.inForce ∧ s.portUp 4 then
    let m := s.buildMirror s.slotsRan
    match s.sendRefill with
    | (t, some part) => t.send (.mirror { m with refill := some part, slices := m.slices ++ [.refill] })
    | (t, none) => t.send (.mirror m)
  else s

/-! The standby's side (R117, R287, R324, R435–R439) -/

/-- A value of the tick image as another module or moment had it. -/
def State.putVal (s : State) (v : MirrorVal) : State :=
  let e : Entry := ⟨v.stamp, v.valid⟩
  { s.set v.key v.val with ent := Sparse.put (fun _ => ({} : Entry)) s.ent ((entKey v.key).getD v.key) e }

/-- The refill and its replay are complete and a check code matches: the module is ready (R438). A STORE_SEQ that differs from
the active's asks for a store. -/
def State.ready (s : State) : State :=
  match s.pair.filled with
  | some seq =>
    let s : State := { s with pair := { s.pair with state := 3, filled := none } }
    let s := s.set Obj.PAIR_FILL 100
    if s.get Obj.STORE_SEQ = seq then s else s.askStore 0 none
  | none => s

/-- The ledger and supervisor work of the active's tick, on the values it read, then the dictionary writes of the tick
(R437, R439). The standby's own values of those entries stay, and it writes no yield record (R160). A check code, which the
active takes at the end of its tick, moves the module to 02h where it differs, and makes one that awaits it ready where it
matches. -/
def State.replayMirror (s : State) (m : Mirror) : State :=
  let t : State := { s with
    k := m.tick, snap := if m.tick = s.k then s.snap else s.obj, led := { s.led with missed := m.missed } }
  let t := m.replay.foldl State.putVal t
  let t := m.areas.foldl (fun t w => t.landArea w.area ⟨w.stamp, w.valid, w.body⟩) t
  let t := t.voidIfDue.settleIfDue.restIfDue
  let t := if m.ran.contains ledgerUnit then t.ledgerStep else t
  let t := if m.ran.contains supUnit then t.supStep else t
  let t := t.sampleLedger.sampleTail
  let t := m.replay.foldl (fun t v => t.putVal ⟨v.key, s.get v.key, (s.entry v.key).stamp, (s.entry v.key).valid⟩) t
  let t : State := { t with app := s.app, led := { t.led with ys := s.led.ys } }
  let t := m.writes.foldl (fun t w => t.applyMirrored w.1 w.2) t
  let t : State := { t with k := s.k, snap := s.snap }
  match m.check with
  | some c => if c = t.checkCode then t.ready else t.fill.event 0 0x7003 (u64 m.tick)
  | none => t

/-- The module replays what it receives: it is ready, or its refill is complete (R437, R438). -/
def State.replays (s : State) : Bool := s.pair.state == 3 || (s.pair.state == 2 && s.pair.filled.isSome)

/-- Mirrors replayed in their order; once one has failed, the rest is kept for the next refill. -/
def State.replayList (s : State) (l : List Mirror) : State :=
  l.foldl (fun s m => if s.replays then s.replayMirror m
    else { s with pair := { s.pair with replay := s.pair.replay ++ [m] } }) { s with pair := { s.pair with replay := [] } }

/-- At the boundary a standby that replays takes the mirror of the tick that ends (R437); one that fills keeps it (R438). -/
def State.replayAll (s : State) : State := if s.replays then s.replayList s.pair.replay else s

/-- The output-stage slice (R287). -/
def State.mirrorCh (s : State) (c : MirrorCh) : State :=
  let s := s.setAll [(Obj.CH_FUSE_STATE c.n, c.state), (Obj.CH_RETRY_LEFT c.n, c.retry), (Obj.CH_STATUS c.n, setBit c.status 14 true)]
  s.setCh c.n { s.ch c.n with theta := c.theta, duty := c.duty }

/-- A bank of the output-stage slice (R287). -/
def State.mirrorBank (s : State) (b : MirrorBank) : State :=
  (s.setBank b.b { s.bank b.b with load := b.load }).set (Obj.BANK_SHED_MASK b.b) b.mask

/-- The valve slice (R324). -/
def State.mirrorVd (s : State) (v : MirrorVd) : State :=
  let s := s.setVd v.n { s.vd v.n with
    setpoint := v.target, st := v.state, fault := v.fault, tw := v.tw, tb := v.tb, boostAt := v.boostAt
    peakFrom := v.peakFrom, waitFrom := v.waitFrom, holdFrom := v.holdFrom, offAt := v.offAt
    demand := v.demand, cmdOn := v.cmdOn, inj := v.inj, heldLen := v.heldLen, event := v.event, waitIn := v.waitIn, decay := none }
  let g := v.n / 4
  let s := if v.waiting then s.set (Obj.HG_WAITER g) v.n else if s.get (Obj.HG_WAITER g) = v.n then s.set (Obj.HG_WAITER g) 0xFF else s
  if v.state = 2 then s.set (Obj.HG_BOOST_OWNER g) v.n
  else if s.get (Obj.HG_BOOST_OWNER g) = v.n then s.set (Obj.HG_BOOST_OWNER g) 0xFF else s

/-- A session as the mirror carries it: a request in its cache is answered DONE_ELSEWHERE (R117). -/
def sessionOf (x : MirrorSession) : Machine.Session :=
  { num := x.num, level := x.level, transport := x.transport, source := x.source, last := x.last, newest := x.newest
    cache := x.cache.map fun c => { txn := c.1, ans := some (c.2, []), elsewhere := true } }

/-- The slices that carry states (R117, R165, R287, R324, R432, R442). -/
def State.takeSlices (s : State) (m : Mirror) : State :=
  let s := m.fl.foldl (fun s p => (s.touchUnit p.1).setFl p.1 p.2) s
  let s := m.flMode.foldl (fun s p =>
    (s.setAll [(Obj.FL_MODE p.1 + 1, p.2.1), (Obj.FL_MODE p.1 + 2, p.2.2.1)]).setMode (Obj.FL_MODE p.1) p.2.2.2) s
  let s := m.asm.foldl (fun s p => (s.touchUnit (0x100 + p.1)).setAsm p.1 p.2) s
  let s := m.ch.foldl State.mirrorCh s
  let s := m.bank.foldl State.mirrorBank s
  let s := m.vd.foldl State.mirrorVd s
  let s : State := { s with
    dict := { s.dict with sessions := m.sessions.map sessionOf, lastNum := m.lastNum }
    path := m.path
    net := { s.net with hbNext := m.hb, iso := { s.net.iso with addr := m.isoAddr } }
    gptp := { s.gptp with seqSync := m.seqSync, seqAnnounce := m.seqAnnounce, clock := some m.clock }
    pwr := { s.pwr with partnerOn := m.domains }
    pair := { s.pair with
      operTicks := m.oper, appIn := m.app, gotMirror := true, got := (s.pair.got ++ m.fl.map (·.1)).dedup } }
  (s.setAll [(Obj.ISO_STATE, m.isoState), (Obj.ISO_ADDR, m.isoAddr)]).followTimeState m.timeState

/-- What a mirror's header says of the sender (R427). -/
def partnerOf (m : Mirror) (id : Nat) : PartnerWord :=
  { id := id, role := m.role, holdover := m.timeState == 4, value := m.promise % 2 ^ 32, handover := m.handover, health := false }

/-- The header of a mirror or of a mirror reply shows the partner on P; of the partner's health it says nothing (R427, Table
6). -/
def State.seeHeader (s : State) (m : Mirror) : State :=
  let t := s.seePartner 1 (partnerOf m (1 - s.get Obj.PAIR_ID % 2))
  { t with pair := { t.pair with health := s.pair.health } }

/-- A mirror that is complete (R435), which the standby answers with its own header (R444); a handover's makes it active with
the next tick (R441). -/
def State.takeMirror (s : State) (m : Mirror) (align : Int) : State :=
  let s := s.seeHeader m
  let s := s.takeSlices m
  let s := s.set Obj.PAIR_ALIGN_NS (encInt 16 (satInt 16 align))
  let s := match m.refill with
    | some (n, size) => if s.pair.state = 2 then s.set Obj.PAIR_FILL (100 * n / size) else s
    | none => s
  let s := s.send (.mirror { tick := s.k, promise := s.k, role := s.roleBits, timeState := m.timeState })
  let s : State := { s with pair := { s.pair with
    lastMirror := some m.tick, replay := s.pair.replay ++ [m]
    follow := if m.tick = s.k then none else some (m.tick + 1) } }
  if m.handover ∧ s.pair.state = 3 then
    { s with pair := { s.pair with next := some 4, swapAt := some (s.k + 2) } }
  else s

/-- MIRROR_COMPLETE (R435); on an active, and from a partner that is none, a mirror reply or header that shows the partner
on P (R427, R444, R445, R446). -/
def execMirrorComplete (m : Mirror) (align : Int) (s : State) : Host.Outcome State Fault Refusal :=
  if s.running ∧ s.pair.inForce ∧ s.portUp 4 then
    if m.role = 2 ∧ (s.pair.state = 1 ∨ s.standby) then .next (s.takeMirror m align)
    else .next (s.seeHeader m)
  else .next s

/-- A late or missing mirror, or P down (R435). -/
def State.mirrorLate (s : State) : State :=
  let s : State := { s with pair := { s.pair with lastLate := some s.k } }
  let s := s.count Obj.PAIR_MIRROR_LATE 1
  if s.pair.state = 3 then s.fill else s

/-- MIRROR_LATE (R435): not complete by 240 µs of the tick. -/
def execMirrorLate (s : State) : Host.Outcome State Fault Refusal :=
  if s.running ∧ s.standby ∧ s.pair.lastMirror ≠ some s.k then .next s.mirrorLate else .next s

/-- The open page of the newest valid copy is taken over, once after each start (R159, R160). -/
def State.takePages (s : State) : State :=
  if s.led.startRun then
    { s with led := { s.led with ys := { s.led.ys with open_ := ((s.ckpt.map fun c : Ckpt => c.openPage).getD s.led.ys.open_) } } }.showYs
  else s

/-- What a refill brings, and the replay from its snapshot tick on (R438). The standby's own store, with its yield pages
and its ledger copies, stays (R160); the units that it makes enabled close the step window (R56). -/
def State.takeRefill (s : State) (r : Refill) : State :=
  let l := s.pair.replay.filter fun m => decide (r.tick < m.tick)
  let s := s.takePages
  let can := (List.range 8).map fun c => (c, s.flag (Obj.CAN_ENABLE c))
  let s := { s with obj := s.obj.filter (fun (p : Nat × Nat) => match rowOf p.1 with
    | some row => !(row.acc == Access.rw || row.acc == Access.rws) || moduleLocal p.1
    | none => true) }
  let s := r.vals.foldl (fun s p => if moduleLocal p.1 then s else s.set p.1 p.2) s
  let s := r.strs.foldl (fun s p => if moduleLocal p.1 then s else s.setBlob p.1 p.2) s
  let s : State := { s with
    led := { r.led with ys := s.led.ys, ckA := s.led.ckA, ckB := s.led.ckB, ckRun := s.led.ckRun, startRun := false }
    sup := r.sup, loop := r.loop
    pair := { s.pair with filled := some r.storeSeq, got := r.loop.slots } }
  let s := if s.flag Obj.CRB_ENABLE || (List.range 48).any (fun n => s.flag (Obj.FL_ENABLE n)) then s.closeWindow else s
  ((s.linkMembers.canFollow can).takeSlices r.snapshot).replayList l

/-- REFILL_COMPLETE (R438): `whole` says whether every part of the refill has come with a correct CRC-32C. The module is ready
once a check code has matched; where the active's ledger does not run there is none to wait for (DEDUCED, log entry 88). -/
def execRefillComplete (r : Refill) (whole : Bool) (s : State) : Host.Outcome State Fault Refusal :=
  if s.running ∧ s.pair.state = 2 ∧ whole = true then
    let s := s.takeRefill r
    .next (if s.ledgerOn then s else s.ready)
  else .next s

/-! Takeover (R430–R432) -/

/-- The tick of R430 has come: every configured path has been expired in each of the last G ticks. -/
def State.takeoverDue (s : State) : Bool :=
  s.running && s.standby && s.leasePaths.all fun i => decide (s.get Obj.PAIR_GUARD_NOW ≤ (s.leasePath i).expired)

/-- A heartbeat fell due in the tick of the last mirror, which had staged it, or after it and before this tick, and was not
sent (R410). -/
def State.heartbeatMissed (s : State) : Bool :=
  match s.pair.lastMirror with
  | some t =>
    let p := s.net.hb.getD 0 400
    let ph := s.net.hb.getD 1 0
    decide (t + (ph + p - t % p) % p < s.k)
  | none => false

/-- The ticks after the last mirror and before the takeover count as invalid ones in the ledger's samples (R432). -/
def State.gapSamples (s : State) : State :=
  match s.pair.lastMirror with
  | some t => if s.ledgerOn then (List.range' (t + 1) (s.k - (t + 1))).foldl State.invalidTick s else s
  | none => s

/-- The new active's first tick, planned or not: the token, and what is due from the next tick on (R432). -/
def State.becomeActive (s : State) : State :=
  let s := s.takeToken.isoTakeover
  { s with pair := { s.pair with announce := true } }

/-- A new active that was filling (R432): the ledger starts empty, and so does the supervisor, whose state no slice carries;
a slot starts whose state has come with no mirror since the filling began, and the output stages where none has come at all
(DEDUCED, log entry 89). The pages and the number of the newest valid copy are taken over (R119, R159). -/
def State.unitsIncomplete (s : State) : State :=
  let got := s.pair.got
  let next := (s.ckpt.map (·.next)).getD 0
  let s := s.takePages
  let s : State := { s with led := {
    recs := [], ys := s.led.ys, ckA := s.led.ckA, ckB := s.led.ckB, ratio := s.led.ratio, startRun := false, next := next } }
  let s := s.supInit
  let s := ((List.range 48).filter fun n => !got.contains n).foldl (fun s n => s.setFl n { s.fl n with init := true }) s
  if s.pair.gotMirror then s else s.pathInit.swStart.valveStart

/-- TAKEOVER (R430, R432). -/
def execTakeover (s : State) : Host.Outcome State Fault Refusal :=
  if s.takeoverDue then
    let gap := s.k + 1 - s.pair.lastApplied
    let filling := s.pair.state == 2
    let s := (s.count Obj.PAIR_TAKEOVERS 1).set Obj.PAIR_LAST_GAP (min gap 65535)
    let s := s.event 0 0x7000 (u16 gap ++ u8 (s.get Obj.PAIR_GUARD_NOW))
    let s := s.becomeActive
    let s := if filling then s.unitsIncomplete else s.gapSamples
    .next (if s.heartbeatMissed then s.buildHeartbeat else s)
  else .next s

/-- In the tick after a takeover: one address claim, and one gratuitous ARP on each enabled port with an address
(R432). -/
def State.announce (s : State) : State :=
  if s.pair.announce then
    let s : State := { s with pair := { s.pair with announce := false } }
    let s := if s.get Obj.ISO_STATE = 2 then s.sendClaim s.net.iso.addr else s
    [0, 1, 2, 3].foldl (fun s p => if (s.eth p).on && s.portUp p && (s.eth p).ip != 0 then s.send (.arp p) else s) s
  else s

/-! Links (R417, R435, R440) -/

/-- ETH_LINK_LOSS (R435): P down counts as a missing mirror. -/
def execEthLinkLoss (p : Fin 5) (s : State) : Host.Outcome State Fault Refusal :=
  if s.running ∧ (s.eth p).on ∧ s.get (Obj.ETH_LINK p) = 2 then
    let s := (s.ethPower p true).count (Obj.ETH_LINK_LOSSES p) 1
    .next (if p.val = 4 ∧ s.standby then s.mirrorLate.pairBit 10 true else s)
  else .next s

/-- ETH_LINK_UP (R440): a port whose link was training is up, with its signal quality, which SVC has none of
(Table 16). -/
def execEthLinkUp (p : Fin 5) (sqi : Nat) (s : State) : Host.Outcome State Fault Refusal :=
  if s.running ∧ (s.eth p).on ∧ s.domOn 8 ∧ s.get (Obj.ETH_LINK p) ≠ 2 then
    let s := (s.set (Obj.ETH_LINK p) 2).set (Obj.ETH_SQI p) (if p.val = 3 then 0xFF else sqi)
    .next (if p.val = 4 then s.pairBit 10 false else s)
  else .next s

end Sys2Proof.Machine
end

