-- ==== Sys2Proof/Machine/Startup.lean ====
section
/-! DEFINITION. Reset and start (R518–R531): the causes, the entry, the start sequence up to the first tick. -/

namespace Sys2Proof.Machine

/-! Causes (R518) -/

/-- A cause of reset arises now: it takes the place of one that is due, but for a power-on (R521). -/
def State.resetAt (s : State) (cause detail : Nat) : State :=
  match s.start.due with
  | some d => if d.cause = 1 ∧ d.at_ ≤ s.k then s else { s with start := { s.start with due := some ⟨cause, detail, s.k⟩ } }
  | none => { s with start := { s.start with due := some ⟨cause, detail, s.k⟩ } }

/-- S executes: from the release of reset to the next (R454). -/
def State.alive (s : State) : Bool := s.running || (s.phase == .starting && !s.resetNow)

/-- POWER_LOSS (R518): both logic feeds below 3.0 V; D0 is lost. -/
def execPowerLoss (s : State) : Host.Outcome State Fault Refusal := .next (s.resetAt 1 0)

/-- SUPERVISOR_MISMATCH (R518): the detail is the instruction's address. -/
def execSupervisorMismatch (addr : Nat) (s : State) : Host.Outcome State Fault Refusal :=
  if s.alive then .next (s.resetAt 3 (addr % 2 ^ 32)) else .next s

/-- WATCHDOG_EXPIRY (R518): not served for 8 ticks on the D0 oscillator. -/
def execWatchdogExpiry (s : State) : Host.Outcome State Fault Refusal :=
  if s.alive ∧ 8 ≤ s.start.watchdog then .next (s.resetAt 5 0) else .next s

/-- MEMORY_ERROR (R518): the detail is the address. -/
def execMemoryError (addr : Nat) (s : State) : Host.Outcome State Fault Refusal :=
  if s.alive then .next (s.resetAt 8 (addr % 2 ^ 32)) else .next s

/-- The lowest sample that a supply reset event carries: of the dip in progress and the sample below 5.5 V (log entry
38). -/
def State.dipLowest (s : State) (mv : Nat) : Nat :=
  let now := ratF32 ((mv : Rat) / 1000)
  match s.pwr.dip with
  | some (_, low) => f32min low now
  | none => now

/-- The one record of a supply reset, written in the hold-up time; the queue is dropped (R472, R486). -/
def State.supplyRecord (s : State) (mv : Nat) : State :=
  let sub := if s.phase = .running then s.k % 4000 else 0xFFFF
  let e : Event := ⟨0xF, 0x2002, u16 s.recd.queue.length ++ u32 (s.dipLowest mv), sub⟩
  let seq := s.recd.nextSeq
  let b := s.recordBytes seq e
  let s : State := { s with recd := { s.recd with queue := [], reported := [], nextSeq := (seq + 1) % 2 ^ 32 } }
  s.writeRecord ⟨seq, e.code, b⟩

/-- A store in progress at a supply reset, which goes on in the hold-up time: `reached` is the last step completed (R94,
R472). -/
def State.storeInHoldup (s : State) (reached : Nat) : State :=
  match s.store.run with
  | some r => if 4 ≤ reached then s.completeStore r else s
  | none => s

/-- SUPPLY_RESET (R472): the combined supply below 5.5 V; the detail is its lowest sample, mV. -/
def execSupplyReset (mv reached : Nat) (s : State) : Host.Outcome State Fault Refusal :=
  if mv < 5500 then
    .next ((if s.alive then (s.supplyRecord mv).storeInHoldup reached else s).resetAt 2 mv)
  else .next s

/-! Entry (R520, R523, R528, R530) -/

/-- The objects that D0 and the credentials region keep: wake records, the reset record, CRED_CHANGES; PAIR_HOLDS stays
with D0 (log entry 37). -/
def keptKey (d0 : Bool) (key : Nat) : Bool :=
  let ix := key / 256
  let sub := key % 256
  key == Obj.CRED_CHANGES ||
    (d0 && (key == Obj.PAIR_HOLDS || ix == 0x21F0 || (decide (0x2110 ≤ ix ∧ ix < 0x211F) && decide (6 ≤ sub ∧ sub ≤ 8))))

/-- What the output stages keep in a pair hold (R288, R325, R433). -/
def State.heldPair (s : State) : PairSt :=
  { hold := s.pair.hold, holdEnd := s.pair.holdEnd, holdLimit := s.pair.holdLimit, rxTest := s.pair.rxTest }

/-- What DRAM keeps of the record ring, the frame buffers and the statistics rings: all of it over a reset whose cause is none
of power (R31, R335, R380, R523). -/
def State.dramGnss (s : State) (cause : Nat) : GnssSt := if cause ≤ 2 then {} else { ring := s.gnss.ring }
/-- The same of imaging. -/
def State.dramImg (s : State) (cause : Nat) : ImgSt :=
  if cause ≤ 2 then {}
  else { streams := s.img.streams.map fun p => (p.1, { bufs := p.2.bufs, ring := p.2.ring }) }

/-- The same of the CAN and ISO receive rings (R396, R414). -/
def State.dramNet (s : State) (cause : Nat) : NetSt :=
  if cause ≤ 2 then {}
  else { can := s.net.can.map fun p => (p.1, { ring := p.2.ring }), iso := { ring := s.net.iso.ring } }

/-- What every reset keeps (R523, Table 2), and what a hold keeps besides: all else begins anew, slot state among it (R166),
in whatever stage the reset finds the pair, a domain or an update (R450, R475, R515). -/
def State.restart (s : State) (cause : Nat) (hold : Bool) : State :=
  let d0 := decide (cause ≠ 1)
  { ({} : State) with
    k := if d0 then s.k else 0
    obj := s.obj.filter fun p => keptKey d0 p.1 || (hold && heldKey p.1)
    snap := if hold then s.snap.filter (fun p => heldKey p.1) else []
    time := { ({} : TimeSt) with d0Valid := d0 && s.time.d0Valid, d0Err := if d0 then s.time.d0Err else none }
    dict := { ({} : DictSt) with cred1 := s.dict.cred1, cred2 := s.dict.cred2 }
    store := { ({} : StoreSt) with areaA := s.store.areaA, areaB := s.store.areaB }
    led := { ({} : LedSt) with
      ys := { s.led.ys with
        open_ := [], fails := [], mark := (s.ckpt.map (·.mark)).getD 0
        exported := if cause ≤ 2 then [] else s.led.ys.exported }
      ckA := s.led.ckA, ckB := s.led.ckB }
    gnss := s.dramGnss cause, img := s.dramImg cause, net := s.dramNet cause
    sw := if hold then s.sw else {}
    valve := if hold then s.valve else s.valve.opened
    pair := if hold then s.heldPair else {}
    pwr := if d0 then { ({} : PwrSt) with app := s.pwr.app } else {}
    recd := { ({} : RecSt) with
      region := s.recd.region, opSeconds := if d0 then s.recd.opSeconds else 0
      powerCycles := if d0 then s.recd.powerCycles else 0 }
    upd := { s.upd with verify := none, parked := 0, secondAt := none }
    start := { ({} : StartSt) with d0Kept := d0, cause := cause }
    free := s.free
    pending := s.pending }

/-- The module enters a reset: the outputs hold when it is the active of a pair and the cause is none of power (R429,
R520); cause, detail and tick are latched (R518, R521). -/
def State.enterReset (s : State) (d : ResetDue) : State :=
  let again := s.phase != .running
  let cause := if again && s.start.cause == 1 then 1 else d.cause
  let detail := if cause = 1 then 0 else d.detail
  let power := cause == 1 || cause == 2
  let begins := !power && s.phase == .running && s.pair.state == 4 && s.pair.inForce && s.pair.hold.isNone
  let s := if begins then s.holdBegin else s
  let hold := !power && s.pair.hold.isSome
  let n := s.get Obj.RST_COUNT
  (s.restart cause hold).setAll [(Obj.RST_CAUSE, cause), (Obj.RST_DETAIL, detail),
    (Obj.RST_ENTRY_TICK, if cause = 1 then 0 else s.k), (Obj.RST_COUNT, if cause = 1 then 0 else satAdd 32 n 1)]

/-- RESET_ENTRY (R520). -/
def execResetEntry (s : State) : Host.Outcome State Fault Refusal :=
  match s.start.due with
  | some d => if d.at_ ≤ s.k then .next (s.enterReset d) else .next s
  | none => .next s

/-! The start sequence (R524, R525) -/

/-- A stored value of a settings area, or the default. -/
def SetArea.val (a : SetArea) (key : Nat) : Nat := Sparse.find objDefault a.vals key

/-- The update state record and the slot selector are read, and what an update calls for at a start is done (R496,
R505, R511, R513, Table 7 of the update chapter); false when a fallback is decided. -/
def State.updateStart (s : State) : State × Bool :=
  let s := s.readRegion
  let r := s.upd.rec_
  let powerOn := s.start.cause == 1 || s.start.cause == 2
  let bad := !powerOn && s.start.cause != 6 && s.start.cause != 7
  if r.state = 1 then (s.checkManifest.allHeld, true)
  else if r.state = 5 ∧ s.upd.sel = r.newSlot then
    ((s.putUpd { r with state := 6, actTick := 0, proofSeconds := 0, proofStarts := 0, badStarts := 0 }).event 0 0x8006
      (u32 r.oldRelease ++ u32 r.newRelease), true)
  else if r.state = 5 then
    ((s.putUpd { r with state := 3, result := 0xB, actTick := 0 }).event 0 0x8005 (u8 0xB ++ u64 r.actTick), true)
  else if r.state = 6 ∨ r.state = 7 then
    let starts := if powerOn ∧ r.state = 7 then satAdd 8 r.proofStarts 1 else r.proofStarts
    let bads := if bad then satAdd 8 r.badStarts 1 else r.badStarts
    let s := if starts = r.proofStarts ∧ bads = r.badStarts then s else s.putUpd { r with proofStarts := starts, badStarts := bads }
    let limit := if s.upd.noOld then objDefault Obj.UPD_BAD_LIMIT else (s.areaOf (!r.newArea)).val Obj.UPD_BAD_LIMIT
    if bad && decide (limit ≤ bads) then ((s.fallback 1).resetAt 6 2, false) else (s, true)
  else if r.state = 8 then
    let s := (s.zeroHeader r.newArea).putSel (!r.newSlot)
    ({ s with upd := { s.upd with falling := true, fellBack := true } }, true)
  else (s, true)

/-- The image check (R525); none when neither slot passes. -/
def State.imageCheck (s : State) (aOk bOk : Bool) : Option State :=
  let aOk := aOk && s.upd.slotA.present
  let bOk := bOk && s.upd.slotB.present
  let own := if s.upd.sel then bOk else aOk
  let other := if s.upd.sel then aOk else bOk
  if own then some s
  else if other then
    let s := s.putSel (!s.upd.sel)
    let r := s.upd.rec_
    let s := if 5 ≤ r.state ∧ r.state ≤ 7 then s.putUpd { r with state := 0, result := 2 } else s
    some (s.event 0 0x0011 (u8 (boolNat s.upd.sel) ++ u8 (boolNat !aOk) ++ u8 (boolNat !bOk)))
  else none

/-- An area is valid (R87); the running firmware reads the format version it writes (log entry 40). -/
def State.areaValid (s : State) (a : SetArea) : Bool := a.whole && a.contentOk && a.fmt == s.selSlot.fmt

/-- An area is put in force, or none. -/
def State.putInForce (s : State) (b : Option Bool) : State :=
  let s : State := { s with store := { s.store with inForce := b } }
  match b with
  | some b => s.setAll [(Obj.STORE_SEQ, (s.areaOf b).seq), (Obj.STORE_AREA, boolNat b)]
  | none => s.setAll [(Obj.STORE_SEQ, 0), (Obj.STORE_AREA, 0xFF)]

/-- An invalid area whose header is whole, and newer than the area in force, is named (R87). -/
def State.noteArea (s : State) (b : Bool) : State :=
  let a := s.areaOf b
  let newer : Bool := match s.store.inForce with
    | some f => newer32 a.seq (s.areaOf f).seq
    | none => true
  if a.whole ∧ !s.areaValid a ∧ newer then s.event 0 0x1021 (u8 (boolNat b) ++ u8 1) else s

/-- The settings area in force is chosen (R87). -/
def State.chooseArea (s : State) : State :=
  let f := copyInForce s.areaValid SetArea.seq s.store.areaA s.store.areaB
  let s := ((s.putInForce f).noteArea false).noteArea true
  if f = none then s.event 0 0x1021 (u8 0xFF ++ u8 2) else s

/-- A converted value that the new image accepts (R508). -/
def convertOk (key v : Nat) : Bool :=
  match rowOf key with
  | some r => r.acc == Access.rws && r.ty.valueOk (leBytes r.ty.size v) && r.chk.ok r.ty (leBytes r.ty.size v)
  | none => false

/-- Migration (R508): the old area's content, converted, becomes the new area; none when it fails (R509). -/
def State.migrate (s : State) (ok : Bool) : Option State :=
  let r := s.upd.rec_
  let old := s.areaOf (!r.newArea)
  let s := s.zeroHeader r.newArea
  if (!s.upd.noOld ∧ !(old.whole && old.contentOk)) ∨ !ok then none
  else
    let new := s.selSlot.fmt
    let conv := fun (p : Nat × Nat) => (p.1, if old.fmt = new then p.2 else (Config.convert old.fmt new p.1 p.2).toNat)
    let all : List (Nat × Nat) := if s.upd.noOld then [] else old.vals.map conv
    let refused := all.filter fun (p : Nat × Nat) => !convertOk p.1 p.2
    let vals := all.filter fun (p : Nat × Nat) => convertOk p.1 p.2 && p.2 != objDefault p.1
    let seq := if s.upd.noOld then 1 else nextSeq32 old.seq
    let a := SetArea.written new seq s.selSlot.release vals (if s.upd.noOld then [] else old.strs)
    let s := refused.foldl (fun (s : State) (p : Nat × Nat) => s.event 0 0x8007 (u16 (p.1 / 256) ++ u8 p.1)) s
    let s := ((s.setArea r.newArea a).putInForce (some r.newArea)).event 0 0x8008 (u8 (boolNat r.newArea) ++ u32 seq)
    let s := if s.upd.rec_.state = 6 then s.putUpd { s.upd.rec_ with state := 7 } else s
    some { s with start := { s.start with migrated := true } }

/-- Step 3 of the start: the area in force, migrated or chosen; none when a migration failed, which decides a fallback. -/
def State.settingsStart (s : State) (ok : Bool) : State × Bool :=
  if s.upd.rec_.state = 6 ∨ s.upd.rec_.state = 7 then
    match s.migrate ok with
    | some t => (t, true)
    | none => ((s.fallback 2).resetAt 6 2, false)
  else (s.chooseArea, true)

/-- The area in force as it stands. -/
def State.inForce (s : State) : SetArea :=
  match s.store.inForce with
  | some b => s.areaOf b
  | none => {}

/-- A joining module reads its partner's release: one that differs in major or minor keeps it out (R507). -/
def State.partnerCheck (s : State) (rel : Option Nat) : State :=
  match rel with
  | some v =>
    if s.inForce.val Obj.PAIR_ENABLE ≠ 0 ∧ s.get Obj.PAIR_ID ≤ 1 ∧ v / 65536 ≠ s.selSlot.release / 65536 then
      { s.event 0 0x800C (u32 v) with pair := { s.pair with next := some 7 } }
    else s
  | none => s

/-- Step 4 of the start: the scan of the recorder's region, then the start event (R483, Table 6 of the recorder
chapter); the hold-up store is measured (R474). -/
def State.recorderStart (s : State) (holdupOk : Bool) : State :=
  let s := s.scan (s.start.cause == 1)
  let s := s.event 0 0x0010 (u8 s.start.cause ++ u8 (boolNat s.upd.sel) ++ u32 s.selSlot.release ++ u8 (s.get Obj.PAIR_ID))
  let s := s.set Obj.SUPPLY_HOLDUP_OK (boolNat holdupOk)
  if holdupOk then s else s.event 0xF 0x2004 []

/-- The reset may be released (R521). -/
def State.releaseDue (s : State) : Bool :=
  s.phase == .reset && s.start.due.isNone &&
    (if s.start.cause = 1 ∨ s.start.cause = 2 then decide (40 ≤ s.start.supplyOk) else decide (4 ≤ s.start.ticks))

/-- PAIR_ID by the resistance between PAIR-ID and module signal ground, Ω, none where it is open (R421, Table 1). -/
def pairIdOf : Option Nat → Nat
  | none => 0xFE
  | some r => if 50000 < r then 0xFE else if r < 100 then 0 else if 9500 ≤ r ∧ r ≤ 10500 then 1 else 0xFF

/-- The module begins to start: the watchdog served, the time since the release at 0, PAIR_ID as the strap gives it (R421,
R524 step 1). -/
def State.releaseBegin (s : State) (inp : StartIn) : State :=
  State.set { s with phase := .starting, start := { s.start with since := 0, watchdog := 0 } } Obj.PAIR_ID (pairIdOf inp.strap)

/-- RESET_RELEASE (R521, R524): steps 1 to 4. -/
def execResetRelease (inp : StartIn) (s : State) : Host.Outcome State Fault Refusal :=
  if s.releaseDue then
    let (s, go) := (s.releaseBegin inp).updateStart
    if go then
      match s.imageCheck inp.slotAOk inp.slotBOk with
      | none => .next { s with phase := .noImage }
      | some s =>
        let s : State := { s with upd := { s.upd with run := s.upd.sel } }
        let (s, go) := s.settingsStart inp.migrateOk
        let s := (s.recorderStart inp.holdupOk).enqueueAll
        .next (if go then s.partnerCheck inp.partnerRelease else s)
    else .next (s.recorderStart inp.holdupOk).enqueueAll
  else .next s

/-! The first tick (R524, R526, R527) -/

/-- The running dictionary at the first tick: what the start has set, and the area in force (R78, R87). -/
def State.loadSettings (s : State) : State :=
  let ro := fun key : Nat => match rowOf key with
    | some r => r.acc == Access.ro
    | none => false
  let mine := s.obj.filter fun p => ro p.1
  let vals := (s.inForce.vals.filter fun p => isRws p.1).foldl (fun m p => Sparse.put objDefault m p.1 p.2) mine
  let strs := (s.inForce.strs.filter fun p => isRws p.1).foldl (fun m p => Sparse.put blobDefault m p.1 p.2) []
  { s with obj := vals, blob := strs }.linkMembers

/-- A unit enabled in the settings starts when its checks pass; otherwise it is disabled and names the failure. -/
def State.startUnit (s : State) (u : Nat) : State :=
  if s.get (enableKey u) = 0 ∨ (s.parent u).isSome then s
  else match s.unitCheck u with
    | none => s.enableUnit u
    | some (v, c) => (s.set (enableKey u) 0).set (unitKey u 0x1C) (v * 65536 + c)

/-- The ledger and the units that the settings enable. -/
def State.startEnables (s : State) : State :=
  let s := s.set Obj.CRB_RATIO_NOW (s.get Obj.CRB_GRAIN_RATIO)
  let s := if s.get Obj.CRB_ENABLE = 0 then s
    else if graphErr s.get = 0 then (s.set Obj.CRB_ENABLE 0).enableLedger
    else (s.set Obj.CRB_ENABLE 0).set Obj.CRB_GRAPH_ERR (graphErr s.get)
  let s := (List.range 48).foldl State.startUnit s
  (List.range 256).foldl (fun s a => s.startUnit (0x100 + a)) s

/-- Why the CAN path is left out at the start, in the order of R428 (log entry 39). -/
def State.canPathCause (s : State) : Option Nat :=
  let c := s.get Obj.PAIR_CAN
  if !s.flag (Obj.CAN_ENABLE c) then some 1
  else if s.get (Obj.CAN_TB_OWNER c) = 0 then some 2
  else if s.get Obj.PAIR_LEASE < 8 then some 3
  else none

/-- The pair at the start (R422, R425, R507); a hold under way keeps its limit. -/
def State.pairStart (s : State) : State :=
  let id := s.get Obj.PAIR_ID
  let on := s.flag Obj.PAIR_ENABLE
  let force := on && decide (id ≤ 1)
  let p : PairSt := { s.pair with
    inForce := force, lease := s.get Obj.PAIR_LEASE, can := s.get Obj.PAIR_CAN, canId := s.get Obj.PAIR_CAN_ID
    state := if !on then 0 else if !force ∨ s.pair.next = some 7 then 7 else 1
    next := none, quiet := s.k }
  let s := { s with pair := p }.write Obj.PAIR_STATE p.state true
  if on ∧ !force then s.event 0 0x7001 (u8 id) else s

/-- The CAN path at the start, once the controllers have started: in use, or left out (R428). -/
def State.canPathStart (s : State) : State :=
  if s.pair.inForce ∧ s.pair.can < 8 then
    match s.canPathCause with
    | some cause => (s.pairBit 4 true).event 0 0x7002 (u8 cause)
    | none => { s with pair := { s.pair with canUsed := true } }
  else s

/-- The settings that the rows of T4000/0 ticks take into force, as they stand at the first tick. -/
def State.settingsInForce (s : State) : State :=
  let s : State := { s with
    dict := { s.dict with can := s.get Obj.MDP_CAN_CTRL, base := s.get Obj.MDP_CAN_BASE, node := s.get Obj.MDP_NODE
                          udpPorts := s.get Obj.MDP_UDP_PORTS, udpPort := s.get Obj.MDP_UDP_PORT
                          segTimeout := s.get Obj.MDP_SEG_TIMEOUT }
    gnss := { s.gnss with
      maskA := s.get Obj.SIG_ENABLE_A, maskB := s.get Obj.SIG_ENABLE_B, rate := s.get Obj.POS_RATE
      tm := [Obj.TP_ENABLE, Obj.TP_PERIOD, Obj.TP_WIDTH, Obj.TP_STATES, Obj.TM_CAN, Obj.TM_CAN_ID, Obj.TM_UDP_PORTS,
        Obj.TM_UDP_DEST].map s.get } }
  s.takeIntCfg.noteEpochTime.markRing.gptpApply

/-- The old image's first tick after a fallback (R513). -/
def State.fallbackDone (s : State) : State :=
  if s.upd.rec_.state = 8 ∧ s.upd.run ≠ s.upd.rec_.newSlot then
    (s.putUpd { s.upd.rec_ with state := 0, result := 2 }).event 0 0x800B (u32 s.selSlot.release)
  else s

/-- A start in Scheduled whose tick has passed (R505). -/
def State.tickMissed (s : State) : State :=
  let r := s.upd.rec_
  if r.state = 4 ∧ r.actTick ≤ s.k then
    (s.putUpd { r with state := 3, result := 0xA, actTick := 0 }).event 0 0x8005 (u8 0xA ++ u64 r.actTick)
  else s

/-- Operating seconds advance at each T4000/0 tick, the first tick among them (R479). -/
def State.opSecond (s : State) : State :=
  if s.k % 4000 = 0 then { s with recd := { s.recd with opSeconds := (s.recd.opSeconds + 1) % 2 ^ 32 } } else s

/-- The operating second of a T4000/0 tick; a fallback ends for the recorder at the first of the old image (R479, R513). -/
def State.secondTick (s : State) : State :=
  if s.k % 4000 = 0 then
    { s.opSecond with upd := { s.upd with falling := s.upd.falling && !s.upd.fellBack, fellBack := false } }
  else s

/-- Module time of the first tick, and what counts from it (R54, R524 step 7, R433). -/
def State.firstClock (s : State) : State :=
  let k := if s.time.d0Valid then s.k else 0
  let recovery := s.start.cause ∈ [3, 4, 5, 8]
  { s.moveOutputs ((k : Int) - s.k) with
    phase := .running, k := k
    time := { s.time with window := some k, lastSol := k }
    start := { s.start with up := 0, watchdog := 0 }
    pair := { s.pair with hold := s.pair.hold.map fun t => k - (s.k - t) }
    recd := { s.recd with recoverySince := if recovery then some k else none } }

/-- The targets at the first tick (R216), and the supervisor's state. -/
def State.firstTargets (s : State) : State :=
  let s := (List.range 5).foldl (fun s t => s.capture (Obj.TGT_NOW t) (s.get (Obj.TGT_BASE t)) true) s
  let st := boolNat (s.flag Obj.PATH_ENABLE)
  let s := { s.set Obj.PATH_STATE st with path := { state := st } }
  if s.flag Obj.SUP_ENABLE then
    { s.set Obj.SUP_STATE 2 with sup := { window := some {
        open_ := s.k, want := s.get Obj.SUP_WINDOW / s.get Obj.CRB_PERIOD }, since := s.k } }
  else s.set Obj.SUP_STATE 0

/-- The first tick of the start, up to its capture phase (R524 step 7, R526). -/
def State.firstTick (s : State) (ms : Nat) : State :=
  let s : State := s.loadSettings.firstClock
  let s : State := { s with snap := s.obj, snapBlob := s.blob }
  let s : State := s.setAll ([(Obj.RST_START_MS, ms), (Obj.TIME_D0_VALID, boolNat s.time.d0Valid),
    (Obj.TIME_STATE, if s.time.d0Valid then 1 else 0)] ++ s.led.ys.shown)
  let s : State := s.set Obj.TIME_ERR_EST s.errEst
  let s : State := (((s.showUpd.settingsInForce).pairStart).powerStart).firstTargets.templateStart
  let s : State := if s.pair.hold.isSome then s.swStartHeld.valveStartHeld else s.swStart.valveStart
  let s : State := s.startEnables.imgStart.netStart.canPathStart.senseStart
  let s : State := s.fallbackDone.tickMissed.secondTick.timeMark
  { s with snap := s.obj, snapBlob := s.blob, app0 := s.app }

end Sys2Proof.Machine
end

