-- ==== Sys2Proof/Machine/Tick.lean ====
section
/-! DEFINITION. TICK_BOUNDARY (R42–R46, R53, R58, R59): what ends with a tick, the step of module time, and what begins
with the next tick. -/

namespace Sys2Proof.Machine

/-! The step of module time (R58, R59) -/

/-- An object that names a past tick, in ticks or ns; one that reads 0 names none. -/
def State.moveObj (s : State) (d : Int) (key : Nat) : State :=
  if s.get key = 0 then s else s.set key (moved d (s.get key))

/-- The tick-valued objects of R59. -/
def movedKeys : List Nat :=
  [Obj.TICK_LAST_OVERRUN, Obj.STORE_LAST_TICK, Obj.RST_ENTRY_TICK, Obj.POS_EPOCH, Obj.PAIR_PROMISE] ++
    (List.range 256).map Obj.TP_BUILD_TICK ++ (List.range 24).map Obj.FC_STAMP ++
    ((List.range 8).map fun c => [Obj.CAN_TB_STAMP c 0, Obj.CAN_TB_STAMP c 1, Obj.CAN_TB_STAMP c 2]).flatten

/-- DOM_WAKE_TICK of a domain that has woken, tick 0 included. -/
def State.moveWake (s : State) (d : Int) (dom : Nat) : State :=
  if s.get (Obj.DOM_WAKE_SRC dom) = 0xFF then s
  else s.set (Obj.DOM_WAKE_TICK dom) (moved d (s.get (Obj.DOM_WAKE_TICK dom)))

/-- The objects that hold module time in ns. -/
def movedNsKeys : List Nat :=
  ((List.range 8).map fun c => [Obj.CAN_TB_SOF c 0, Obj.CAN_TB_SOF c 1, Obj.CAN_TB_SOF c 2]).flatten

/-- Stamps of the tick image and of the application's areas. -/
def State.moveImage (s : State) (d : Int) : State :=
  let area := fun a : AppArea => { a with stamp := moved d a.stamp }
  let none_ : Nat → AppArea := fun _ => {}
  { s with
    ent := Sparse.mapVals (fun _ => {}) (fun e : Entry => { e with stamp := moved d e.stamp }) s.ent
    app := Sparse.mapVals none_ area s.app
    app0 := Sparse.mapVals none_ area s.app0
    tick := { s.tick with
      window := s.tick.window.map fun w => (moved d w.1, w.2)
      restartAt := Sparse.mapVals (fun _ => 0) (moved d) s.tick.restartAt
      stalled := s.tick.stalled.map fun w => { w with val := area w.val, at_ := moved d w.at_ } } }

/-- Module time, the dictionary server, stores and modes. -/
def State.moveService (s : State) (d : Int) : State :=
  let o := fun x : Option Nat => x.map (moved d)
  let ses := fun l : List Session => l.map fun (x : Session) => { x with last := moved d x.last }
  let run := fun r : StoreRun => { r with began := moved d r.began }
  { s with
    time := { s.time with
      d0Err := s.time.d0Err.map fun p => (p.1, moved d p.2)
      lockSince := o s.time.lockSince, lastSol := moved d s.time.lastSol, holdSince := moved d s.time.holdSince
      holdValid := o s.time.holdValid, window := o s.time.window }
    gptp := { s.gptp with
      lastSync := Sparse.mapVals (fun _ => 0) (moved d) s.gptp.lastSync
      lastAnnounce := Sparse.mapVals (fun _ => 0) (moved d) s.gptp.lastAnnounce }
    dict := { s.dict with
      sessions := ses s.dict.sessions, local_ := ses s.dict.local_
      reasm := s.dict.reasm.map fun x => { x with last := moved d x.last }
      fails := s.dict.fails.map (moved d), lockout := o s.dict.lockout }
    store := { s.store with run := s.store.run.map run, deferred := s.store.deferred.map run }
    mode := Sparse.mapVals (fun _ => {}) (fun m : ModeRun => { m with since := o m.since, last := o m.last }) s.mode
    recd := { s.recd with
      floods := s.recd.floods.map fun x => { x with began := moved d x.began }
      lost := s.recd.lost.map fun p => (p.1, moved d p.2)
      recoverySince := o s.recd.recoverySince, markAt := o s.recd.markAt }
    upd := { s.upd with secondAt := o s.upd.secondAt } }

/-- The ledger, the loops, the supervisor. -/
def State.moveFunctions (s : State) (d : Int) : State :=
  let o := fun x : Option Nat => x.map (moved d)
  let term := fun t : FfTerm => { t with since := o t.since }
  { s with
    led := { s.led with
      recs := s.led.recs.map fun p => (p.1, if p.2.stage = 0xFF then p.2 else { p.2 with origin := moved d p.2.origin })
      origins := s.led.origins.map fun p => (p.1, p.2.map fun (x : Origin) => { x with origin := moved d x.origin })
      slots := s.led.slots.map fun p => (p.1, p.2.map fun (x : Slot) => { x with start := x.start + d })
      enabledAt := o s.led.enabledAt, ratioAt := o s.led.ratioAt, front := o s.led.front, reducedUntil := o s.led.reducedUntil
      fix := s.led.fix.map fun (f : Fix) => { f with epoch := moved d f.epoch } }
    loop := { s.loop with
      fl := Sparse.mapVals (fun _ => {}) (fun x : FlSt => { x with pvSince := o x.pvSince, ff1 := term x.ff1, ff2 := term x.ff2 }) s.loop.fl
      asm := Sparse.mapVals (fun _ => {}) (fun x : AsSt => { x with at_ := if x.fault.isSome then moved d x.at_ else x.at_ }) s.loop.asm }
    sup := { s.sup with
      since := moved d s.sup.since
      baseWritten := s.sup.baseWritten.map fun p => (p.1, moved d p.2)
      window := s.sup.window.map fun (w : Window) => { w with open_ := moved d w.open_, last := o w.last } } }

/-- Navigation, imaging, buses. -/
def State.moveUnits (s : State) (d : Int) : State :=
  let o := fun x : Option Nat => x.map (moved d)
  let ns := d * 250000
  let stream := fun x : StreamSt => { x with
    lastStart := x.lastStart.map (moved ns)
    frame := x.frame.map fun (f : OpenFrame) => { f with tick := moved d f.tick, start := moved ns f.start }
    lineAt := if x.frame.isSome then moved d x.lineAt else x.lineAt
    holdTaken := o x.holdTaken, expTaken := o x.expTaken
    served := x.served.map fun p => (p.1, moved d p.2)
    waiting := x.waiting.map fun p => (p.1, moved ns p.2)
    hist := x.hist.map fun p => (moved d p.1, p.2) }
  let buf := fun b : TxBuf => { b with
    stamp := moved d b.stamp, cancel := o b.cancel, seen := o b.seen, resStamp := moved d b.resStamp, sof := moved ns b.sof }
  let can := fun x : CanSt => { x with
    wait := x.wait.map fun w => (w.1, moved ns w.2.1, w.2.2), bufs := x.bufs.map fun b => if b = {} then b else buf b }
  { s with
    gnss := { s.gnss with
      ants := Sparse.mapVals (fun _ => {}) (fun x : AntSt => { x with offAt := o x.offAt }) s.gnss.ants
      lockFrom := Sparse.mapVals (fun _ => 0) (moved d) s.gnss.lockFrom
      resume := Sparse.mapVals (fun _ => 0) (moved d) s.gnss.resume
      epoch := o s.gnss.epoch, hdg := s.gnss.hdg.map fun p => (p.1, moved d p.2)
      corrTaken := s.gnss.corrTaken.map o, corrAt := o s.gnss.corrAt
      timeSol := s.gnss.timeSol.map fun p => (p.1, moved d p.2), prevErr := s.gnss.prevErr.map fun p => (p.1 + ns, moved d p.2)
      ccd := s.gnss.ccd.map fun p => (p.1, moved d p.2.1, p.2.2)
      excl := s.gnss.excl.map fun x => { x with last := moved d x.last }
      alarms := s.gnss.alarms.map fun p => (p.1, moved d p.2), caution := o s.gnss.caution
      pulseAt := o s.gnss.pulseAt, messageAt := o s.gnss.messageAt }
    img := { s.img with
      streams := Sparse.mapVals (fun _ => {}) stream s.img.streams
      tried := Sparse.mapVals (fun _ => 0) (moved d) s.img.tried }
    net := { s.net with
      can := Sparse.mapVals (fun _ => {}) can s.net.can
      iso := { s.net.iso with
        claimAt := moved d s.net.iso.claimAt
        seen := Sparse.mapVals (fun _ => 0) (moved d) s.net.iso.seen
        tx := s.net.iso.tx.map fun p => (p.1, p.2.map fun (x : TpTx) => { x with bamAt := o x.bamAt, due := moved d x.due })
        rx := s.net.iso.rx.map fun (x : TpRx) => { x with due := moved d x.due } }
      hbAt := o s.net.hbAt } }

/-- Sensing, the pair, power. -/
def State.moveDrives (s : State) (d : Int) : State :=
  let o := fun x : Option Nat => x.map (moved d)
  let us := d * 250
  let ons := fun x : Option Nat => x.map (moved (d * 250000))
  let path := fun p : PathSt => { p with promise := o p.promise, word := o p.word, okSince := o p.okSince }
  let p := s.pair
  { s with
    sense :=
      { ls := Sparse.mapVals (fun _ => {}) (fun x : LsSt => { x with
          impact := x.impact.map fun (i : Impact) => { i with start := moved us i.start }
          last := x.last.map (moved us), restart := o x.restart }) s.sense.ls
        ui := Sparse.mapVals (fun _ => {}) (fun x : UiSt => { x with
          restart := o x.restart, cmp := if x.cmp.since = 0 then x.cmp else { x.cmp with since := moved (d * 250000) x.cmp.since }
          turn := x.turn.map fun p => (moved (d * 250000) p.1, p.2)
          settle := o x.settle, shunt := o x.shunt, seeded := o x.seeded, edges := x.edges.map (moved (d * 250000)), e1 := ons x.e1, e2 := ons x.e2 }) s.sense.ui
        ss := Sparse.mapVals (fun _ => {}) (fun x : SsSt => { x with since := moved d x.since, settle := o x.settle }) s.sense.ss }
    pair := { p with
      line := path p.line, p := path p.p, canPath := path p.canPath, seen := o p.seen, activeAt := o p.activeAt
      promise := moved d p.promise, promised := moved d p.promised, hold := o p.hold, releaseAt := o p.releaseAt, swapAt := o p.swapAt, lastLate := o p.lastLate
      lastMirror := o p.lastMirror, rxTest := p.rxTest.map fun x => (x.1, moved d x.2), timeOff := o p.timeOff
      quiet := moved d p.quiet, lastApplied := moved d p.lastApplied }
    pwr := { s.pwr with
      access := s.pwr.access.map fun a => { a with last := moved d a.last }
      settled := Sparse.mapVals (fun _ => 0) (moved d) s.pwr.settled
      wakeLow := o s.pwr.wakeLow, dip := s.pwr.dip.map fun x => (moved d x.1, x.2) } }

/-- Δ is added to every tick index that the module holds as a stamp, as the start of an interval or as a past tick
(R59). UPD_ACT_TICK stays. -/
def State.shift (s : State) (d : Int) : State :=
  let s := (((((s.moveImage d).moveService d).moveFunctions d).moveUnits d).moveDrives d).moveOutputs d
  let s := movedKeys.foldl (fun s key => s.moveObj d key) s
  let s := (List.range 15).foldl (fun s dom => s.moveWake d dom) s
  movedNsKeys.foldl (fun s key => s.moveObj (d * 250000) key) s

/-- The index of the next tick: one more, the one of a step, or the active's (R53, R58, R440). -/
def State.nextIndex (s : State) : State :=
  match s.time.step with
  | some n =>
    let d : Int := (n : Int) - (s.k + 1 : Nat)
    let old := s.k
    let s := { s.shift d with k := n }
    let s := s.event 6 0x1003 (u64 n ++ u32 (encInt 32 d))
    let s := (s.set Obj.TIME_STEP_OLD old).set Obj.TIME_STEP_NEW n
    let s : State := { s with time := { s.time with step := none, err := 0, d0Err := (0, n) } }
    s.closeWindow.setTimeState 2
  | none => { s with k := s.pair.follow.getD (s.k + 1), pair := { s.pair with follow := none } }

/-! The end of a tick -/

/-- What the tick that ends still does: the ledger's and the supervisor's samples, or on a standby their replay; the states
of units and assemblies; the demands of the output stages; the votes; the mirror; the recorder (R46, R121, R183, R191,
R252, R300, R437, R458, R478). -/
def State.endTick (s : State) : State :=
  let s := if s.acting then s.sampleLedger.sampleTail else s.replayAll
  let s := s.evalAssemblies.publishSlots
  let s := (s.swEnd.vdEnd (250 * (s.k + 1))).countParked
  let s := (s.serveFormless 4).sendMirror.segmentAnswers.countSent
  s.endPhases.enqueueAll.writeRecords

/-! The start of a tick -/

/-- A module that ceases to be the active: it steers no longer, and what waits from CAN and from E0 to E2 is dropped (R61, R63,
R114; DESIGN CHOICE, log entry 71). -/
def State.yieldRole (s : State) : State :=
  { s.unsteer with dict := { s.dict with queue := s.dict.queue.filter fun m => decide (4 ≤ m.transport.val), reasm := [] } }

/-- A role entered at a boundary (R441, R446). -/
def State.enterRole (s : State) : State :=
  let stay : State := { s with pair := { s.pair with next := none } }
  match s.pair.next with
  | some 4 => { stay with pair := { stay.pair with operTicks := 0 } }.becomeActive
  | some 2 => (stay.yieldRole.swOff.valveOff).fill
  | some 7 => { stay.yieldRole.swOff.valveOff with pair := { stay.pair with state := 7 } }
  | some n => { stay.yieldRole with pair := { stay.pair with state := n, replay := [], lastMirror := none } }
  | none => s

/-- Enables held while the step window was open take effect at the first tick after it (R57). -/
def State.releaseHeld (s : State) : State :=
  if s.time.window.isSome ∨ s.time.held = [] then s
  else
    let led := s.time.held.contains Obj.CRB_ENABLE
    let s : State := { s with time := { s.time with held := [] } }
    if led then s.set Obj.CRB_STATE 1 else s

/-- The copies of the tick image switch, and what was configured in the tick that ended takes effect (R24, R75). -/
def State.beginTick (s : State) : State :=
  { s with
    app0 := s.app, snap := s.obj, snapBlob := s.blob, sent := []
    dict := { s.dict with served := 0 }
    tick := { s.tick with ran := [], made := [], late := false, wrote := [], undo := [] }
    led := { s.led with missed := false }
    start := { s.start with up := s.start.up + 1 } }

/-- The D0 watchdog (R518). -/
def State.watch (s : State) (served : Bool) : State :=
  { s with start := { s.start with watchdog := if served then 0 else s.start.watchdog + 1 } }

/-- The boundary itself: copies, index, staged transmissions, outputs, role; then every unit's share of the new tick. -/
def State.boundary (s : State) (inp : TickIn) : State :=
  let s := (s.powerBoundary inp).fold.nextIndex
  let s := (s.swBoundary s.k).enterRole.releaseHeld.imgLeave
  let was := s.snap
  let s := s.beginTick.imgJoin was
  let s := s.flushStaged.applyTm.epochBoundary.applyHb
  let s := ((List.range 8).foldl State.canBoundary s).isoBoundary
  (((s.timeTick.pairTick inp.served).announce).secondTick).watch inp.served

/-- The partner application's entry is captured into its input section (R439). -/
def State.partnerEntry (s : State) : State :=
  match s.pair.appIn with
  | some w =>
    { s with
      app := Sparse.put (fun _ => ({} : AppArea)) s.app Obj.PAIR_APP_IN_OFFSET ⟨w.stamp, w.valid, w.body⟩
      pair := { s.pair with appIn := none } }
  | none => s

/-- The capture phase of the tick that begins (R45). -/
def State.captures (s : State) (inp : TickIn) : State :=
  let s := { s with tick := { s.tick with prior := (s.obj, s.blob, s.ent) } }
  let s := (((s.supplyCapture inp).thermCapture inp.base).senseCapture inp)
  let s := ((s.swCapture inp).valveCapture inp).antennas inp.ant
  s.gnssCapture.imgCapture.netCapture.partnerEntry

/-! Late captures (R50, R219) -/

/-- An entry of the input section that the capture hardware has written in this tick. -/
def State.capturedNow (s : State) (e : Nat) : Bool :=
  entKey e == some e && (s.entry e).stamp == s.k && !decide (0x5000 ≤ e / 256 ∧ e / 256 < 0x6000)

/-- An entry with the values and the stamp that it had before the capture phase. -/
def State.uncapture (s : State) (e : Nat) : State :=
  let p := s.tick.prior
  let mine := fun k : Nat => entKey k == some e
  let s := (((s.obj ++ p.1).map (·.1)).filter mine).foldl (fun s k => s.set k (Sparse.find objDefault p.1 k)) s
  let s := (((s.blob ++ p.2.1).map (·.1)).filter mine).foldl (fun s k => s.setBlob k (Sparse.find blobDefault p.2.1 k)) s
  { s with ent := Sparse.put (fun _ => ({} : Entry)) s.ent e (Sparse.find (fun _ => ({} : Entry)) p.2.2 e) }

/-- The capture of an entry was late: values and stamp as before, the validity flag clear, and what its chapter adds
(R50, R219). -/
def State.lateEntry (s : State) (e : Nat) : State :=
  let t := s.uncapture e
  let was := fun key => t.set key (Sparse.find objDefault s.tick.prior.1 key)
  let ix := e / 256
  if 0x3000 ≤ ix ∧ ix < 0x3080 then (t.chUnseen (ix - 0x3000)).lateTick.clearInput e
  else if 0x4010 ≤ ix ∧ ix < 0x4020 then t.lsLate (ix - 0x4010)
  else if 0x4040 ≤ ix ∧ ix < 0x4070 then (was (Obj.UI_BAD_TICKS (ix - 0x4040))).uiLate (ix - 0x4040)
  else if 0x40C0 ≤ ix ∧ ix < 0x40E0 then (was (Obj.XV_STALE (ix - 0x40C0))).lateTick.clearInput e
  else t.lateTick.clearInput e

/-- CAPTURE_LATE (R50): `inputs` are the objects under which the entries stand. -/
def execCaptureLate (inputs : List Nat) (s : State) : Host.Outcome State Fault Refusal :=
  if s.running then .next ((inputs.filter s.capturedNow).foldl State.lateEntry s) else .next s

/-- The application's writes of the tick land (R44). -/
def State.appWrites (s : State) (l : List AppWrite) : State :=
  l.foldl (fun s w => s.appWrite w.core w.area ⟨w.stamp, w.valid, w.body⟩) s

/-- FIRST_TICK (R45, R524): `ms` is the time since the release, `inp` what the world brings into the first tick. -/
def execFirstTick (ms : Nat) (inp : TickIn) (s : State) : Host.Outcome State Fault Refusal :=
  if s.phase = .starting ∧ s.start.due = none ∧ ms ≤ (if s.start.migrated then 2900 else 900) then
    .next ((((s.firstTick ms).captures inp).appWrites inp.app).registerOem inp.oem)
  else .next s

/-- The start of a tick in which the module does not execute: the D0 oscillator counts, and the output stages of a pair
hold go on (R433, R518, R520, R521). -/
def State.idleBegin (s : State) (inp : TickIn) : State :=
  let held := s.pair.hold.isSome
  let s := if held then s.swBoundary (s.k + 1) else s
  let s : State := { s with
    k := s.k + 1, sent := []
    start := { s.start with
      ticks := s.start.ticks + 1, since := s.start.since + 1
      supplyOk := if inp.supplyUp then s.start.supplyOk + 1 else 0 } }
  let s := s.watch (inp.served || s.phase != .starting)
  if held then (s.swCapture inp).valveCapture inp else s

/-- The boundary between two ticks in which the module does not execute. -/
def State.idleTick (s : State) (inp : TickIn) : State :=
  (if s.pair.hold.isSome then s.swEnd.vdEnd (250 * (s.k + 1)) else s).idleBegin inp

/-- A reset is entered at the start of the next tick (R505, R522): nothing that the tick has staged is applied. -/
def State.resetNextTick (s : State) : Bool :=
  match s.start.due with
  | some d => decide (d.at_ ≤ s.k + 1)
  | none => false

/-- TICK_BOUNDARY (R44–R46, R53): `inp` is what the world brings into the new tick. -/
def execTickBoundary (inp : TickIn) (s : State) : Host.Outcome State Fault Refusal :=
  if !s.running then .next (s.idleTick inp)
  else
    let s := s.endTick
    if s.resetNextTick then .next (s.idleBegin inp)
    else
      let s := (List.range 16).foldl (fun s n => s.lsFinish inp.ls n) s
      .next ((((s.boundary inp).captures inp).appWrites inp.app).registerOem inp.oem)

end Sys2Proof.Machine
end

