-- ==== Sys2Proof/Machine/Dispatch.lean ====
section
/-! DEFINITION. The dispatch: one arm per command, each one direct call of its meaning. -/

namespace Sys2Proof.Machine

/-- What a command does to everything but the queue. -/
def exec (i : Instr) (s : State) : Host.Outcome State Fault Refusal :=
  match i with
  | .tickBoundary inp => Sys2Proof.Machine.execTickBoundary inp s
  | .captureLate inputs => Sys2Proof.Machine.execCaptureLate inputs s
  | .computeDeadline done => Sys2Proof.Machine.execComputeDeadline done s
  | .unitOverrunFault unit => Sys2Proof.Machine.execUnitOverrunFault unit s
  | .engineOverrunFault eng => Sys2Proof.Machine.execEngineOverrunFault eng s
  | .supervisorDeadlineFault offset => Sys2Proof.Machine.execSupervisorDeadlineFault offset s
  | .appWriteStall w => Sys2Proof.Machine.execAppWriteStall w s
  | .stalledWriteLand => Sys2Proof.Machine.execStalledWriteLand s
  | .appWriteBlocked core offset => Sys2Proof.Machine.execAppWriteBlocked core offset s
  | .tickEngineRestart q eng => Sys2Proof.Machine.execTickEngineRestart q eng s
  | .engineRestartStart eng => Sys2Proof.Machine.execEngineRestartStart eng s
  | .timeSteeringRun => Sys2Proof.Machine.execTimeSteeringRun s
  | .lockCountComplete => Sys2Proof.Machine.execLockCountComplete s
  | .holdoverTimeout => Sys2Proof.Machine.execHoldoverTimeout s
  | .holdoverEnd => Sys2Proof.Machine.execHoldoverEnd s
  | .stepWindowClose => Sys2Proof.Machine.execStepWindowClose s
  | .gptpSync port sub => Sys2Proof.Machine.execGptpSync port sub s
  | .gptpAnnounce port => Sys2Proof.Machine.execGptpAnnounce port s
  | .gptpForeignRx port => Sys2Proof.Machine.execGptpForeignRx port s
  | .gptpConfigApply => Sys2Proof.Machine.execGptpConfigApply s
  | .mdpMessageRx m => Sys2Proof.Machine.execMdpMessageRx m s
  | .mdpSegmentRx ctrl ident fd data => Sys2Proof.Machine.execMdpSegmentRx ctrl ident fd data s
  | .mdpSegTimeout client => Sys2Proof.Machine.execMdpSegTimeout client s
  | .open_ q level len code => Sys2Proof.Machine.execOpen q level len code s
  | .close_ q extra => Sys2Proof.Machine.execClose q extra s
  | .read q index sub offset maxLen => Sys2Proof.Machine.execRead q index sub offset maxLen s
  | .write q index sub type_ len value => Sys2Proof.Machine.execWrite q index sub type_ len value s
  | .keepalive q extra => Sys2Proof.Machine.execKeepalive q extra s
  | .sessionTimeout num => Sys2Proof.Machine.execSessionTimeout num s
  | .credentialLockout => Sys2Proof.Machine.execCredentialLockout s
  | .lockoutEnd => Sys2Proof.Machine.execLockoutEnd s
  | .credentialWrite q which code => Sys2Proof.Machine.execCredentialWrite q which code s
  | .sessCloseAll q => Sys2Proof.Machine.execSessCloseAll q s
  | .mdpTransportApply => Sys2Proof.Machine.execMdpTransportApply s
  | .storeAll q => Sys2Proof.Machine.execStoreAll q s
  | .storeGroup q group => Sys2Proof.Machine.execStoreGroup q group s
  | .storeDefaults q => Sys2Proof.Machine.execStoreDefaults q s
  | .storeComplete bad => Sys2Proof.Machine.execStoreComplete bad s
  | .storeDeferredBegin => Sys2Proof.Machine.execStoreDeferredBegin s
  | .modeWrite q key value => Sys2Proof.Machine.execModeWrite q key value s
  | .assistedFallback key => Sys2Proof.Machine.execAssistedFallback key s
  | .assistedFault key => Sys2Proof.Machine.execAssistedFault key s
  | .crbEnable q => Sys2Proof.Machine.execCrbEnable q s
  | .crbDisable q fails => Sys2Proof.Machine.execCrbDisable q fails s
  | .crbClear q fails => Sys2Proof.Machine.execCrbClear q fails s
  | .ledgerRun fails => Sys2Proof.Machine.execLedgerRun fails s
  | .checkpointComplete => Sys2Proof.Machine.execCheckpointComplete s
  | .crbReducedEnd => Sys2Proof.Machine.execCrbReducedEnd s
  | .ysSeal q fails => Sys2Proof.Machine.execYsSeal q fails s
  | .ysSetMark q seq => Sys2Proof.Machine.execYsSetMark q seq s
  | .slotRun n us => Sys2Proof.Machine.execSlotRun n us s
  | .ffTermDrop n term => Sys2Proof.Machine.execFfTermDrop n term s
  | .pvTimeoutFault n => Sys2Proof.Machine.execPvTimeoutFault n s
  | .unitEnable q u => Sys2Proof.Machine.execUnitEnable q u s
  | .unitDisable q u => Sys2Proof.Machine.execUnitDisable q u s
  | .unitReset q u => Sys2Proof.Machine.execUnitReset q u s
  | .tplBuild q => Sys2Proof.Machine.execTplBuild q s
  | .templateRemove q a => Sys2Proof.Machine.execTemplateRemove q a s
  | .supervisorStep => Sys2Proof.Machine.execSupervisorStep s
  | .windowVoid => Sys2Proof.Machine.execWindowVoid s
  | .settleEnd => Sys2Proof.Machine.execSettleEnd s
  | .restEnd => Sys2Proof.Machine.execRestEnd s
  | .tgtBaseWrite q t value => Sys2Proof.Machine.execTgtBaseWrite q t value s
  | .supLockWrite q value => Sys2Proof.Machine.execSupLockWrite q value s
  | .supEnableOff q => Sys2Proof.Machine.execSupEnableOff q s
  | .supAdopt q => Sys2Proof.Machine.execSupAdopt q s
  | .impactStart n us samples last => Sys2Proof.Machine.execImpactStart n us samples last s
  | .impactEnd n us samples last => Sys2Proof.Machine.execImpactEnd n us samples last s
  | .impactMaxLen n us samples => Sys2Proof.Machine.execImpactMaxLen n us samples s
  | .lsDetectorRestart n => Sys2Proof.Machine.execLsDetectorRestart n s
  | .uiModeWrite q n mode => Sys2Proof.Machine.execUiModeWrite q n mode s
  | .uiSettleEnd n => Sys2Proof.Machine.execUiSettleEnd n s
  | .shuntDisconnect n => Sys2Proof.Machine.execShuntDisconnect n s
  | .shuntReconnect n => Sys2Proof.Machine.execShuntReconnect n s
  | .uiDebounceChange n => Sys2Proof.Machine.execUiDebounceChange n s
  | .uiCountSet q n value => Sys2Proof.Machine.execUiCountSet q n value s
  | .ssLimitTrip n => Sys2Proof.Machine.execSsLimitTrip n s
  | .ssRetry n => Sys2Proof.Machine.execSsRetry n s
  | .ssRearm q n => Sys2Proof.Machine.execSsRearm q n s
  | .currentLimitTurnoff n us => Sys2Proof.Machine.execCurrentLimitTurnoff n us s
  | .thermalLatchSet n temp => Sys2Proof.Machine.execThermalLatchSet n temp s
  | .thermalLatchClear n temp => Sys2Proof.Machine.execThermalLatchClear n temp s
  | .channelRestart n => Sys2Proof.Machine.execChannelRestart n s
  | .retryRestore n => Sys2Proof.Machine.execRetryRestore n s
  | .chRearm q n => Sys2Proof.Machine.execChRearm q n s
  | .bankRearm q b => Sys2Proof.Machine.execBankRearm q b s
  | .assistedFuseTrip b => Sys2Proof.Machine.execAssistedFuseTrip b s
  | .pwmPeriodStart n => Sys2Proof.Machine.execPwmPeriodStart n s
  | .switchOffEdge n current ton => Sys2Proof.Machine.execSwitchOffEdge n current ton s
  | .chOlLearn q n => Sys2Proof.Machine.execChOlLearn q n s
  | .olLearnComplete n => Sys2Proof.Machine.execOlLearnComplete n s
  | .bankUndervoltage b => Sys2Proof.Machine.execBankUndervoltage b s
  | .channelRestore b n => Sys2Proof.Machine.execChannelRestore b n s
  | .dipShed => Sys2Proof.Machine.execDipShed s
  | .valveEvent n => Sys2Proof.Machine.execValveEvent n s
  | .boostEnd n us current => Sys2Proof.Machine.execBoostEnd n us current s
  | .peakEnd n us => Sys2Proof.Machine.execPeakEnd n us s
  | .transitionEnd n us current => Sys2Proof.Machine.execTransitionEnd n us current s
  | .injectorEventEnd n us => Sys2Proof.Machine.execInjectorEventEnd n us s
  | .switchOffComplete n current => Sys2Proof.Machine.execSwitchOffComplete n current s
  | .pairMinOffEnd n us => Sys2Proof.Machine.execPairMinOffEnd n us s
  | .vdRetrigger q n => Sys2Proof.Machine.execVdRetrigger q n s
  | .stageOvercurrent n current => Sys2Proof.Machine.execStageOvercurrent n current s
  | .groupOvercurrent g us => Sys2Proof.Machine.execGroupOvercurrent g us s
  | .lowPinCheck n => Sys2Proof.Machine.execLowPinCheck n s
  | .holdOpenCoil n => Sys2Proof.Machine.execHoldOpenCoil n s
  | .vdRearm q n => Sys2Proof.Machine.execVdRearm q n s
  | .hgRearm q g => Sys2Proof.Machine.execHgRearm q g s
  | .boostStartFail => Sys2Proof.Machine.execBoostStartFail s
  | .boostRetry => Sys2Proof.Machine.execBoostRetry s
  | .antShort a => Sys2Proof.Machine.execAntShort a s
  | .antRetry a => Sys2Proof.Machine.execAntRetry a s
  | .antOpen a => Sys2Proof.Machine.execAntOpen a s
  | .measurementEpoch meas unserved => Sys2Proof.Machine.execMeasurementEpoch meas unserved s
  | .navRecordWrite u => Sys2Proof.Machine.execNavRecordWrite u s
  | .positionSolutionRun est => Sys2Proof.Machine.execPositionSolutionRun est s
  | .integrityClear => Sys2Proof.Machine.execIntegrityClear s
  | .tpulse => Sys2Proof.Machine.execTpulse s
  | .timeMessage => Sys2Proof.Machine.execTimeMessage s
  | .gnssEnable q => Sys2Proof.Machine.execGnssEnable q s
  | .signalMaskApply => Sys2Proof.Machine.execSignalMaskApply s
  | .posRateApply => Sys2Proof.Machine.execPosRateApply s
  | .portEnable q p => Sys2Proof.Machine.execPortEnable q p s
  | .portTrained p => Sys2Proof.Machine.execPortTrained p s
  | .linkDrop p ns => Sys2Proof.Machine.execLinkDrop p ns s
  | .portRetry p => Sys2Proof.Machine.execPortRetry p s
  | .frameStart n ns number acks => Sys2Proof.Machine.execFrameStart n ns number acks s
  | .linePacket n l => Sys2Proof.Machine.execLinePacket n l s
  | .frameEnd n ns => Sys2Proof.Machine.execFrameEnd n ns s
  | .frameTimeout n => Sys2Proof.Machine.execFrameTimeout n s
  | .strEnable q n => Sys2Proof.Machine.execStrEnable q n s
  | .strDisable q n => Sys2Proof.Machine.execStrDisable q n s
  | .shCommit q n => Sys2Proof.Machine.execShCommit q n s
  | .commitComplete n => Sys2Proof.Machine.execCommitComplete n s
  | .expRequest q n block => Sys2Proof.Machine.execExpRequest q n block s
  | .focusRun n => Sys2Proof.Machine.execFocusRun n s
  | .canEnable q c => Sys2Proof.Machine.execCanEnable q c s
  | .canDisable q c => Sys2Proof.Machine.execCanDisable q c s
  | .canBusJoin c => Sys2Proof.Machine.execCanBusJoin c s
  | .canFrameRx c f sof dram => Sys2Proof.Machine.execCanFrameRx c f sof dram s
  | .txLoad c b => Sys2Proof.Machine.execTxLoad c b s
  | .txCancel c b => Sys2Proof.Machine.execTxCancel c b s
  | .arbitration c => Sys2Proof.Machine.execArbitration c s
  | .txAttemptFail c err => Sys2Proof.Machine.execTxAttemptFail c err s
  | .canFrameSent c sof delay => Sys2Proof.Machine.execCanFrameSent c sof delay s
  | .busOff c => Sys2Proof.Machine.execBusOff c s
  | .busOffRecoveryEnd c => Sys2Proof.Machine.execBusOffRecoveryEnd c s
  | .canRecover q c => Sys2Proof.Machine.execCanRecover q c s
  | .heartbeat => Sys2Proof.Machine.execHeartbeat s
  | .addressClaimStart => Sys2Proof.Machine.execAddressClaimStart s
  | .competingClaimRx addr name => Sys2Proof.Machine.execCompetingClaimRx addr name s
  | .claimRequestRx => Sys2Proof.Machine.execClaimRequestRx s
  | .addressHeld => Sys2Proof.Machine.execAddressHeld s
  | .isoSendSlot n data => Sys2Proof.Machine.execIsoSendSlot n data s
  | .tpRx f time => Sys2Proof.Machine.execTpRx f time s
  | .dm1Send => Sys2Proof.Machine.execDm1Send s
  | .ethFrameRx p fcsOk data => Sys2Proof.Machine.execEthFrameRx p fcsOk data s
  | .ethConfigApply => Sys2Proof.Machine.execEthConfigApply s
  | .pairJoinTimeout => Sys2Proof.Machine.execPairJoinTimeout s
  | .leaseWordSend => Sys2Proof.Machine.execLeaseWordSend s
  | .leaseWordRx receiver word => Sys2Proof.Machine.execLeaseWordRx receiver word s
  | .leaseFrameSend => Sys2Proof.Machine.execLeaseFrameSend s
  | .leaseFrameRx ctrl ident data => Sys2Proof.Machine.execLeaseFrameRx ctrl ident data s
  | .pairHoldBegin => Sys2Proof.Machine.execPairHoldBegin s
  | .takeover => Sys2Proof.Machine.execTakeover s
  | .pairHoldEnd => Sys2Proof.Machine.execPairHoldEnd s
  | .mirrorComplete m align => Sys2Proof.Machine.execMirrorComplete m align s
  | .mirrorLate => Sys2Proof.Machine.execMirrorLate s
  | .refillComplete r checkOk => Sys2Proof.Machine.execRefillComplete r checkOk s
  | .pairSwapNow q => Sys2Proof.Machine.execPairSwapNow q s
  | .plannedRelease => Sys2Proof.Machine.execPlannedRelease s
  | .periodicSwap => Sys2Proof.Machine.execPeriodicSwap s
  | .swapOverdue => Sys2Proof.Machine.execSwapOverdue s
  | .healthSwap => Sys2Proof.Machine.execHealthSwap s
  | .partnerAbsent => Sys2Proof.Machine.execPartnerAbsent s
  | .pairPathFault path => Sys2Proof.Machine.execPairPathFault path s
  | .pairPathFaultClear path => Sys2Proof.Machine.execPairPathFaultClear path s
  | .twoActives serial => Sys2Proof.Machine.execTwoActives serial s
  | .pairRxTest q which => Sys2Proof.Machine.execPairRxTest q which s
  | .rxTestEnd => Sys2Proof.Machine.execRxTestEnd s
  | .timeDisagreement => Sys2Proof.Machine.execTimeDisagreement s
  | .domainTransitionBegin d => Sys2Proof.Machine.execDomainTransitionBegin d s
  | .domainTransitionEnd d us lost => Sys2Proof.Machine.execDomainTransitionEnd d us lost s
  | .accessWake client d => Sys2Proof.Machine.execAccessWake client d s
  | .accessVoteExpiry client d => Sys2Proof.Machine.execAccessVoteExpiry client d s
  | .wakeChange level => Sys2Proof.Machine.execWakeChange level s
  | .wakeHoldExpiry => Sys2Proof.Machine.execWakeHoldExpiry s
  | .domRetAck q d => Sys2Proof.Machine.execDomRetAck q d s
  | .dipBegin => Sys2Proof.Machine.execDipBegin s
  | .dipShedding => Sys2Proof.Machine.execDipShedding s
  | .dipEnd => Sys2Proof.Machine.execDipEnd s
  | .supplyReset mv reached => Sys2Proof.Machine.execSupplyReset mv reached s
  | .feedLow feed => Sys2Proof.Machine.execFeedLow feed s
  | .floodWindowEnd src code => Sys2Proof.Machine.execFloodWindowEnd src code s
  | .timeMark => Sys2Proof.Machine.execTimeMark s
  | .startupPhaseEnd => Sys2Proof.Machine.execStartupPhaseEnd s
  | .recoveryPhaseEnd => Sys2Proof.Machine.execRecoveryPhaseEnd s
  | .recClearCirc q => Sys2Proof.Machine.execRecClearCirc q s
  | .recClearKept q => Sys2Proof.Machine.execRecClearKept q s
  | .recAppEvent q block => Sys2Proof.Machine.execRecAppEvent q block s
  | .recWindow q offset maxLen => Sys2Proof.Machine.execRecWindow q offset maxLen s
  | .updWafer q block => Sys2Proof.Machine.execUpdWafer q block s
  | .verification fwSigOk readback => Sys2Proof.Machine.execVerification fwSigOk readback s
  | .verificationComplete => Sys2Proof.Machine.execVerificationComplete s
  | .updActivate q tick => Sys2Proof.Machine.execUpdActivate q tick s
  | .updActivateRemove q => Sys2Proof.Machine.execUpdActivateRemove q s
  | .activationInterlock => Sys2Proof.Machine.execActivationInterlock s
  | .updCancel q => Sys2Proof.Machine.execUpdCancel q s
  | .updConfirm q => Sys2Proof.Machine.execUpdConfirm q s
  | .autoConfirm => Sys2Proof.Machine.execAutoConfirm s
  | .proofSecond => Sys2Proof.Machine.execProofSecond s
  | .updReject q => Sys2Proof.Machine.execUpdReject q s
  | .updKeyWrite q slot key => Sys2Proof.Machine.execUpdKeyWrite q slot key s
  | .updKeyClear q slot => Sys2Proof.Machine.execUpdKeyClear q slot s
  | .powerLoss => Sys2Proof.Machine.execPowerLoss s
  | .supervisorMismatch addr => Sys2Proof.Machine.execSupervisorMismatch addr s
  | .watchdogExpiry => Sys2Proof.Machine.execWatchdogExpiry s
  | .memoryError addr => Sys2Proof.Machine.execMemoryError addr s
  | .rstCommand q => Sys2Proof.Machine.execRstCommand q s
  | .resetEntry => Sys2Proof.Machine.execResetEntry s
  | .resetRelease inp => Sys2Proof.Machine.execResetRelease inp s
  | .firstTick ms inp => Sys2Proof.Machine.execFirstTick ms inp s
  | .ethLinkLoss p => Sys2Proof.Machine.execEthLinkLoss p s
  | .ethLinkUp p sqi => Sys2Proof.Machine.execEthLinkUp p sqi s
  | .canBusError c lec eight => Sys2Proof.Machine.execCanBusError c lec eight s
  | .isoTpTimeout send n => Sys2Proof.Machine.execIsoTpTimeout send n s

end Sys2Proof.Machine
end

