-- ==== Sys2Proof/Safety.lean ====
section
/-! DEFINITION. What counts as a safe run, in the terms that the statements use: a command that completes, a request that is
served here and now, a write that passes its checks, and what such a write leaves. -/

namespace Sys2Proof.Machine

/-- The command completes in a state: a next state, no fault and no refusal. -/
def Completes (i : Instr) (s : State) : Prop := ∃ t, exec i s = .next t

/-- The message at the front of the queue, if there is one, has the form of a service, so that a command spells it
(R102, R105). -/
def State.frontFormed (s : State) : Bool :=
  match s.dict.queue with
  | m :: _ => formOk (field m.bytes 1 1) (field m.bytes 6 2)
  | [] => true

/-- The transaction number lies in the window of the session: any first one, then 1 to 32767 ahead of the newest
(R107). -/
def Session.ahead (x : Session) (txn : Nat) : Bool :=
  match x.newest with
  | none => true
  | some n =>
    decide (1 ≤ (txn + 65536 - n % 65536) % 65536 ∧ (txn + 65536 - n % 65536) % 65536 ≤ 32767)

/-- The request is taken up in this tick (R102, R114), came directly from its client, names its version and the open
session `x` (R105), repeats no transaction and lies in the window (R107), finds nothing executing in its session (R106),
and is for this module (R115). -/
def State.admits (s : State) (q : Req) (x : Session) : Bool :=
  s.serves q && s.frontFormed && q.version == 1 && q.forwarded.isNone && decide (s.findSession q = some x) &&
    (x.cache.find? fun c => c.txn == q.txn).isNone && x.ahead q.txn && !x.cache.any (fun c => c.ans.isNone) &&
    decide (s.place q = .here)

/-- The state in which an admitted request is executed: taken up, its session marked as active (R82, R102). -/
def State.servedBy (s : State) (q : Req) (x : Session) : State := (s.takeUp q).putSession { x with last := s.k }

/-- An admitted WRITE of the bytes `b` with the type code `ty` to the object `key` passes every check of R105 that the
dictionary makes; what the owning chapter adds is named beside it. -/
def State.accepts (s : State) (q : Req) (x : Session) (key ty : Nat) (b : Bytes) : Bool :=
  s.admits q x && decide ((s.servedBy q x).writeStatus x.level key ty b {} = .ok)

/-- The same of a number in the object's own type, which is what the rows that name an object send. -/
def State.acceptsSet (s : State) (q : Req) (x : Session) (key v : Nat) : Bool :=
  s.accepts q x key (tyOf key) (valBytes key v)

/-- What an accepted write leaves: its effect, on the state that served it, answered OK and remembered (R75, R107). -/
def State.wrote (s : State) (q : Req) (x : Session) (key : Nat) (b : Bytes) (eff : State → State) : State :=
  State.finish q 4 ⟨.ok, [], eff ((s.servedBy q x).slice key b), false⟩

/-- The same of a number in the object's own type. -/
def State.wroteSet (s : State) (q : Req) (x : Session) (key v : Nat) (eff : State → State) : State :=
  s.wrote q x key (valBytes key v) eff

/-- The answers that a state has sent to the source of a request, oldest first, each with its transaction, its status and
its body. -/
def State.answersTo (s : State) (q : Req) : List (Nat × Nat × Bytes) :=
  s.sent.filterMap fun o => match o with
    | .mdp tr src _ _ _ txn st b => if tr = q.transport ∧ src = q.source then some (txn, st, b) else none
    | _ => none

/-- Every field of the state but the values of numeric objects, the dictionary server and what was sent is the same. -/
def State.onlyServed (s t : State) : Prop :=
  t = { s with obj := t.obj, dict := t.dict, sent := t.sent }

end Sys2Proof.Machine
end

