-- ==== Sys2Proof/WellFormed.lean ====
section
/-! DEFINITION. Which operands a command can carry: the widths of the wire formats and of the samples. -/

namespace Sys2Proof

/-- A number below a bound. -/
abbrev below (n m : Nat) : Bool := decide (n < m)

/-- An index and a sub-index of the dictionary (R71). -/
def objOk (index sub : Nat) : Bool := below index (2 ^ 16) && below sub 256

/-- A unit: a loop slot 0 to 47, or 100h + a for assembly a (R186). -/
def unitOk (u : Nat) : Bool := below u 48 || (decide (0x100 ≤ u) && below u 0x200)

/-- The header fields of a request have the widths of Table 13 (R101); the level of a forwarded one is a session's
(R115); an answer's status is one byte and its body fits a message. -/
def Req.wf (q : Req) : Bool :=
  below q.version 16 && below q.target 4 && below q.session (2 ^ 16) && below q.txn (2 ^ 16) &&
    (match q.forwarded with
      | none => true
      | some l => below l 4) &&
    (match q.partner with
      | none => true
      | some p => below p.1 256 && below p.2.length 1265) &&
    below q.oem.1 256 && below q.oem.2.length 1265

/-- An area is named by an object; a stamp has 64 bits (R25, R556). -/
def AppWrite.wf (w : AppWrite) : Bool := below w.area (2 ^ 24) && below w.stamp (2 ^ 64)

/-- Each input has at most one sample in a window. -/
def oncePer (bound : Nat) (l : List Nat) : Bool := l.all (fun n => below n bound) && decide l.Nodup

/-- Samples of a 16-bit converter, at most as many as a tick holds (R222). -/
def adcWf (l : List Int) : Bool := below l.length 64 && l.all fun v => decide (-32768 ≤ v ∧ v ≤ 32767)

/-- The samples name inputs that exist, each once; binary32 codes have 32 bits; an on-time lies within its window. -/
def TickIn.wf (t : TickIn) : Bool :=
  oncePer 48 (t.ui.map (·.n)) && oncePer 2 (t.ant.map (·.a)) && oncePer 16 (t.ls.map (·.n)) &&
  oncePer 4 (t.ss.map (·.n)) && oncePer 128 (t.ch.map (·.n)) && oncePer 8 (t.bank.map (·.b)) &&
  oncePer 48 (t.vd.map (·.n)) && oncePer 12 (t.hg.map (·.g)) && oncePer 15 (t.junction.map (·.1)) &&
  (t.ui.all fun u => below u.samples.length 17 && u.samples.all (fun v => below v (2 ^ 32)) &&
    (u.wave.all fun p => below p.1 250000 && below p.2 (2 ^ 32)) && decide ((u.wave.map (·.1)).Pairwise (· < ·))) &&
  (t.ls.all fun x => adcWf x.samples && below x.dc (2 ^ 32)) &&
  (t.ch.all fun c => below c.ton 251 && below c.die (2 ^ 32) && below c.vout (2 ^ 32)) &&
  (t.vd.all fun v => below v.count 4096 && below v.sq (2 ^ 32) && below v.vcoil (2 ^ 32)) &&
  (t.bank.all fun b => below b.mean (2 ^ 32) && below b.low (2 ^ 32)) &&
  (t.oem.all fun l => l.all fun i => decide (0xC000 ≤ i ∧ i ≤ 0xEFFF)) && t.app.all fun w => w.wf

/-- The 29-bit or 11-bit identifier, the lengths of a classical and of an FD frame, and the flags that only an FD frame
has. -/
def CanFrame.wf (f : CanFrame) : Bool :=
  below f.ident (if f.ext then 2 ^ 29 else 2 ^ 11) &&
  (if f.fd then decide (f.data.length ∈ [0, 1, 2, 3, 4, 5, 6, 7, 8, 12, 16, 20, 24, 32, 48, 64]) && !f.remote
    else below f.data.length 9 && !f.brs && !f.esi)

/-- Samples of 16 bits at most; a data type of 6 bits (R360). -/
def CamLine.wf (l : CamLine) : Bool := below l.dt 64 && l.px.all fun p => below p (2 ^ 16)

/-- A signal of Table 2 and an antenna; codes of 64 and 32 bits (R336). -/
def RawMeas.wf (m : RawMeas) : Bool :=
  below m.sig 32 && below m.ant 2 && below m.range (2 ^ 64) && below m.phase (2 ^ 64) && below m.doppler (2 ^ 32) &&
    below m.chan 320

/-- A signal, an antenna and a channel; at least one bit has come, and the bits hold the count (R337). -/
def NavUnit.wf (u : NavUnit) : Bool :=
  below u.sig 32 && below u.ant 2 && below u.chan 320 && decide (1 ≤ u.count ∧ u.count ≤ 8 * u.bits.length)

/-- Latitude, longitude and height are binary64 codes; the other values binary32 codes; each of the six systems has a clock
bias. -/
def PosEst.wf (e : PosEst) : Bool :=
  below e.lat (2 ^ 64) && below e.lon (2 ^ 64) && below e.height (2 ^ 64) && below e.vEast (2 ^ 32) &&
    below e.vNorth (2 ^ 32) && below e.vUp (2 ^ 32) && below e.hStd (2 ^ 32) && e.bias.length == 6

/-- The strap's resistance, Ω, and the partner's release fit their words (R421). -/
def StartIn.wf (i : StartIn) : Bool :=
  below (i.strap.getD 0) (2 ^ 32) &&
    match i.partnerRelease with
    | none => true
    | some r => below r (2 ^ 32)

/-- The request that a command carries. -/
def Instr.request? : Instr → Option Req
  | .tickEngineRestart q .. | .open_ q .. | .close_ q .. | .read q .. | .write q .. | .keepalive q ..
  | .credentialWrite q .. | .sessCloseAll q | .storeAll q | .storeGroup q .. | .storeDefaults q | .modeWrite q ..
  | .crbEnable q | .crbDisable q .. | .crbClear q .. | .ysSeal q .. | .ysSetMark q .. | .unitEnable q ..
  | .unitDisable q .. | .unitReset q .. | .tplBuild q | .templateRemove q .. | .tgtBaseWrite q ..
  | .supLockWrite q .. | .supEnableOff q | .supAdopt q | .uiModeWrite q .. | .uiCountSet q .. | .ssRearm q ..
  | .chRearm q .. | .bankRearm q .. | .chOlLearn q .. | .vdRetrigger q .. | .vdRearm q .. | .hgRearm q ..
  | .gnssEnable q | .portEnable q .. | .strEnable q .. | .strDisable q .. | .shCommit q .. | .expRequest q ..
  | .canEnable q .. | .canDisable q .. | .canRecover q .. | .pairSwapNow q | .pairRxTest q .. | .domRetAck q ..
  | .recClearCirc q | .recClearKept q | .recAppEvent q .. | .recWindow q .. | .updWafer q .. | .updActivate q ..
  | .updActivateRemove q | .updCancel q | .updConfirm q | .updReject q | .updKeyWrite q .. | .updKeyClear q ..
  | .rstCommand q => some q
  | .tickBoundary .. | .captureLate .. | .computeDeadline .. | .unitOverrunFault .. | .engineOverrunFault ..
  | .supervisorDeadlineFault .. | .appWriteStall .. | .stalledWriteLand | .appWriteBlocked ..
  | .engineRestartStart .. | .timeSteeringRun | .lockCountComplete | .holdoverTimeout | .holdoverEnd
  | .stepWindowClose | .gptpSync .. | .gptpAnnounce .. | .gptpForeignRx .. | .gptpConfigApply | .mdpMessageRx ..
  | .mdpSegmentRx .. | .mdpSegTimeout .. | .sessionTimeout .. | .credentialLockout | .lockoutEnd | .mdpTransportApply
  | .storeComplete .. | .storeDeferredBegin | .assistedFallback .. | .assistedFault .. | .ledgerRun ..
  | .checkpointComplete | .crbReducedEnd | .slotRun .. | .ffTermDrop .. | .pvTimeoutFault .. | .supervisorStep
  | .windowVoid | .settleEnd | .restEnd | .impactStart .. | .impactEnd .. | .impactMaxLen .. | .lsDetectorRestart ..
  | .uiSettleEnd .. | .shuntDisconnect .. | .shuntReconnect .. | .uiDebounceChange .. | .ssLimitTrip .. | .ssRetry ..
  | .currentLimitTurnoff .. | .thermalLatchSet .. | .thermalLatchClear .. | .channelRestart .. | .retryRestore ..
  | .assistedFuseTrip .. | .pwmPeriodStart .. | .switchOffEdge .. | .olLearnComplete .. | .bankUndervoltage ..
  | .channelRestore .. | .dipShed | .valveEvent .. | .boostEnd .. | .peakEnd .. | .transitionEnd ..
  | .injectorEventEnd .. | .switchOffComplete .. | .pairMinOffEnd .. | .stageOvercurrent .. | .groupOvercurrent ..
  | .lowPinCheck .. | .holdOpenCoil .. | .boostStartFail | .boostRetry | .antShort .. | .antRetry .. | .antOpen ..
  | .measurementEpoch .. | .navRecordWrite .. | .positionSolutionRun .. | .integrityClear | .tpulse | .timeMessage
  | .signalMaskApply | .posRateApply | .portTrained .. | .linkDrop .. | .portRetry .. | .frameStart ..
  | .linePacket .. | .frameEnd .. | .frameTimeout .. | .commitComplete .. | .focusRun .. | .canBusJoin ..
  | .canFrameRx .. | .txLoad .. | .txCancel .. | .arbitration .. | .txAttemptFail .. | .canFrameSent .. | .busOff ..
  | .busOffRecoveryEnd .. | .heartbeat | .addressClaimStart | .competingClaimRx .. | .claimRequestRx | .addressHeld
  | .isoSendSlot .. | .tpRx .. | .dm1Send | .ethFrameRx .. | .ethConfigApply | .pairJoinTimeout | .leaseWordSend
  | .leaseWordRx .. | .leaseFrameSend | .leaseFrameRx .. | .pairHoldBegin | .takeover | .pairHoldEnd
  | .mirrorComplete .. | .mirrorLate | .refillComplete .. | .plannedRelease | .periodicSwap | .swapOverdue
  | .healthSwap | .partnerAbsent | .pairPathFault .. | .pairPathFaultClear .. | .twoActives .. | .rxTestEnd
  | .timeDisagreement | .domainTransitionBegin .. | .domainTransitionEnd .. | .accessWake .. | .accessVoteExpiry ..
  | .wakeChange .. | .wakeHoldExpiry | .dipBegin | .dipShedding | .dipEnd | .supplyReset .. | .feedLow ..
  | .floodWindowEnd .. | .timeMark | .startupPhaseEnd | .recoveryPhaseEnd | .verification .. | .verificationComplete
  | .activationInterlock | .autoConfirm | .proofSecond | .powerLoss | .supervisorMismatch .. | .watchdogExpiry
  | .memoryError .. | .resetEntry | .resetRelease .. | .firstTick .. | .ethLinkLoss .. | .ethLinkUp ..
  | .canBusError .. | .isoTpTimeout .. => none

/-- The operands that a command has beside its request are such as its row and its wire format can carry. -/
def Instr.fits : Instr → Bool
  | .tickBoundary inp => inp.wf
  | .captureLate inputs => inputs.all fun u => below u (2 ^ 24)
  | .computeDeadline done => below done.length 7
  | .unitOverrunFault unit => below unit 52
  | .supervisorDeadlineFault offset => below offset 250
  | .appWriteStall w => w.wf
  | .appWriteBlocked _ offset => below offset (4 * 2 ^ 20)
  | .gptpSync _ sub => below sub 250000
  | .mdpMessageRx m => below m.source (2 ^ 48)
  | .mdpSegmentRx _ ident fd data => below ident (2 ^ 29) && below data.length (if fd then 65 else 9)
  | .open_ _ level len _ => below level 256 && below len 256
  | .read _ index sub offset maxLen => objOk index sub && below offset (2 ^ 32) && below maxLen (2 ^ 16)
  | .write _ index sub type_ len _ => objOk index sub && below type_ 256 && below len (2 ^ 16)
  | .sessionTimeout num => below num (2 ^ 16)
  | .storeGroup _ group => below group (2 ^ 16)
  | .modeWrite _ key value => below key (2 ^ 24) && below value 256
  | .assistedFallback key => below key (2 ^ 24)
  | .assistedFault key => below key (2 ^ 24)
  | .ysSetMark _ seq => below seq (2 ^ 32)
  | .slotRun _ us => below us 251
  | .unitEnable _ u => unitOk u
  | .unitDisable _ u => unitOk u
  | .unitReset _ u => unitOk u
  | .tgtBaseWrite _ _ value => below value (2 ^ 32)
  | .supLockWrite _ value => below value 256
  | .impactStart _ us l v => below us 250 && adcWf (l ++ [v])
  | .impactEnd _ us l v => below us 250 && adcWf (l ++ [v])
  | .impactMaxLen _ us l => below us 250 && adcWf l
  | .uiModeWrite _ _ mode => below mode 256
  | .uiCountSet _ _ value => decide (-2 ^ 31 ≤ value ∧ value < 2 ^ 31)
  | .currentLimitTurnoff _ us => below us 251
  | .switchOffEdge _ current ton => below current (2 ^ 32) && below ton 251
  | .boostEnd _ us _ => below us 251
  | .peakEnd _ us => below us 251
  | .transitionEnd _ us _ => below us 251
  | .injectorEventEnd _ us => below us 251
  | .pairMinOffEnd _ us => below us 251
  | .groupOvercurrent _ us => below us.1 251
  | .measurementEpoch meas _ => meas.all fun m => m.wf
  | .navRecordWrite u => u.wf
  | .positionSolutionRun est => est.wf
  | .linkDrop _ ns => below ns 250000
  | .frameStart _ ns number _ => below ns 250000 && below (number.getD 0) (2 ^ 16)
  | .linePacket _ l => l.wf
  | .frameEnd _ ns => below (ns.getD 0) 250000
  | .canFrameRx _ f _ _ => f.wf
  | .txAttemptFail _ err => match err with
    | none => true
    | some e => below e.1 8
  | .competingClaimRx _ name => below name (2 ^ 64)
  | .tpRx f _ => f.wf && f.ext && below f.data.length 9
  | .leaseWordRx _ word => below word (2 ^ 64)
  | .leaseFrameRx _ ident data => below ident (2 ^ 29) && below data.length 9
  | .refillComplete r _ => r.vals.all fun v => below v.1 (2 ^ 24)
  | .domainTransitionEnd _ _ lost => lost.all fun b => below b 32
  | .supplyReset mv reached => below mv 5500 && below reached 5
  | .floodWindowEnd src code => below src 256 && below code (2 ^ 16)
  | .recWindow _ offset maxLen => below offset (2 ^ 32) && below maxLen (2 ^ 16)
  | .updActivate _ tick => below tick (2 ^ 64)
  | .supervisorMismatch addr => below addr (2 ^ 32)
  | .memoryError addr => below addr (2 ^ 32)
  | .resetRelease inp => inp.wf
  | .firstTick ms inp => below ms 2901 && inp.wf
  | .ethLinkUp _ sqi => below sqi 8
  | .canBusError _ lec _ => below lec 8
  | .engineOverrunFault .. | .stalledWriteLand | .tickEngineRestart .. | .engineRestartStart .. | .timeSteeringRun
  | .lockCountComplete | .holdoverTimeout | .holdoverEnd | .stepWindowClose | .gptpAnnounce .. | .gptpForeignRx ..
  | .gptpConfigApply | .mdpSegTimeout .. | .close_ .. | .keepalive .. | .credentialLockout | .lockoutEnd
  | .credentialWrite .. | .sessCloseAll .. | .mdpTransportApply | .storeAll .. | .storeDefaults ..
  | .storeComplete .. | .storeDeferredBegin | .crbEnable .. | .crbDisable .. | .crbClear .. | .ledgerRun ..
  | .checkpointComplete | .crbReducedEnd | .ysSeal .. | .ffTermDrop .. | .pvTimeoutFault .. | .tplBuild ..
  | .templateRemove .. | .supervisorStep | .windowVoid | .settleEnd | .restEnd | .supEnableOff .. | .supAdopt ..
  | .lsDetectorRestart .. | .uiSettleEnd .. | .shuntDisconnect .. | .shuntReconnect .. | .uiDebounceChange ..
  | .ssLimitTrip .. | .ssRetry .. | .ssRearm .. | .thermalLatchSet .. | .thermalLatchClear .. | .channelRestart ..
  | .retryRestore .. | .chRearm .. | .bankRearm .. | .assistedFuseTrip .. | .pwmPeriodStart .. | .chOlLearn ..
  | .olLearnComplete .. | .bankUndervoltage .. | .channelRestore .. | .dipShed | .valveEvent ..
  | .switchOffComplete .. | .vdRetrigger .. | .stageOvercurrent .. | .lowPinCheck .. | .holdOpenCoil .. | .vdRearm ..
  | .hgRearm .. | .boostStartFail | .boostRetry | .antShort .. | .antRetry .. | .antOpen .. | .integrityClear
  | .tpulse | .timeMessage | .gnssEnable .. | .signalMaskApply | .posRateApply | .portEnable .. | .portTrained ..
  | .portRetry .. | .frameTimeout .. | .strEnable .. | .strDisable .. | .shCommit .. | .commitComplete ..
  | .expRequest .. | .focusRun .. | .canEnable .. | .canDisable .. | .canBusJoin .. | .txLoad .. | .txCancel ..
  | .arbitration .. | .canFrameSent .. | .busOff .. | .busOffRecoveryEnd .. | .canRecover .. | .heartbeat
  | .addressClaimStart | .claimRequestRx | .addressHeld | .isoSendSlot .. | .dm1Send | .ethFrameRx ..
  | .ethConfigApply | .pairJoinTimeout | .leaseWordSend | .leaseFrameSend | .pairHoldBegin | .takeover | .pairHoldEnd
  | .mirrorComplete .. | .mirrorLate | .pairSwapNow .. | .plannedRelease | .periodicSwap | .swapOverdue | .healthSwap
  | .partnerAbsent | .pairPathFault .. | .pairPathFaultClear .. | .twoActives .. | .pairRxTest .. | .rxTestEnd
  | .timeDisagreement | .domainTransitionBegin .. | .accessWake .. | .accessVoteExpiry .. | .wakeChange ..
  | .wakeHoldExpiry | .domRetAck .. | .dipBegin | .dipShedding | .dipEnd | .feedLow .. | .timeMark | .startupPhaseEnd
  | .recoveryPhaseEnd | .recClearCirc .. | .recClearKept .. | .recAppEvent .. | .updWafer .. | .verification ..
  | .verificationComplete | .updActivateRemove .. | .activationInterlock | .updCancel .. | .updConfirm ..
  | .autoConfirm | .proofSecond | .updReject .. | .updKeyWrite .. | .updKeyClear .. | .powerLoss | .watchdogExpiry
  | .rstCommand .. | .resetEntry | .ethLinkLoss .. | .isoTpTimeout .. => true

/-- The request and the operands of a command are such as its row and its wire format can carry. -/
def Instr.wf (i : Instr) : Bool := i.request?.all Req.wf && i.fits

end Sys2Proof
end

