-- ==== Sys2Proof/Certificates/Slice0/Obligations.lean ====
section
/-! DEFINITION. The statements for the provers. The statements whose name ends in TakeEffect say of every command that it
completes, in which state, and what it leaves: the next state is written as the state before with all that changes, so that
everything it does not name stays as it was. -/

open Sys2Proof Sys2Proof.Machine

/-- For every command c and state s whose queue is c followed by the rest, step s is exec of c on s with the rest of the queue; with an empty queue the step leaves the state as it is. The queue and the idling are the model's own choice: log entry 1.
Rows of spec/opcode_table.json. -/
def Obligations.StepRunsTheFrontCommand : Prop :=
  (∀ (c : Instr) (rest : List Instr) (s : State), s.pending = c :: rest → step s = exec c { s with pending := rest }) ∧
  (∀ s : State, s.pending = [] → step s = .next s)

/-- From every state, a step that answers a next state leaves the queue without its first command: no command changes the queue, whatever it does (log entry 1).
Rows of spec/opcode_table.json. -/
def Obligations.EveryStepKeepsTheRestOfTheQueue : Prop :=
  ∀ s t : State, step s = .next t → t.pending = s.pending.tail

/-- S handles at most four messages in each tick: from every state whose count of messages served in the tick is at most four, a step that answers a next state leaves it at most four.
Rule R102. -/
def Obligations.AtMostFourMessagesServedInATick : Prop :=
  ∀ s t : State, s.dict.served ≤ 4 → step s = .next t → t.dict.served ≤ 4

/-- The state after reset: the module is in reset and does not run; every object holds its default, in force and as configured, and every string and block its own; no entry of the tick image and no application area is valid; no session, store, event, message or command is there, so that the invariants of the queue and of the four messages hold.
Rules R14, R25, R45, R87. -/
def Obligations.ResetLeavesDefaults : Prop :=
  (State.reset.phase = .reset ∧ State.reset.running = false ∧ State.reset.k = 0) ∧
  (∀ key : Nat, State.reset.get key = objDefault key ∧ State.reset.conf key = objDefault key ∧
    State.reset.getBlob key = blobDefault key ∧ (State.reset.entry key).valid = false ∧ (State.reset.area key).valid = false) ∧
  (State.reset.dict.sessions = [] ∧ State.reset.dict.local_ = [] ∧ State.reset.dict.queue = [] ∧ State.reset.dict.served ≤ 4) ∧
  (State.reset.store.run = none ∧ State.reset.store.inForce = none ∧ State.reset.recd.reported = [] ∧ State.reset.sent = [] ∧
    State.reset.pending = [])

/-- Every command that carries a request leaves the state as it is while the module does not run, and once four messages have been served in the tick: the request waits.
Rules R102, R518. -/
def Obligations.RequestsWaitWhileNothingIsServed : Prop :=
  ∀ (i : Instr) (q : Req) (s : State), i.request? = some q → s.running = false ∨ 4 ≤ s.dict.served → exec i s = .next s

/-- For every header within its widths, with a target that is not reserved, a service byte below 80h and a payload of at most 1264 bytes: the message of 12 bytes and the payload passes the checks of arrival and is queued behind the others, and its header, service, payload length and payload read back as they were laid out.
Rules R101, R102. -/
def Obligations.RequestMessagesArriveWhole : Prop :=
  ∀ (q : Req) (svc : Nat) (tail : Bytes) (s : State),
    q.version < 16 → q.target < 3 → svc < 128 → q.session < 65536 → q.txn < 65536 → q.forwarded = none → q.partner = none → q.oem = (0, []) →
    tail.length ≤ 1264 → s.receives q.transport = true → s.dict.queue.length < 64 →
    (reqMessage q svc tail).bytes.length = 12 + tail.length ∧ reqOf (reqMessage q svc tail) = q ∧
    field (reqMessage q svc tail).bytes 1 1 = svc ∧ field (reqMessage q svc tail).bytes 6 2 = tail.length ∧
    ((reqMessage q svc tail).bytes.drop 8).take tail.length = tail ∧
    exec (.mdpMessageRx (reqMessage q svc tail)) s =
      .next { s with dict := { s.dict with queue := s.dict.queue ++ [reqMessage q svc tail] } }

/-- For every identifier below 2, role below 4 and value below 2^32: the 64-bit lease word made of them reads back as exactly these; a word whose marker is not 9 reads as nothing.
Rule R427. -/
def Obligations.LeaseWordsReadBack : Prop :=
  (∀ w : PartnerWord, w.id < 2 → w.role < 4 → w.value < 2 ^ 32 → w.word < 2 ^ 64 ∧ ofWord w.word = some w) ∧
  (∀ v : Nat, bits v 3 0 ≠ 9 → ofWord v = none)

/-- For every identifier below 2, role below 4 and value below 2^32, and every tick: the lease frame has 8 bytes and reads back as exactly these and the tick modulo 256; a frame of another length reads as nothing.
Rule R428. -/
def Obligations.LeaseFramesReadBack : Prop :=
  (∀ (w : PartnerWord) (tick : Nat), w.id < 2 → w.role < 4 → w.value < 2 ^ 32 →
    (w.frame tick).length = 8 ∧ ofFrame (w.frame tick) = some (w, tick % 256)) ∧
  (∀ b : Bytes, b.length ≠ 8 → ofFrame b = none)

/-- With at most 16 sessions in the table that the module serves, an OPEN that passes its checks assigns a number from 0001h to FFFEh that none of them has; with none open and none assigned since the start it is 0001h; the session holds the level, the transport and the source of the request, with nothing in its cache, and stands behind the others; the sessions of the other table and its last number stay as they were.
Rules R81, R114. -/
def Obligations.OpenedSessionsGetAFreshNumber : Prop :=
  (∀ (s : State) (q : Req) (lvl : Nat), s.table.length ≤ 16 →
    (1 ≤ (s.openSession q lvl).2 ∧ (s.openSession q lvl).2 ≤ 0xFFFE) ∧
    (∀ y ∈ s.table, y.num ≠ (s.openSession q lvl).2) ∧
    (∃ x : Session, x.num = (s.openSession q lvl).2 ∧ x.level = lvl ∧ x.transport = q.transport ∧ x.source = q.source ∧
      x.newest = none ∧ x.cache = [] ∧ (s.openSession q lvl).1.table = s.table ++ [x]) ∧
    (s.nodeServes = true → (s.openSession q lvl).1.dict.lastNum = (s.openSession q lvl).2 ∧
      (s.openSession q lvl).1.dict.local_ = s.dict.local_ ∧ (s.openSession q lvl).1.dict.localNum = s.dict.localNum) ∧
    (s.nodeServes = false → (s.openSession q lvl).1.dict.localNum = (s.openSession q lvl).2 ∧
      (s.openSession q lvl).1.dict.sessions = s.dict.sessions ∧ (s.openSession q lvl).1.dict.lastNum = s.dict.lastNum)) ∧
  (∀ (s : State) (q : Req) (lvl : Nat), s.table = [] → s.dict.lastNum = 0 → s.dict.localNum = 0 →
    (s.openSession q lvl).2 = 1)

/-- From every state with at most 16 sessions of the node and at most 4 of the module's own, an OPEN that answers a next state leaves it so.
Rules R81, R114. -/
def Obligations.OpenKeepsTheSessionTablesBounded : Prop :=
  ∀ (q : Req) (level len : Nat) (code : Bytes) (s t : State), s.dict.sessions.length ≤ 16 → s.dict.local_.length ≤ 4 →
    exec (.open_ q level len code) s = .next t → t.dict.sessions.length ≤ 16 ∧ t.dict.local_.length ≤ 4

/-- A WRITE that is taken up here, in its session and in its window, other than of an index that the application has registered, is answered NO_OBJECT where the object is not present, ACCESS where it is read-only, LEVEL where the session stands below the level of the object, in this order; it changes no object, no block and no output: only the dictionary server and what was sent differ.
Rules R105, R75. -/
def Obligations.RefusedWritesChangeNoObject : Prop :=
  ∀ (q : Req) (x : Session) (ix sub ty : Nat) (b : Bytes) (st : Status) (s : State), s.admits q x = true → sub < 256 → s.oemIndex ix = false →
    (s.presentRow (ix * 256 + sub) = none ∧ st = .noObject) ∨ (∃ r, s.presentRow (ix * 256 + sub) = some r ∧
      ((r.acc = .ro ∧ st = .access) ∨ (r.acc ≠ .ro ∧ x.level < r.lvl ∧ st = .level))) →
    ∃ t, exec (.write q ix sub ty b.length b) s = .next t ∧
      t.sent = s.sent ++ [.mdp q.transport q.source q.target 132 q.session q.txn st.code []] ∧
      t = { s with dict := t.dict, sent := t.sent }

/-- A WRITE that a standby takes up, whose object is present and writable at the level of the session, whose type, length and value pass, and whose object is not module-local, is answered STATE and changes nothing but the dictionary server.
Rules R114, R116. -/
def Obligations.StandbysRefuseWritesOfTheNode : Prop :=
  ∀ (q : Req) (x : Session) (ix sub : Nat) (b : Bytes) (r : ObjRow) (s : State), s.admits q x = true → sub < 256 → s.standby = true →
    moduleLocal (ix * 256 + sub) = false → s.presentRow (ix * 256 + sub) = some r → r.acc ≠ .ro → r.lvl ≤ x.level →
    r.ty.lengthOk b.length = true → r.ty.valueOk b = true → r.chk.ok r.ty b = true →
    s.oemIndex ix = false → ((s.servedBy q x).writeExtra (ix * 256 + sub) b).range = true →
    ∃ t, exec (.write q ix sub r.ty.code b.length b) s = .next t ∧
      t.sent = s.sent ++ [.mdp q.transport q.source q.target 132 q.session q.txn Status.state.code []] ∧
      t = { s with dict := t.dict, sent := t.sent }

/-- An accepted WRITE of a number to an object of which the chapters ask no more: the object reads the value sent, every other object and every string reads as before, the answer is OK, and outside the values, the dictionary server, the slice of the mirror and what was sent nothing changes.
Rules R75, R104. -/
def Obligations.WrittenValuesHold : Prop :=
  ∀ (q : Req) (x : Session) (ix sub ty : Nat) (b : Bytes) (s : State), s.accepts q x (ix * 256 + sub) ty b = true → sub < 256 → s.oemIndex ix = false →
    ix * 256 + sub ≠ Obj.STORE_ALL → ix * 256 + sub ≠ Obj.STORE_GROUP → ix * 256 + sub ≠ Obj.STORE_DEFAULTS →
    isMode (ix * 256 + sub) = false → isBlob (ix * 256 + sub) = false →
    (s.servedBy q x).writeExtra (ix * 256 + sub) b = {} →
    ((s.servedBy q x).slice (ix * 256 + sub) b).chapterWrite (some q) (ix * 256 + sub) b = none →
    ∃ t, exec (.write q ix sub ty b.length b) s = .next t ∧ t.get (ix * 256 + sub) = ofLe b ∧
      (∀ key, key ≠ ix * 256 + sub → t.get key = s.get key) ∧
      t.sent = s.sent ++ [.mdp q.transport q.source q.target 132 q.session q.txn 0 []] ∧
      t = { s with obj := t.obj, dict := t.dict, pair := { s.pair with slice := t.pair.slice, writes := t.pair.writes }, sent := t.sent }

/-- A request whose transaction number stands in its session's cache with its answer is answered with that status and body and is not executed: READ, WRITE, KEEPALIVE and CLOSE alike count MDP_CACHED, and leave every other object, the session's newest transaction and all but the values, the dictionary server and what was sent as they were.
Rule R107. -/
def Obligations.DuplicatesAreAnsweredFromTheCache : Prop :=
  ∀ (q : Req) (x : Session) (c : Cached) (st : Nat) (body : Bytes) (i : Instr) (svc : Nat) (s : State),
    s.serves q = true → s.frontFormed = true → q.version = 1 → q.forwarded = none → s.findSession q = some x →
    x.cache.find? (fun c => c.txn == q.txn) = some c → c.ans = some (st, body) → c.elsewhere = false →
    (∃ b : Bytes, i = .close_ q b ∧ svc = 2 ∨ i = .keepalive q b ∧ svc = 5 ∨
      (∃ ix sub ty len, i = .write q ix sub ty len b ∧ svc = 4) ∨ (∃ ix sub off len, i = .read q ix sub off len ∧ svc = 3)) →
    ∃ t, exec i s = .next t ∧
      t.sent = s.sent ++ [.mdp q.transport q.source q.target (svc + 128) q.session q.txn st body] ∧
      t.get Obj.MDP_CACHED = satAdd 32 (s.get Obj.MDP_CACHED) 1 ∧ (∀ key, key ≠ Obj.MDP_CACHED → t.get key = s.get key) ∧
      t.findSession q = some { x with last := s.k } ∧ s.onlyServed t

/-- A READ, WRITE, KEEPALIVE or CLOSE that names no open session of its source is answered NO_SESSION; one that names its session and is no duplicate, with a transaction number not 1 to 32767 ahead of the newest, is answered STALE and counted in MDP_STALE; neither is executed.
Rules R81, R105, R107, R108. -/
def Obligations.RequestsOutsideASessionAreRefused : Prop :=
  ∀ (q : Req) (i : Instr) (svc : Nat) (s : State),
    s.serves q = true → s.frontFormed = true → q.version = 1 → q.forwarded = none →
    (∃ b : Bytes, i = .close_ q b ∧ svc = 2 ∨ i = .keepalive q b ∧ svc = 5 ∨
      (∃ ix sub ty len, i = .write q ix sub ty len b ∧ svc = 4) ∨ (∃ ix sub off len, i = .read q ix sub off len ∧ svc = 3)) →
    (s.findSession q = none → ∃ t, exec i s = .next t ∧
      t.sent = s.sent ++ [.mdp q.transport q.source q.target (svc + 128) q.session q.txn Status.noSession.code []] ∧
      (∀ key, t.get key = s.get key) ∧ s.onlyServed t) ∧
    (∀ x : Session, s.findSession q = some x → x.cache.find? (fun c => c.txn == q.txn) = none → x.ahead q.txn = false →
      ∃ t, exec i s = .next t ∧
      t.sent = s.sent ++ [.mdp q.transport q.source q.target (svc + 128) q.session q.txn Status.stale.code []] ∧
      t.get Obj.MDP_STALE = satAdd 32 (s.get Obj.MDP_STALE) 1 ∧ (∀ key, key ≠ Obj.MDP_STALE → t.get key = s.get key) ∧
      t.findSession q = some { x with last := s.k } ∧ s.onlyServed t)

/-- While the module runs, a read-back mismatch in step 3 or step 4 ends the store: no store is in progress, the area in force and its content are as before, STORE_STATUS reads 04h, event 1022h of the settings with the step is reported, and the request of the store, where it has one and its session is open, is answered STORE_FAILED.
Rule R90. -/
def Obligations.FailedStoresKeepTheOldArea : Prop :=
  ∀ (r : StoreRun) (i : Fin 2) (s : State), s.running = true → s.store.run = some r →
    ∃ t, exec (.storeComplete (some i)) s = .next t ∧ t.store = { s.store with run := none } ∧
      t.get Obj.STORE_STATUS = 4 ∧ (∃ e ∈ t.recd.reported, e.src = 0 ∧ e.code = 0x1022 ∧ e.payload = u8 (3 + i)) ∧
      (∀ q : Req, r.req = some q →
        .mdp q.transport q.source q.target 132 q.session q.txn Status.storeFailed.code [] ∈ t.sent)

/-- An accepted STORE_ALL sends nothing while its store runs, and STORE_DEFERRED at once where the supply is low, in which case the deferred store has no request to answer and begins without one; the end of a store sends OK or STORE_FAILED to its request, and nothing where it has none; STORE_STATUS reads 02h while deferred, 03h after completion, 04h after failure.
Rule R91. -/
def Obligations.StoreAnswersComeWhenItEnds : Prop :=
  (∀ (q : Req) (x : Session) (s : State), s.accepts q x Obj.STORE_ALL 3 (u16 1) = true → s.storeExtra = {} →
    ∃ t, exec (.storeAll q) s = .next t ∧
      (s.supplyLow = false → t.sent = s.sent ∧ (t.store.run.map (·.req)) = some (some q)) ∧
      (s.supplyLow = true → t.sent = s.sent ++ [.mdp q.transport q.source q.target 132 q.session q.txn Status.storeDeferred.code []] ∧
        t.store.run = none ∧ t.store.deferred.map (·.req) = some none ∧ t.get Obj.STORE_STATUS = 2)) ∧
  (∀ (r : StoreRun) (s : State), s.running = true → s.store.deferred = some r → s.supplyLow = false → s.conf Obj.SUPPLY_STATE = 0 →
    ∃ t, exec .storeDeferredBegin s = .next t ∧ t.sent = s.sent ∧ t.store.deferred = none ∧ t.store.run.map (·.req) = some none) ∧
  (∀ (r : StoreRun) (bad : Option (Fin 2)) (s : State), s.running = true → s.store.run = some r →
    ∃ t, exec (.storeComplete bad) s = .next t ∧ t.get Obj.STORE_STATUS = (if bad.isSome then 4 else 3) ∧
      (r.req = none → t.sent = s.sent) ∧
      (∀ q : Req, r.req = some q → ∃ n, 1 ≤ n ∧ t.sent = s.sent ++ List.replicate n
        (.mdp q.transport q.source q.target 132 q.session q.txn (if bad.isSome then Status.storeFailed.code else Status.ok.code) [])))

/-- While a store request executes, a duplicate of it sends nothing and is counted in its session's cache; the end of the store then sends the final answer once for the original and once for each duplicate counted.
Rule R109. -/
def Obligations.DuplicatesOfAStoreAreEachAnswered : Prop :=
  (∀ (q : Req) (x : Session) (c : Cached) (ix sub ty len : Nat) (b : Bytes) (s : State),
    s.serves q = true → s.frontFormed = true → q.version = 1 → q.forwarded = none → s.findSession q = some x →
    x.cache.find? (fun c => c.txn == q.txn) = some c → c.ans = none →
    ∃ t, exec (.write q ix sub ty len b) s = .next t ∧ t.sent = s.sent ∧ t.store = s.store ∧
      ∃ y, t.findSession q = some y ∧ y.cache.find? (fun c => c.txn == q.txn) = some { c with dups := c.dups + 1 }) ∧
  (∀ (q : Req) (x : Session) (c : Cached) (r : StoreRun) (bad : Option (Fin 2)) (s : State),
    s.running = true → s.store.run = some r → r.req = some q → s.findSession q = some x →
    x.cache.find? (fun c => c.txn == q.txn) = some c →
    ∃ t, exec (.storeComplete bad) s = .next t ∧ t.sent = s.sent ++ List.replicate (c.dups + 1)
      (.mdp q.transport q.source q.target 132 q.session q.txn (if bad.isSome then Status.storeFailed.code else Status.ok.code) []))

/-- A frame that becomes valid while DRAM does not serve joins the end of the frames that wait, while fewer than 16 do; with 16 waiting it is lost: the frames that wait, the ring and the next sequence stay as they were and CAN_RX_LOST counts it. With DRAM serving, the frames that waited and then the new one are written to the ring in the order in which they were received.
Rule R394. -/
def Obligations.SeventeenthWaitingFrameIsLost : Prop :=
  ∀ (c : Fin 8) (f : CanFrame) (sof : Nat) (s : State), s.onBus c = true → (s.can c).isOff = false →
    (f.fd = false ∨ s.flag (Obj.CAN_FD c) = true) →
    (∃ t, exec (.canFrameRx c f sof false) s = .next t ∧ (t.can c).ring = (s.can c).ring ∧ (t.can c).next = (s.can c).next ∧
      ((s.can c).wait.length < 16 → (t.can c).wait = (s.can c).wait ++ [(f, sof, false)] ∧
        ∀ key, t.get key = s.get key) ∧
      (16 ≤ (s.can c).wait.length → (t.can c).wait = (s.can c).wait ∧
        t.get (Obj.CAN_RX_LOST c) = satAdd 32 (s.get (Obj.CAN_RX_LOST c)) 1 ∧
        ∀ key, key ≠ Obj.CAN_RX_LOST c → t.get key = s.get key)) ∧
    (∃ r, exec (.canFrameRx c f sof true) s = .next (((s.can c).wait ++ [(f, sof, false)]).foldl
      (fun u p => u.ringWrite c p.1 p.2.1 p.2.2) ((s.setCan c (CanSt.settle { s.can c with rec_ := r })).setCan c { CanSt.settle { s.can c with rec_ := r } with wait := [] })))

/-- With no frame of the controller on the bus: under CAN_TX_ORDER other than 01h, the pending buffer whose frame comes first in the order of arbitration, the lower number at equal frames, goes on the bus; under CAN_TX_ORDER 01h, the lowest-numbered pending buffer does; every other buffer stays as it was.
Rule R400. -/
def Obligations.ArbitrationPicksOneBuffer : Prop :=
  ∀ (c : Fin 8) (b : Nat) (s : State), s.onBus c = true → (s.can c).isOff = false → (s.can c).leave = false → (s.can c).sending = none →
    b < 3 → ((s.can c).bufs.getD b {}).st = 1 →
    (∀ a < 3, ((s.can c).bufs.getD a {}).st = 1 →
      (s.conf (Obj.CAN_TX_ORDER c) = 1 → b ≤ a) ∧
      (s.conf (Obj.CAN_TX_ORDER c) ≠ 1 →
        ((((s.can c).bufs.getD b {}).frame.map frameRank).getD 0 < (((s.can c).bufs.getD a {}).frame.map frameRank).getD 0 ∨
          (((s.can c).bufs.getD b {}).frame.map frameRank).getD 0 = (((s.can c).bufs.getD a {}).frame.map frameRank).getD 0 ∧ b ≤ a))) →
    exec (.arbitration c) s = .next (s.setBuf c b fun t => { t with st := 2 })

/-- Whatever a READ, a KEEPALIVE or a CLOSE answers, and with a formless message at the front of the queue or without: every object but MDP_CACHED and MDP_STALE reads as before, and outside the values, the dictionary server and what was sent nothing changes: no block, no output, no event.
Rules R75, R103. -/
def Obligations.ReadsChangeNoObject : Prop :=
  ∀ (q : Req) (i : Instr) (s t : State),
    (∃ b : Bytes, i = .close_ q b ∨ i = .keepalive q b ∨ ∃ ix sub off len, i = .read q ix sub off len) → exec i s = .next t →
    (∀ key, key ≠ Obj.MDP_CACHED → key ≠ Obj.MDP_STALE → t.get key = s.get key) ∧ s.onlyServed t

/-- An admitted READ or WRITE of an index from C000h to EFFFh that the OEM application has registered is answered with the status and, for a READ, the body that the application gives, and serving it is all that changes the module; on a standby a WRITE is answered STATE. An index of the range that is not registered is NO_OBJECT.
Rules R80, R104, R114. -/
def Obligations.RegisteredObjectsAreTheApplications : Prop :=
  ∀ (q : Req) (x : Session) (ix sub : Nat) (s : State), s.admits q x = true → sub < 256 → 0xC000 ≤ ix → ix ≤ 0xEFFF →
    (ix ∈ s.dict.oem → (∀ off len : Nat, exec (.read q ix sub off len) s =
        .next (State.finish q 3 ⟨Status.ofCode q.oem.1, q.oem.2, s.servedBy q x, false⟩)) ∧
      (∀ (ty : Nat) (b : Bytes), exec (.write q ix sub ty b.length b) s =
        .next (State.finish q 4 ⟨if s.standby then .state else Status.ofCode q.oem.1, [], s.servedBy q x, false⟩))) ∧
    (ix ∉ s.dict.oem → (∀ off len : Nat, exec (.read q ix sub off len) s =
        .next (State.finish q 3 ⟨.noObject, [], s.servedBy q x, false⟩)) ∧
      (∀ (ty : Nat) (b : Bytes), exec (.write q ix sub ty b.length b) s =
        .next (State.finish q 4 ⟨.noObject, [], s.servedBy q x, false⟩)))

/-- TICK_BOUNDARY of a running module for which no reset is due with the next tick answers the state that ending the tick, finishing the loss-sensor windows, the boundary, the captures, the application writes and the registration of its objects leave, in this order. With a reset due it answers the ended tick followed by the start of a tick in which the module does not execute. Of a module that does not run it answers the idle tick. FIRST_TICK of a starting module with no reset due and no migration, at most 900 ms after the release, answers the first tick, its captures, the application writes and the registration. CAPTURE_LATE makes each named entry that was captured in this tick a late one, and leaves every other. A late entry of the valve drive has again the values and the stamp from before the capture, its validity cleared, the late tick counted. COMPUTE_DEADLINE takes the six engines in turn: TICK_PEAK becomes the larger of itself and 200 µs where units are still due, else the time given, at most 199; then the deadline of that engine. APP_WRITE_STALL to a writable area adds the write, with its tick, to those that stall, and counts it. To an area that may not be written now it is a blocked write at the offset of that area. STALLED_WRITE_LAND lands the writes that stalled in an earlier tick, but for areas already written in this one, keeps the others waiting, and changes nothing else. APP_WRITE_BLOCKED at an offset below 4 MiB gives the access fault of its core and reports event 1010h with core and offset, and nothing else changes.
Rules R27, R44, R45, R46, R47, R49, R50, R53, R100, R524. -/
def Obligations.TickRowsTakeEffect : Prop :=
  (∀ (inp : TickIn) (s : State),
     s.running = true → s.endTick.resetNextTick = false →
      exec (.tickBoundary inp) s = .next
      ((((((List.range 16).foldl (fun s n => s.lsFinish inp.ls n) s.endTick).boundary inp).captures inp).appWrites inp.app).registerOem inp.oem)) ∧
  (∀ (inp : TickIn) (s : State),
     s.running = true → s.endTick.resetNextTick = true →
      exec (.tickBoundary inp) s = .next (s.endTick.idleBegin inp)) ∧
  (∀ (inp : TickIn) (s : State),
     s.running = false →
      exec (.tickBoundary inp) s = .next (s.idleTick inp)) ∧
  (∀ (ms : Nat) (inp : TickIn) (s : State),
     s.phase = .starting → s.start.due = none → s.start.migrated = false → ms ≤ 900 →
      exec (.firstTick ms inp) s = .next ((((s.firstTick ms).captures inp).appWrites inp.app).registerOem inp.oem)) ∧
  (∀ (inputs : List Nat) (s : State),
     s.running = true →
      exec (.captureLate inputs) s = .next ((inputs.filter s.capturedNow).foldl State.lateEntry s)) ∧
  (∀ (e : Nat) (s : State),
     s.running = true → s.capturedNow e = true → 0x3800 ≤ e / 256 → e / 256 < 0x4000 →
      exec (.captureLate [e]) s = .next ((s.uncapture e).lateTick.clearInput e)) ∧
  (∀ (done : List Nat) (s : State),
     s.running = true →
      exec (.computeDeadline done) s = .next ((List.range 6).foldl (fun s e =>
      let late := decide (200 ≤ done.getD e 0)
      let us := if s.dueUnits e late = [] then min 199 (done.getD e 0) else 200
      (s.set (Obj.TICK_PEAK e) (max us (s.get (Obj.TICK_PEAK e)))).engineDeadline e late) s)) ∧
  (∀ (w : AppWrite) (s : State),
     s.running = true → s.writable w.area = true →
      exec (.appWriteStall w) s = .next (State.count { s with tick := { s.tick with
      stalled := s.tick.stalled ++ [⟨w.area, ⟨w.stamp, w.valid, w.body⟩, s.k⟩] } } Obj.TICK_APP_STALLS 1)) ∧
  (∀ (w : AppWrite) (s : State),
     s.running = true → s.writable w.area = false → isArea w.area = true →
      exec (.appWriteStall w) s = .next (s.blockWrite w.core (tickOffset s.runSlot.release s.k w.area))) ∧
  (∀ (s : State),
     s.running = true →
      ∃ t, exec .stalledWriteLand s = .next t ∧ t.tick.stalled = s.tick.stalled.filter (fun w => decide (s.k ≤ w.at_)) ∧
    t.app = ((s.tick.stalled.filter fun w => decide (w.at_ < s.k)).foldl
      (fun s w => if w.area ∈ s.tick.wrote then s else s.landArea w.area w.val) s).app ∧
    t = { s with app := t.app, tick := { s.tick with stalled := t.tick.stalled } }) ∧
  (∀ (core : Fin 4) (offset : Nat) (s : State),
     s.running = true → offset < 4 * 2 ^ 20 →
      exec (.appWriteBlocked core offset) s = .next ((s.send (.accessFault core offset)).event 0 0x1010 (u8 core ++ u64 offset)))

/-- APP_WRITE_BLOCKED with an offset of 4 MiB or more faults with outsideTickMemory in every state.
Rules R21, R27. -/
def Obligations.WritesBeyondTheTickMemoryFault : Prop :=
  (∀ (core : Fin 4) (offset : Nat) (s : State),
     4 * 2 ^ 20 ≤ offset →
      exec (.appWriteBlocked core offset) s = .fault .outsideTickMemory)

/-- UNIT_OVERRUN_FAULT of a unit that is not faulted and has TICK_ESC_CONSEC overruns in a row faults it with code 01h and reports event 1001h of its engine. ENGINE_OVERRUN_FAULT of an engine that is not faulted and has TICK_ESC_WINDOW overruns in its window faults its enabled units with code 02h, sets its bit of TICK_ENGINE_FAULT and reports event 1002h with the count. SUPERVISOR_DEADLINE_FAULT of a running module makes a reset of cause 04h with the offset due in this tick. An accepted TICK_ENGINE_RESTART of a faulted engine clears its fault and its counter and marks it as restarting. ENGINE_RESTART_START of a restarting engine in a T4000/0 tick after that of the write starts its units from their initial state, of L4 after stopping the ledger.
Rules R50, R51, R518. -/
def Obligations.OverrunEscalationTakesEffect : Prop :=
  (∀ (u : Nat) (s : State),
     s.running = true → u ≤ steerUnit → s.conf Obj.TICK_ESC_CONSEC ≤ Sparse.find (fun _ => 0) s.tick.consec u → s.tick.faulted.contains u = false →
      (48 ≤ u ∨ (s.fl u).fault = 0) →
      exec (.unitOverrunFault u) s = .next ((s.faultUnit u 1).event (unitEngine u + 1) 0x1001 (u8 (unitEngine u) ++ unitByte u))) ∧
  (∀ (e : Fin 6) (s : State),
     s.running = true → s.conf Obj.TICK_ESC_WINDOW ≤ s.ovrWindow e → bit (s.get Obj.TICK_ENGINE_FAULT) e = false →
      exec (.engineOverrunFault e) s = .next
      ((((((engineUnits e).filter fun u => decide (48 ≤ u) || s.unitOn u).foldl (fun s u => s.faultUnit u 2) s).set Obj.TICK_ENGINE_FAULT
        (setBit (s.get Obj.TICK_ENGINE_FAULT) e true))).event (e + 1) 0x1002 (u8 e ++ u16 (s.ovrWindow e)))) ∧
  (∀ (offset : Nat) (s : State),
     s.running = true →
      exec (.supervisorDeadlineFault offset) s = .next { s with start := { s.start with due := some ⟨4, offset, s.k⟩ } }) ∧
  (∀ (q : Req) (x : Session) (e : Fin 6) (s : State),
     s.acceptsSet q x Obj.TICK_ENGINE_RESTART e = true → bit (s.get Obj.TICK_ENGINE_FAULT) e = true →
      exec (.tickEngineRestart q e) s = .next (s.wroteSet q x Obj.TICK_ENGINE_RESTART e (fun s => s.restartEngine e))) ∧
  (∀ (e : Fin 6) (s : State),
     s.running = true → s.k % 4000 = 0 → s.tick.restarting.contains e.val = true → Sparse.find (fun _ => 0) s.tick.restartAt e ≤ s.k →
      exec (.engineRestartStart e) s = .next ((if e.val = 4 then s.ledgerRestart else s).engineStart e))

/-- TIME_STEERING_RUN, due after the position solution in an acting module with a time solution of this tick that is not excluded, steers with its error, writes TIME_ERR_EST for the next tick and marks the unit as run. With no time solution of this tick, or an excluded one, it does the same with the step for a run without one. In a module that is not acting it notes the measured error and does not steer. LOCK_COUNT_COMPLETE in TRACKING of an acting module, 40000 ticks after the count began, sets TIME_STATE to LOCKED and records a time mark. HOLDOVER_TIMEOUT in TRACKING or LOCKED of an acting module, with no solution for 4000 ticks or an excluded one, enters HOLDOVER. HOLDOVER_END in HOLDOVER, with solutions valid for 4000 ticks and the latest no epoch ago, enters OFFSET where the error exceeds 10 ms and else TRACKING. STEP_WINDOW_CLOSE in the last tick of the step window, or later, closes it and changes nothing else.
Rules R54, R55, R56, R61, R63. -/
def Obligations.TimebaseRowsTakeEffect : Prop :=
  (∀ (e : Int) (s : State),
     s.steerDue = true → s.posDue = false → s.acting = true → s.gnss.timeSol = some (e, s.k) → s.get Obj.INT_STATE ≠ 2 →
      exec .timeSteeringRun s = .next (((s.steer e).write Obj.TIME_ERR_EST (s.steer e).errEst true).ranUnit steerUnit)) ∧
  (∀ (s : State),
     s.steerDue = true → s.posDue = false → (∀ e : Int, s.gnss.timeSol = some (e, s.k) → s.get Obj.INT_STATE = 2) →
      exec .timeSteeringRun s = .next (((s.unsteered (s.get Obj.INT_STATE == 2)).write Obj.TIME_ERR_EST
      (s.unsteered (s.get Obj.INT_STATE == 2)).errEst true).ranUnit steerUnit)) ∧
  (∀ (e : Int) (s : State),
     s.steerDue = true → s.posDue = false → s.acting = false → s.gnss.timeSol = some (e, s.k) → s.get Obj.INT_STATE ≠ 2 →
      exec .timeSteeringRun s = .next (((s.measured e).write Obj.TIME_ERR_EST (s.measured e).errEst true).ranUnit steerUnit)) ∧
  (∀ (since : Nat) (s : State),
     s.running = true → s.acting = true → s.time.lockSince = some since → s.get Obj.TIME_STATE = 2 → since + 40000 ≤ s.k →
      exec .lockCountComplete s = .next ((s.set Obj.TIME_STATE 3).timeMark)) ∧
  (∀ (s : State),
     s.running = true → s.acting = true → (s.get Obj.TIME_STATE = 2 ∨ s.get Obj.TIME_STATE = 3) →
      (s.time.lastSol + 4000 ≤ s.k ∨ s.get Obj.INT_STATE = 2) →
      exec .holdoverTimeout s = .next s.holdover) ∧
  (∀ (since : Nat) (s : State),
     s.running = true → s.acting = true → s.time.holdValid = some since → s.get Obj.TIME_STATE = 4 → since + 4000 ≤ s.k →
      s.k ≤ s.time.lastSol + epochTicks s.gnss.rate →
      exec .holdoverEnd s = .next (if 10000000 < s.time.err.natAbs then s.toOffset else s.track s.time.err)) ∧
  (∀ (since : Nat) (s : State),
     s.running = true → s.time.window = some since → since + s.conf Obj.TIME_STEP_WINDOW ≤ s.k + 1 →
      exec .stepWindowClose s = .next { s with time := { s.time with window := none } })

/-- GPTP_SYNC on a port that sends and whose interval is over sends one Sync with the clock's address, domain, interval, sequence number and the PTP time of its start in steps of 8 ns, advances the port's sequence number modulo 65536, notes the tick, and changes nothing else. GPTP_ANNOUNCE on such a port sends one Announce with the class of the time state, the accuracy of TIME_ERR_EST, the UTC offset, the PTP timescale flag and time source 20h, advances its sequence number, notes the tick, and changes nothing else. GPTP_FOREIGN_RX on an enabled port whose link is up increments GPTP_FOREIGN and changes nothing else. GPTP_CONFIG_APPLY in a T4000/0 tick takes the domain, the intervals, the priority and the ports into force as configured at the start of the tick, but for ports disabled since.
Rules R65, R66, R67, R68, R70. -/
def Obligations.GrandmasterRowsTakeEffect : Prop :=
  (∀ (p : Fin 3) (sub : Nat) (s : State),
     s.gptpSends p = true → intervalOver s.gptp.lastSync p s.k s.gptp.syncLog = true →
      ∃ t, exec (.gptpSync p sub) s = .next t ∧
    t.sent = s.sent ++ [.gptpSync s.clockMac p s.gptp.domain s.gptp.syncLog (Sparse.find (fun _ => 0) s.gptp.seqSync p)
      (stamp8 (s.k * 250000 + sub) + 315964819 * 10 ^ 9)] ∧
    Sparse.find (fun _ => 0) t.gptp.seqSync p = (Sparse.find (fun _ => 0) s.gptp.seqSync p + 1) % 65536 ∧
    Sparse.find (fun _ => 0) t.gptp.lastSync p = s.k + 1 ∧
    t = { s with sent := t.sent, gptp := { s.gptp with seqSync := t.gptp.seqSync, lastSync := t.gptp.lastSync } }) ∧
  (∀ (p : Fin 3) (s : State),
     s.gptpSends p = true → intervalOver s.gptp.lastAnnounce p s.k s.gptp.announceLog = true →
      ∃ t, exec (.gptpAnnounce p) s = .next t ∧
    t.sent = s.sent ++ [.gptpAnnounce s.clockMac p s.gptp.domain s.gptp.announceLog (Sparse.find (fun _ => 0) s.gptp.seqAnnounce p) s.gptp.priority1
      (clockClass (s.get Obj.TIME_STATE)) (clockAccuracy (s.get Obj.TIME_ERR_EST)) (clockClass (s.get Obj.TIME_STATE) != 248)
      (decInt 16 (s.get Obj.GPTP_UTC_OFFSET)) s.time.utc.isSome true 0x20] ∧
    Sparse.find (fun _ => 0) t.gptp.seqAnnounce p = (Sparse.find (fun _ => 0) s.gptp.seqAnnounce p + 1) % 65536 ∧
    Sparse.find (fun _ => 0) t.gptp.lastAnnounce p = s.k + 1 ∧
    t = { s with sent := t.sent, gptp := { s.gptp with seqAnnounce := t.gptp.seqAnnounce, lastAnnounce := t.gptp.lastAnnounce } }) ∧
  (∀ (p : Fin 3) (s : State),
     s.running = true → s.portUp p = true → bit s.gptp.ports p = true →
      exec (.gptpForeignRx p) s = .next (s.count Obj.GPTP_FOREIGN 1)) ∧
  (∀ (s : State),
     s.running = true → s.k % 4000 = 0 →
      exec .gptpConfigApply s = .next { s with gptp := { s.gptp with
      ports := s.conf Obj.GPTP_PORTS &&& s.get Obj.GPTP_PORTS, domain := s.conf Obj.GPTP_DOMAIN
      syncLog := decInt 16 (s.conf Obj.GPTP_SYNC_LOG), announceLog := decInt 16 (s.conf Obj.GPTP_ANNOUNCE_LOG)
      priority1 := s.conf Obj.GPTP_PRIORITY1 } })

/-- MDP_MESSAGE_RX on a transport that the module receives on queues a message whose form and check code are right while fewer than 64 wait. Any other message there is counted in MDP_RX_BAD and nothing else changes. MDP_SEGMENT_RX of a classical frame whose identifier names a request to this module on its controller is counted in MDP_RX_BAD. An FD frame there of 64 bytes with the segment byte 80h discards and counts an unfinished message of its client and begins a new one with the 63 bytes after it; with C0h the message is this segment alone. One of 64 bytes with the number that the message of its client awaits continues it, and one with bit 6 set besides ends it: the message arrives, cut to the length it states; with another number the message is discarded and counted. MDP_SEG_TIMEOUT of a client whose latest segment is older than the timeout in force discards its message and counts it. MDP_TRANSPORT_APPLY in a T4000/0 tick takes the six transport settings into force, closes the sessions of transports that are no longer served, and those on CAN where controller, base or node change (the last is the model's choice, log entry 70), and changes nothing else.
Rules R101, R102, R110, R111, R113, R114. -/
def Obligations.TransportRowsTakeEffect : Prop :=
  (∀ (m : MdpMsg) (s : State),
     s.receives m.transport = true → mdpOk m.bytes = true → s.dict.queue.length < 64 →
      exec (.mdpMessageRx m) s = .next { s with dict := { s.dict with queue := s.dict.queue ++ [m] } }) ∧
  (∀ (m : MdpMsg) (s : State),
     s.receives m.transport = true → (mdpOk m.bytes = false ∨ 64 ≤ s.dict.queue.length) →
      exec (.mdpMessageRx m) s = .next (s.count Obj.MDP_RX_BAD 1)) ∧
  (∀ (c : Fin 8) (ident : Nat) (data : Bytes) (s : State),
     s.receives 0 = true → c.val = s.dict.can → bits ident 28 13 = bits s.dict.base 28 13 → bits ident 12 6 = s.dict.node → bit ident 5 = false →
      exec (.mdpSegmentRx c ident false data) s = .next (s.count Obj.MDP_RX_BAD 1)) ∧
  (∀ (c : Fin 8) (ident : Nat) (data : Bytes) (s : State),
     s.receives 0 = true → c.val = s.dict.can → bits ident 28 13 = bits s.dict.base 28 13 → bits ident 12 6 = s.dict.node → bit ident 5 = false →
      field data 0 1 = 0x80 → data.length = 64 →
      exec (.mdpSegmentRx c ident true data) s = .next { s.discardReasm (bits ident 4 0) with dict := { s.dict with
      reasm := (s.dict.reasm.filter fun r => r.client ≠ bits ident 4 0) ++ [⟨bits ident 4 0, 1, data.drop 1, s.k⟩] } }) ∧
  (∀ (c : Fin 8) (ident : Nat) (data : Bytes) (s : State),
     s.receives 0 = true → c.val = s.dict.can → bits ident 28 13 = bits s.dict.base 28 13 → bits ident 12 6 = s.dict.node → bit ident 5 = false →
      field data 0 1 = 0xC0 →
      exec (.mdpSegmentRx c ident true data) s = .next ((s.discardReasm (bits ident 4 0)).reassembled (bits ident 4 0) (data.drop 1))) ∧
  (∀ (c : Fin 8) (ident : Nat) (data : Bytes) (r : Reasm) (s : State),
     s.receives 0 = true → c.val = s.dict.can → bits ident 28 13 = bits s.dict.base 28 13 → bits ident 12 6 = s.dict.node → bit ident 5 = false →
      (s.dict.reasm.find? fun r => r.client == bits ident 4 0) = some r → r.next ≤ 20 → field data 0 1 = r.next → data.length = 64 →
      exec (.mdpSegmentRx c ident true data) s = .next { s with dict := { s.dict with
      reasm := (s.dict.reasm.filter fun r => r.client ≠ bits ident 4 0) ++ [⟨bits ident 4 0, r.next + 1, r.bytes ++ data.drop 1, s.k⟩] } }) ∧
  (∀ (c : Fin 8) (ident : Nat) (data : Bytes) (r : Reasm) (s : State),
     s.receives 0 = true → c.val = s.dict.can → bits ident 28 13 = bits s.dict.base 28 13 → bits ident 12 6 = s.dict.node → bit ident 5 = false →
      (s.dict.reasm.find? fun r => r.client == bits ident 4 0) = some r → r.next ≤ 20 → field data 0 1 = r.next + 0x40 →
      exec (.mdpSegmentRx c ident true data) s = .next (s.reassembled (bits ident 4 0) (r.bytes ++ data.drop 1))) ∧
  (∀ (c : Fin 8) (ident : Nat) (data : Bytes) (r : Reasm) (s : State),
     s.receives 0 = true → c.val = s.dict.can → bits ident 28 13 = bits s.dict.base 28 13 → bits ident 12 6 = s.dict.node → bit ident 5 = false →
      (s.dict.reasm.find? fun r => r.client == bits ident 4 0) = some r → bit (field data 0 1) 7 = false → bits (field data 0 1) 5 0 ≠ r.next →
      exec (.mdpSegmentRx c ident true data) s = .next ((s.dropReasm (bits ident 4 0)).count Obj.MDP_RX_BAD 1)) ∧
  (∀ (c : Fin 32) (s : State),
     s.running = true → (s.dict.reasm.any fun r => r.client == c.val && decide (r.last + s.dict.segTimeout < s.k)) = true →
      exec (.mdpSegTimeout c) s = .next
      ({ s with dict := { s.dict with reasm := s.dict.reasm.filter fun r => r.client ≠ c.val } }.count Obj.MDP_RX_BAD 1)) ∧
  (∀ (s : State),
     s.running = true → s.k % 4000 = 0 →
      exec .mdpTransportApply s = .next (
      let t : State := { s with dict := { s.dict with
        can := s.conf Obj.MDP_CAN_CTRL, base := s.conf Obj.MDP_CAN_BASE, node := s.conf Obj.MDP_NODE
        udpPorts := s.conf Obj.MDP_UDP_PORTS, udpPort := s.conf Obj.MDP_UDP_PORT, segTimeout := s.conf Obj.MDP_SEG_TIMEOUT } }
      let same := decide (t.dict.can = s.dict.can ∧ t.dict.base = s.dict.base ∧ t.dict.node = s.dict.node)
      let keep := fun x : Session => t.transportServed x.transport && (same || x.transport != 0)
      { t with dict := { t.dict with sessions := s.dict.sessions.filter keep, local_ := s.dict.local_.filter keep } }))

/-- OPEN of a request that is taken up and passes its checks opens a session and answers OK with its number and level. One for which there is no room is answered SESSIONS_FULL, and one whose code does not match is counted, noted for the lockout and answered CREDENTIAL. An admitted CLOSE closes its session and is answered OK. An admitted KEEPALIVE is answered OK and only serving changes the state. SESSION_TIMEOUT removes from both tables the sessions of its number without a request for SESS_TIMEOUT seconds, and changes nothing else. CREDENTIAL_LOCKOUT with five mismatches within 240000 ticks begins the lockout in this tick and reports event 1020h. LOCKOUT_END 240000 ticks after its begin ends it and forgets the mismatches. An accepted CREDENTIAL_WRITE puts the new credential into the copy not in force. An accepted SESS_CLOSE_ALL closes every session but the writing one.
Rules R81, R82, R83, R84, R85, R103. -/
def Obligations.SessionRowsTakeEffect : Prop :=
  (∀ (q : Req) (level len : Nat) (code : Bytes) (s : State),
     s.serves q = true → s.frontFormed = true → (s.takeUp q).openStatus q level len code = .ok →
      exec (.open_ q level len code) s = .next
      (((s.takeUp q).openSession q level).1.answer q 1 ((s.takeUp q).openSession q level).2 .ok (u8 level))) ∧
  (∀ (q : Req) (level len : Nat) (code : Bytes) (s : State),
     s.serves q = true → s.frontFormed = true → (s.takeUp q).openStatus q level len code = .sessionsFull →
      exec (.open_ q level len code) s = .next ((s.takeUp q).answer q 1 q.session .sessionsFull [])) ∧
  (∀ (q : Req) (level len : Nat) (code : Bytes) (s : State),
     s.serves q = true → s.frontFormed = true → (s.takeUp q).openStatus q level len code = .credential →
      exec (.open_ q level len code) s = .next (((s.takeUp q).mismatch q).answer q 1 q.session .credential [])) ∧
  (∀ (q : Req) (x : Session) (s : State),
     s.admits q x = true →
      exec (.close_ q []) s = .next (State.finish q 2 ⟨.ok, [], (s.servedBy q x).closeSession { x with last := s.k }, false⟩)) ∧
  (∀ (q : Req) (x : Session) (s : State),
     s.admits q x = true →
      exec (.keepalive q []) s = .next (State.finish q 5 ⟨.ok, [], s.servedBy q x, false⟩)) ∧
  (∀ (num : Nat) (s : State),
     s.running = true →
      ∃ t, exec (.sessionTimeout num) s = .next t ∧
    t = { s with dict := { s.dict with sessions := t.dict.sessions, local_ := t.dict.local_ } } ∧
    (∀ x, x ∈ t.dict.sessions ↔ x ∈ s.dict.sessions ∧ (x.num ≠ num ∨ s.k < x.last + 4000 * s.conf Obj.SESS_TIMEOUT)) ∧
    (∀ x, x ∈ t.dict.local_ ↔ x ∈ s.dict.local_ ∧ (x.num ≠ num ∨ s.k < x.last + 4000 * s.conf Obj.SESS_TIMEOUT))) ∧
  (∀ (s : State),
     s.running = true → 5 ≤ (s.dict.fails.filter fun t => decide (s.k < t + 240000)).length → s.dict.lockout = none →
      exec .credentialLockout s = .next ({ s with dict := { s.dict with lockout := some s.k } }.event 0 0x1020 (u8 s.dict.failTransport))) ∧
  (∀ (since : Nat) (s : State),
     s.dict.lockout = some since → since + 240000 ≤ s.k →
      exec .lockoutEnd s = .next { s with dict := { s.dict with lockout := none, fails := [] } }) ∧
  (∀ (q : Req) (x : Session) (which : Fin 2) (code : Bytes) (s : State),
     s.accepts q x (credKey which) (tyOf (credKey which)) code = true →
      exec (.credentialWrite q which code) s = .next (s.wrote q x (credKey which) code fun s => s.putCred (which + 1) code)) ∧
  (∀ (q : Req) (x : Session) (s : State),
     s.acceptsSet q x Obj.SESS_CLOSE_ALL 1 = true →
      exec (.sessCloseAll q) s = .next (s.wroteSet q x Obj.SESS_CLOSE_ALL 1 (fun s => s.closeOthers q)))

/-- An admitted READ at offset 0 of a present numeric object that may be read and whose domain is on, other than REC_WINDOW and the objects of the application, is answered OK with its type, its size and its little-endian bytes, cut to the maximum length, and only serving changes the state. One of a string or block that is there, at an offset within it, is answered with its bytes from the offset on. An accepted WRITE, its length agreeing and its chapter adding no failed check, other than of a store command or of an object of the application, has the effect of the write and is answered OK.
Rules R74, R75, R103, R104, R105. -/
def Obligations.ReadAndWriteRowsTakeEffect : Prop :=
  (∀ (q : Req) (x : Session) (ix sub maxLen : Nat) (r : ObjRow) (s : State),
     s.admits q x = true → sub < 256 → ix * 256 + sub ≠ Obj.REC_WINDOW → s.oemIndex ix = false → s.presentRow (ix * 256 + sub) = some r →
      r.acc ≠ .wo → r.acc ≠ .cmd → r.ty ≠ .str → r.ty ≠ .block → s.readOff r (ix * 256 + sub) = false →
      exec (.read q ix sub 0 maxLen) s = .next (State.finish q 3 ⟨.ok,
      readReply r.ty.code r.ty.size ((leBytes r.ty.size ((s.servedBy q x).readNum q (ix * 256 + sub))).take (min maxLen 1256)),
      s.servedBy q x, false⟩)) ∧
  (∀ (q : Req) (x : Session) (ix sub offset maxLen : Nat) (b : Bytes) (r : ObjRow) (s : State),
     s.admits q x = true → sub < 256 → ix * 256 + sub ≠ Obj.REC_WINDOW → s.oemIndex ix = false → s.presentRow (ix * 256 + sub) = some r →
      r.acc ≠ .wo → r.acc ≠ .cmd → (r.ty = .str ∨ r.ty = .block) → s.readOff r (ix * 256 + sub) = false →
      (s.servedBy q x).readBlob (ix * 256 + sub) = some b → offset ≤ b.length →
      exec (.read q ix sub offset maxLen) s = .next (State.finish q 3 ⟨.ok,
      readReply r.ty.code b.length ((b.drop offset).take (min maxLen 1256)), s.servedBy q x, false⟩)) ∧
  (∀ (q : Req) (x : Session) (ix sub ty : Nat) (b : Bytes) (s : State),
     s.accepts q x (ix * 256 + sub) ty b = true → sub < 256 → s.oemIndex ix = false → ix * 256 + sub ≠ Obj.STORE_ALL →
      ix * 256 + sub ≠ Obj.STORE_GROUP → ix * 256 + sub ≠ Obj.STORE_DEFAULTS → (s.servedBy q x).writeExtra (ix * 256 + sub) b = {} →
      exec (.write q ix sub ty b.length b) s = .next (s.wrote q x (ix * 256 + sub) b fun s => s.applyWrite (some q) (ix * 256 + sub) b))

/-- An accepted STORE_ALL, where no store runs or waits, no update is in states 05h to 08h and the supply is not low, begins a store of everything whose answer follows later. With the supply low it is deferred and answered STORE_DEFERRED. An accepted STORE_GROUP begins under the same conditions a store of its group. An accepted STORE_DEFAULTS writes the defaults. STORE_COMPLETE without a mismatch ends the running store with its header, and answers OK to the request that began it. With one in step 3 or 4 the store of a module that is no standby ends with STORE_STATUS 04h, event 1022h with that step, and the answer STORE_FAILED. STORE_DEFERRED_BEGIN begins a deferred store once SUPPLY_STATE is 00h, at the start of the tick and now.
Rules R86, R87, R88, R89, R90, R91, R93, R557. -/
def Obligations.StoreRowsTakeEffect : Prop :=
  (∀ (q : Req) (x : Session) (s : State),
     s.acceptsSet q x Obj.STORE_ALL 1 = true → s.storeExtra = {} → s.supplyLow = false →
      exec (.storeAll q) s = .next (State.finish q 4 ⟨.ok, [], ((s.servedBy q x).slice Obj.STORE_ALL (u16 1)).beginStore 0 (some q), true⟩)) ∧
  (∀ (q : Req) (x : Session) (s : State),
     s.acceptsSet q x Obj.STORE_ALL 1 = true → s.storeExtra = {} → s.supplyLow = true →
      exec (.storeAll q) s = .next (State.finish q 4 ⟨.storeDeferred, [], ((s.servedBy q x).slice Obj.STORE_ALL (u16 1)).askStore 0 (some q), false⟩)) ∧
  (∀ (q : Req) (x : Session) (g : Nat) (s : State),
     s.acceptsSet q x Obj.STORE_GROUP g = true → s.storeExtra = {} → s.supplyLow = false →
      exec (.storeGroup q g) s = .next (State.finish q 4 ⟨.ok, [], ((s.servedBy q x).slice Obj.STORE_GROUP (u8 g)).beginStore g (some q), true⟩)) ∧
  (∀ (q : Req) (x : Session) (s : State),
     s.acceptsSet q x Obj.STORE_DEFAULTS 1 = true →
      exec (.storeDefaults q) s = .next (s.wroteSet q x Obj.STORE_DEFAULTS 1 (fun s => s.storeDefaults (some q)))) ∧
  (∀ (r : StoreRun) (s : State),
     s.running = true → s.store.run = some r →
      exec (.storeComplete none) s = .next ((s.completeStore r).storeAnswer r .ok)) ∧
  (∀ (r : StoreRun) (i : Fin 2) (s : State),
     s.running = true → s.store.run = some r → s.standby = false →
      exec (.storeComplete (some i)) s = .next
      (((({ s with store := { s.store with run := none } }).set Obj.STORE_STATUS 4).event 0 0x1022 (u8 (3 + i))).storeAnswer r .storeFailed)) ∧
  (∀ (r : StoreRun) (s : State),
     s.running = true → s.store.deferred = some r → s.get Obj.SUPPLY_STATE = 0 → s.conf Obj.SUPPLY_STATE = 0 →
      exec .storeDeferredBegin s = .next (s.beginStore r.group none))

/-- An accepted MODE_WRITE of a mode object sets it, clears its misses and marks it for the next run. ASSISTED_FALLBACK after the third miss in mode 01h writes the state object 02h, shown from the next tick, and reports event 1023h of the mode object. ASSISTED_FAULT after the third miss in mode 02h writes it 03h and reports event 1024h, and for the stage model stops the ledger's forecast besides.
Rules R36, R96, R98, R99, R155. -/
def Obligations.FunctionModeRowsTakeEffect : Prop :=
  (∀ (q : Req) (x : Session) (key v : Nat) (s : State),
     isMode key = true → s.acceptsSet q x key v = true →
      exec (.modeWrite q key v) s = .next (s.wroteSet q x key v fun s => s.writeMode key v)) ∧
  (∀ (key : Nat) (s : State),
     isMode key = true → s.thirdMiss key 1 = true →
      exec (.assistedFallback key) s = .next ((s.write (key + 1) 2 true).event 0 0x1023 (u16 (key / 256) ++ u8 key))) ∧
  (∀ (key : Nat) (s : State),
     isMode key = true → s.thirdMiss key 2 = true → key ≠ Obj.CRB_MODEL_MODE →
      exec (.assistedFault key) s = .next ((s.write (key + 1) 3 true).event 0 0x1024 (u16 (key / 256) ++ u8 key))) ∧
  (∀ (s : State),
     s.thirdMiss Obj.CRB_MODEL_MODE 2 = true →
      exec (.assistedFault Obj.CRB_MODEL_MODE) s = .next
      (((s.write (Obj.CRB_MODEL_MODE + 1) 3 true).event 0 0x1024 (u16 (Obj.CRB_MODEL_MODE / 256) ++ u8 Obj.CRB_MODEL_MODE)).clearLedger))

/-- An accepted CRB_ENABLE with a stage graph that passes its checks enables the ledger. An accepted CRB_DISABLE disables it, CRB_CLEAR closes every open crumb and YS_SEAL writes the open page; each takes the write verifications that fail as its operand says, and the objects of the store follow from the next tick. LEDGER_RUN that is due in an acting module takes the ledger's step with those verifications and marks the unit as run. CHECKPOINT_COMPLETE writes the header of the copy under way, leaves the other, and ends the writing. CRB_REDUCED_END at its tick or later writes CRB_REDUCED 0 for the next tick. An accepted YS_SET_MARK from the mark to the newest page sets the mark and erases what it frees.
Rules R122, R124, R125, R126, R140, R151, R152, R158. -/
def Obligations.LedgerRowsTakeEffect : Prop :=
  (∀ (q : Req) (x : Session) (s : State),
     s.acceptsSet q x Obj.CRB_ENABLE 1 = true → graphErr s.get = 0 →
      exec (.crbEnable q) s = .next (s.wroteSet q x Obj.CRB_ENABLE 1 (fun s => s.enableLedger))) ∧
  (∀ (q : Req) (x : Session) (fails : List Nat) (s : State),
     s.acceptsSet q x Obj.CRB_ENABLE 0 = true →
      exec (.crbDisable q fails) s = .next (s.wroteSet q x Obj.CRB_ENABLE 0 (fun s =>
      let u := (s.setYs { s.led.ys with fails := fails }).disableLedger
      (u.setYs { u.led.ys with fails := [] }).showYs))) ∧
  (∀ (q : Req) (x : Session) (fails : List Nat) (s : State),
     s.acceptsSet q x Obj.CRB_CLEAR 1 = true →
      exec (.crbClear q fails) s = .next (s.wroteSet q x Obj.CRB_CLEAR 1 (fun s =>
      let u := (s.setYs { s.led.ys with fails := fails }).closeAll
      (u.setYs { u.led.ys with fails := [] }).showYs))) ∧
  (∀ (q : Req) (x : Session) (fails : List Nat) (s : State),
     s.acceptsSet q x Obj.YS_SEAL 1 = true →
      exec (.ysSeal q fails) s = .next (s.wroteSet q x Obj.YS_SEAL 1 (fun s =>
      let u := (s.setYs { s.led.ys with fails := fails }).sealOpen
      (u.setYs { u.led.ys with fails := [] }).showYs))) ∧
  (∀ (fails : List Nat) (s : State),
     s.ledgerDue = true → s.acting = true →
      exec (.ledgerRun fails) s = .next (
      let t := (s.setYs { s.led.ys with fails := fails }).ledgerStep
      (t.setYs { t.led.ys with fails := [] }).ranUnit ledgerUnit)) ∧
  (∀ (b : Bool) (s : State),
     s.running = true → s.led.ckRun = some b →
      exec .checkpointComplete s = .next { s with led := { s.led with
      ckRun := none, ckA := if b then s.led.ckA else s.led.ckA.map Ckpt.seal, ckB := if b then s.led.ckB.map Ckpt.seal else s.led.ckB } }) ∧
  (∀ (until_ : Nat) (s : State),
     s.running = true → s.led.reducedUntil = some until_ → until_ ≤ s.k →
      exec .crbReducedEnd s = .next { s.write Obj.CRB_REDUCED 0 true with led := { s.led with reducedUntil := none } }) ∧
  (∀ (q : Req) (x : Session) (seq : Nat) (s : State),
     s.acceptsSet q x Obj.YS_SET_MARK seq = true → s.led.ys.markOk seq = true →
      exec (.ysSetMark q seq) s = .next (s.wroteSet q x Obj.YS_SET_MARK seq (fun s => s.putMark seq)))

/-- SLOT_RUN of a slot whose turn it is, that no policy stops and whose measurement has not timed out, runs its law; of one that faulted ancestors stop, it stops it; of one whose measurement times out, it faults it with code 04h, as PV_TIMEOUT_FAULT does; each marks the unit as run. FF_TERM_DROP in a run of such a slot in which a term that is invalid times out, neither an initial state nor a write ending it, moves its held value into I. An accepted UNIT_ENABLE of a unit without a parent whose checks pass enables it, and UNIT_DISABLE disables it. An accepted UNIT_RESET, while no engine of a slot below the unit is faulted, resets it. An accepted TPL_BUILD whose result code is 00h builds the template that TPL_NUMBER names and sets TPL_RESULT 0. An accepted TEMPLATE_REMOVE removes the template marks of its assembly.
Rules R163, R167, R175, R176, R179, R180, R181, R192, R195, R196, R198. -/
def Obligations.LoopRowsTakeEffect : Prop :=
  (∀ (n : Fin 48) (us : Nat) (s : State),
     s.slotTurn n = true → s.slotStops n = false → s.pvTimedOut n = false →
      exec (.slotRun n us) s = .next ((s.slotLaw n us).ranUnit n)) ∧
  (∀ (n : Fin 48) (us : Nat) (s : State),
     s.slotTurn n = true → s.slotStops n = true →
      exec (.slotRun n us) s = .next ((s.slotStopped n).ranUnit n)) ∧
  (∀ (n : Fin 48) (us : Nat) (s : State),
     s.slotTurn n = true → s.slotStops n = false → s.pvTimedOut n = true →
      exec (.slotRun n us) s = .next ((s.faultSlot n 4).ranUnit n)) ∧
  (∀ (n : Fin 48) (s : State),
     s.slotTurn n = true → s.slotStops n = false → s.pvTimedOut n = true →
      exec (.pvTimeoutFault n) s = .next ((s.faultSlot n 4).ranUnit n)) ∧
  (∀ (n : Fin 48) (term : Fin 2) (s : State),
     s.slotTurn n = true → s.slotStops n = false → s.pvTimedOut n = false → s.ffDrops n term = true →
      exec (.ffTermDrop n term) s = .next (s.dropTerm n term)) ∧
  (∀ (q : Req) (x : Session) (u : Nat) (s : State),
     s.acceptsSet q x (enableKey u) 1 = true → s.parent u = none → (s.servedBy q x).unitCheck u = none →
      exec (.unitEnable q u) s = .next (s.wroteSet q x (enableKey u) 1 fun s => s.enableUnit u)) ∧
  (∀ (q : Req) (x : Session) (u : Nat) (s : State),
     s.acceptsSet q x (enableKey u) 0 = true → s.parent u = none →
      exec (.unitDisable q u) s = .next (s.wroteSet q x (enableKey u) 0 fun s => s.disableUnit u)) ∧
  (∀ (q : Req) (x : Session) (u : Nat) (s : State),
     s.acceptsSet q x (unitKey u 0x1D) 1 = true →
      (((s.servedBy q x).below 257 u).any fun v => decide (v < 48) && bit (s.get Obj.TICK_ENGINE_FAULT) (engineOf v)) = false →
      exec (.unitReset q u) s = .next (s.wroteSet q x (unitKey u 0x1D) 1 fun s => s.resetUnit u)) ∧
  (∀ (q : Req) (x : Session) (t : Tpl) (s : State),
     s.acceptsSet q x Obj.TPL_BUILD 1 = true → (s.servedBy q x).tplCode = 0 → templateOf (s.get Obj.TPL_NUMBER) = some t →
      exec (.tplBuild q) s = .next (s.wroteSet q x Obj.TPL_BUILD 1 fun s => (s.buildTemplate (s.get Obj.TPL_NUMBER) t).set Obj.TPL_RESULT 0)) ∧
  (∀ (q : Req) (x : Session) (a : Fin 256) (s : State),
     s.acceptsSet q x (Obj.TP_NUMBER a) 0 = true → (s.servedBy q x).templateExtra a 0 = {} →
      exec (.templateRemove q a) s = .next (s.wroteSet q x (Obj.TP_NUMBER a) 0 fun s => s.removeTemplate a))

/-- SUPERVISOR_STEP that is due takes the supervisor's step and marks the unit as run. WINDOW_VOID voids a window that is not complete SUP_WINDOW_MAX ticks after it opened. SETTLE_END in state 03h, SUP_SETTLE ticks after its entry, enters 02h after a revert and else 04h. REST_END in state 06h, SUP_RETRY ticks after its entry, clears the tried set and enters 02h. An accepted TGT_BASE_WRITE within the limits of its target sets the base and notes the write for the supervisor. Accepted writes of SUP_LOCK and of false to SUP_ENABLE set the object and nothing more. An accepted SUP_ADOPT copies TGT_NOW into TGT_BASE for the unlocked targets.
Rules R207, R208, R211, R214. -/
def Obligations.SupervisorRowsTakeEffect : Prop :=
  (∀ (s : State),
     s.supDue = true →
      exec .supervisorStep s = .next (s.supStep.ranUnit supUnit)) ∧
  (∀ (w : Window) (s : State),
     s.running = true → s.acting = true → s.sup.window = some w → w.open_ + s.conf Obj.SUP_WINDOW_MAX ≤ s.k → w.complete = false →
      exec .windowVoid s = .next s.voidWindow) ∧
  (∀ (s : State),
     s.running = true → s.acting = true → s.supState = 3 → s.sup.since + s.conf Obj.SUP_SETTLE ≤ s.k →
      exec .settleEnd s = .next (s.toSup (if s.sup.toBaseline then 2 else 4))) ∧
  (∀ (s : State),
     s.running = true → s.acting = true → s.supState = 6 → s.sup.since + s.conf Obj.SUP_RETRY ≤ s.k →
      exec .restEnd s = .next ({ s with sup := { s.sup with tried := 0 } }.toSup 2)) ∧
  (∀ (q : Req) (x : Session) (i : Fin 5) (v : Nat) (s : State),
     s.acceptsSet q x (Obj.TGT_BASE i) v = true → targetOk (s.get (Obj.TGT_MIN i)) v (s.get (Obj.TGT_MAX i)) = true →
      exec (.tgtBaseWrite q i v) s = .next (s.wroteSet q x (Obj.TGT_BASE i) v (fun s => s.writeBase i v))) ∧
  (∀ (q : Req) (x : Session) (v : Nat) (s : State),
     s.acceptsSet q x Obj.SUP_LOCK v = true →
      exec (.supLockWrite q v) s = .next (s.wroteSet q x Obj.SUP_LOCK v (fun s => s.set Obj.SUP_LOCK v))) ∧
  (∀ (q : Req) (x : Session) (s : State),
     s.acceptsSet q x Obj.SUP_ENABLE 0 = true →
      exec (.supEnableOff q) s = .next (s.wroteSet q x Obj.SUP_ENABLE 0 (fun s => s.set Obj.SUP_ENABLE 0))) ∧
  (∀ (q : Req) (x : Session) (s : State),
     s.acceptsSet q x Obj.SUP_ADOPT 1 = true →
      exec (.supAdopt q) s = .next (s.wroteSet q x Obj.SUP_ADOPT 1 (fun s => s.adopt)))

/-- IMPACT_START with the samples that bring an input to the one at its offset, of which the last alone does something and starts an impact, answers the state that the detector run on them leaves. IMPACT_END does so where the last sample ends one by the release level, IMPACT_MAX_LEN where it ends one by its length. LS_DETECTOR_RESTART after the tick of the change clears filters and envelope, and discards and counts an impact in progress.
Rules R222, R223, R224, R225. -/
def Obligations.LossSensorRowsTakeEffect : Prop :=
  (∀ (n : Fin 16) (us : Nat) (samples : List Int) (last : Int) (s : State),
     s.lsReaches n us (samples ++ [last]) .started = true →
      exec (.impactStart n us samples last) s = .next (s.lsTake n (s.lsRun n (samples ++ [last])))) ∧
  (∀ (n : Fin 16) (us : Nat) (samples : List Int) (last : Int) (s : State),
     s.lsReaches n us (samples ++ [last]) .ended = true →
      exec (.impactEnd n us samples last) s = .next (s.lsTake n (s.lsRun n (samples ++ [last])))) ∧
  (∀ (n : Fin 16) (us : Nat) (samples : List Int) (s : State),
     s.lsReaches n us samples .forced = true →
      exec (.impactMaxLen n us samples) s = .next (s.lsTake n (s.lsRun n samples))) ∧
  (∀ (n : Fin 16) (since : Nat) (s : State),
     s.running = true → (s.ls n).restart = some since → since < s.k → (s.ls n).impact.isSome = true →
      exec (.lsDetectorRestart n) s = .next ((s.count (Obj.LS_DISCARDED n) 1).setLs n { s.ls n with
      hp := (0, 0), lp := (0, 0), env := 0, impact := none, restart := none, restarted := true })) ∧
  (∀ (n : Fin 16) (since : Nat) (s : State),
     s.running = true → (s.ls n).restart = some since → since < s.k → (s.ls n).impact = none →
      exec (.lsDetectorRestart n) s = .next (s.setLs n { s.ls n with
      hp := (0, 0), lp := (0, 0), env := 0, impact := none, restart := none, restarted := true }))

/-- An accepted UI_MODE_WRITE that the pair of inputs allows sets the mode. UI_SETTLE_END 16 ticks after the mode took effect ends the settling. SHUNT_DISCONNECT of a current input 2 ticks above 25 mA disconnects the shunt, clears the filter, and writes the entry of the tick again with the raw value and status bit 3; a late entry keeps its values. SHUNT_RECONNECT 4000 ticks later connects it. UI_DEBOUNCE_CHANGE of a digital input whose level has differed in UI_DEBOUNCE + 1 windows, its entry not late, writes the entry with the new level. An accepted UI_COUNT_SET of an even input in mode 07h sets its count.
Rules R229, R232, R233, R235. -/
def Obligations.UniversalInputRowsTakeEffect : Prop :=
  (∀ (q : Req) (x : Session) (n : Fin 48) (m : Nat) (s : State),
     s.acceptsSet q x (Obj.UI_MODE n) m = true → (s.servedBy q x).uiModeExtra n m = {} →
      exec (.uiModeWrite q n m) s = .next (s.wroteSet q x (Obj.UI_MODE n) m fun s => s.uiMode n m)) ∧
  (∀ (n : Fin 48) (since : Nat) (s : State),
     s.running = true → (s.ui n).settle = some since → since + 16 ≤ s.k →
      exec (.uiSettleEnd n) s = .next (s.setUi n { s.ui n with settle := none })) ∧
  (∀ (n : Fin 48) (s : State),
     s.running = true → s.uiOn n = true → s.conf (Obj.UI_MODE n) = 3 → 2 ≤ (s.ui n).overC → (s.ui n).shunt = none → s.uiLateNow n = false →
      exec (.shuntDisconnect n) s = .next ((s.setUi n { s.ui n with shunt := some s.k, overC := 0, y := none }).uiRewrite n (s.ui n).raw
      (setBit (s.get (Obj.UI_STATUS n) &&& 0xFFC) 3 true ||| 2 * boolNat (decide (21 < f32rat (s.ui n).raw))))) ∧
  (∀ (n : Fin 48) (s : State),
     s.running = true → s.uiOn n = true → s.conf (Obj.UI_MODE n) = 3 → 2 ≤ (s.ui n).overC → (s.ui n).shunt = none → s.uiLateNow n = true →
      exec (.shuntDisconnect n) s = .next (s.setUi n { s.ui n with shunt := some s.k, overC := 0, y := none })) ∧
  (∀ (n : Fin 48) (since : Nat) (s : State),
     s.running = true → (s.ui n).shunt = some since → since + 4000 ≤ s.k →
      exec (.shuntReconnect n) s = .next (s.setUi n { s.ui n with shunt := none, overC := 0 })) ∧
  (∀ (n : Fin 48) (s : State),
     s.running = true → s.uiOn n = true → s.conf (Obj.UI_MODE n) = 5 → s.uiLateNow n = false → s.conf (Obj.UI_DEBOUNCE n) + 1 ≤ (s.ui n).diff →
      exec (.uiDebounceChange n) s = .next ((s.setUi n { s.ui n with diff := 0 }).uiRewrite n (if (s.ui n).level then 0x3F800000 else 0)
      (s.get (Obj.UI_STATUS n) &&& 0xFFC))) ∧
  (∀ (q : Req) (x : Session) (n : Fin 48) (v : Int) (s : State),
     s.acceptsSet q x (Obj.UI_COUNT_SET n) (encInt 32 v) = true → s.get (Obj.UI_MODE n) = 7 → n.val % 2 = 0 →
      exec (.uiCountSet q n v) s = .next (s.wroteSet q x (Obj.UI_COUNT_SET n) (encInt 32 v) fun s => s.uiSetCount n (decInt 32 (encInt 32 v))))

/-- SS_LIMIT_TRIP of a supply 40 ticks in limit counts the trip and enters 03h, or 04h where no retry is left. SS_RETRY in 03h after SS_RETRY ticks enters 01h and consumes a retry. An accepted SS_REARM in 04h rearms the supply.
Rule R238. -/
def Obligations.SensorSupplyRowsTakeEffect : Prop :=
  (∀ (n : Fin 4) (s : State),
     s.running = true → s.get (Obj.SS_STATE n) = 2 → 40 ≤ (s.ss n).limit →
      exec (.ssLimitTrip n) s = .next (((s.setSs n { s.ss n with limit := 0, since := s.k }).count (Obj.SS_TRIPS n) 1).set (Obj.SS_STATE n)
      (if s.get (Obj.SS_LEFT n) = 0 then 4 else 3))) ∧
  (∀ (n : Fin 4) (s : State),
     s.running = true → s.get (Obj.SS_STATE n) = 3 → (s.ss n).since + s.conf (Obj.SS_RETRY n) ≤ s.k →
      exec (.ssRetry n) s = .next ((s.set (Obj.SS_STATE n) 1).set (Obj.SS_LEFT n) (s.get (Obj.SS_LEFT n) - 1))) ∧
  (∀ (q : Req) (x : Session) (n : Fin 4) (s : State),
     s.acceptsSet q x (Obj.SS_REARM n) 1 = true → s.get (Obj.SS_STATE n) = 4 →
      exec (.ssRearm q n) s = .next (s.wroteSet q x (Obj.SS_REARM n) 1 (fun s => s.ssRearm n)))

/-- CURRENT_LIMIT_TURNOFF of a switch that conducts, 200 µs to 204 µs in limit, turns it off, notes the turn-off and its edge, and changes nothing else. THERMAL_LATCH_SET at a die temperature from 170 °C to 180 °C sets a clear latch and turns the switch off, noting turn-off and edge where it conducted. THERMAL_LATCH_CLEAR below 150 °C clears the latch and changes nothing else.
Rules R257, R258. -/
def Obligations.LayerTwoRowsTakeEffect : Prop :=
  (∀ (n : Fin 128) (us : Nat) (s : State),
     s.conducts n = true → 200 ≤ us → us ≤ 204 →
      exec (.currentLimitTurnoff n us) s = .next (s.setCh n { s.ch n with on := false, offCl := true, edge := true })) ∧
  (∀ (n : Fin 128) (temp : Rat) (s : State),
     170 ≤ temp → temp ≤ 180 → (s.ch n).latch = false →
      exec (.thermalLatchSet n temp) s = .next (s.setCh n { s.ch n with
      latch := true, on := false, offTh := (s.ch n).offTh || s.conducts n, edge := (s.ch n).edge || s.conducts n })) ∧
  (∀ (n : Fin 128) (temp : Rat) (s : State),
     temp < 150 → (s.ch n).latch = true →
      exec (.thermalLatchClear n temp) s = .next (s.setCh n { s.ch n with latch := false }))

/-- PWM_PERIOD_START at the phase of a channel that the boundary found in 01h, with a freewheel, begins the period with the demand taken in the tick before. Without a freewheel and with a duty above 0 % and below 100 % it estimates the clamp energy and refuses PWM where that exceeds the repetitive limit, else begins the period. In a pair hold, and where the lease has lapsed or a reset is entered, it begins the period with the duty applied last. SWITCH_OFF_EDGE of a channel with an edge, or whose on-time ends, turns it off, notes the on-current of the window's edge (at the boundary keeps that before), sets CH_E_OFF to the clamp estimate and bit 12 to whether it exceeds the single limit without a freewheel, which event 3002h reports.
Rules R252, R253, R273, R275, R276, R288. -/
def Obligations.SwitchEdgeRowsTakeEffect : Prop :=
  (∀ (n : Fin 128) (s : State),
     s.pwmDue n = true → s.swActs = true → s.pair.hold = none → s.unapplied s.k = false → (s.ch n).was = 1 → s.confFlag (Obj.CH_FREEWHEEL n) = true →
      exec (.pwmPeriodStart n) s = .next (s.pwmBegin n (s.ch n).taken)) ∧
  (∀ (n : Fin 128) (s : State),
     s.pwmDue n = true → s.swActs = true → s.pair.hold = none → s.unapplied s.k = false → (s.ch n).was = 1 → s.confFlag (Obj.CH_FREEWHEEL n) = false →
      f32lt 0 (s.ch n).taken = true → f32lt (s.ch n).taken 0x42C80000 = true →
      exec (.pwmPeriodStart n) s = .next (if chRepetitive n < f32rat (s.energy n (s.offCurrent n)).1
      then (s.energy n (s.offCurrent n)).2.pwmRefuse n (s.energy n (s.offCurrent n)).1
      else (s.energy n (s.offCurrent n)).2.pwmBegin n (s.ch n).taken)) ∧
  (∀ (n : Fin 128) (s : State),
     s.pwmDue n = true → (s.pair.hold.isSome = true ∨ s.unapplied s.k = true) → f32lt 0 (s.ch n).duty = true →
      exec (.pwmPeriodStart n) s = .next (s.pwmBegin n (s.ch n).duty)) ∧
  (∀ (n : Fin 128) (current ton : Nat) (s : State),
     ((s.ch n).edge = true ∨ s.pwmEnds n = true) →
      exec (.switchOffEdge n current ton) s = .next (
      let i := f32rat current * 250 / ton
      let t := s.setCh n { s.ch n with
        on := (s.ch n).on && !s.pwmEnds n, edge := false, onCurrent := if ton = 0 then (s.ch n).onCurrent else some (ratF32 i) }
      let e := t.energy n (if ton = 0 then t.offCurrent n else i)
      let u := e.2.set (Obj.CH_E_OFF n) e.1
      let high := !u.confFlag (Obj.CH_FREEWHEEL n) && decide (chSingle n < f32rat e.1)
      if high then (u.chBit n 12 true).event 8 0x3002 (u8 n ++ u32 e.1) else u.chBit n 12 false))

/-- CHANNEL_RESTART of an enabled channel in 02h, 03h or 04h whose demand asks for it, CH_RETRY_DELAY ticks after the trip, a retry left, no latch and the fuse permitting, consumes the retry and switches on. RETRY_RESTORE in 01h after CH_RETRY_RESET ticks without a trip restores the retries. An accepted CH_REARM marks its channel for the end of the next tick, BANK_REARM each of the bank's 16. ASSISTED_FUSE_TRIP in the run after the one that faulted a bank's fuse decision trips with cause 05h the bank's channels in 01h that nothing else takes in the tick. An accepted CH_OL_LEARN with CH_FINE true starts learning. OL_LEARN_COMPLETE after 400 ticks sets CH_OL_EXPECT to their mean in mA and clears bit 15.
Rules R265, R268, R269, R270, R278. -/
def Obligations.WireFuseRowsTakeEffect : Prop :=
  (∀ (n : Fin 128) (s : State),
     s.swActs = true → (s.get (Obj.CH_FUSE_STATE n) = 2 ∨ s.get (Obj.CH_FUSE_STATE n) = 3 ∨ s.get (Obj.CH_FUSE_STATE n) = 4) →
      (s.ch n).changed = false → s.confFlag (Obj.CH_ENABLE n) = true → s.chAsked n = true → (s.ch n).since + s.conf (Obj.CH_RETRY_DELAY n) ≤ s.k →
      0 < s.get (Obj.CH_RETRY_LEFT n) → s.latchShown n = false → s.permits n = true →
      exec (.channelRestart n) s = .next ((s.set (Obj.CH_RETRY_LEFT n) (s.get (Obj.CH_RETRY_LEFT n) - 1)).switchOn n)) ∧
  (∀ (n : Fin 128) (s : State),
     s.swActs = true → s.get (Obj.CH_FUSE_STATE n) = 1 → s.conf (Obj.CH_RETRY_RESET n) ≤ (s.ch n).onTicks → s.tripSeen n = false →
      exec (.retryRestore n) s = .next (s.set (Obj.CH_RETRY_LEFT n) (s.conf (Obj.CH_RETRIES n)))) ∧
  (∀ (q : Req) (x : Session) (n : Fin 128) (s : State),
     s.acceptsSet q x (Obj.CH_REARM n) 1 = true →
      exec (.chRearm q n) s = .next (s.wroteSet q x (Obj.CH_REARM n) 1 (fun s => s.setCh n { s.ch n with rearm := true }))) ∧
  (∀ (q : Req) (x : Session) (b : Fin 8) (s : State),
     s.acceptsSet q x (Obj.BANK_REARM b) 1 = true →
      exec (.bankRearm q b) s = .next (s.wroteSet q x (Obj.BANK_REARM b) 1 (fun s => (bankChannels b).foldl (fun s n => s.setCh n { s.ch n with rearm := true }) s))) ∧
  (∀ (b : Fin 8) (s : State),
     s.fuseTripDue b = true →
      exec (.assistedFuseTrip b) s = .next ((bankChannels b).foldl (fun s n =>
      if s.get (Obj.CH_FUSE_STATE n) = 1 ∧ (s.ch n).changed = false ∧ (s.ch n).seenCl = false ∧ (s.ch n).seenTh = false
      then s.trip n 5 else s) (s.setBank b { s.bank b with faultAt := none }))) ∧
  (∀ (q : Req) (x : Session) (n : Fin 128) (s : State),
     s.acceptsSet q x (Obj.CH_OL_LEARN n) 1 = true → s.flag (Obj.CH_FINE n) = true →
      exec (.chOlLearn q n) s = .next (s.wroteSet q x (Obj.CH_OL_LEARN n) 1 (fun s => s.setCh n { s.ch n with learn := some (0, 0), learnAt := s.k }))) ∧
  (∀ (n : Fin 128) (k sum : Nat) (s : State),
     s.running = true → (s.ch n).learn = some (k, sum) → 400 ≤ k →
      exec (.olLearnComplete n) s = .next (((s.setCh n { s.ch n with learn := none }).set (Obj.CH_OL_EXPECT n)
      (ratF32 (sum / 50 / k))).chBit n 15 false))

/-- BANK_UNDERVOLTAGE after 4 evaluated ticks below the level sets bit 3 of BANK_STATUS and nothing else. CHANNEL_RESTORE of the channel that may be restored notes the tick and takes the rules of 00h. DIP_SHED after the tick that reported a dip sheds in every bank the channels of priority 4 to 7 in 01h that trip for no other cause, notes them, and sets bit 5 of BANK_STATUS.
Rules R281, R284, R286. -/
def Obligations.BankRowsTakeEffect : Prop :=
  (∀ (b : Fin 8) (s : State),
     s.swActs = true → 4 ≤ (s.bank b).underC →
      exec (.bankUndervoltage b) s = .next (s.set (Obj.BANK_STATUS b) (setBit (s.get (Obj.BANK_STATUS b)) 3 true))) ∧
  (∀ (b : Fin 8) (n : Fin 128) (s : State),
     s.swActs = true → s.restorable b = some n.val →
      exec (.channelRestore b n) s = .next ((s.setBank b { s.bank b with restoreAt := some s.k }).zeroRules n)) ∧
  (∀ (since : Nat) (s : State),
     s.swActs = true → s.sw.dipReported = some since → since < s.k →
      exec .dipShed s = .next ((List.range 8).foldl (fun s b =>
      let l := (bankChannels b).filter fun n => s.get (Obj.CH_FUSE_STATE n) == 1 && !(s.ch n).changed &&
        decide (4 ≤ s.conf (Obj.CH_PRIORITY n)) && !s.tripSeen n
      ((l.foldl State.shed s).setBank b { (l.foldl State.shed s).bank b with
        dipShed := ((l.foldl State.shed s).bank b).dipShed ++ l }).bankBit b 5 true) s))

/-- VALVE_EVENT, an event of a live drive whose instant and turn have come, no open coil found at that instant, of a channel that is no pair: starts the profile in 00h; counts a retrigger in 01h and 02h, where only an injector event is renewed; counts it and starts anew in 03h to 07h. Of a pair that conducts it switches off and holds the event in 07h; one in 07h, or off for less than VD_MIN_OFF, holds it with the group switch on; else the profile starts. BOOST_END in 02h at the peak current or after VD_BOOST_TIME notes the boost time, with flag bit 1 below the peak, goes on after the boost and releases the rail; below a tenth of the peak it faults the channel with 01h. PEAK_END in 03h after VD_PEAK_TIME goes on after the peak. TRANSITION_END in 04h at the hold target enters hold. INJECTOR_EVENT_END after the event's length switches the channel off. SWITCH_OFF_COMPLETE in 06h below 20 mA enters 00h. PAIR_MIN_OFF_END in 07h after VD_MIN_OFF starts the held event. An accepted VD_RETRIGGER of an on/off channel that is commanded on sets its event.
Rules R303, R304, R305, R307, R308, R309. -/
def Obligations.ValveEventRowsTakeEffect : Prop :=
  (∀ (n : Fin 48) (at_ : Nat) (len : Option Nat) (s : State),
     (s.vd n).event = some (at_, len) → s.vdLive = true → s.pair.hold = none → at_ < 250 * (s.k + 1) → s.eventTurn n = true →
      (¬ (s.openCoil n = true ∧ at_ = 250 * s.k)) → s.paralleled n = false → (s.vd n).st = 0 →
      exec (.valveEvent n) s = .next ((s.setVd n { s.vd n with event := none }).startProfile n (max at_ (250 * s.k)) len)) ∧
  (∀ (n : Fin 48) (at_ : Nat) (len : Option Nat) (s : State),
     (s.vd n).event = some (at_, len) → s.vdLive = true → s.pair.hold = none → at_ < 250 * (s.k + 1) → s.eventTurn n = true →
      (¬ (s.openCoil n = true ∧ at_ = 250 * s.k)) → s.paralleled n = false → ((s.vd n).st = 1 ∨ (s.vd n).st = 2) →
      exec (.valveEvent n) s = .next ((s.setVd n { s.vd n with event := none }).setVd n { s.vd n with
      event := none, retrigs := up32 (s.vd n).retrigs, inj := match len with | some l => some (max at_ (250 * s.k), l) | none => (s.vd n).inj })) ∧
  (∀ (n : Fin 48) (at_ : Nat) (len : Option Nat) (s : State),
     (s.vd n).event = some (at_, len) → s.vdLive = true → s.pair.hold = none → at_ < 250 * (s.k + 1) → s.eventTurn n = true →
      (¬ (s.openCoil n = true ∧ at_ = 250 * s.k)) → s.paralleled n = false → 3 ≤ (s.vd n).st → (s.vd n).st ≤ 7 →
      exec (.valveEvent n) s = .next (((s.setVd n { s.vd n with event := none }).setVd n { s.vd n with
      event := none, retrigs := up32 (s.vd n).retrigs }).startProfile n (max at_ (250 * s.k)) len)) ∧
  (∀ (n : Fin 48) (at_ : Nat) (len : Option Nat) (s : State),
     (s.vd n).event = some (at_, len) → s.vdLive = true → s.pair.hold = none → at_ < 250 * (s.k + 1) → s.eventTurn n = true →
      (¬ (s.openCoil n = true ∧ at_ = 250 * s.k)) → s.paralleled n = true → 1 ≤ (s.vd n).st → (s.vd n).st ≤ 5 →
      exec (.valveEvent n) s = .next (
      let u := (s.setVd n { s.vd n with event := none }).vdOff n (max at_ (250 * s.k))
      u.setVd n { u.vd n with st := 7, held := up32 (u.vd n).held, heldLen := len })) ∧
  (∀ (n : Fin 48) (at_ : Nat) (len : Option Nat) (s : State),
     (s.vd n).event = some (at_, len) → s.vdLive = true → s.pair.hold = none → at_ < 250 * (s.k + 1) → s.eventTurn n = true →
      (¬ (s.openCoil n = true ∧ at_ = 250 * s.k)) → s.paralleled n = true →
      ((s.vd n).st = 7 ∨ ((s.vd n).st = 0 ∧ ∃ off, (s.vd n).offAt = some off ∧ max at_ (250 * s.k) < off + s.conf (Obj.VD_MIN_OFF n))) →
      exec (.valveEvent n) s = .next (((s.setVd n { s.vd n with event := none }).setVd n { s.vd n with
      event := none, st := 7, held := up32 (s.vd n).held, heldLen := len }).groupOn (n / 4))) ∧
  (∀ (n : Fin 48) (at_ : Nat) (len : Option Nat) (s : State),
     (s.vd n).event = some (at_, len) → s.vdLive = true → s.pair.hold = none → at_ < 250 * (s.k + 1) → s.eventTurn n = true →
      (¬ (s.openCoil n = true ∧ at_ = 250 * s.k)) → s.paralleled n = true → (s.vd n).st = 0 →
      (∀ off, (s.vd n).offAt = some off → off + s.conf (Obj.VD_MIN_OFF n) ≤ max at_ (250 * s.k)) →
      exec (.valveEvent n) s = .next ((s.setVd n { s.vd n with event := none }).startProfile n (max at_ (250 * s.k)) len)) ∧
  (∀ (n : Fin 48) (us : Nat) (current : Rat) (s : State),
     s.vdLive = true → us < 250 → (s.vd n).st = 2 → (s.vd n).boostAt ≤ 250 * s.k + us →
      (s.confRat (Obj.VD_I_PEAK n) ≤ current ∨ (s.vd n).boostAt + s.conf (Obj.VD_BOOST_TIME n) ≤ 250 * s.k + us) →
      exec (.boostEnd n us current) s = .next (
      let at_ := 250 * s.k + us
      let u := s.setVd n { s.vd n with boostUs := at_ - (s.vd n).boostAt
                                       flags := if current < s.confRat (Obj.VD_I_PEAK n) then (s.vd n).flags ||| 2 else (s.vd n).flags }
      if current < s.confRat (Obj.VD_I_PEAK n) / 10 then u.vdFault n 1 at_ else (u.afterBoost n at_).releaseBoost n at_)) ∧
  (∀ (n : Fin 48) (us : Nat) (s : State),
     s.vdLive = true → us < 250 → (s.vd n).st = 3 → (s.vd n).peakFrom + s.conf (Obj.VD_PEAK_TIME n) ≤ 250 * s.k + us →
      exec (.peakEnd n us) s = .next (s.afterPeak n (250 * s.k + us) false)) ∧
  (∀ (n : Fin 48) (us : Nat) (current : Rat) (s : State),
     s.vdLive = true → us < 250 → (s.vd n).st = 4 → current ≤ f32rat (s.holdTarget n) →
      exec (.transitionEnd n us current) s = .next (s.toHold n (250 * s.k + us))) ∧
  (∀ (n : Fin 48) (us from_ len : Nat) (s : State),
     (s.vd n).inj = some (from_, len) → s.vdLive = true → us < 250 → from_ + len ≤ 250 * s.k + us →
      exec (.injectorEventEnd n us) s = .next (s.vdOff n (250 * s.k + us))) ∧
  (∀ (n : Fin 48) (current : Rat) (s : State),
     (s.vd n).st = 6 → current < 1 / 50 →
      exec (.switchOffComplete n current) s = .next (s.setVd n { s.vd n with st := 0, decay := none })) ∧
  (∀ (n : Fin 48) (us off : Nat) (s : State),
     (s.vd n).offAt = some off → s.vdLive = true → s.pair.hold = none → us < 250 → (s.vd n).st = 7 →
      off + s.conf (Obj.VD_MIN_OFF n) ≤ 250 * s.k + us →
      exec (.pairMinOffEnd n us) s = .next ((s.setVd n { s.vd n with heldLen := none, st := 0 }).startProfile n (250 * s.k + us) (s.vd n).heldLen)) ∧
  (∀ (q : Req) (x : Session) (n : Fin 48) (s : State),
     s.acceptsSet q x (Obj.VD_RETRIGGER n) 1 = true → (s.servedBy q x).retriggerExtra n = {} →
      exec (.vdRetrigger q n) s = .next (s.wroteSet q x (Obj.VD_RETRIGGER n) 1 (fun s => s.vdRetrigger n)))

/-- STAGE_OVERCURRENT above 12 A faults the channel that governs the stage with 03h. GROUP_OVERCURRENT of a conducting group, 100 µs in limit at 34 A to 46 A, faults its members and the group with 05h. LOW_PIN_CHECK of a channel off whose pin was low for 40 windows, its group conducting: 0.3 A above what the members regulate is a short to ground, which faults the channel with 02h, the members with 06h and the group; else an open coil is reported once by event 4003h. HOLD_OPEN_COIL of a channel that was in hold in the window that ended, after 4 windows below 50 mA, faults the channel with 01h. An accepted VD_REARM of a coil cool enough clears its faults 01h, 03h and 04h, HG_REARM those of the group. BOOST_START_FAIL 800 ticks after a start that has not succeeded fails the converter and reports event 4002h; BOOST_RETRY 4000 ticks later, with FEED-V at 6 V or more, starts it again.
Rules R294, R317, R318, R319, R320, R321. -/
def Obligations.ValveFaultRowsTakeEffect : Prop :=
  (∀ (n : Fin 48) (current : Rat) (s : State),
     s.vdLive = true → 12 < current → (s.vd (s.governorOf n)).st ≠ 8 →
      exec (.stageOvercurrent n current) s = .next (s.vdFault (s.governorOf n) 3 (250 * s.k))) ∧
  (∀ (g : Fin 12) (us : Nat × Rat) (s : State),
     s.vdLive = true → 100 ≤ us.1 → 34 ≤ us.2 → us.2 ≤ 46 → s.groupConducts g = true →
      exec (.groupOvercurrent g us) s = .next ((s.groupFault g fun _ => 5).setAll [(Obj.HG_FAULT g, 5), (Obj.HG_STATE g, 3)])) ∧
  (∀ (n : Fin 48) (s : State),
     s.vdLive = true → ((s.vd n).st = 0 ∨ (s.vd n).st = 7) → 40 ≤ (s.vd n).pinC → s.valve.suspend = 0 → s.groupConducts (n.val / 4) = true →
      s.regulatedSum (n / 4) + 3 / 10 < f32rat (s.get (Obj.HG_CURRENT (n / 4))) →
      exec (.lowPinCheck n) s = .next (((s.groupFault (n / 4) fun m => if m = n.val then 2 else 6).set (Obj.HG_FAULT (n / 4)) 2).vdFaultEvent n 2)) ∧
  (∀ (n : Fin 48) (s : State),
     s.vdLive = true → ((s.vd n).st = 0 ∨ (s.vd n).st = 7) → 40 ≤ (s.vd n).pinC → s.valve.suspend = 0 → s.groupConducts (n.val / 4) = true →
      f32rat (s.get (Obj.HG_CURRENT (n / 4))) ≤ s.regulatedSum (n / 4) + 3 / 10 → (s.vd n).openOff = false →
      exec (.lowPinCheck n) s = .next ((s.setVd n { s.vd n with openOff := true }).event 9 0x4003 (u8 n))) ∧
  (∀ (n : Fin 48) (s : State),
     s.vdLive = true → s.pair.hold = none → (s.vd n).last = 5 → 4 ≤ (s.vd n).st → (s.vd n).st ≤ 6 → 4 ≤ (s.vd n).openC → s.valve.suspend = 0 →
      exec (.holdOpenCoil n) s = .next (s.vdFault n 1 (250 * s.k))) ∧
  (∀ (q : Req) (x : Session) (n : Fin 48) (s : State),
     s.acceptsSet q x (Obj.VD_REARM n) 1 = true → (s.servedBy q x).vdCool n = true →
      exec (.vdRearm q n) s = .next (s.wroteSet q x (Obj.VD_REARM n) 1 (fun s => s.vdRearm n))) ∧
  (∀ (q : Req) (x : Session) (g : Fin 12) (s : State),
     s.acceptsSet q x (Obj.HG_REARM g) 1 = true →
      exec (.hgRearm q g) s = .next (s.wroteSet q x (Obj.HG_REARM g) 1 (fun s => s.hgRearm g))) ∧
  (∀ (since : Nat) (s : State),
     s.valve.bstStart = some since → s.domOn 12 = true → s.valve.bst = 1 → since + 800 ≤ s.k →
      exec .boostStartFail s = .next (State.event { s with valve := { s.valve with bst := 3, bstStart := none, bstFail := some s.k } } 9 0x4002
      (u32 (s.get (Obj.BST_V_RAIL 0))))) ∧
  (∀ (since : Nat) (s : State),
     s.valve.bstFail = some since → s.domOn 12 = true → s.valve.bst = 3 → since + 4000 ≤ s.k → 6 ≤ f32rat (s.get (Obj.BST_V_FEED 0)) →
      exec .boostRetry s = .next { s with valve := { s.valve with bst := 1, bstStart := some s.k, bstFail := none } })

/-- ANT_SHORT of an antenna supply 40 ticks in limit turns it off, shows 03h and counts; ANT_RETRY 4000 ticks later turns it on; ANT_OPEN after 400 ticks below 2 mA shows 02h and changes nothing else. MEASUREMENT_EPOCH in the tick after an epoch not yet delivered takes the first 320 of the tracked measurements in the order of their channels, sets SIG_CHANNELS to their number and SIG_UNSERVED to those left out, none while a channel is free, and puts a raw record of each where GQ_RAW is set. NAV_RECORD_WRITE of a unit of 1 bit up to the bits of its signal, of a channel and a tracked signal, on GNSS-B only where GNSS-A does not track it, puts its record where GQ_NAV is set. POSITION_SOLUTION_RUN that is due takes the solution and marks the unit as run. INTEGRITY_CLEAR keeps the exclusions and alarms whose check failed within INT_CLEAR ticks of the epoch. TPULSE of an acting module in an enabled time state at a tick of the period, once, gives the pulse and counts it; TIME_MESSAGE at such a tick builds its message once. An accepted GNSS_ENABLE enables the receiver and ends the faults of its units. SIGNAL_MASK_APPLY and POS_RATE_APPLY in a T4000/0 tick take the masks and the rate into force as configured.
Rules R328, R331, R333, R336, R337, R341, R348, R350, R351, R352, R558. -/
def Obligations.NavigationRowsTakeEffect : Prop :=
  (∀ (a : Fin 2) (s : State),
     s.gnssOn = true → (s.ant a).on = true → 40 ≤ (s.ant a).limit →
      exec (.antShort a) s = .next (((s.setAnt a { on := false, offAt := some s.k }).set (Obj.ANT_STATE a) 3).count (Obj.ANT_SHORTS a) 1)) ∧
  (∀ (a : Fin 2) (since : Nat) (s : State),
     (s.ant a).offAt = some since → s.gnssOn = true → since + 4000 ≤ s.k →
      exec (.antRetry a) s = .next ((s.setAnt a { on := true }).set (Obj.ANT_STATE a) 1)) ∧
  (∀ (a : Fin 2) (s : State),
     s.gnssOn = true → (s.ant a).on = true → 400 ≤ (s.ant a).low →
      exec (.antOpen a) s = .next (s.set (Obj.ANT_STATE a) 2)) ∧
  (∀ (meas : List RawMeas) (unserved : Nat) (s : State),
     s.gnssOn = true → s.afterEpoch = true → s.gnss.epoch ≠ some (s.k - 1) →
      exec (.measurementEpoch meas unserved) s = .next (
      let ms := ((s.channels meas).take 320).mergeSort fun a b => decide (a.chan ≤ b.chan)
      let t := (s.set Obj.SIG_CHANNELS ms.length).set Obj.SIG_UNSERVED (if (s.channels meas).length < 320 then 0 else min 0xFFFF (unserved + ((s.channels meas).length - 320)))
      let u : State := { t with gnss := { s.gnss with meas := ms, epoch := some (s.k - 1) } }
      if u.confFlag Obj.GQ_RAW then ms.foldl (fun s m => s.putGnssRecord (s.rawRecord m (s.k - 1))) u else u)) ∧
  (∀ (u : NavUnit) (s : State),
     s.gnssOn = true → 1 ≤ u.count → u.count ≤ navFull u → u.chan < 320 → s.confFlag Obj.GQ_NAV = true → bit (s.sigMask u.ant) u.sig = true →
      (u.ant = 0 ∨ bit s.gnss.maskA u.sig = false) →
      exec (.navRecordWrite u) s = .next (s.putGnssRecord (s.navRecord u))) ∧
  (∀ (est : PosEst) (s : State),
     s.posDue = true →
      exec (.positionSolutionRun est) s = .next ((s.posRun est).ranUnit posUnit)) ∧
  (∀ (ep : Nat) (s : State),
     s.gnssOn = true → s.gnss.epoch = some ep →
      exec .integrityClear s = .next (State.intState { s with gnss := { s.gnss with
      excl := s.gnss.excl.filter fun e => decide (ep < e.last + s.intConf Obj.INT_CLEAR)
      alarms := s.gnss.alarms.filter fun a => decide (ep < a.2 + s.intConf Obj.INT_CLEAR) } } ep)) ∧
  (∀ (s : State),
     s.running = true → s.acting = true → s.gnss.tm.getD 0 0 ≠ 0 → s.k % s.gnss.tm.getD 1 4000 = 0 →
      bit (s.gnss.tm.getD 3 0) (s.get Obj.TIME_STATE) = true → s.gnss.pulseAt ≠ some s.k →
      exec .tpulse s = .next { (s.count Obj.TP_COUNT 1).send (.pulse (s.gnss.tm.getD 2 0)) with gnss := { s.gnss with pulseAt := some s.k } }) ∧
  (∀ (s : State),
     s.running = true → s.acting = true → s.k % s.gnss.tm.getD 1 4000 = 0 → s.gnss.messageAt ≠ some s.k →
      exec .timeMessage s = .next s.buildTimeMessage) ∧
  (∀ (q : Req) (x : Session) (s : State),
     s.acceptsSet q x Obj.GNSS_ENABLE 1 = true →
      exec (.gnssEnable q) s = .next (s.wroteSet q x Obj.GNSS_ENABLE 1 (fun s => s.gnssEnable))) ∧
  (∀ (s : State),
     s.running = true → s.k % 4000 = 0 →
      exec .signalMaskApply s = .next s.applyMasks) ∧
  (∀ (s : State),
     s.running = true → s.k % 4000 = 0 →
      exec .posRateApply s = .next { s with gnss := { s.gnss with rate := s.conf Obj.POS_RATE } })

/-- An accepted PORT_ENABLE sets the object, which the port follows from the next tick. PORT_TRAINED of a port in 01h or 03h that tries to train enters 02h. LINK_DROP in 02h closes the port's frames, enters 03h and counts. PORT_RETRY in 03h 4000 ticks after the last try tries again. FRAME_START of a running stream closes an open frame; the first frame, and one that comes no sooner than 0.9 periods of STR_FPS_MAX, it opens, one that comes sooner it counts as dropped. A Frame Start or Frame End whose header has an uncorrectable error is discarded and counted in PORT_ECC_ERR of a port that is up. LINE_PACKET without an error and of the stream's data type is taken by a running stream; one with an ECC error on a port that is up counts in PORT_ECC_ERR and does nothing else. FRAME_END of a running stream closes the frame at its instant, FRAME_TIMEOUT one without a line for STR_TIMEOUT ticks with flag 8.
Rules R356, R357, R359, R360, R361. -/
def Obligations.CameraRowsTakeEffect : Prop :=
  (∀ (q : Req) (x : Session) (p : Fin 2) (s : State),
     s.acceptsSet q x (Obj.PORT_ENABLE p) 1 = true →
      exec (.portEnable q p) s = .next (s.wroteSet q x (Obj.PORT_ENABLE p) 1 (fun s => s.set (Obj.PORT_ENABLE p) 1))) ∧
  (∀ (p : Fin 2) (s : State),
     s.running = true → s.domOn 7 = true → (s.get (Obj.PORT_STATE p) = 1 ∨ s.get (Obj.PORT_STATE p) = 3) → s.img.trying.contains p.val = true →
      exec (.portTrained p) s = .next ((s.set (Obj.PORT_STATE p) 2).portRests p).streamStates) ∧
  (∀ (p : Fin 2) (ns : Nat) (s : State),
     s.running = true → s.get (Obj.PORT_STATE p) = 2 →
      exec (.linkDrop p ns) s = .next (((((s.closePort p (s.k * 250000 + ns)).set (Obj.PORT_STATE p) 3).count (Obj.PORT_LOSSES p) 1).setTried p).portRests p).streamStates) ∧
  (∀ (p : Fin 2) (s : State),
     s.running = true → s.get (Obj.PORT_STATE p) = 3 → Sparse.find (fun _ => 0) s.img.tried p + 4000 ≤ s.k →
      exec (.portRetry p) s = .next (s.portTries p)) ∧
  (∀ (n : Fin 8) (ns number : Nat) (acks : List Bool) (s : State),
     s.streamRuns n = true → ((s.closeFrame n (s.k * 250000 + ns) 4).stream n).lastStart = none →
      exec (.frameStart n ns (some number) acks) s = .next ((s.closeFrame n (s.k * 250000 + ns) 4).openFrame n (s.k * 250000 + ns) number acks)) ∧
  (∀ (n : Fin 8) (ns number : Nat) (acks : List Bool) (s : State) (p : Nat),
     s.streamRuns n = true → ((s.closeFrame n (s.k * 250000 + ns) 4).stream n).lastStart = some p →
      900000000 ≤ ((s.k * 250000 + ns - p : Nat) : Rat) * (s.closeFrame n (s.k * 250000 + ns) 4).confRat (Obj.STR_FPS_MAX n) →
      exec (.frameStart n ns (some number) acks) s = .next ((s.closeFrame n (s.k * 250000 + ns) 4).openFrame n (s.k * 250000 + ns) number acks)) ∧
  (∀ (n : Fin 8) (ns number : Nat) (acks : List Bool) (s : State) (p : Nat),
     s.streamRuns n = true → ((s.closeFrame n (s.k * 250000 + ns) 4).stream n).lastStart = some p →
      ((s.k * 250000 + ns - p : Nat) : Rat) * (s.closeFrame n (s.k * 250000 + ns) 4).confRat (Obj.STR_FPS_MAX n) < 900000000 →
      exec (.frameStart n ns (some number) acks) s = .next ((s.closeFrame n (s.k * 250000 + ns) 4).count (Obj.STR_DROPPED n) 1)) ∧
  (∀ (n : Fin 8) (ns : Nat) (acks : List Bool) (s : State),
      exec (.frameStart n ns none acks) s = .next (s.badHeader (n / 4)) ∧ exec (.frameEnd n none) s = .next (s.badHeader (n / 4))) ∧
  (∀ (n : Fin 8) (l : CamLine) (s : State),
     s.streamRuns n = true → l.ecc = false → l.crc = false → l.dt = s.conf (Obj.STR_DT n) → (l.dt = 0x2A ∨ l.dt = 0x2B ∨ l.dt = 0x2C) →
      exec (.linePacket n l) s = .next (s.takeLine n l)) ∧
  (∀ (n : Fin 8) (l : CamLine) (s : State),
     s.running = true → s.domOn 7 = true → s.get (Obj.PORT_STATE (n / 4)) = 2 → l.ecc = true →
      exec (.linePacket n l) s = .next (s.count (Obj.PORT_ECC_ERR (n / 4)) 1)) ∧
  (∀ (n : Fin 8) (ns : Nat) (s : State),
     s.streamRuns n = true →
      exec (.frameEnd n (some ns)) s = .next (s.closeFrame n (s.k * 250000 + ns) 0)) ∧
  (∀ (n : Fin 8) (s : State),
     s.streamRuns n = true → (s.stream n).frame.isSome = true → (s.stream n).lineAt + s.conf (Obj.STR_TIMEOUT n) ≤ s.k →
      exec (.frameTimeout n) s = .next (s.closeFrame n (s.k * 250000) 8))

/-- An accepted STR_ENABLE of a stream whose checks pass commits the shadow set of one that was off and sets the object. An accepted STR_DISABLE drops a commit of the tick and clears the object, which the stream follows from the next tick. An accepted SH_COMMIT of an enabled stream whose shadow set passes the checks commits the set. COMMIT_COMPLETE in the tick after it was served lets the set wait for its frame and sets SH_PENDING to its number. An accepted EXP_REQUEST within the limits is asked of the stream. FOCUS_RUN at its phase, not yet run in the tick, takes the focus step and marks the unit as run.
Rules R361, R363, R366, R367, R368, R369, R370, R376. -/
def Obligations.StreamRowsTakeEffect : Prop :=
  (∀ (q : Req) (x : Session) (n : Fin 8) (s : State),
     s.acceptsSet q x (Obj.STR_ENABLE n) 1 = true → (s.servedBy q x).streamOk n = true →
      exec (.strEnable q n) s = .next (s.wroteSet q x (Obj.STR_ENABLE n) 1 (fun s => s.strEnable n))) ∧
  (∀ (q : Req) (x : Session) (n : Fin 8) (s : State),
     s.acceptsSet q x (Obj.STR_ENABLE n) 0 = true →
      exec (.strDisable q n) s = .next (s.wroteSet q x (Obj.STR_ENABLE n) 0 (fun s => s.strDisable n))) ∧
  (∀ (q : Req) (x : Session) (n : Fin 8) (s : State),
     s.acceptsSet q x (Obj.SH_COMMIT n) 1 = true → (s.servedBy q x).commitOk n = true → s.flag (Obj.STR_ENABLE n) = true →
      exec (.shCommit q n) s = .next (s.wroteSet q x (Obj.SH_COMMIT n) 1 (fun s => s.commit n))) ∧
  (∀ (n : Fin 8) (c : ShadowSet) (since : Nat) (s : State),
     s.running = true → (s.stream n).served = some (c, since) → since < s.k →
      exec (.commitComplete n) s = .next ((s.setStream n { s.stream n with served := none, waiting := some (c, (since + 1) * 250000) }).set
      (Obj.SH_PENDING n) c.num)) ∧
  (∀ (q : Req) (x : Session) (n : Fin 8) (b : Bytes) (s : State),
     s.accepts q x (Obj.EXP_REQUEST n) (tyOf (Obj.EXP_REQUEST n)) b = true → expOk b = true →
      exec (.expRequest q n b) s = .next (s.wrote q x (Obj.EXP_REQUEST n) b fun s => s.askExposure n b)) ∧
  (∀ (n : Fin 8) (s : State),
     s.running = true → s.domOn 7 = true → s.confFlag (Obj.FOC_ENABLE n) = true → s.k % 40 = s.conf (Obj.FOC_PHASE n) →
      s.tick.ran.contains (focusUnit n) = false →
      exec (.focusRun n) s = .next ((s.focusStep n).ranUnit (focusUnit n)))

/-- An accepted CAN_ENABLE of a controller that is off and whose bit timing passes its checks turns it on. An accepted CAN_DISABLE clears CAN_ENABLE for the next boundary. CAN_BUS_JOIN of a joining controller whose domain is on puts it on the bus. CAN_FRAME_RX on the bus and not bus-off, of a classical frame or with CAN_FD, lowers the receive error counter by 1, or from above 127 to 119 to 127, and hands the frame on; an FD frame without CAN_FD is a form error, which sets CAN_LEC 2 and adds 1. CAN_BUS_ERROR sets CAN_LEC and adds 1 or 8 to the receive error counter, at most 255. BUS_OFF past 255 goes bus-off as CAN_BUSOFF_RECOVERY says, lets the buffers wait, counts, and reports event 6000h. BUS_OFF_RECOVERY_END clears both error counters. An accepted CAN_RECOVER of a controller that waits asks for its recovery.
Rules R382, R383, R386, R389, R394, R405, R407. -/
def Obligations.CanControllerRowsTakeEffect : Prop :=
  (∀ (q : Req) (x : Session) (c : Fin 8) (s : State),
     s.acceptsSet q x (Obj.CAN_ENABLE c) 1 = true → s.canCfg c = 0 → s.flag (Obj.CAN_ENABLE c) = false →
      exec (.canEnable q c) s = .next (s.wroteSet q x (Obj.CAN_ENABLE c) 1 (fun s => s.canOn c))) ∧
  (∀ (q : Req) (x : Session) (c : Fin 8) (s : State),
     s.acceptsSet q x (Obj.CAN_ENABLE c) 0 = true →
      exec (.canDisable q c) s = .next (s.wroteSet q x (Obj.CAN_ENABLE c) 0 (fun s => s.canOff c))) ∧
  (∀ (c : Fin 8) (s : State),
     s.running = true → s.domOn (canDom c) = true → (s.can c).join = 2 →
      exec (.canBusJoin c) s = .next (s.setCan c { s.can c with join := 3 })) ∧
  (∀ (c : Fin 8) (f : CanFrame) (sof : Nat) (dram : Bool) (s : State),
     s.onBus c = true → (s.can c).isOff = false → (f.fd = false ∨ s.flag (Obj.CAN_FD c) = true) → (s.can c).rec_ ≤ 127 →
      exec (.canFrameRx c f sof dram) s = .next ((s.setCan c (CanSt.settle { s.can c with rec_ := (s.can c).rec_ - 1 })).receive c f sof false dram)) ∧
  (∀ (c : Fin 8) (f : CanFrame) (sof : Nat) (dram : Bool) (s : State),
     s.onBus c = true → (s.can c).isOff = false → (f.fd = false ∨ s.flag (Obj.CAN_FD c) = true) → 127 < (s.can c).rec_ →
      exec (.canFrameRx c f sof dram) s = .next ((s.setCan c (CanSt.settle { s.can c with rec_ := 119 + Config.recAfter.val })).receive c f sof false dram)) ∧
  (∀ (c : Fin 8) (f : CanFrame) (sof : Nat) (dram : Bool) (s : State),
     s.onBus c = true → (s.can c).isOff = false → f.fd = true → s.flag (Obj.CAN_FD c) = false →
      exec (.canFrameRx c f sof dram) s = .next (s.setCan c (CanSt.settle { s.can c with lec := 2, rec_ := min 255 ((s.can c).rec_ + 1) }))) ∧
  (∀ (c : Fin 8) (lec : Nat) (eight : Bool) (s : State),
     s.onBus c = true → (s.can c).isOff = false →
      exec (.canBusError c lec eight) s = .next (s.setCan c (CanSt.settle { s.can c with
      lec := lec, rec_ := min 255 ((s.can c).rec_ + (if eight then 8 else 1)) }))) ∧
  (∀ (c : Fin 8) (s : State),
     s.onBus c = true → (s.can c).isOff = false → 256 ≤ (s.can c).tec →
      exec (.busOff c) s = .next (((s.setCan c { s.can c with
      err := if s.conf (Obj.CAN_BUSOFF_RECOVERY c) = 1 then 2 else 3
      bufs := (s.can c).bufs.map fun t => if t.st = 2 then { t with st := 1 } else t }).count (Obj.CAN_BUSOFFS c) 1).event 0xD 0x6000 (u8 c))) ∧
  (∀ (c : Fin 8) (s : State),
     s.onBus c = true → (s.can c).err = 3 →
      exec (.busOffRecoveryEnd c) s = .next (s.setCan c { s.can c with err := 0, tec := 0, rec_ := 0 })) ∧
  (∀ (q : Req) (x : Session) (c : Fin 8) (s : State),
     s.acceptsSet q x (Obj.CAN_RECOVER c) 1 = true → s.get (Obj.CAN_ERR_STATE c) = 2 →
      exec (.canRecover q c) s = .next (s.wroteSet q x (Obj.CAN_RECOVER c) 1 (fun s => s.askRecover c)))

/-- TX_LOAD with command 01h of a new entry with a valid frame into an empty buffer, which the application owns, in a module that is no standby fills the buffer. TX_CANCEL ends a buffer that waits with result 02h; of one on the bus it notes the cancel. ARBITRATION of a controller on the bus that sends nothing puts the chosen buffer on the bus. TX_ATTEMPT_FAIL by lost arbitration, no cancel waiting, sends again, or ends a single shot with result 06h; with an error it sets CAN_LEC and adds 8 to the transmit error counter unless exempt. One that failed past the edge of its data phase sets its measured delay besides. Where a cancel waits, the buffer ends with result 02h. CAN_FRAME_SENT lowers the transmit error counter, hands the frame to the ring, or where DRAM does not serve to the frames that wait, counts and sends it with the error state indicator of an error-passive node, notes the loop delay of a frame with bit-rate switching under CAN_TDC, and ends its buffer, and the send slot that it carries, with the time of its start and result 01h, or 03h where a cancel came.
Rules R389, R399, R400, R401, R402, R403. -/
def Obligations.TransmitRowsTakeEffect : Prop :=
  (∀ (c : Fin 8) (b : Fin 3) (a : AppArea) (s : State),
     s.txEntry c b = some a → s.running = true → 2 ≤ (s.can c).join → a.at_ 9 1 = 1 → (s.buf c b).st = 0 → s.frameOk c a = true →
      s.moduleOwned c b = false → s.standby = false →
      exec (.txLoad c b) s = .next ((s.setBuf c b fun t => { t with seen := some a.stamp }).setBuf c b fun t => { t with
      st := 1, frame := some a.frame, single := bit (a.at_ 10 1) 5, stamp := a.stamp, cancel := none })) ∧
  (∀ (c : Fin 8) (b : Fin 3) (a : AppArea) (s : State),
     s.txEntry c b = some a → s.running = true → 2 ≤ (s.can c).join → a.at_ 9 1 = 2 → (s.buf c b).st = 1 →
      exec (.txCancel c b) s = .next ((s.setBuf c b fun t => { t with seen := some a.stamp }).endBuf c b 2 a.stamp)) ∧
  (∀ (c : Fin 8) (b : Fin 3) (a : AppArea) (s : State),
     s.txEntry c b = some a → s.running = true → 2 ≤ (s.can c).join → a.at_ 9 1 = 2 → (s.buf c b).st = 2 →
      exec (.txCancel c b) s = .next ((s.setBuf c b fun t => { t with seen := some a.stamp }).setBuf c b fun t => { t with cancel := some a.stamp })) ∧
  (∀ (c : Fin 8) (b : Nat) (s : State),
     s.onBus c = true → (s.can c).isOff = false → (s.can c).leave = false → (s.can c).sending = none → s.chosen c = some b →
      exec (.arbitration c) s = .next (s.setBuf c b fun t => { t with st := 2 })) ∧
  (∀ (c : Fin 8) (b : Nat) (s : State),
     (s.can c).sending = some b → s.onBus c = true → (s.buf c b).cancel = none → (s.buf c b).single = false →
      exec (.txAttemptFail c none) s = .next (((s.setCan c (s.can c)).setBuf c b fun t => { t with st := 1 }).leaveIfDue c)) ∧
  (∀ (c : Fin 8) (b : Nat) (s : State),
     (s.can c).sending = some b → s.onBus c = true → (s.buf c b).cancel = none → (s.buf c b).single = true →
      exec (.txAttemptFail c none) s = .next (((s.setCan c (s.can c)).endBuf c b 6 (s.buf c b).stamp).leaveIfDue c)) ∧
  (∀ (c : Fin 8) (b : Nat) (lec : Nat) (exempt : Bool) (s : State),
     (s.can c).sending = some b → s.onBus c = true → (s.buf c b).cancel = none → (s.buf c b).single = false →
      exec (.txAttemptFail c (some (lec, exempt, none))) s = .next (((s.setCan c (CanSt.settle { s.can c with
      lec := lec, tec := if exempt then (s.can c).tec else min 256 ((s.can c).tec + 8) })).setBuf c b fun t => { t with st := 1 }).leaveIfDue c)) ∧
  (∀ (c : Fin 8) (b : Nat) (lec : Nat) (exempt : Bool) (delay : Fin 256) (f : CanFrame) (s : State),
     (s.can c).sending = some b → s.onBus c = true → (s.buf c b).cancel = none → (s.buf c b).single = false → (s.buf c b).frame = some f →
      exec (.txAttemptFail c (some (lec, exempt, some delay))) s = .next ((((s.setCan c (CanSt.settle { s.can c with
      lec := lec, tec := if exempt then (s.can c).tec else min 256 ((s.can c).tec + 8) })).tdcMeasured c f delay).setBuf c b fun t => { t with st := 1 }).leaveIfDue c)) ∧
  (∀ (c : Fin 8) (b stamp : Nat) (s : State),
     (s.can c).sending = some b → s.onBus c = true → (s.buf c b).cancel = some stamp →
      exec (.txAttemptFail c none) s = .next (((s.setCan c (s.can c)).endBuf c b 2 stamp).leaveIfDue c)) ∧
  (∀ (c : Fin 8) (b sof : Nat) (dram : Bool) (delay : Fin 256) (f : CanFrame) (s : State),
     (s.can c).sending = some b → s.onBus c = true → (s.buf c b).frame = some f →
      exec (.canFrameSent c (sof, dram) delay) s = .next (
      let f := (s.can c).onWire f
      let t := ((s.setCan c (CanSt.settle { s.can c with tec := (s.can c).tec - 1 })).receive c f sof true dram).count (Obj.CAN_TX_FRAMES c) 1
      let t := ((if f.fd && f.brs && t.flag (Obj.CAN_TDC c) then t.set (Obj.CAN_TDC_MEAS c) delay else t).send (.can c f)).setBuf c b fun x => { x with sof := sofStamp sof }
      State.leaveIfDue (match (s.buf c b).cancel with
        | some stamp => t.endBuf c b 3 stamp
        | none => t.endBuf c b 1 (s.buf c b).stamp) c))

/-- HEARTBEAT of an acting module at its tick, once, builds the heartbeat. ADDRESS_CLAIM_START of a node with a NAME in 00h claims its preferred address. COMPETING_CLAIM_RX for its address with a higher NAME makes it claim again; for another address only notes that one as taken; with a lower NAME it records the loss and claims a free address, or cannot claim. CLAIM_REQUEST_RX outside 00h is answered with its claim, ADDRESS_HELD 1000 ticks after the claim enters 02h. ISO_SEND_SLOT of a new entry, in an acting module: with no address held it takes result 05h; with one, and an entry whose fields are within their limits, it sends. TP_RX of a connection frame of the transport or extended protocol to all nodes or to the node is taken by it, and so is a data frame of an open session. ISO_TP_TIMEOUT of a session whose time has run out ends a send slot that waits for its peer with result 04h, and a receive session with an abort, for a broadcast counted only. DM1_SEND of an acting module at its phase, once a second, runs DM1, and, while DM1 may be sent, once more in a second whose run it has had, when the active set has changed and the mode leaves it to the hardware.
Rules R409, R412, R413, R414, R415. -/
def Obligations.IsoNodeRowsTakeEffect : Prop :=
  (∀ (s : State),
     s.running = true → s.acting = true → s.k % s.net.hb.getD 0 400 = s.net.hb.getD 1 0 → s.net.hbAt ≠ some s.k →
      exec .heartbeat s = .next s.buildHeartbeat) ∧
  (∀ (s : State),
     s.isoUp = true → s.conf Obj.ISO_NAME ≠ 0 → s.get Obj.ISO_STATE = 0 →
      exec .addressClaimStart s = .next (s.claim (s.conf Obj.ISO_ADDR_PREF))) ∧
  (∀ (addr : Fin 256) (name : Nat) (s : State),
     s.isoUp = true → (s.get Obj.ISO_STATE = 1 ∨ s.get Obj.ISO_STATE = 2) → s.net.iso.addr = addr.val → s.conf Obj.ISO_NAME < name →
      exec (.competingClaimRx addr name) s = .next (s.sendClaim addr)) ∧
  (∀ (addr : Fin 256) (name : Nat) (s : State),
     s.isoUp = true → s.net.iso.addr ≠ addr.val →
      exec (.competingClaimRx addr name) s = .next (s.setIso fun i => { i with
      taken := if addr.val ≤ 253 ∧ addr.val ∉ i.taken then addr.val :: i.taken else i.taken })) ∧
  (∀ (addr : Fin 256) (name : Nat) (s : State),
     s.isoUp = true → (s.get Obj.ISO_STATE = 1 ∨ s.get Obj.ISO_STATE = 2) → s.net.iso.addr = addr.val → name < s.conf Obj.ISO_NAME →
      exec (.competingClaimRx addr name) s = .next (
      let t := (s.setIso fun i => { i with
        taken := if addr.val ≤ 253 ∧ addr.val ∉ i.taken then addr.val :: i.taken else i.taken }).addrLost addr
      match (if bit (s.conf Obj.ISO_NAME) 63 then t.freeAddr else none) with
      | some a => t.claim a
      | none => ((t.sendClaim 254).set Obj.ISO_STATE 3).set Obj.ISO_ADDR 0xFE)) ∧
  (∀ (s : State),
     s.isoUp = true → s.get Obj.ISO_STATE ≠ 0 →
      exec .claimRequestRx s = .next (s.sendClaim (if s.get Obj.ISO_STATE = 3 then 254 else s.net.iso.addr))) ∧
  (∀ (s : State),
     s.isoUp = true → s.get Obj.ISO_STATE = 1 → s.net.iso.claimAt + 1000 ≤ s.k →
      exec .addressHeld s = .next ((s.set Obj.ISO_STATE 2).set Obj.ISO_ADDR s.net.iso.addr)) ∧
  (∀ (n : Fin 8) (data : Bytes) (s : State),
     s.running = true → s.acting = true → (s.area0 (Obj.ISO_TX_OFFSET + n)).valid = true →
      Sparse.find (fun _ => 0) s.net.iso.seen n ≠ (s.area0 (Obj.ISO_TX_OFFSET + n)).stamp + 1 → Sparse.find (fun _ => 0) s.net.iso.results n ≠ 1 →
      s.get Obj.ISO_STATE ≠ 2 →
      exec (.isoSendSlot n data) s = .next ((s.setIso fun i => { i with
      seen := Sparse.put (fun _ => 0) i.seen n ((s.area0 (Obj.ISO_TX_OFFSET + n)).stamp + 1) }).isoResult n 5)) ∧
  (∀ (n : Fin 8) (data : Bytes) (a : AppArea) (s : State),
     s.running = true → s.acting = true → s.area0 (Obj.ISO_TX_OFFSET + n) = a → a.valid = true →
      Sparse.find (fun _ => 0) s.net.iso.seen n ≠ a.stamp + 1 → Sparse.find (fun _ => 0) s.net.iso.results n ≠ 1 → s.get Obj.ISO_STATE = 2 →
      (a.at_ 10 1 ≠ 0xFF ∨ a.at_ 16 4 ≤ 1785) → a.at_ 16 4 ≤ 117440505 → oemBase ≤ a.at_ 20 8 → a.at_ 20 8 + a.at_ 16 4 ≤ oemBase + oemSize →
      a.at_ 9 1 < 8 → a.at_ 11 1 = 0 → a.at_ 12 4 < 2 ^ 18 → a.at_ 28 4 = 0 →
      exec (.isoSendSlot n data) s = .next ((s.setIso fun i => { i with seen := Sparse.put (fun _ => 0) i.seen n (a.stamp + 1) }).isoSend n
      (a.at_ 9 1) (a.at_ 10 1) (a.at_ 12 4) (padTo (a.at_ 16 4) data))) ∧
  (∀ (f : CanFrame) (time : Nat) (s : State),
     s.isoUp = true → f.ext = true → f.remote = false → f.data.length = 8 →
      (f.ident / 256 % 256 = 0xFF ∨ (s.get Obj.ISO_STATE = 2 ∧ f.ident / 256 % 256 = s.get Obj.ISO_ADDR)) →
      (f.ident / 2 ^ 16 % 256 = 0xEC ∨ f.ident / 2 ^ 16 % 256 = 0xC8) →
      exec (.tpRx f time) s = .next (s.tpControl (f.ident / 2 ^ 16 % 256 == 0xC8) (f.ident % 256) (f.ident / 256 % 256) (f.ident / 2 ^ 26 % 8) f.data)) ∧
  (∀ (f : CanFrame) (time : Nat) (y : TpRx) (s : State),
     s.isoUp = true → f.ext = true → f.remote = false → f.data.length = 8 →
      (f.ident / 256 % 256 = 0xFF ∨ (s.get Obj.ISO_STATE = 2 ∧ f.ident / 256 % 256 = s.get Obj.ISO_ADDR)) →
      (f.ident / 2 ^ 16 % 256 = 0xEB ∨ f.ident / 2 ^ 16 % 256 = 0xC7) →
      (s.net.iso.rx.find? fun y => y.src == f.ident % 256 && y.ext == (f.ident / 2 ^ 16 % 256 == 0xC7) && y.bam == (f.ident / 256 % 256 == 0xFF)) = some y →
      exec (.tpRx f time) s = .next (s.tpData y (s.net.iso.rx.filter fun y =>
      !(y.src == f.ident % 256 && y.ext == (f.ident / 2 ^ 16 % 256 == 0xC7) && y.bam == (f.ident / 256 % 256 == 0xFF))) f.data time)) ∧
  (∀ (n : Fin 8) (y : TpTx) (s : State),
     s.isoUp = true → s.tpTx n = some y → y.bamAt = none → y.due ≤ s.k →
      exec (.isoTpTimeout true n) s = .next ((s.setTx n none).isoResult n 4)) ∧
  (∀ (n : Fin 8) (y : TpRx) (s : State),
     s.isoUp = true → s.net.iso.rx[n.val]? = some y → y.due ≤ s.k →
      exec (.isoTpTimeout false n) s = .next (
      let t := s.setIso fun i => { i with rx := i.rx.eraseIdx n.val }
      if y.bam then t.count Obj.ISO_ABORTS 1 else t.tpAbort y.ext y.src y.pgn 3)) ∧
  (∀ (s : State),
     s.running = true → s.acting = true → s.k % 4000 = s.conf Obj.DM1_PHASE → s.net.iso.dm1At ≠ some ((s.k + 4000 - s.conf Obj.DM1_PHASE) / 4000) →
      exec .dm1Send s = .next (s.dm1Run.setIso fun i => { i with dm1At := some ((s.k + 4000 - s.conf Obj.DM1_PHASE) / 4000) })) ∧
  (∀ (s : State),
     s.running = true → s.acting = true → s.dm1Sends = true → s.k % 4000 ≠ s.conf Obj.DM1_PHASE →
      s.net.iso.dm1At = some ((s.k + 4000 - s.conf Obj.DM1_PHASE) / 4000) → s.net.iso.dm1Extra ≠ some ((s.k + 4000 - s.conf Obj.DM1_PHASE) / 4000) →
      (s.get (Obj.DM1_MODE + 1) = 0 ∨ s.get (Obj.DM1_MODE + 1) = 2) →
      ((List.range 32).any fun d => s.activeDtcs.contains d != s.flag (Obj.DTC_ACTIVE d)) = true →
      exec .dm1Send s = .next (((s.noteDtcs s.activeDtcs).sendDm1 ((s.noteDtcs s.activeDtcs).dm1Bytes s.activeDtcs)).setIso fun i => { i with
      dm1Extra := some ((s.k + 4000 - s.conf Obj.DM1_PHASE) / 4000) }))

/-- ETH_FRAME_RX with a bad FCS or length only counts in ETH_RX_ERRORS; a good one that is no time message for the grandmaster, is counted and, on a port without an address, passed to the application; else ARP and echo requests are answered, MDP datagrams arrive in a module that serves as the node or on SVC, and all other frames go to the application; a time message of Sync or Announce kind is a foreign grandmaster. ETH_CONFIG_APPLY in a T4000/0 tick takes the settings of the five ports into force as configured. ETH_LINK_LOSS of a port that is up trains it and counts, for P of a standby with a missing mirror and bit 10 of PAIR_FLAGS; ETH_LINK_UP of one that is not up sets its link and signal quality, and for P clears bit 10 of PAIR_FLAGS.
Rules R65, R75, R418, R435, R440. -/
def Obligations.EthernetRowsTakeEffect : Prop :=
  (∀ (p : Fin 4) (ok : Bool) (data : Bytes) (s : State),
     s.running = true → s.portUp p = true → (ok = false ∨ data.length < 60 ∨ 1518 < data.length) →
      exec (.ethFrameRx p ok data) s = .next (s.count (Obj.ETH_RX_ERRORS p) 1)) ∧
  (∀ (p : Fin 4) (data : Bytes) (s : State),
     s.running = true → s.portUp p = true → 60 ≤ data.length → data.length ≤ 1518 → (beField data 12 2 ≠ 0x88F7 ∨ bit s.gptp.ports p = false) →
      (s.eth p).ip = 0 →
      exec (.ethFrameRx p true data) s = .next ((s.count (Obj.ETH_RX_FRAMES p) 1).send (.toApp p data))) ∧
  (∀ (p : Fin 4) (data : Bytes) (s : State),
     s.running = true → s.portUp p = true → 60 ≤ data.length → data.length ≤ 1518 → (beField data 12 2 ≠ 0x88F7 ∨ bit s.gptp.ports p = false) →
      (s.eth p).ip ≠ 0 →
      exec (.ethFrameRx p true data) s = .next (
      let t := s.count (Obj.ETH_RX_FRAMES p) 1
      match t.arpReply p (s.eth p).ip data with
      | some r => t.send (.eth p r)
      | none => match t.echoReply p (s.eth p).ip data with
        | some r => t.send (.eth p r)
        | none => match t.mdpDatagram p (s.eth p).ip data with
          | some (src, m) => if t.nodeServes || p == 3 then t.mdpArrive ⟨⟨p.val + 1, by omega⟩, src, m⟩ else t
          | none => t.send (.toApp p data))) ∧
  (∀ (p : Fin 4) (data : Bytes) (s : State),
     s.running = true → s.portUp p = true → 60 ≤ data.length → data.length ≤ 1518 → beField data 12 2 = 0x88F7 → bit s.gptp.ports p = true →
      exec (.ethFrameRx p true data) s = .next (if beField data 14 1 % 16 = 0 ∨ beField data 14 1 % 16 = 0xB
      then (s.count (Obj.ETH_RX_FRAMES p) 1).gptpForeign else s.count (Obj.ETH_RX_FRAMES p) 1)) ∧
  (∀ (s : State),
     s.running = true → s.k % 4000 = 0 →
      exec .ethConfigApply s = .next ((List.range 5).foldl (State.ethApply s.conf) s)) ∧
  (∀ (s : State),
     s.running = true → (s.eth 4).on = true → s.get (Obj.ETH_LINK 4) = 2 → s.standby = true →
      exec (.ethLinkLoss 4) s = .next (let t := (s.ethPower 4 true).count (Obj.ETH_LINK_LOSSES 4) 1
      if t.standby then t.mirrorLate.pairBit 10 true else t)) ∧
  (∀ (p : Fin 5) (s : State),
     s.running = true → (s.eth p).on = true → s.get (Obj.ETH_LINK p) = 2 → (p.val ≠ 4 ∨ s.standby = false) →
      exec (.ethLinkLoss p) s = .next ((s.ethPower p true).count (Obj.ETH_LINK_LOSSES p) 1)) ∧
  (∀ (p : Fin 5) (sqi : Nat) (s : State),
     s.running = true → (s.eth p).on = true → s.domOn 8 = true → s.get (Obj.ETH_LINK p) ≠ 2 → p.val ≠ 4 →
      exec (.ethLinkUp p sqi) s = .next ((s.set (Obj.ETH_LINK p) 2).set (Obj.ETH_SQI p) (if p.val = 3 then 0xFF else sqi))) ∧
  (∀ (sqi : Nat) (s : State),
     s.running = true → (s.eth 4).on = true → s.domOn 8 = true → s.get (Obj.ETH_LINK 4) ≠ 2 →
      exec (.ethLinkUp 4 sqi) s = .next (((s.set (Obj.ETH_LINK 4) 2).set (Obj.ETH_SQI 4) sqi).pairBit 10 false))

/-- PAIR_JOIN_TIMEOUT of a joining module 400 ticks, with PAIR-ID 1 800 ticks, after the partner was last heard takes the token and starts its units. LEASE_WORD_SEND of a module of a pair sends its word. LEASE_WORD_RX of a valid word, not cut off by a receiver test, is what a running module sees of its partner; in reset, an acting partner's word ends a hold. LEASE_FRAME_SEND at its tick mod 4 queues the state frame; LEASE_FRAME_RX of the partner's frame is what the module sees of it, and counted as late above PAIR_LEASE − 3 ticks. PAIR_HOLD_BEGIN of an active whose promise has lapsed begins the hold and makes a reset of cause 04h due. TAKEOVER that is due counts, notes the gap, reports event 7000h, becomes active, starts the units whose state is incomplete where it was filling and else marks the gap, and builds a heartbeat that was missed. PAIR_HOLD_END by the partner's word or at the limit turns the outputs off and ends the hold.
Rules R425, R426, R427, R428, R429, R430, R432, R433. -/
def Obligations.LeaseRowsTakeEffect : Prop :=
  (∀ (s : State),
     s.running = true → s.pair.state = 1 → (s.pair.quiet + (if s.get Obj.PAIR_ID = 0 then 400 else 800) ≤ s.k) →
      exec .pairJoinTimeout s = .next ((State.takeToken { s with pair := { s.pair with operTicks := 0 } }).unitsStart)) ∧
  (∀ (s : State),
     s.running = true → s.pair.state ≠ 0 →
      exec .leaseWordSend s = .next (s.send (.lease s.ownWord.word))) ∧
  (∀ (receiver : Bool) (w : PartnerWord) (word : Nat) (s : State),
     ofWord word = some w → (s.pair.rxTest.all fun t => t.1 == boolNat receiver) = true → s.running = true → s.pair.inForce = true →
      exec (.leaseWordRx receiver word) s = .next (s.seePartner 0 w)) ∧
  (∀ (receiver : Bool) (w : PartnerWord) (word : Nat) (s : State),
     ofWord word = some w → (s.pair.rxTest.all fun t => t.1 == boolNat receiver) = true → s.running = false → s.pair.hold.isSome = true → w.role = 2 →
      exec (.leaseWordRx receiver word) s = .next { s with pair := { s.pair with holdEnd := true } }) ∧
  (∀ (s : State),
     s.running = true → s.pair.inForce = true → s.pair.canUsed = true → (s.k % 4 = if s.pair.state = 4 then 1 else 3) →
      exec .leaseFrameSend s = .next (s.stateFrame s.pair.can {
      ext := true, ident := s.pair.canId - s.pair.canId % 2 + s.get Obj.PAIR_ID % 2, data := s.frameWord.frame s.k })) ∧
  (∀ (c : Fin 8) (ident tick : Nat) (data : Bytes) (w : PartnerWord) (s : State),
     ofFrame data = some (w, tick) → s.running = true → s.pair.inForce = true → s.pair.canUsed = true → c.val = s.pair.can →
      ident = s.pair.canId - s.pair.canId % 2 + (1 - s.get Obj.PAIR_ID % 2) →
      ((s.seePartner 2 w).k + 256 - tick) % 256 ≤ (s.seePartner 2 w).pair.lease - 3 →
      exec (.leaseFrameRx c ident data) s = .next (s.seePartner 2 w)) ∧
  (∀ (c : Fin 8) (ident tick : Nat) (data : Bytes) (w : PartnerWord) (s : State),
     ofFrame data = some (w, tick) → s.running = true → s.pair.inForce = true → s.pair.canUsed = true → c.val = s.pair.can →
      ident = s.pair.canId - s.pair.canId % 2 + (1 - s.get Obj.PAIR_ID % 2) →
      (s.seePartner 2 w).pair.lease - 3 < ((s.seePartner 2 w).k + 256 - tick) % 256 →
      exec (.leaseFrameRx c ident data) s = .next (((s.seePartner 2 w).count Obj.PAIR_CAN_LATE 1).pairBit 9 true)) ∧
  (∀ (s : State),
     s.running = true → s.pair.inForce = true → s.pair.state = 4 → s.pair.promise < s.k → s.pair.releaseAt = none → s.pair.hold = none →
      exec .pairHoldBegin s = .next (s.holdBegin.resetNext 4 0)) ∧
  (∀ (s : State),
     s.takeoverDue = true →
      exec .takeover s = .next (
      let t := (((s.count Obj.PAIR_TAKEOVERS 1).set Obj.PAIR_LAST_GAP (min (s.k + 1 - s.pair.lastApplied) 65535)).event 0 0x7000
        (u16 (s.k + 1 - s.pair.lastApplied) ++ u8 (s.get Obj.PAIR_GUARD_NOW))).becomeActive
      let u := if s.pair.state = 2 then t.unitsIncomplete else t.gapSamples
      if u.heartbeatMissed then u.buildHeartbeat else u)) ∧
  (∀ (since : Nat) (s : State),
     s.pair.hold = some since → (s.pair.holdEnd = true ∨ since + s.pair.holdLimit ≤ s.k) →
      exec .pairHoldEnd s = .next s.holdDone)

/-- MIRROR_COMPLETE of the active's mirror is taken by a joining module or a standby, P being up. MIRROR_LATE on a standby that has taken none in the tick counts the missing one. REFILL_COMPLETE of a whole refill on a standby that fills takes it; where the active's ledger does not run, the module is ready at once. One that is not whole changes nothing.
Rules R435, R437, R438. -/
def Obligations.MirrorRowsTakeEffect : Prop :=
  (∀ (m : Mirror) (align : Int) (s : State),
     s.running = true → s.pair.inForce = true → s.portUp 4 = true → m.role = 2 → (s.pair.state = 1 ∨ s.standby = true) →
      exec (.mirrorComplete m align) s = .next (s.takeMirror m align)) ∧
  (∀ (s : State),
     s.running = true → s.standby = true → s.pair.lastMirror ≠ some s.k →
      exec .mirrorLate s = .next s.mirrorLate) ∧
  (∀ (m : Mirror) (align : Int) (s : State),
     s.running = true → s.pair.inForce = true → s.portUp 4 = true → (m.role ≠ 2 ∨ (s.pair.state ≠ 1 ∧ s.standby = false)) →
      exec (.mirrorComplete m align) s = .next (s.seeHeader m)) ∧
  (∀ (r : Refill) (s : State),
     s.running = true → s.pair.state = 2 → (s.takeRefill r).ledgerOn = true →
      exec (.refillComplete r true) s = .next (s.takeRefill r)) ∧
  (∀ (r : Refill) (s : State),
     s.running = true → s.pair.state = 2 → (s.takeRefill r).ledgerOn = false →
      exec (.refillComplete r true) s = .next (s.takeRefill r).ready) ∧
  (∀ (r : Refill) (s : State),
      exec (.refillComplete r false) s = .next s)

/-- An accepted PAIR_SWAP_NOW begins a switchover of an active whose standby is ready. PLANNED_RELEASE at its tick turns the outputs off. PERIODIC_SWAP at the interval and with PAIR_SWAP_WINDOW, and HEALTH_SWAP at a health fault, begin one too, where the standby shows none. SWAP_OVERDUE of an active at twice the interval sets bit 6 of PAIR_FLAGS and reports event 7006h once. PARTNER_ABSENT of an active 40 ticks after it last saw the partner sets bit 0.
Rules R441, R442, R443, R444. -/
def Obligations.SwitchoverRowsTakeEffect : Prop :=
  (∀ (q : Req) (x : Session) (s : State),
     s.acceptsSet q x Obj.PAIR_SWAP_NOW 1 = true → s.swapReady = true →
      exec (.pairSwapNow q) s = .next (s.wroteSet q x Obj.PAIR_SWAP_NOW 1 (fun s => s.beginSwap))) ∧
  (∀ (at_ : Nat) (s : State),
     s.pair.releaseAt = some at_ → at_ ≤ s.k →
      exec .plannedRelease s = .next { s.swOff.valveOff with pair := { s.pair with releaseAt := none } }) ∧
  (∀ (s : State),
     s.swapReady = true → s.swapInterval ≤ s.pair.operTicks → s.confFlag Obj.PAIR_SWAP_WINDOW = true → s.pair.health = false →
      exec .periodicSwap s = .next s.beginSwap) ∧
  (∀ (s : State),
     s.running = true → s.pair.state = 4 → 2 * s.swapInterval ≤ s.pair.operTicks → s.pair.overdue = false →
      exec .swapOverdue s = .next (({ s with pair := { s.pair with overdue := true } }.pairBit 6 true).event 0 0x7006 [])) ∧
  (∀ (s : State),
     s.swapReady = true → s.healthFault = true → s.pair.health = false →
      exec .healthSwap s = .next s.beginSwap) ∧
  (∀ (s : State),
     s.running = true → s.pair.state = 4 → s.pair.seen.getD s.pair.quiet + 40 ≤ s.k →
      exec .partnerAbsent s = .next (s.pairBit 0 true))

/-- PAIR_PATH_FAULT of a path silent for 40 ticks while another shows the partner faults it, sets its bit, counts and reports event 7007h; PAIR_PATH_FAULT_CLEAR after 4000 ticks without a gap clears both. TWO_ACTIVES after 4 ticks counts, sets bit 7 and reports event 7008h; the module with PAIR-ID 1 goes to 02h, of two alike the one with the higher serial number to 07h, the other stays active. An accepted PAIR_RX_TEST begins the test of a receiver. RX_TEST_END ends it with 03h or 04h and event 7009h where the line shows no partner, and with 02h after 4000 ticks. TIME_DISAGREEMENT on a standby after 4000 ticks sets bit 5 and reports event 7005h once.
Rules R440, R445, R446, R449. -/
def Obligations.PairHealthRowsTakeEffect : Prop :=
  (∀ (path : Fin 3) (s : State),
     s.running = true → s.pair.inForce = true → s.leasePaths.contains path.val = true → (s.leasePath path).fault = false →
      (s.leasePath path).word.getD s.pair.quiet + 40 ≤ s.k → (s.leasePaths.any fun i => i != path.val && s.shows i) = true →
      exec (.pairPathFault path) s = .next ((((s.setPath path { s.leasePath path with fault := true, okSince := none }).pairBit (2 + path) true).count
      Obj.PAIR_PATH_FAULTS 1).event 0 0x7007 (u8 path))) ∧
  (∀ (path : Fin 3) (since word : Nat) (s : State),
     (s.leasePath path).okSince = some since → (s.leasePath path).word = some word → s.running = true → (s.leasePath path).fault = true →
      since + 4000 ≤ s.k → s.k ≤ word + 40 →
      exec (.pairPathFaultClear path) s = .next ((s.setPath path { s.leasePath path with fault := false }).pairBit (2 + path) false)) ∧
  (∀ (serial : Bytes) (s : State),
     s.running = true → s.pair.state = 4 → 4 ≤ s.pair.actives → s.pair.activeAt = some s.k →
      exec (.twoActives serial) s = .next (
      let own := if s.get Obj.PAIR_ID = s.pair.partnerId then (if higherSerial (s.getBlob Obj.ID_SERIAL) serial then 7 else 4)
        else if s.get Obj.PAIR_ID = 1 then 2 else 4
      { ((s.count Obj.PAIR_SPLITS 1).pairBit 7 true).event 0 0x7008 (u8 own) with pair := { s.pair with
        actives := 0, next := if own = 4 then none else some own } })) ∧
  (∀ (q : Req) (x : Session) (i : Fin 2) (s : State),
     s.acceptsSet q x Obj.PAIR_RX_TEST (i + 1) = true → s.rxTestOk = true →
      exec (.pairRxTest q i) s = .next (s.wroteSet q x Obj.PAIR_RX_TEST (i + 1) (fun s => s.rxTestBegin (i + 1)))) ∧
  (∀ (serve since : Nat) (s : State),
     s.pair.rxTest = some (serve, since) → s.running = true → s.shows 0 = false →
      exec .rxTestEnd s = .next ((({ s with pair := { s.pair with rxTest := none } }).set Obj.PAIR_RX_RESULT (3 + serve)).event 0 0x7009 (u8 serve))) ∧
  (∀ (serve since : Nat) (s : State),
     s.pair.rxTest = some (serve, since) → s.running = true → s.shows 0 = true → since + 4000 ≤ s.k →
      exec .rxTestEnd s = .next (({ s with pair := { s.pair with rxTest := none } }).set Obj.PAIR_RX_RESULT 2)) ∧
  (∀ (since : Nat) (s : State),
     s.pair.timeOff = some since → s.running = true → s.standby = true → since + 4000 ≤ s.k → s.pair.timeSeen = false →
      exec .timeDisagreement s = .next ((({ s with pair := { s.pair with timeSeen := true } }).pairBit 5 true).event 0 0x7005
      (u32 (({ s with pair := { s.pair with timeSeen := true } }.pairBit 5 true).get Obj.PAIR_TIME_DIFF))))

/-- DOMAIN_TRANSITION_BEGIN of a domain that has rested for a tick in another state than its allowed one notes the goal and begins: from 00h with 07h, from 01h to 02h with 05h and to 00h with 06h, from 02h, after the domain's own shutdown, with 04h or 06h. DOMAIN_TRANSITION_END within its time: from 06h the domain reaches 00h, from 04h 01h, from 05h 02h, where lost retained banks are noted, from 07h, its start done, 02h, or 04h on the way to 01h. ACCESS_WAKE to a domain that is not on adds an access vote of the client, and renews one that it has; ACCESS_VOTE_EXPIRY removes it PWR_ACCESS_HOLD ticks after the last access, and changes nothing else. WAKE_CHANGE to a new level sets PWR_WAKE_IN, votes while high, and times a low level; WAKE_HOLD_EXPIRY after PWR_EXT_HOLD ticks ends the vote. An accepted DOM_RET_ACK clears DOM_RET_LOST.
Rules R455, R458, R461, R463, R464, R466, R467, R469. -/
def Obligations.PowerDomainRowsTakeEffect : Prop :=
  (∀ (d : Fin 15) (s : State),
     s.running = true → 2 ≤ d.val → s.get (Obj.DOM_STATE d) = 0 → s.get (Obj.DOM_ALLOWED d) = 1 → Sparse.find (fun _ => 0) s.pwr.settled d ≤ s.k →
      exec (.domainTransitionBegin d) s = .next
      (State.set { s.set (Obj.DOM_PENDING d) 0xFF with pwr := { s.pwr with
        goal := Sparse.put (fun _ => 0) s.pwr.goal d 1, part := Sparse.put (fun _ => 0) s.pwr.part d 0 } } (Obj.DOM_STATE d) 7)) ∧
  (∀ (d : Fin 15) (s : State),
     s.running = true → 2 ≤ d.val → s.get (Obj.DOM_STATE d) = 0 → s.get (Obj.DOM_ALLOWED d) = 2 → Sparse.find (fun _ => 0) s.pwr.settled d ≤ s.k →
      exec (.domainTransitionBegin d) s = .next
      (State.set (State.wakeRecord { s.set (Obj.DOM_PENDING d) 0xFF with pwr := { s.pwr with
        goal := Sparse.put (fun _ => 0) s.pwr.goal d 2, part := Sparse.put (fun _ => 0) s.pwr.part d 0 } } d 2) (Obj.DOM_STATE d) 7)) ∧
  (∀ (d : Fin 15) (s : State),
     s.running = true → 2 ≤ d.val → s.get (Obj.DOM_STATE d) = 1 → s.get (Obj.DOM_ALLOWED d) = 2 → Sparse.find (fun _ => 0) s.pwr.settled d ≤ s.k →
      exec (.domainTransitionBegin d) s = .next
      (State.set (State.wakeRecord { s.set (Obj.DOM_PENDING d) 0xFF with pwr := { s.pwr with
        goal := Sparse.put (fun _ => 0) s.pwr.goal d 2, part := Sparse.put (fun _ => 0) s.pwr.part d 0 } } d 2) (Obj.DOM_STATE d) 5)) ∧
  (∀ (d : Fin 15) (s : State),
     s.running = true → 2 ≤ d.val → s.get (Obj.DOM_STATE d) = 1 → s.get (Obj.DOM_ALLOWED d) = 0 → Sparse.find (fun _ => 0) s.pwr.settled d ≤ s.k →
      exec (.domainTransitionBegin d) s = .next
      (State.set { s.set (Obj.DOM_PENDING d) 0xFF with pwr := { s.pwr with
        goal := Sparse.put (fun _ => 0) s.pwr.goal d 0, part := Sparse.put (fun _ => 0) s.pwr.part d 0 } } (Obj.DOM_STATE d) 6)) ∧
  (∀ (d : Fin 15) (s : State),
     s.running = true → 2 ≤ d.val → s.get (Obj.DOM_STATE d) = 2 → s.get (Obj.DOM_ALLOWED d) = 1 → Sparse.find (fun _ => 0) s.pwr.settled d ≤ s.k →
      exec (.domainTransitionBegin d) s = .next
      (State.set (State.domDown { s.set (Obj.DOM_PENDING d) 0xFF with pwr := { s.pwr with
        goal := Sparse.put (fun _ => 0) s.pwr.goal d 1, part := Sparse.put (fun _ => 0) s.pwr.part d 0 } } d) (Obj.DOM_STATE d) 4)) ∧
  (∀ (d : Fin 15) (s : State),
     s.running = true → 2 ≤ d.val → s.get (Obj.DOM_STATE d) = 2 → s.get (Obj.DOM_ALLOWED d) = 0 → Sparse.find (fun _ => 0) s.pwr.settled d ≤ s.k →
      exec (.domainTransitionBegin d) s = .next
      (State.set (State.domDown { s.set (Obj.DOM_PENDING d) 0xFF with pwr := { s.pwr with
        goal := Sparse.put (fun _ => 0) s.pwr.goal d 0, part := Sparse.put (fun _ => 0) s.pwr.part d 0 } } d) (Obj.DOM_STATE d) 6)) ∧
  (∀ (d : Fin 15) (us : Nat) (lost : List Nat) (s : State),
     s.get (Obj.DOM_STATE d) = 6 → us ≤ 40 →
      exec (.domainTransitionEnd d us lost) s = .next (s.domReach d 0 us)) ∧
  (∀ (d : Fin 15) (us : Nat) (lost : List Nat) (s : State),
     s.get (Obj.DOM_STATE d) = 4 → us ≤ 40 →
      exec (.domainTransitionEnd d us lost) s = .next (s.domReach d 1 (Sparse.find (fun _ => 0) s.pwr.part d + us))) ∧
  (∀ (d : Fin 15) (us : Nat) (lost : List Nat) (s : State),
     s.get (Obj.DOM_STATE d) = 5 → us ≤ 20 →
      exec (.domainTransitionEnd d us lost) s = .next (if s.pwr.codes.contains d.val then (s.domReach d 2 us).retLost d lost else s.domReach d 2 us)) ∧
  (∀ (d : Fin 15) (us : Nat) (lost : List Nat) (s : State),
     s.get (Obj.DOM_STATE d) = 7 → us ≤ onTime d → Sparse.find (fun _ => 0) s.pwr.goal d ≠ 1 →
      exec (.domainTransitionEnd d us lost) s = .next ((s.domReach d 2 us).domUp d)) ∧
  (∀ (d : Fin 15) (us : Nat) (lost : List Nat) (s : State),
     s.get (Obj.DOM_STATE d) = 7 → us ≤ onTime d → Sparse.find (fun _ => 0) s.pwr.goal d = 1 →
      exec (.domainTransitionEnd d us lost) s = .next (State.set (State.domUp { s with pwr := { s.pwr with part := Sparse.put (fun _ => 0) s.pwr.part d us } } d) (Obj.DOM_STATE d) 4)) ∧
  (∀ (c : Fin 10) (d : Fin 15) (s : State),
     s.running = true → s.accessVote c d = false → s.domOn d = false →
      exec (.accessWake c d) s = .next { s with pwr := { s.pwr with access := s.pwr.access ++ [⟨c, d, s.k⟩] } }) ∧
  (∀ (c : Fin 10) (d : Fin 15) (s : State),
     s.running = true → s.accessVote c d = true →
      exec (.accessWake c d) s = .next { s with pwr := { s.pwr with access := s.pwr.access.map fun a =>
      if a.client = c.val ∧ a.dom = d.val then { a with last := s.k } else a } }) ∧
  (∀ (c : Fin 10) (d : Fin 15) (s : State),
     s.running = true →
      ∃ t, exec (.accessVoteExpiry c d) s = .next t ∧ t = { s with pwr := { s.pwr with access := t.pwr.access } } ∧
    ∀ a, a ∈ t.pwr.access ↔ a ∈ s.pwr.access ∧ (a.client ≠ c.val ∨ a.dom ≠ d.val ∨ s.k < a.last + s.conf Obj.PWR_ACCESS_HOLD)) ∧
  (∀ (level : Bool) (s : State),
     s.pwr.wake ≠ level →
      exec (.wakeChange level) s = .next { s.set Obj.PWR_WAKE_IN (boolNat level) with pwr := { s.pwr with
      wake := level, wakeVote := level || s.pwr.wakeVote, wakeLow := if level then none else some (s.k + 1) } }) ∧
  (∀ (since : Nat) (s : State),
     s.pwr.wakeLow = some since → since + s.conf Obj.PWR_EXT_HOLD ≤ s.k →
      exec .wakeHoldExpiry s = .next { s with pwr := { s.pwr with wakeVote := false, wakeLow := none } }) ∧
  (∀ (q : Req) (x : Session) (d : Fin 15) (s : State),
     s.acceptsSet q x (Obj.DOM_RET_ACK d) 1 = true →
      exec (.domRetAck q d) s = .next (s.wroteSet q x (Obj.DOM_RET_ACK d) 1 (fun s => s.set (Obj.DOM_RET_LOST d) 0)))

/-- DIP_BEGIN with the lowest sample below the warning level enters 01h and notes tick and sample; DIP_SHEDDING 200 ticks later enters 02h and reports to the banks. DIP_END with it at the release level or above enters 00h with the dip's length and lowest sample, counts, and reports event 2001h. SUPPLY_RESET below 5.5 V enters a reset of cause 02h with the sample, after the record and the store of a module that is up. FEED_LOW of the one feed below 5.5 V reports event 2003h once.
Rules R470, R471, R472, R473. -/
def Obligations.SupplyRowsTakeEffect : Prop :=
  (∀ (s : State),
     s.running = true → s.supplySeen = true → s.get Obj.SUPPLY_STATE = 0 → f32lt (s.get Obj.SUPPLY_V_MIN) s.warnLevel = true →
      exec .dipBegin s = .next ({ s with pwr := { s.pwr with dip := some (s.k, s.get Obj.SUPPLY_V_MIN) } }.set Obj.SUPPLY_STATE 1)) ∧
  (∀ (since low : Nat) (s : State),
     s.pwr.dip = some (since, low) → s.running = true → s.get Obj.SUPPLY_STATE = 1 → since + 200 ≤ s.k →
      exec .dipShedding s = .next ({ s with sw := { s.sw with dipReported := some s.k } }.set Obj.SUPPLY_STATE 2)) ∧
  (∀ (since low : Nat) (s : State),
     s.pwr.dip = some (since, low) → s.running = true → s.supplySeen = true → f32rat s.warnLevel + 1 / 2 ≤ f32rat (s.get Obj.SUPPLY_V_MIN) →
      exec .dipEnd s = .next (((State.setAll { s with pwr := { s.pwr with dip := none }, sw := { s.sw with dipReported := none } }
      [(Obj.SUPPLY_STATE, 0), (Obj.SUPPLY_DIP_MIN, low), (Obj.SUPPLY_DIP_TICKS, (s.k - since) % 2 ^ 32)]).count Obj.SUPPLY_DIPS 1).event 0xF 0x2001
      (u32 low ++ u32 (s.k - since)))) ∧
  (∀ (mv reached : Nat) (s : State),
     mv < 5500 → s.alive = true →
      exec (.supplyReset mv reached) s = .next (((s.supplyRecord mv).storeInHoldup reached).resetAt 2 mv)) ∧
  (∀ (mv reached : Nat) (s : State),
     mv < 5500 → s.alive = false →
      exec (.supplyReset mv reached) s = .next (s.resetAt 2 mv)) ∧
  (∀ (feed : Fin 2) (s : State),
     s.running = true → bit (s.get Obj.SUPPLY_FEED_FLAGS) feed = true → bit (s.get Obj.SUPPLY_FEED_FLAGS) (1 - feed.val) = false →
      bit s.pwr.feedLow feed = false →
      exec (.feedLow feed) s = .next ({ s with pwr := { s.pwr with feedLow := setBit s.pwr.feedLow feed true } }.event 0xF 0x2003 (u8 feed)))

/-- FLOOD_WINDOW_END after 4000 ticks ends the window, with one record of code 0002h where it suppressed any. TIME_MARK in a T4000/0 tick at the interval records a time mark once; STARTUP_PHASE_END in such a tick after the first ends the start-up phase, RECOVERY_PHASE_END after 240000 ticks the recovery phase, and nothing else changes. Accepted REC_CLEAR_CIRC and REC_CLEAR_KEPT, no clearing under way, record code 0004h and 0003h with the session's level and number. An accepted REC_APP_EVENT with a valid block records its event. An admitted REC_WINDOW at offset 0 with a maximum length of 32 or more is answered OK with the served records.
Rules R479, R480, R485, R487, R489, R491. -/
def Obligations.RecorderRowsTakeEffect : Prop :=
  (∀ (src code : Nat) (f : Flood) (s : State),
     s.flood src code = some f → s.running = true → f.began + 4000 ≤ s.k → f.suppressed ≠ 0 →
      exec (.floodWindowEnd src code) s = .next ({ s with recd := { s.recd with
      floods := s.recd.floods.filter fun g => !(g.src == src && g.code == code) } }.event 0 2 (u8 src ++ u16 code ++ u32 f.suppressed))) ∧
  (∀ (src code : Nat) (f : Flood) (s : State),
     s.flood src code = some f → s.running = true → f.began + 4000 ≤ s.k → f.suppressed = 0 →
      exec (.floodWindowEnd src code) s = .next { s with recd := { s.recd with
      floods := s.recd.floods.filter fun g => !(g.src == src && g.code == code) } }) ∧
  (∀ (s : State),
     s.running = true → s.k % 4000 = 0 → s.recd.opSeconds % s.conf Obj.REC_MARK_SECONDS = 0 → s.recd.markAt ≠ some s.k →
      exec .timeMark s = .next { s.timeMark with recd := { s.timeMark.recd with markAt := some s.k } }) ∧
  (∀ (s : State),
      exec .startupPhaseEnd s = .next { s with recd := { s.recd with startPhase := s.recd.startPhase && !(s.running && decide (s.k % 4000 = 0 ∧ 0 < s.start.up)) } }) ∧
  (∀ (since : Nat) (s : State),
     s.recd.recoverySince = some since → s.running = true → since + 240000 ≤ s.k →
      exec .recoveryPhaseEnd s = .next { s with recd := { s.recd with recoverySince := none } }) ∧
  (∀ (q : Req) (x : Session) (s : State),
     s.acceptsSet q x Obj.REC_CLEAR_CIRC 1 = true → s.clearing = false →
      exec (.recClearCirc q) s = .next (s.wroteSet q x Obj.REC_CLEAR_CIRC 1 (fun s => s.event 0 4 (u8 (s.reqLevel q) ++ u16 q.session)))) ∧
  (∀ (q : Req) (x : Session) (s : State),
     s.acceptsSet q x Obj.REC_CLEAR_KEPT 1 = true → s.clearing = false →
      exec (.recClearKept q) s = .next (s.wroteSet q x Obj.REC_CLEAR_KEPT 1 (fun s => s.event 0 3 (u8 (s.reqLevel q) ++ u16 q.session)))) ∧
  (∀ (q : Req) (x : Session) (b : Bytes) (s : State),
     s.accepts q x Obj.REC_APP_EVENT (tyOf Obj.REC_APP_EVENT) b = true → appEventOk b = true →
      exec (.recAppEvent q b) s = .next (s.wrote q x Obj.REC_APP_EVENT b fun s => s.appEvent b)) ∧
  (∀ (q : Req) (x : Session) (maxLen : Nat) (s : State),
     s.admits q x = true → 32 ≤ maxLen →
      exec (.recWindow q 0 maxLen) s = .next (State.finish q 3 ⟨.ok, readReply 0xB ((s.servedBy q x).recWindow (min maxLen 1256)).length
      ((s.servedBy q x).recWindow (min maxLen 1256)), s.servedBy q x, false⟩))

/-- An accepted UPD_WAFER within the package and allowed by the state takes the wafer. VERIFICATION in 02h, from the tick after it was entered, sets a free UPD_PROGRESS of at most 100 (log entry 3) and decides: groups whose hash fails are received again; a firmware part whose signature fails is rejected with 06h; else the image goes to the other slot, and its read-back decides between ready and 07h. VERIFICATION_COMPLETE carries the decision out: 03h with event 8004h, 01h with the failed groups missing, or the rejection. An accepted UPD_ACTIVATE schedules the activation; all ones in Scheduled, UPD_ACTIVATE_REMOVE, removes the schedule. ACTIVATION_INTERLOCK in the tick before, the interlock failing, returns to Ready with result 09h and event 8005h; else it enters 05h, selects the new slot, and makes a reset of cause 06h due with the next tick. Accepted writes in their states: UPD_CANCEL cancels the update, UPD_CONFIRM confirms one that is proven, UPD_REJECT falls back with 03h and makes a commanded reset due; AUTO_CONFIRM in mode 00h confirms in a T4000/0 tick. PROOF_SECOND in 07h counts each second once. An accepted UPD_KEY_WRITE into an empty slot puts the key, UPD_KEY_CLEAR empties the slot.
Rules R499, R503, R504, R505, R511, R512, R513, R516. -/
def Obligations.UpdateRowsTakeEffect : Prop :=
  (∀ (q : Req) (x : Session) (b : Bytes) (s : State),
     s.accepts q x Obj.UPD_WAFER (tyOf Obj.UPD_WAFER) b = true → (s.servedBy q x).waferRange b = true →
      (s.servedBy q x).waferState (waferOf b) = true →
      exec (.updWafer q b) s = .next (s.wrote q x Obj.UPD_WAFER b fun s => s.takeWafer b)) ∧
  (∀ (ok : Bool) (rb : List Bool) (m : Manifest) (s : State),
     s.upd.manifest = some m → s.upd.verify = none → s.running = true → s.upd.rec_.state = 2 → s.conf Obj.UPD_STATE = 2 →
      (∃ g < m.hashes.length, s.groupOk m g = false) →
      exec (.verification ok rb) s = .next { s.draw.2.set Obj.UPD_PROGRESS (s.draw.1.toNat % 101) with upd := { s.upd with
      verify := some (.receiving ((List.range m.hashes.length).filter fun g => !s.groupOk m g)) } }) ∧
  (∀ (ok : Bool) (rb : List Bool) (m : Manifest) (s : State),
     s.upd.manifest = some m → s.upd.verify = none → s.running = true → s.upd.rec_.state = 2 → s.conf Obj.UPD_STATE = 2 → ok = false →
      (∀ g < m.hashes.length, s.groupOk m g = true) →
      exec (.verification ok rb) s = .next { s.draw.2.set Obj.UPD_PROGRESS (s.draw.1.toNat % 101) with upd := { s.upd with verify := some (.rejected 6) } }) ∧
  (∀ (ok : Bool) (rb : List Bool) (m : Manifest) (s : State),
     s.upd.manifest = some m → s.upd.verify = none → s.running = true → s.upd.rec_.state = 2 → s.conf Obj.UPD_STATE = 2 → ok = true →
      (∀ g < m.hashes.length, s.groupOk m g = true) →
      exec (.verification ok rb) s = .next { s.draw.2.set Obj.UPD_PROGRESS (s.draw.1.toNat % 101) with upd := { (if s.upd.sel then { s.upd with slotA := s.imageOf m } else { s.upd with slotB := s.imageOf m } : UpdSt) with
      verify := some (if rb.getD 0 true || rb.getD 1 true then .ready else .rejected 7) } }) ∧
  (∀ (m : Manifest) (s : State),
     s.upd.manifest = some m → s.upd.verify = some .ready → s.running = true →
      exec .verificationComplete s = .next (((State.putUpd { s with upd := { s.upd with verify := none } } { s.upd.rec_ with state := 3, newSlot := !s.upd.sel }).set
      Obj.UPD_PROGRESS 100).event 0 0x8004 (u32 (State.putUpd { s with upd := { s.upd with verify := none } } { s.upd.rec_ with state := 3, newSlot := !s.upd.sel }).upd.rec_.package ++ u8 (boolNat (!s.upd.sel))))) ∧
  (∀ (m : Manifest) (bad : List Nat) (s : State),
     s.upd.manifest = some m → s.upd.verify = some (.receiving bad) → s.running = true →
      exec .verificationComplete s = .next (
      let t := bad.foldl (fun s g => s.groupFail m g 2) ({ s with upd := { s.upd with verify := none } } : State)
      t.putUpd { t.upd.rec_ with state := 1 })) ∧
  (∀ (m : Manifest) (code : Nat) (s : State),
     s.upd.manifest = some m → s.upd.verify = some (.rejected code) → s.running = true →
      exec .verificationComplete s = .next (State.rejectUpd { s with upd := { s.upd with verify := none } } code)) ∧
  (∀ (q : Req) (x : Session) (tick : Nat) (s : State),
     s.acceptsSet q x Obj.UPD_ACTIVATE tick = true → (s.servedBy q x).activateExtra tick = {} →
      exec (.updActivate q tick) s = .next (s.wroteSet q x Obj.UPD_ACTIVATE tick (fun s => s.activate tick))) ∧
  (∀ (q : Req) (x : Session) (s : State),
     s.acceptsSet q x Obj.UPD_ACTIVATE removeTick = true → s.upd.rec_.state = 4 → s.get Obj.UPD_PARKED_SRC ≠ 0 →
      exec (.updActivateRemove q) s = .next (s.wroteSet q x Obj.UPD_ACTIVATE removeTick (fun s => s.putUpd { s.upd.rec_ with state := 3, actTick := 0 }))) ∧
  (∀ (s : State),
     s.running = true → s.upd.rec_.state = 4 → s.upd.rec_.actTick = s.k + 1 → s.interlock = false →
      exec .activationInterlock s = .next ((s.putUpd { s.upd.rec_ with state := 3, result := 9, actTick := 0 }).event 0 0x8005
      (u8 9 ++ u64 s.upd.rec_.actTick))) ∧
  (∀ (s : State),
     s.running = true → s.upd.rec_.state = 4 → s.upd.rec_.actTick = s.k + 1 → s.interlock = true →
      exec .activationInterlock s = .next (
      let t := (s.putUpd { s.upd.rec_ with
        state := 5, newArea := (match s.store.inForce with | some b => !b | none => false), oldRelease := s.selSlot.release }).putSel s.upd.rec_.newSlot
      State.resetNext { t with upd := { t.upd with noOld := t.store.inForce.isNone } } 6 1)) ∧
  (∀ (q : Req) (x : Session) (s : State),
     s.acceptsSet q x Obj.UPD_CANCEL 1 = true → (s.upd.rec_.state = 1 ∨ s.upd.rec_.state = 3 ∨ s.upd.rec_.state = 4) →
      exec (.updCancel q) s = .next (s.wroteSet q x Obj.UPD_CANCEL 1 (fun s => s.cancelUpd))) ∧
  (∀ (q : Req) (x : Session) (s : State),
     s.acceptsSet q x Obj.UPD_CONFIRM 1 = true → s.upd.rec_.state = 7 → s.proven = true → s.conf Obj.UPD_CONFIRM_MODE = 1 →
      exec (.updConfirm q) s = .next (s.wroteSet q x Obj.UPD_CONFIRM 1 (fun s => s.confirm))) ∧
  (∀ (s : State),
     s.running = true → s.upd.rec_.state = 7 → s.conf Obj.UPD_CONFIRM_MODE = 0 → s.k % 4000 = 0 → s.proven = true →
      exec .autoConfirm s = .next s.confirm) ∧
  (∀ (s : State),
     s.running = true → s.upd.rec_.state = 7 → s.k % 4000 = 0 → s.upd.secondAt ≠ some s.k →
      exec .proofSecond s = .next (({ s with upd := { s.upd with secondAt := some s.k } }).putUpd { s.upd.rec_ with
      proofSeconds := satAdd 32 s.upd.rec_.proofSeconds 1 })) ∧
  (∀ (q : Req) (x : Session) (s : State),
     s.acceptsSet q x Obj.UPD_REJECT 1 = true → s.upd.rec_.state = 7 →
      exec (.updReject q) s = .next (s.wroteSet q x Obj.UPD_REJECT 1 (fun s => (s.fallback 3).resetNext 6 2))) ∧
  (∀ (q : Req) (x : Session) (i : Fin 3) (b : Bytes) (s : State),
     s.accepts q x (Obj.UPD_KEY i) (tyOf (Obj.UPD_KEY i)) b = true → s.keyOf (i + 1) = none →
      exec (.updKeyWrite q i b) s = .next (s.wrote q x (Obj.UPD_KEY i) b fun s => s.putKey (i + 1) b)) ∧
  (∀ (q : Req) (x : Session) (i : Fin 3) (s : State),
     s.acceptsSet q x Obj.UPD_KEY_CLEAR (i + 1) = true →
      exec (.updKeyClear q i) s = .next (s.wroteSet q x Obj.UPD_KEY_CLEAR (i + 1) (fun s => s.putKey (i + 1) [])))

/-- POWER_LOSS enters a reset of cause 01h, SUPERVISOR_MISMATCH of a module that is up one of 03h with the address, WATCHDOG_EXPIRY after 8 ticks unserved one of 05h, MEMORY_ERROR one of 08h with the address. An accepted RST_COMMAND makes a reset of cause 07h due with the next tick. RESET_ENTRY enters a reset that is due. RESET_RELEASE that is due begins the start; the update's part allowing it, it goes on from an image whose check passes with settings, recorder and, where these allow, the partner check, and without such an image waits; else it takes the recorder's part alone.
Rules R518, R520, R521, R522, R524. -/
def Obligations.ResetRowsTakeEffect : Prop :=
  (∀ (s : State),
      exec .powerLoss s = .next (s.resetAt 1 0)) ∧
  (∀ (addr : Nat) (s : State),
     s.alive = true →
      exec (.supervisorMismatch addr) s = .next (s.resetAt 3 (addr % 2 ^ 32))) ∧
  (∀ (s : State),
     s.alive = true → 8 ≤ s.start.watchdog →
      exec .watchdogExpiry s = .next (s.resetAt 5 0)) ∧
  (∀ (addr : Nat) (s : State),
     s.alive = true →
      exec (.memoryError addr) s = .next (s.resetAt 8 (addr % 2 ^ 32))) ∧
  (∀ (q : Req) (x : Session) (s : State),
     s.acceptsSet q x Obj.RST_COMMAND 1 = true → (s.servedBy q x).resetExtra = {} →
      exec (.rstCommand q) s = .next (s.wroteSet q x Obj.RST_COMMAND 1 (fun s => s.resetNext 7 q.session))) ∧
  (∀ (d : ResetDue) (s : State),
     s.start.due = some d → d.at_ ≤ s.k →
      exec .resetEntry s = .next (s.enterReset d)) ∧
  (∀ (inp : StartIn) (s : State),
     s.releaseDue = true → (s.releaseBegin inp).updateStart.2 = true →
      exec (.resetRelease inp) s = .next (
      let t := (s.releaseBegin inp).updateStart.1
      match t.imageCheck inp.slotAOk inp.slotBOk with
      | none => { t with phase := .noImage }
      | some w =>
        let u : State := { w with upd := { w.upd with run := w.upd.sel } }
        let v := ((u.settingsStart inp.migrateOk).1.recorderStart inp.holdupOk).enqueueAll
        if (u.settingsStart inp.migrateOk).2 then v.partnerCheck inp.partnerRelease else v)) ∧
  (∀ (inp : StartIn) (s : State),
     s.releaseDue = true → (s.releaseBegin inp).updateStart.2 = false →
      exec (.resetRelease inp) s = .next (((s.releaseBegin inp).updateStart.1.recorderStart inp.holdupOk).enqueueAll))
end

