-- ==== Sys2Proof/Laws/PerInstr.lean ====
section
/-! SUPPORT. The family Shape: a well-formed command carries a well-formed request, one lemma for each constructor. -/

namespace Sys2Proof.Laws.Shape

/-- The request that a well-formed command carries has the fields of a request (R101). -/
def Statement (i : Instr) : Prop := i.wf = true → ∀ q, i.request? = some q → q.wf = true

/-- Whatever the command: its request is one of the two things that are checked. -/
theorem of_wf (i : Instr) : Statement i := by
  intro h q hq
  have hr : i.request?.all Req.wf = true := (Bool.and_eq_true_iff.mp h).1
  rwa [hq, Option.all_some] at hr

theorem tickBoundary (inp : TickIn) : Statement (.tickBoundary inp) := of_wf _
theorem captureLate (inputs : List Nat) : Statement (.captureLate inputs) := of_wf _
theorem computeDeadline (done : List Nat) : Statement (.computeDeadline done) := of_wf _
theorem unitOverrunFault (unit : Nat) : Statement (.unitOverrunFault unit) := of_wf _
theorem engineOverrunFault (eng : Fin 6) : Statement (.engineOverrunFault eng) := of_wf _
theorem supervisorDeadlineFault (offset : Nat) : Statement (.supervisorDeadlineFault offset) := of_wf _
theorem appWriteStall (w : AppWrite) : Statement (.appWriteStall w) := of_wf _
theorem stalledWriteLand : Statement (.stalledWriteLand) := of_wf _
theorem appWriteBlocked (core : Fin 4) (offset : Nat) : Statement (.appWriteBlocked core offset) := of_wf _
theorem tickEngineRestart (q : Req) (eng : Fin 6) : Statement (.tickEngineRestart q eng) := of_wf _
theorem engineRestartStart (eng : Fin 6) : Statement (.engineRestartStart eng) := of_wf _
theorem timeSteeringRun : Statement (.timeSteeringRun) := of_wf _
theorem lockCountComplete : Statement (.lockCountComplete) := of_wf _
theorem holdoverTimeout : Statement (.holdoverTimeout) := of_wf _
theorem holdoverEnd : Statement (.holdoverEnd) := of_wf _
theorem stepWindowClose : Statement (.stepWindowClose) := of_wf _
theorem gptpSync (port : Fin 3) (sub : Nat) : Statement (.gptpSync port sub) := of_wf _
theorem gptpAnnounce (port : Fin 3) : Statement (.gptpAnnounce port) := of_wf _
theorem gptpForeignRx (port : Fin 3) : Statement (.gptpForeignRx port) := of_wf _
theorem gptpConfigApply : Statement (.gptpConfigApply) := of_wf _
theorem mdpMessageRx (m : MdpMsg) : Statement (.mdpMessageRx m) := of_wf _
theorem mdpSegmentRx (ctrl : Fin 8) (ident : Nat) (fd : Bool) (data : List (BitVec 8)) : Statement (.mdpSegmentRx ctrl ident fd data) := of_wf _
theorem mdpSegTimeout (client : Fin 32) : Statement (.mdpSegTimeout client) := of_wf _
theorem open_ (q : Req) (level : Nat) (len : Nat) (code : List (BitVec 8)) : Statement (.open_ q level len code) := of_wf _
theorem close_ (q : Req) (extra : List (BitVec 8)) : Statement (.close_ q extra) := of_wf _
theorem read (q : Req) (index : Nat) (sub : Nat) (offset : Nat) (maxLen : Nat) : Statement (.read q index sub offset maxLen) := of_wf _
theorem write (q : Req) (index : Nat) (sub : Nat) (type_ : Nat) (len : Nat) (value : List (BitVec 8)) : Statement (.write q index sub type_ len value) := of_wf _
theorem keepalive (q : Req) (extra : List (BitVec 8)) : Statement (.keepalive q extra) := of_wf _
theorem sessionTimeout (num : Nat) : Statement (.sessionTimeout num) := of_wf _
theorem credentialLockout : Statement (.credentialLockout) := of_wf _
theorem lockoutEnd : Statement (.lockoutEnd) := of_wf _
theorem credentialWrite (q : Req) (which : Fin 2) (code : List (BitVec 8)) : Statement (.credentialWrite q which code) := of_wf _
theorem sessCloseAll (q : Req) : Statement (.sessCloseAll q) := of_wf _
theorem mdpTransportApply : Statement (.mdpTransportApply) := of_wf _
theorem storeAll (q : Req) : Statement (.storeAll q) := of_wf _
theorem storeGroup (q : Req) (group : Nat) : Statement (.storeGroup q group) := of_wf _
theorem storeDefaults (q : Req) : Statement (.storeDefaults q) := of_wf _
theorem storeComplete (bad : Option (Fin 2)) : Statement (.storeComplete bad) := of_wf _
theorem storeDeferredBegin : Statement (.storeDeferredBegin) := of_wf _
theorem modeWrite (q : Req) (key : Nat) (value : Nat) : Statement (.modeWrite q key value) := of_wf _
theorem assistedFallback (key : Nat) : Statement (.assistedFallback key) := of_wf _
theorem assistedFault (key : Nat) : Statement (.assistedFault key) := of_wf _
theorem crbEnable (q : Req) : Statement (.crbEnable q) := of_wf _
theorem crbDisable (q : Req) (fails : List Nat) : Statement (.crbDisable q fails) := of_wf _
theorem crbClear (q : Req) (fails : List Nat) : Statement (.crbClear q fails) := of_wf _
theorem ledgerRun (fails : List Nat) : Statement (.ledgerRun fails) := of_wf _
theorem checkpointComplete : Statement (.checkpointComplete) := of_wf _
theorem crbReducedEnd : Statement (.crbReducedEnd) := of_wf _
theorem ysSeal (q : Req) (fails : List Nat) : Statement (.ysSeal q fails) := of_wf _
theorem ysSetMark (q : Req) (seq : Nat) : Statement (.ysSetMark q seq) := of_wf _
theorem slotRun (n : Fin 48) (us : Nat) : Statement (.slotRun n us) := of_wf _
theorem ffTermDrop (n : Fin 48) (term : Fin 2) : Statement (.ffTermDrop n term) := of_wf _
theorem pvTimeoutFault (n : Fin 48) : Statement (.pvTimeoutFault n) := of_wf _
theorem unitEnable (q : Req) (u : Nat) : Statement (.unitEnable q u) := of_wf _
theorem unitDisable (q : Req) (u : Nat) : Statement (.unitDisable q u) := of_wf _
theorem unitReset (q : Req) (u : Nat) : Statement (.unitReset q u) := of_wf _
theorem tplBuild (q : Req) : Statement (.tplBuild q) := of_wf _
theorem templateRemove (q : Req) (a : Fin 256) : Statement (.templateRemove q a) := of_wf _
theorem supervisorStep : Statement (.supervisorStep) := of_wf _
theorem windowVoid : Statement (.windowVoid) := of_wf _
theorem settleEnd : Statement (.settleEnd) := of_wf _
theorem restEnd : Statement (.restEnd) := of_wf _
theorem tgtBaseWrite (q : Req) (t : Fin 5) (value : Nat) : Statement (.tgtBaseWrite q t value) := of_wf _
theorem supLockWrite (q : Req) (value : Nat) : Statement (.supLockWrite q value) := of_wf _
theorem supEnableOff (q : Req) : Statement (.supEnableOff q) := of_wf _
theorem supAdopt (q : Req) : Statement (.supAdopt q) := of_wf _
theorem impactStart (n : Fin 16) (us : Nat) (l : List Int) (v : Int) : Statement (.impactStart n us l v) := of_wf _
theorem impactEnd (n : Fin 16) (us : Nat) (l : List Int) (v : Int) : Statement (.impactEnd n us l v) := of_wf _
theorem impactMaxLen (n : Fin 16) (us : Nat) (l : List Int) : Statement (.impactMaxLen n us l) := of_wf _
theorem lsDetectorRestart (n : Fin 16) : Statement (.lsDetectorRestart n) := of_wf _
theorem uiModeWrite (q : Req) (n : Fin 48) (mode : Nat) : Statement (.uiModeWrite q n mode) := of_wf _
theorem uiSettleEnd (n : Fin 48) : Statement (.uiSettleEnd n) := of_wf _
theorem shuntDisconnect (n : Fin 48) : Statement (.shuntDisconnect n) := of_wf _
theorem shuntReconnect (n : Fin 48) : Statement (.shuntReconnect n) := of_wf _
theorem uiDebounceChange (n : Fin 48) : Statement (.uiDebounceChange n) := of_wf _
theorem uiCountSet (q : Req) (n : Fin 48) (value : Int) : Statement (.uiCountSet q n value) := of_wf _
theorem ssLimitTrip (n : Fin 4) : Statement (.ssLimitTrip n) := of_wf _
theorem ssRetry (n : Fin 4) : Statement (.ssRetry n) := of_wf _
theorem ssRearm (q : Req) (n : Fin 4) : Statement (.ssRearm q n) := of_wf _
theorem currentLimitTurnoff (n : Fin 128) (us : Nat) : Statement (.currentLimitTurnoff n us) := of_wf _
theorem thermalLatchSet (n : Fin 128) (temp : Rat) : Statement (.thermalLatchSet n temp) := of_wf _
theorem thermalLatchClear (n : Fin 128) (temp : Rat) : Statement (.thermalLatchClear n temp) := of_wf _
theorem channelRestart (n : Fin 128) : Statement (.channelRestart n) := of_wf _
theorem retryRestore (n : Fin 128) : Statement (.retryRestore n) := of_wf _
theorem chRearm (q : Req) (n : Fin 128) : Statement (.chRearm q n) := of_wf _
theorem bankRearm (q : Req) (b : Fin 8) : Statement (.bankRearm q b) := of_wf _
theorem assistedFuseTrip (b : Fin 8) : Statement (.assistedFuseTrip b) := of_wf _
theorem pwmPeriodStart (n : Fin 128) : Statement (.pwmPeriodStart n) := of_wf _
theorem switchOffEdge (n : Fin 128) (current : Nat) (ton : Nat) : Statement (.switchOffEdge n current ton) := of_wf _
theorem chOlLearn (q : Req) (n : Fin 128) : Statement (.chOlLearn q n) := of_wf _
theorem olLearnComplete (n : Fin 128) : Statement (.olLearnComplete n) := of_wf _
theorem bankUndervoltage (b : Fin 8) : Statement (.bankUndervoltage b) := of_wf _
theorem channelRestore (b : Fin 8) (n : Fin 128) : Statement (.channelRestore b n) := of_wf _
theorem dipShed : Statement (.dipShed) := of_wf _
theorem valveEvent (n : Fin 48) : Statement (.valveEvent n) := of_wf _
theorem boostEnd (n : Fin 48) (us : Nat) (current : Rat) : Statement (.boostEnd n us current) := of_wf _
theorem peakEnd (n : Fin 48) (us : Nat) : Statement (.peakEnd n us) := of_wf _
theorem transitionEnd (n : Fin 48) (us : Nat) (current : Rat) : Statement (.transitionEnd n us current) := of_wf _
theorem injectorEventEnd (n : Fin 48) (us : Nat) : Statement (.injectorEventEnd n us) := of_wf _
theorem switchOffComplete (n : Fin 48) (current : Rat) : Statement (.switchOffComplete n current) := of_wf _
theorem pairMinOffEnd (n : Fin 48) (us : Nat) : Statement (.pairMinOffEnd n us) := of_wf _
theorem vdRetrigger (q : Req) (n : Fin 48) : Statement (.vdRetrigger q n) := of_wf _
theorem stageOvercurrent (n : Fin 48) (current : Rat) : Statement (.stageOvercurrent n current) := of_wf _
theorem groupOvercurrent (g : Fin 12) (us : Nat × Rat) : Statement (.groupOvercurrent g us) := of_wf _
theorem lowPinCheck (n : Fin 48) : Statement (.lowPinCheck n) := of_wf _
theorem holdOpenCoil (n : Fin 48) : Statement (.holdOpenCoil n) := of_wf _
theorem vdRearm (q : Req) (n : Fin 48) : Statement (.vdRearm q n) := of_wf _
theorem hgRearm (q : Req) (g : Fin 12) : Statement (.hgRearm q g) := of_wf _
theorem boostStartFail : Statement (.boostStartFail) := of_wf _
theorem boostRetry : Statement (.boostRetry) := of_wf _
theorem antShort (a : Fin 2) : Statement (.antShort a) := of_wf _
theorem antRetry (a : Fin 2) : Statement (.antRetry a) := of_wf _
theorem antOpen (a : Fin 2) : Statement (.antOpen a) := of_wf _
theorem measurementEpoch (meas : List RawMeas) (unserved : Nat) : Statement (.measurementEpoch meas unserved) := of_wf _
theorem navRecordWrite (u : NavUnit) : Statement (.navRecordWrite u) := of_wf _
theorem positionSolutionRun (est : PosEst) : Statement (.positionSolutionRun est) := of_wf _
theorem integrityClear : Statement (.integrityClear) := of_wf _
theorem tpulse : Statement (.tpulse) := of_wf _
theorem timeMessage : Statement (.timeMessage) := of_wf _
theorem gnssEnable (q : Req) : Statement (.gnssEnable q) := of_wf _
theorem signalMaskApply : Statement (.signalMaskApply) := of_wf _
theorem posRateApply : Statement (.posRateApply) := of_wf _
theorem portEnable (q : Req) (p : Fin 2) : Statement (.portEnable q p) := of_wf _
theorem portTrained (p : Fin 2) : Statement (.portTrained p) := of_wf _
theorem linkDrop (p : Fin 2) (ns : Nat) : Statement (.linkDrop p ns) := of_wf _
theorem portRetry (p : Fin 2) : Statement (.portRetry p) := of_wf _
theorem frameStart (n : Fin 8) (ns : Nat) (number : Option Nat) (acks : List Bool) : Statement (.frameStart n ns number acks) := of_wf _
theorem linePacket (n : Fin 8) (l : CamLine) : Statement (.linePacket n l) := of_wf _
theorem frameEnd (n : Fin 8) (ns : Option Nat) : Statement (.frameEnd n ns) := of_wf _
theorem frameTimeout (n : Fin 8) : Statement (.frameTimeout n) := of_wf _
theorem strEnable (q : Req) (n : Fin 8) : Statement (.strEnable q n) := of_wf _
theorem strDisable (q : Req) (n : Fin 8) : Statement (.strDisable q n) := of_wf _
theorem shCommit (q : Req) (n : Fin 8) : Statement (.shCommit q n) := of_wf _
theorem commitComplete (n : Fin 8) : Statement (.commitComplete n) := of_wf _
theorem expRequest (q : Req) (n : Fin 8) (block : List (BitVec 8)) : Statement (.expRequest q n block) := of_wf _
theorem focusRun (n : Fin 8) : Statement (.focusRun n) := of_wf _
theorem canEnable (q : Req) (c : Fin 8) : Statement (.canEnable q c) := of_wf _
theorem canDisable (q : Req) (c : Fin 8) : Statement (.canDisable q c) := of_wf _
theorem canBusJoin (c : Fin 8) : Statement (.canBusJoin c) := of_wf _
theorem canFrameRx (c : Fin 8) (f : CanFrame) (sof : Nat) (dram : Bool) : Statement (.canFrameRx c f sof dram) := of_wf _
theorem txLoad (c : Fin 8) (b : Fin 3) : Statement (.txLoad c b) := of_wf _
theorem txCancel (c : Fin 8) (b : Fin 3) : Statement (.txCancel c b) := of_wf _
theorem arbitration (c : Fin 8) : Statement (.arbitration c) := of_wf _
theorem txAttemptFail (c : Fin 8) (err : Option (Nat × Bool × Option (Fin 256))) : Statement (.txAttemptFail c err) := of_wf _
theorem canFrameSent (c : Fin 8) (sof : Nat × Bool) (delay : Fin 256) : Statement (.canFrameSent c sof delay) := of_wf _
theorem busOff (c : Fin 8) : Statement (.busOff c) := of_wf _
theorem busOffRecoveryEnd (c : Fin 8) : Statement (.busOffRecoveryEnd c) := of_wf _
theorem canRecover (q : Req) (c : Fin 8) : Statement (.canRecover q c) := of_wf _
theorem heartbeat : Statement (.heartbeat) := of_wf _
theorem addressClaimStart : Statement (.addressClaimStart) := of_wf _
theorem competingClaimRx (addr : Fin 256) (name : Nat) : Statement (.competingClaimRx addr name) := of_wf _
theorem claimRequestRx : Statement (.claimRequestRx) := of_wf _
theorem addressHeld : Statement (.addressHeld) := of_wf _
theorem isoSendSlot (n : Fin 8) (data : List (BitVec 8)) : Statement (.isoSendSlot n data) := of_wf _
theorem tpRx (f : CanFrame) (time : Nat) : Statement (.tpRx f time) := of_wf _
theorem dm1Send : Statement (.dm1Send) := of_wf _
theorem ethFrameRx (p : Fin 4) (fcsOk : Bool) (data : List (BitVec 8)) : Statement (.ethFrameRx p fcsOk data) := of_wf _
theorem ethConfigApply : Statement (.ethConfigApply) := of_wf _
theorem pairJoinTimeout : Statement (.pairJoinTimeout) := of_wf _
theorem leaseWordSend : Statement (.leaseWordSend) := of_wf _
theorem leaseWordRx (receiver : Bool) (word : Nat) : Statement (.leaseWordRx receiver word) := of_wf _
theorem leaseFrameSend : Statement (.leaseFrameSend) := of_wf _
theorem leaseFrameRx (ctrl : Fin 8) (ident : Nat) (data : List (BitVec 8)) : Statement (.leaseFrameRx ctrl ident data) := of_wf _
theorem pairHoldBegin : Statement (.pairHoldBegin) := of_wf _
theorem takeover : Statement (.takeover) := of_wf _
theorem pairHoldEnd : Statement (.pairHoldEnd) := of_wf _
theorem mirrorComplete (m : Mirror) (align : Int) : Statement (.mirrorComplete m align) := of_wf _
theorem mirrorLate : Statement (.mirrorLate) := of_wf _
theorem refillComplete (r : Refill) (checkOk : Bool) : Statement (.refillComplete r checkOk) := of_wf _
theorem pairSwapNow (q : Req) : Statement (.pairSwapNow q) := of_wf _
theorem plannedRelease : Statement (.plannedRelease) := of_wf _
theorem periodicSwap : Statement (.periodicSwap) := of_wf _
theorem swapOverdue : Statement (.swapOverdue) := of_wf _
theorem healthSwap : Statement (.healthSwap) := of_wf _
theorem partnerAbsent : Statement (.partnerAbsent) := of_wf _
theorem pairPathFault (path : Fin 3) : Statement (.pairPathFault path) := of_wf _
theorem pairPathFaultClear (path : Fin 3) : Statement (.pairPathFaultClear path) := of_wf _
theorem twoActives (serial : List (BitVec 8)) : Statement (.twoActives serial) := of_wf _
theorem pairRxTest (q : Req) (which : Fin 2) : Statement (.pairRxTest q which) := of_wf _
theorem rxTestEnd : Statement (.rxTestEnd) := of_wf _
theorem timeDisagreement : Statement (.timeDisagreement) := of_wf _
theorem domainTransitionBegin (d : Fin 15) : Statement (.domainTransitionBegin d) := of_wf _
theorem domainTransitionEnd (d : Fin 15) (us : Nat) (lost : List Nat) : Statement (.domainTransitionEnd d us lost) := of_wf _
theorem accessWake (client : Fin 10) (d : Fin 15) : Statement (.accessWake client d) := of_wf _
theorem accessVoteExpiry (client : Fin 10) (d : Fin 15) : Statement (.accessVoteExpiry client d) := of_wf _
theorem wakeChange (level : Bool) : Statement (.wakeChange level) := of_wf _
theorem wakeHoldExpiry : Statement (.wakeHoldExpiry) := of_wf _
theorem domRetAck (q : Req) (d : Fin 15) : Statement (.domRetAck q d) := of_wf _
theorem dipBegin : Statement (.dipBegin) := of_wf _
theorem dipShedding : Statement (.dipShedding) := of_wf _
theorem dipEnd : Statement (.dipEnd) := of_wf _
theorem supplyReset (mv : Nat) (reached : Nat) : Statement (.supplyReset mv reached) := of_wf _
theorem feedLow (feed : Fin 2) : Statement (.feedLow feed) := of_wf _
theorem floodWindowEnd (src : Nat) (code : Nat) : Statement (.floodWindowEnd src code) := of_wf _
theorem timeMark : Statement (.timeMark) := of_wf _
theorem startupPhaseEnd : Statement (.startupPhaseEnd) := of_wf _
theorem recoveryPhaseEnd : Statement (.recoveryPhaseEnd) := of_wf _
theorem recClearCirc (q : Req) : Statement (.recClearCirc q) := of_wf _
theorem recClearKept (q : Req) : Statement (.recClearKept q) := of_wf _
theorem recAppEvent (q : Req) (block : List (BitVec 8)) : Statement (.recAppEvent q block) := of_wf _
theorem recWindow (q : Req) (offset : Nat) (maxLen : Nat) : Statement (.recWindow q offset maxLen) := of_wf _
theorem updWafer (q : Req) (block : List (BitVec 8)) : Statement (.updWafer q block) := of_wf _
theorem verification (fwSigOk : Bool) (readback : List Bool) : Statement (.verification fwSigOk readback) := of_wf _
theorem verificationComplete : Statement (.verificationComplete) := of_wf _
theorem updActivate (q : Req) (tick : Nat) : Statement (.updActivate q tick) := of_wf _
theorem updActivateRemove (q : Req) : Statement (.updActivateRemove q) := of_wf _
theorem activationInterlock : Statement (.activationInterlock) := of_wf _
theorem updCancel (q : Req) : Statement (.updCancel q) := of_wf _
theorem updConfirm (q : Req) : Statement (.updConfirm q) := of_wf _
theorem autoConfirm : Statement (.autoConfirm) := of_wf _
theorem proofSecond : Statement (.proofSecond) := of_wf _
theorem updReject (q : Req) : Statement (.updReject q) := of_wf _
theorem updKeyWrite (q : Req) (slot : Fin 3) (key : List (BitVec 8)) : Statement (.updKeyWrite q slot key) := of_wf _
theorem updKeyClear (q : Req) (slot : Fin 3) : Statement (.updKeyClear q slot) := of_wf _
theorem powerLoss : Statement (.powerLoss) := of_wf _
theorem supervisorMismatch (addr : Nat) : Statement (.supervisorMismatch addr) := of_wf _
theorem watchdogExpiry : Statement (.watchdogExpiry) := of_wf _
theorem memoryError (addr : Nat) : Statement (.memoryError addr) := of_wf _
theorem rstCommand (q : Req) : Statement (.rstCommand q) := of_wf _
theorem resetEntry : Statement (.resetEntry) := of_wf _
theorem resetRelease (inp : StartIn) : Statement (.resetRelease inp) := of_wf _
theorem firstTick (ms : Nat) (inp : TickIn) : Statement (.firstTick ms inp) := of_wf _
theorem ethLinkLoss (p : Fin 5) : Statement (.ethLinkLoss p) := of_wf _
theorem ethLinkUp (p : Fin 5) (sqi : Nat) : Statement (.ethLinkUp p sqi) := of_wf _
theorem canBusError (c : Fin 8) (lec : Nat) (eight : Bool) : Statement (.canBusError c lec eight) := of_wf _
theorem isoTpTimeout (send : Bool) (n : Fin 8) : Statement (.isoTpTimeout send n) := of_wf _

end Sys2Proof.Laws.Shape
end

