-- ==== Sys2Proof/Laws/Sparse.lean ====
section
/-! SUPPORT. The laws of sparse tables: what is read after a change, and that every change keeps the canonical form. -/

namespace Sys2Proof.Machine

variable {α : Type}

/-- A table behind another stands for what its unlisted keys read as. -/
theorem Sparse.find_append (d : Nat → α) (l m : Sparse α) (k : Nat) :
    Sparse.find d (l ++ m) k = Sparse.find (Sparse.find d m) l k := by
  induction l with
  | nil => rfl
  | cons p t ih => simp only [List.cons_append, Sparse.find, ih]

/-- A table cut down to some of its keys. -/
theorem Sparse.find_keep (d : Nat → α) (q : Nat → Bool) (m : Sparse α) (k : Nat) :
    Sparse.find d (m.filter fun p => q p.1) k = if q k then Sparse.find d m k else d k := by
  induction m with
  | nil => simp [Sparse.find]
  | cons p t ih =>
    by_cases hp : p.1 = k
    · cases hq : q k <;> simp_all [Sparse.find]
    · cases hq : q p.1 <;> simp [Sparse.find, hq, hp, ih]

/-- Only what the key itself reads as when unlisted matters. -/
theorem Sparse.find_congr {d e : Nat → α} {k : Nat} (h : d k = e k) (m : Sparse α) :
    Sparse.find d m k = Sparse.find e m k := by
  induction m with
  | nil => exact h
  | cons p t ih => simp only [Sparse.find, ih]

/-- What is read after a change: the new value at its key, every other key as before. -/
@[simp] theorem Sparse.find_put [DecidableEq α] (d : Nat → α) (m : Sparse α) (k : Nat) (v : α) (k' : Nat) :
    Sparse.find d (Sparse.put d m k v) k' = if k = k' then v else Sparse.find d m k' := by
  have above : Sparse.find d (m.filter fun p => k < p.1) k' = if k < k' then Sparse.find d m k' else d k' := by
    simpa using Sparse.find_keep d (fun a => decide (k < a)) m k'
  have here : Sparse.find d ((if v = d k then [] else [(k, v)]) ++ m.filter fun p => k < p.1) k' =
      if k = k' then v else if k < k' then Sparse.find d m k' else d k' := by
    by_cases hv : v = d k
    · by_cases hk : k = k'
      · subst hk; simp [hv, above]
      · simp [hv, above, hk]
    · simp [hv, Sparse.find, above]
  have all := Sparse.find_keep (Sparse.find d ((if v = d k then [] else [(k, v)]) ++ m.filter fun p => k < p.1))
    (fun a => decide (a < k)) m k'
  simp only [decide_eq_true_eq] at all
  rw [Sparse.put, Sparse.find_append, all, here]
  rcases Nat.lt_trichotomy k' k with h | h | h
  · rw [if_pos h, if_neg (Nat.ne_of_gt h)]
    exact Sparse.find_congr (by rw [here, if_neg (Nat.ne_of_gt h), if_neg (Nat.not_lt.mpr (Nat.le_of_lt h))]) m
  · simp [h]
  · simp [h, Nat.not_lt.mpr (Nat.le_of_lt h)]

/-- A change keeps the canonical form. -/
theorem Sparse.put_wf [DecidableEq α] {d : Nat → α} {m : Sparse α} (h : Sparse.wf d m) (k : Nat) (v : α) :
    Sparse.wf d (Sparse.put d m k v) := by
  by_cases hv : v = d k
  · simp only [Sparse.wf, Sparse.put, hv, if_true, List.nil_append, List.pairwise_append, List.mem_append, List.mem_filter,
      decide_eq_true_eq]
    exact ⟨⟨h.1.filter _, h.1.filter _, fun a ha b hb => Nat.lt_trans ha.2 hb.2⟩,
      fun p hp => h.2 p (hp.elim (·.1) (·.1))⟩
  · simp only [Sparse.wf, Sparse.put, hv, if_false, List.singleton_append, List.pairwise_append, List.pairwise_cons,
      List.mem_append, List.mem_cons, List.mem_filter, decide_eq_true_eq]
    refine ⟨⟨h.1.filter _, ⟨fun b hb => hb.2, h.1.filter _⟩, ?_⟩, ?_⟩
    · rintro a ⟨-, ha⟩ b (rfl | ⟨-, hb⟩)
      exacts [ha, Nat.lt_trans ha hb]
    · rintro p (⟨hp, -⟩ | rfl | ⟨hp, -⟩)
      exacts [h.2 p hp, hv, h.2 p hp]

/-- A table with some entries taken out keeps the canonical form. -/
theorem Sparse.filter_wf {d : Nat → α} {m : Sparse α} (h : Sparse.wf d m) (f : Nat × α → Bool) :
    Sparse.wf d (m.filter f) :=
  ⟨h.1.filter _, fun p hp => h.2 p (List.mem_filter.mp hp).1⟩

/-- The empty table is canonical. -/
theorem Sparse.nil_wf (d : Nat → α) : Sparse.wf d ([] : Sparse α) := ⟨List.Pairwise.nil, fun _ h => nomatch h⟩

end Sys2Proof.Machine
end

