-- ==== Sys2Proof/Laws/State.lean ====
section
/-! SUPPORT. What each update of the state leaves as it was, one lemma for each field, and what it changes. -/

namespace Sys2Proof.Machine

variable (s : State)

@[simp] theorem State.set_phase (key v : Nat) : (s.set key v).phase = s.phase := rfl
@[simp] theorem State.set_k (key v : Nat) : (s.set key v).k = s.k := rfl
@[simp] theorem State.set_blob (key v : Nat) : (s.set key v).blob = s.blob := rfl
@[simp] theorem State.set_snap (key v : Nat) : (s.set key v).snap = s.snap := rfl
@[simp] theorem State.set_snapBlob (key v : Nat) : (s.set key v).snapBlob = s.snapBlob := rfl
@[simp] theorem State.set_ent (key v : Nat) : (s.set key v).ent = s.ent := rfl
@[simp] theorem State.set_exch (key v : Nat) : (s.set key v).exch = s.exch := rfl
@[simp] theorem State.set_app (key v : Nat) : (s.set key v).app = s.app := rfl
@[simp] theorem State.set_app0 (key v : Nat) : (s.set key v).app0 = s.app0 := rfl
@[simp] theorem State.set_tick (key v : Nat) : (s.set key v).tick = s.tick := rfl
@[simp] theorem State.set_time (key v : Nat) : (s.set key v).time = s.time := rfl
@[simp] theorem State.set_gptp (key v : Nat) : (s.set key v).gptp = s.gptp := rfl
@[simp] theorem State.set_dict (key v : Nat) : (s.set key v).dict = s.dict := rfl
@[simp] theorem State.set_store (key v : Nat) : (s.set key v).store = s.store := rfl
@[simp] theorem State.set_mode (key v : Nat) : (s.set key v).mode = s.mode := rfl
@[simp] theorem State.set_led (key v : Nat) : (s.set key v).led = s.led := rfl
@[simp] theorem State.set_loop (key v : Nat) : (s.set key v).loop = s.loop := rfl
@[simp] theorem State.set_sup (key v : Nat) : (s.set key v).sup = s.sup := rfl
@[simp] theorem State.set_path (key v : Nat) : (s.set key v).path = s.path := rfl
@[simp] theorem State.set_gnss (key v : Nat) : (s.set key v).gnss = s.gnss := rfl
@[simp] theorem State.set_img (key v : Nat) : (s.set key v).img = s.img := rfl
@[simp] theorem State.set_net (key v : Nat) : (s.set key v).net = s.net := rfl
@[simp] theorem State.set_sense (key v : Nat) : (s.set key v).sense = s.sense := rfl
@[simp] theorem State.set_sw (key v : Nat) : (s.set key v).sw = s.sw := rfl
@[simp] theorem State.set_valve (key v : Nat) : (s.set key v).valve = s.valve := rfl
@[simp] theorem State.set_pwr (key v : Nat) : (s.set key v).pwr = s.pwr := rfl
@[simp] theorem State.set_pair (key v : Nat) : (s.set key v).pair = s.pair := rfl
@[simp] theorem State.set_recd (key v : Nat) : (s.set key v).recd = s.recd := rfl
@[simp] theorem State.set_upd (key v : Nat) : (s.set key v).upd = s.upd := rfl
@[simp] theorem State.set_start (key v : Nat) : (s.set key v).start = s.start := rfl
@[simp] theorem State.set_free (key v : Nat) : (s.set key v).free = s.free := rfl
@[simp] theorem State.set_sent (key v : Nat) : (s.set key v).sent = s.sent := rfl
@[simp] theorem State.set_pending (key v : Nat) : (s.set key v).pending = s.pending := rfl

@[simp] theorem State.setBlob_phase (key : Nat) (v : Bytes) : (s.setBlob key v).phase = s.phase := rfl
@[simp] theorem State.setBlob_k (key : Nat) (v : Bytes) : (s.setBlob key v).k = s.k := rfl
@[simp] theorem State.setBlob_obj (key : Nat) (v : Bytes) : (s.setBlob key v).obj = s.obj := rfl
@[simp] theorem State.setBlob_snap (key : Nat) (v : Bytes) : (s.setBlob key v).snap = s.snap := rfl
@[simp] theorem State.setBlob_snapBlob (key : Nat) (v : Bytes) : (s.setBlob key v).snapBlob = s.snapBlob := rfl
@[simp] theorem State.setBlob_ent (key : Nat) (v : Bytes) : (s.setBlob key v).ent = s.ent := rfl
@[simp] theorem State.setBlob_exch (key : Nat) (v : Bytes) : (s.setBlob key v).exch = s.exch := rfl
@[simp] theorem State.setBlob_app (key : Nat) (v : Bytes) : (s.setBlob key v).app = s.app := rfl
@[simp] theorem State.setBlob_app0 (key : Nat) (v : Bytes) : (s.setBlob key v).app0 = s.app0 := rfl
@[simp] theorem State.setBlob_tick (key : Nat) (v : Bytes) : (s.setBlob key v).tick = s.tick := rfl
@[simp] theorem State.setBlob_time (key : Nat) (v : Bytes) : (s.setBlob key v).time = s.time := rfl
@[simp] theorem State.setBlob_gptp (key : Nat) (v : Bytes) : (s.setBlob key v).gptp = s.gptp := rfl
@[simp] theorem State.setBlob_dict (key : Nat) (v : Bytes) : (s.setBlob key v).dict = s.dict := rfl
@[simp] theorem State.setBlob_store (key : Nat) (v : Bytes) : (s.setBlob key v).store = s.store := rfl
@[simp] theorem State.setBlob_mode (key : Nat) (v : Bytes) : (s.setBlob key v).mode = s.mode := rfl
@[simp] theorem State.setBlob_led (key : Nat) (v : Bytes) : (s.setBlob key v).led = s.led := rfl
@[simp] theorem State.setBlob_loop (key : Nat) (v : Bytes) : (s.setBlob key v).loop = s.loop := rfl
@[simp] theorem State.setBlob_sup (key : Nat) (v : Bytes) : (s.setBlob key v).sup = s.sup := rfl
@[simp] theorem State.setBlob_path (key : Nat) (v : Bytes) : (s.setBlob key v).path = s.path := rfl
@[simp] theorem State.setBlob_gnss (key : Nat) (v : Bytes) : (s.setBlob key v).gnss = s.gnss := rfl
@[simp] theorem State.setBlob_img (key : Nat) (v : Bytes) : (s.setBlob key v).img = s.img := rfl
@[simp] theorem State.setBlob_net (key : Nat) (v : Bytes) : (s.setBlob key v).net = s.net := rfl
@[simp] theorem State.setBlob_sense (key : Nat) (v : Bytes) : (s.setBlob key v).sense = s.sense := rfl
@[simp] theorem State.setBlob_sw (key : Nat) (v : Bytes) : (s.setBlob key v).sw = s.sw := rfl
@[simp] theorem State.setBlob_valve (key : Nat) (v : Bytes) : (s.setBlob key v).valve = s.valve := rfl
@[simp] theorem State.setBlob_pwr (key : Nat) (v : Bytes) : (s.setBlob key v).pwr = s.pwr := rfl
@[simp] theorem State.setBlob_pair (key : Nat) (v : Bytes) : (s.setBlob key v).pair = s.pair := rfl
@[simp] theorem State.setBlob_recd (key : Nat) (v : Bytes) : (s.setBlob key v).recd = s.recd := rfl
@[simp] theorem State.setBlob_upd (key : Nat) (v : Bytes) : (s.setBlob key v).upd = s.upd := rfl
@[simp] theorem State.setBlob_start (key : Nat) (v : Bytes) : (s.setBlob key v).start = s.start := rfl
@[simp] theorem State.setBlob_free (key : Nat) (v : Bytes) : (s.setBlob key v).free = s.free := rfl
@[simp] theorem State.setBlob_sent (key : Nat) (v : Bytes) : (s.setBlob key v).sent = s.sent := rfl
@[simp] theorem State.setBlob_pending (key : Nat) (v : Bytes) : (s.setBlob key v).pending = s.pending := rfl

@[simp] theorem State.count_phase (key n : Nat) : (s.count key n).phase = s.phase := rfl
@[simp] theorem State.count_k (key n : Nat) : (s.count key n).k = s.k := rfl
@[simp] theorem State.count_blob (key n : Nat) : (s.count key n).blob = s.blob := rfl
@[simp] theorem State.count_snap (key n : Nat) : (s.count key n).snap = s.snap := rfl
@[simp] theorem State.count_snapBlob (key n : Nat) : (s.count key n).snapBlob = s.snapBlob := rfl
@[simp] theorem State.count_ent (key n : Nat) : (s.count key n).ent = s.ent := rfl
@[simp] theorem State.count_exch (key n : Nat) : (s.count key n).exch = s.exch := rfl
@[simp] theorem State.count_app (key n : Nat) : (s.count key n).app = s.app := rfl
@[simp] theorem State.count_app0 (key n : Nat) : (s.count key n).app0 = s.app0 := rfl
@[simp] theorem State.count_tick (key n : Nat) : (s.count key n).tick = s.tick := rfl
@[simp] theorem State.count_time (key n : Nat) : (s.count key n).time = s.time := rfl
@[simp] theorem State.count_gptp (key n : Nat) : (s.count key n).gptp = s.gptp := rfl
@[simp] theorem State.count_dict (key n : Nat) : (s.count key n).dict = s.dict := rfl
@[simp] theorem State.count_store (key n : Nat) : (s.count key n).store = s.store := rfl
@[simp] theorem State.count_mode (key n : Nat) : (s.count key n).mode = s.mode := rfl
@[simp] theorem State.count_led (key n : Nat) : (s.count key n).led = s.led := rfl
@[simp] theorem State.count_loop (key n : Nat) : (s.count key n).loop = s.loop := rfl
@[simp] theorem State.count_sup (key n : Nat) : (s.count key n).sup = s.sup := rfl
@[simp] theorem State.count_path (key n : Nat) : (s.count key n).path = s.path := rfl
@[simp] theorem State.count_gnss (key n : Nat) : (s.count key n).gnss = s.gnss := rfl
@[simp] theorem State.count_img (key n : Nat) : (s.count key n).img = s.img := rfl
@[simp] theorem State.count_net (key n : Nat) : (s.count key n).net = s.net := rfl
@[simp] theorem State.count_sense (key n : Nat) : (s.count key n).sense = s.sense := rfl
@[simp] theorem State.count_sw (key n : Nat) : (s.count key n).sw = s.sw := rfl
@[simp] theorem State.count_valve (key n : Nat) : (s.count key n).valve = s.valve := rfl
@[simp] theorem State.count_pwr (key n : Nat) : (s.count key n).pwr = s.pwr := rfl
@[simp] theorem State.count_pair (key n : Nat) : (s.count key n).pair = s.pair := rfl
@[simp] theorem State.count_recd (key n : Nat) : (s.count key n).recd = s.recd := rfl
@[simp] theorem State.count_upd (key n : Nat) : (s.count key n).upd = s.upd := rfl
@[simp] theorem State.count_start (key n : Nat) : (s.count key n).start = s.start := rfl
@[simp] theorem State.count_free (key n : Nat) : (s.count key n).free = s.free := rfl
@[simp] theorem State.count_sent (key n : Nat) : (s.count key n).sent = s.sent := rfl
@[simp] theorem State.count_pending (key n : Nat) : (s.count key n).pending = s.pending := rfl

@[simp] theorem State.send_phase (o : Out) : (s.send o).phase = s.phase := rfl
@[simp] theorem State.send_k (o : Out) : (s.send o).k = s.k := rfl
@[simp] theorem State.send_obj (o : Out) : (s.send o).obj = s.obj := rfl
@[simp] theorem State.send_blob (o : Out) : (s.send o).blob = s.blob := rfl
@[simp] theorem State.send_snap (o : Out) : (s.send o).snap = s.snap := rfl
@[simp] theorem State.send_snapBlob (o : Out) : (s.send o).snapBlob = s.snapBlob := rfl
@[simp] theorem State.send_ent (o : Out) : (s.send o).ent = s.ent := rfl
@[simp] theorem State.send_exch (o : Out) : (s.send o).exch = s.exch := rfl
@[simp] theorem State.send_app (o : Out) : (s.send o).app = s.app := rfl
@[simp] theorem State.send_app0 (o : Out) : (s.send o).app0 = s.app0 := rfl
@[simp] theorem State.send_tick (o : Out) : (s.send o).tick = s.tick := rfl
@[simp] theorem State.send_time (o : Out) : (s.send o).time = s.time := rfl
@[simp] theorem State.send_gptp (o : Out) : (s.send o).gptp = s.gptp := rfl
@[simp] theorem State.send_dict (o : Out) : (s.send o).dict = s.dict := rfl
@[simp] theorem State.send_store (o : Out) : (s.send o).store = s.store := rfl
@[simp] theorem State.send_mode (o : Out) : (s.send o).mode = s.mode := rfl
@[simp] theorem State.send_led (o : Out) : (s.send o).led = s.led := rfl
@[simp] theorem State.send_loop (o : Out) : (s.send o).loop = s.loop := rfl
@[simp] theorem State.send_sup (o : Out) : (s.send o).sup = s.sup := rfl
@[simp] theorem State.send_path (o : Out) : (s.send o).path = s.path := rfl
@[simp] theorem State.send_gnss (o : Out) : (s.send o).gnss = s.gnss := rfl
@[simp] theorem State.send_img (o : Out) : (s.send o).img = s.img := rfl
@[simp] theorem State.send_net (o : Out) : (s.send o).net = s.net := rfl
@[simp] theorem State.send_sense (o : Out) : (s.send o).sense = s.sense := rfl
@[simp] theorem State.send_sw (o : Out) : (s.send o).sw = s.sw := rfl
@[simp] theorem State.send_valve (o : Out) : (s.send o).valve = s.valve := rfl
@[simp] theorem State.send_pwr (o : Out) : (s.send o).pwr = s.pwr := rfl
@[simp] theorem State.send_pair (o : Out) : (s.send o).pair = s.pair := rfl
@[simp] theorem State.send_recd (o : Out) : (s.send o).recd = s.recd := rfl
@[simp] theorem State.send_upd (o : Out) : (s.send o).upd = s.upd := rfl
@[simp] theorem State.send_start (o : Out) : (s.send o).start = s.start := rfl
@[simp] theorem State.send_free (o : Out) : (s.send o).free = s.free := rfl
@[simp] theorem State.send_pending (o : Out) : (s.send o).pending = s.pending := rfl

@[simp] theorem State.event_phase (src code : Nat) (p : Bytes) : (s.event src code p).phase = s.phase := rfl
@[simp] theorem State.event_k (src code : Nat) (p : Bytes) : (s.event src code p).k = s.k := rfl
@[simp] theorem State.event_obj (src code : Nat) (p : Bytes) : (s.event src code p).obj = s.obj := rfl
@[simp] theorem State.event_blob (src code : Nat) (p : Bytes) : (s.event src code p).blob = s.blob := rfl
@[simp] theorem State.event_snap (src code : Nat) (p : Bytes) : (s.event src code p).snap = s.snap := rfl
@[simp] theorem State.event_snapBlob (src code : Nat) (p : Bytes) : (s.event src code p).snapBlob = s.snapBlob := rfl
@[simp] theorem State.event_ent (src code : Nat) (p : Bytes) : (s.event src code p).ent = s.ent := rfl
@[simp] theorem State.event_exch (src code : Nat) (p : Bytes) : (s.event src code p).exch = s.exch := rfl
@[simp] theorem State.event_app (src code : Nat) (p : Bytes) : (s.event src code p).app = s.app := rfl
@[simp] theorem State.event_app0 (src code : Nat) (p : Bytes) : (s.event src code p).app0 = s.app0 := rfl
@[simp] theorem State.event_tick (src code : Nat) (p : Bytes) : (s.event src code p).tick = s.tick := rfl
@[simp] theorem State.event_time (src code : Nat) (p : Bytes) : (s.event src code p).time = s.time := rfl
@[simp] theorem State.event_gptp (src code : Nat) (p : Bytes) : (s.event src code p).gptp = s.gptp := rfl
@[simp] theorem State.event_dict (src code : Nat) (p : Bytes) : (s.event src code p).dict = s.dict := rfl
@[simp] theorem State.event_store (src code : Nat) (p : Bytes) : (s.event src code p).store = s.store := rfl
@[simp] theorem State.event_mode (src code : Nat) (p : Bytes) : (s.event src code p).mode = s.mode := rfl
@[simp] theorem State.event_led (src code : Nat) (p : Bytes) : (s.event src code p).led = s.led := rfl
@[simp] theorem State.event_loop (src code : Nat) (p : Bytes) : (s.event src code p).loop = s.loop := rfl
@[simp] theorem State.event_sup (src code : Nat) (p : Bytes) : (s.event src code p).sup = s.sup := rfl
@[simp] theorem State.event_path (src code : Nat) (p : Bytes) : (s.event src code p).path = s.path := rfl
@[simp] theorem State.event_gnss (src code : Nat) (p : Bytes) : (s.event src code p).gnss = s.gnss := rfl
@[simp] theorem State.event_img (src code : Nat) (p : Bytes) : (s.event src code p).img = s.img := rfl
@[simp] theorem State.event_net (src code : Nat) (p : Bytes) : (s.event src code p).net = s.net := rfl
@[simp] theorem State.event_sense (src code : Nat) (p : Bytes) : (s.event src code p).sense = s.sense := rfl
@[simp] theorem State.event_sw (src code : Nat) (p : Bytes) : (s.event src code p).sw = s.sw := rfl
@[simp] theorem State.event_valve (src code : Nat) (p : Bytes) : (s.event src code p).valve = s.valve := rfl
@[simp] theorem State.event_pwr (src code : Nat) (p : Bytes) : (s.event src code p).pwr = s.pwr := rfl
@[simp] theorem State.event_pair (src code : Nat) (p : Bytes) : (s.event src code p).pair = s.pair := rfl
@[simp] theorem State.event_upd (src code : Nat) (p : Bytes) : (s.event src code p).upd = s.upd := rfl
@[simp] theorem State.event_start (src code : Nat) (p : Bytes) : (s.event src code p).start = s.start := rfl
@[simp] theorem State.event_free (src code : Nat) (p : Bytes) : (s.event src code p).free = s.free := rfl
@[simp] theorem State.event_sent (src code : Nat) (p : Bytes) : (s.event src code p).sent = s.sent := rfl
@[simp] theorem State.event_pending (src code : Nat) (p : Bytes) : (s.event src code p).pending = s.pending := rfl

@[simp] theorem State.write_phase (key v : Nat) (b : Bool) : (s.write key v b).phase = s.phase := rfl
@[simp] theorem State.write_k (key v : Nat) (b : Bool) : (s.write key v b).k = s.k := rfl
@[simp] theorem State.write_obj (key v : Nat) (b : Bool) : (s.write key v b).obj = s.obj := rfl
@[simp] theorem State.write_blob (key v : Nat) (b : Bool) : (s.write key v b).blob = s.blob := rfl
@[simp] theorem State.write_snap (key v : Nat) (b : Bool) : (s.write key v b).snap = s.snap := rfl
@[simp] theorem State.write_snapBlob (key v : Nat) (b : Bool) : (s.write key v b).snapBlob = s.snapBlob := rfl
@[simp] theorem State.write_ent (key v : Nat) (b : Bool) : (s.write key v b).ent = s.ent := rfl
@[simp] theorem State.write_app (key v : Nat) (b : Bool) : (s.write key v b).app = s.app := rfl
@[simp] theorem State.write_app0 (key v : Nat) (b : Bool) : (s.write key v b).app0 = s.app0 := rfl
@[simp] theorem State.write_tick (key v : Nat) (b : Bool) : (s.write key v b).tick = s.tick := rfl
@[simp] theorem State.write_time (key v : Nat) (b : Bool) : (s.write key v b).time = s.time := rfl
@[simp] theorem State.write_gptp (key v : Nat) (b : Bool) : (s.write key v b).gptp = s.gptp := rfl
@[simp] theorem State.write_dict (key v : Nat) (b : Bool) : (s.write key v b).dict = s.dict := rfl
@[simp] theorem State.write_store (key v : Nat) (b : Bool) : (s.write key v b).store = s.store := rfl
@[simp] theorem State.write_mode (key v : Nat) (b : Bool) : (s.write key v b).mode = s.mode := rfl
@[simp] theorem State.write_led (key v : Nat) (b : Bool) : (s.write key v b).led = s.led := rfl
@[simp] theorem State.write_loop (key v : Nat) (b : Bool) : (s.write key v b).loop = s.loop := rfl
@[simp] theorem State.write_sup (key v : Nat) (b : Bool) : (s.write key v b).sup = s.sup := rfl
@[simp] theorem State.write_path (key v : Nat) (b : Bool) : (s.write key v b).path = s.path := rfl
@[simp] theorem State.write_gnss (key v : Nat) (b : Bool) : (s.write key v b).gnss = s.gnss := rfl
@[simp] theorem State.write_img (key v : Nat) (b : Bool) : (s.write key v b).img = s.img := rfl
@[simp] theorem State.write_net (key v : Nat) (b : Bool) : (s.write key v b).net = s.net := rfl
@[simp] theorem State.write_sense (key v : Nat) (b : Bool) : (s.write key v b).sense = s.sense := rfl
@[simp] theorem State.write_sw (key v : Nat) (b : Bool) : (s.write key v b).sw = s.sw := rfl
@[simp] theorem State.write_valve (key v : Nat) (b : Bool) : (s.write key v b).valve = s.valve := rfl
@[simp] theorem State.write_pwr (key v : Nat) (b : Bool) : (s.write key v b).pwr = s.pwr := rfl
@[simp] theorem State.write_pair (key v : Nat) (b : Bool) : (s.write key v b).pair = s.pair := rfl
@[simp] theorem State.write_recd (key v : Nat) (b : Bool) : (s.write key v b).recd = s.recd := rfl
@[simp] theorem State.write_upd (key v : Nat) (b : Bool) : (s.write key v b).upd = s.upd := rfl
@[simp] theorem State.write_start (key v : Nat) (b : Bool) : (s.write key v b).start = s.start := rfl
@[simp] theorem State.write_free (key v : Nat) (b : Bool) : (s.write key v b).free = s.free := rfl
@[simp] theorem State.write_sent (key v : Nat) (b : Bool) : (s.write key v b).sent = s.sent := rfl
@[simp] theorem State.write_pending (key v : Nat) (b : Bool) : (s.write key v b).pending = s.pending := rfl

@[simp] theorem State.invalidate_phase (key : Nat) : (s.invalidate key).phase = s.phase := rfl
@[simp] theorem State.invalidate_k (key : Nat) : (s.invalidate key).k = s.k := rfl
@[simp] theorem State.invalidate_obj (key : Nat) : (s.invalidate key).obj = s.obj := rfl
@[simp] theorem State.invalidate_blob (key : Nat) : (s.invalidate key).blob = s.blob := rfl
@[simp] theorem State.invalidate_snap (key : Nat) : (s.invalidate key).snap = s.snap := rfl
@[simp] theorem State.invalidate_snapBlob (key : Nat) : (s.invalidate key).snapBlob = s.snapBlob := rfl
@[simp] theorem State.invalidate_ent (key : Nat) : (s.invalidate key).ent = s.ent := rfl
@[simp] theorem State.invalidate_app (key : Nat) : (s.invalidate key).app = s.app := rfl
@[simp] theorem State.invalidate_app0 (key : Nat) : (s.invalidate key).app0 = s.app0 := rfl
@[simp] theorem State.invalidate_tick (key : Nat) : (s.invalidate key).tick = s.tick := rfl
@[simp] theorem State.invalidate_time (key : Nat) : (s.invalidate key).time = s.time := rfl
@[simp] theorem State.invalidate_gptp (key : Nat) : (s.invalidate key).gptp = s.gptp := rfl
@[simp] theorem State.invalidate_dict (key : Nat) : (s.invalidate key).dict = s.dict := rfl
@[simp] theorem State.invalidate_store (key : Nat) : (s.invalidate key).store = s.store := rfl
@[simp] theorem State.invalidate_mode (key : Nat) : (s.invalidate key).mode = s.mode := rfl
@[simp] theorem State.invalidate_led (key : Nat) : (s.invalidate key).led = s.led := rfl
@[simp] theorem State.invalidate_loop (key : Nat) : (s.invalidate key).loop = s.loop := rfl
@[simp] theorem State.invalidate_sup (key : Nat) : (s.invalidate key).sup = s.sup := rfl
@[simp] theorem State.invalidate_path (key : Nat) : (s.invalidate key).path = s.path := rfl
@[simp] theorem State.invalidate_gnss (key : Nat) : (s.invalidate key).gnss = s.gnss := rfl
@[simp] theorem State.invalidate_img (key : Nat) : (s.invalidate key).img = s.img := rfl
@[simp] theorem State.invalidate_net (key : Nat) : (s.invalidate key).net = s.net := rfl
@[simp] theorem State.invalidate_sense (key : Nat) : (s.invalidate key).sense = s.sense := rfl
@[simp] theorem State.invalidate_sw (key : Nat) : (s.invalidate key).sw = s.sw := rfl
@[simp] theorem State.invalidate_valve (key : Nat) : (s.invalidate key).valve = s.valve := rfl
@[simp] theorem State.invalidate_pwr (key : Nat) : (s.invalidate key).pwr = s.pwr := rfl
@[simp] theorem State.invalidate_pair (key : Nat) : (s.invalidate key).pair = s.pair := rfl
@[simp] theorem State.invalidate_recd (key : Nat) : (s.invalidate key).recd = s.recd := rfl
@[simp] theorem State.invalidate_upd (key : Nat) : (s.invalidate key).upd = s.upd := rfl
@[simp] theorem State.invalidate_start (key : Nat) : (s.invalidate key).start = s.start := rfl
@[simp] theorem State.invalidate_free (key : Nat) : (s.invalidate key).free = s.free := rfl
@[simp] theorem State.invalidate_sent (key : Nat) : (s.invalidate key).sent = s.sent := rfl
@[simp] theorem State.invalidate_pending (key : Nat) : (s.invalidate key).pending = s.pending := rfl

@[simp] theorem State.capture_phase (key v : Nat) (b : Bool) : (s.capture key v b).phase = s.phase := rfl
@[simp] theorem State.capture_k (key v : Nat) (b : Bool) : (s.capture key v b).k = s.k := rfl
@[simp] theorem State.capture_blob (key v : Nat) (b : Bool) : (s.capture key v b).blob = s.blob := rfl
@[simp] theorem State.capture_snap (key v : Nat) (b : Bool) : (s.capture key v b).snap = s.snap := rfl
@[simp] theorem State.capture_snapBlob (key v : Nat) (b : Bool) : (s.capture key v b).snapBlob = s.snapBlob := rfl
@[simp] theorem State.capture_exch (key v : Nat) (b : Bool) : (s.capture key v b).exch = s.exch := rfl
@[simp] theorem State.capture_app (key v : Nat) (b : Bool) : (s.capture key v b).app = s.app := rfl
@[simp] theorem State.capture_app0 (key v : Nat) (b : Bool) : (s.capture key v b).app0 = s.app0 := rfl
@[simp] theorem State.capture_tick (key v : Nat) (b : Bool) : (s.capture key v b).tick = s.tick := rfl
@[simp] theorem State.capture_time (key v : Nat) (b : Bool) : (s.capture key v b).time = s.time := rfl
@[simp] theorem State.capture_gptp (key v : Nat) (b : Bool) : (s.capture key v b).gptp = s.gptp := rfl
@[simp] theorem State.capture_dict (key v : Nat) (b : Bool) : (s.capture key v b).dict = s.dict := rfl
@[simp] theorem State.capture_store (key v : Nat) (b : Bool) : (s.capture key v b).store = s.store := rfl
@[simp] theorem State.capture_mode (key v : Nat) (b : Bool) : (s.capture key v b).mode = s.mode := rfl
@[simp] theorem State.capture_led (key v : Nat) (b : Bool) : (s.capture key v b).led = s.led := rfl
@[simp] theorem State.capture_loop (key v : Nat) (b : Bool) : (s.capture key v b).loop = s.loop := rfl
@[simp] theorem State.capture_sup (key v : Nat) (b : Bool) : (s.capture key v b).sup = s.sup := rfl
@[simp] theorem State.capture_path (key v : Nat) (b : Bool) : (s.capture key v b).path = s.path := rfl
@[simp] theorem State.capture_gnss (key v : Nat) (b : Bool) : (s.capture key v b).gnss = s.gnss := rfl
@[simp] theorem State.capture_img (key v : Nat) (b : Bool) : (s.capture key v b).img = s.img := rfl
@[simp] theorem State.capture_net (key v : Nat) (b : Bool) : (s.capture key v b).net = s.net := rfl
@[simp] theorem State.capture_sense (key v : Nat) (b : Bool) : (s.capture key v b).sense = s.sense := rfl
@[simp] theorem State.capture_sw (key v : Nat) (b : Bool) : (s.capture key v b).sw = s.sw := rfl
@[simp] theorem State.capture_valve (key v : Nat) (b : Bool) : (s.capture key v b).valve = s.valve := rfl
@[simp] theorem State.capture_pwr (key v : Nat) (b : Bool) : (s.capture key v b).pwr = s.pwr := rfl
@[simp] theorem State.capture_pair (key v : Nat) (b : Bool) : (s.capture key v b).pair = s.pair := rfl
@[simp] theorem State.capture_recd (key v : Nat) (b : Bool) : (s.capture key v b).recd = s.recd := rfl
@[simp] theorem State.capture_upd (key v : Nat) (b : Bool) : (s.capture key v b).upd = s.upd := rfl
@[simp] theorem State.capture_start (key v : Nat) (b : Bool) : (s.capture key v b).start = s.start := rfl
@[simp] theorem State.capture_free (key v : Nat) (b : Bool) : (s.capture key v b).free = s.free := rfl
@[simp] theorem State.capture_sent (key v : Nat) (b : Bool) : (s.capture key v b).sent = s.sent := rfl
@[simp] theorem State.capture_pending (key v : Nat) (b : Bool) : (s.capture key v b).pending = s.pending := rfl

@[simp] theorem State.clearInput_phase (key : Nat) : (s.clearInput key).phase = s.phase := rfl
@[simp] theorem State.clearInput_k (key : Nat) : (s.clearInput key).k = s.k := rfl
@[simp] theorem State.clearInput_obj (key : Nat) : (s.clearInput key).obj = s.obj := rfl
@[simp] theorem State.clearInput_blob (key : Nat) : (s.clearInput key).blob = s.blob := rfl
@[simp] theorem State.clearInput_snap (key : Nat) : (s.clearInput key).snap = s.snap := rfl
@[simp] theorem State.clearInput_snapBlob (key : Nat) : (s.clearInput key).snapBlob = s.snapBlob := rfl
@[simp] theorem State.clearInput_exch (key : Nat) : (s.clearInput key).exch = s.exch := rfl
@[simp] theorem State.clearInput_app (key : Nat) : (s.clearInput key).app = s.app := rfl
@[simp] theorem State.clearInput_app0 (key : Nat) : (s.clearInput key).app0 = s.app0 := rfl
@[simp] theorem State.clearInput_tick (key : Nat) : (s.clearInput key).tick = s.tick := rfl
@[simp] theorem State.clearInput_time (key : Nat) : (s.clearInput key).time = s.time := rfl
@[simp] theorem State.clearInput_gptp (key : Nat) : (s.clearInput key).gptp = s.gptp := rfl
@[simp] theorem State.clearInput_dict (key : Nat) : (s.clearInput key).dict = s.dict := rfl
@[simp] theorem State.clearInput_store (key : Nat) : (s.clearInput key).store = s.store := rfl
@[simp] theorem State.clearInput_mode (key : Nat) : (s.clearInput key).mode = s.mode := rfl
@[simp] theorem State.clearInput_led (key : Nat) : (s.clearInput key).led = s.led := rfl
@[simp] theorem State.clearInput_loop (key : Nat) : (s.clearInput key).loop = s.loop := rfl
@[simp] theorem State.clearInput_sup (key : Nat) : (s.clearInput key).sup = s.sup := rfl
@[simp] theorem State.clearInput_path (key : Nat) : (s.clearInput key).path = s.path := rfl
@[simp] theorem State.clearInput_gnss (key : Nat) : (s.clearInput key).gnss = s.gnss := rfl
@[simp] theorem State.clearInput_img (key : Nat) : (s.clearInput key).img = s.img := rfl
@[simp] theorem State.clearInput_net (key : Nat) : (s.clearInput key).net = s.net := rfl
@[simp] theorem State.clearInput_sense (key : Nat) : (s.clearInput key).sense = s.sense := rfl
@[simp] theorem State.clearInput_sw (key : Nat) : (s.clearInput key).sw = s.sw := rfl
@[simp] theorem State.clearInput_valve (key : Nat) : (s.clearInput key).valve = s.valve := rfl
@[simp] theorem State.clearInput_pwr (key : Nat) : (s.clearInput key).pwr = s.pwr := rfl
@[simp] theorem State.clearInput_pair (key : Nat) : (s.clearInput key).pair = s.pair := rfl
@[simp] theorem State.clearInput_recd (key : Nat) : (s.clearInput key).recd = s.recd := rfl
@[simp] theorem State.clearInput_upd (key : Nat) : (s.clearInput key).upd = s.upd := rfl
@[simp] theorem State.clearInput_start (key : Nat) : (s.clearInput key).start = s.start := rfl
@[simp] theorem State.clearInput_free (key : Nat) : (s.clearInput key).free = s.free := rfl
@[simp] theorem State.clearInput_sent (key : Nat) : (s.clearInput key).sent = s.sent := rfl
@[simp] theorem State.clearInput_pending (key : Nat) : (s.clearInput key).pending = s.pending := rfl

@[simp] theorem State.setMode_phase (key : Nat) (m : ModeRun) : (s.setMode key m).phase = s.phase := rfl
@[simp] theorem State.setMode_k (key : Nat) (m : ModeRun) : (s.setMode key m).k = s.k := rfl
@[simp] theorem State.setMode_obj (key : Nat) (m : ModeRun) : (s.setMode key m).obj = s.obj := rfl
@[simp] theorem State.setMode_blob (key : Nat) (m : ModeRun) : (s.setMode key m).blob = s.blob := rfl
@[simp] theorem State.setMode_snap (key : Nat) (m : ModeRun) : (s.setMode key m).snap = s.snap := rfl
@[simp] theorem State.setMode_snapBlob (key : Nat) (m : ModeRun) : (s.setMode key m).snapBlob = s.snapBlob := rfl
@[simp] theorem State.setMode_ent (key : Nat) (m : ModeRun) : (s.setMode key m).ent = s.ent := rfl
@[simp] theorem State.setMode_exch (key : Nat) (m : ModeRun) : (s.setMode key m).exch = s.exch := rfl
@[simp] theorem State.setMode_app (key : Nat) (m : ModeRun) : (s.setMode key m).app = s.app := rfl
@[simp] theorem State.setMode_app0 (key : Nat) (m : ModeRun) : (s.setMode key m).app0 = s.app0 := rfl
@[simp] theorem State.setMode_tick (key : Nat) (m : ModeRun) : (s.setMode key m).tick = s.tick := rfl
@[simp] theorem State.setMode_time (key : Nat) (m : ModeRun) : (s.setMode key m).time = s.time := rfl
@[simp] theorem State.setMode_gptp (key : Nat) (m : ModeRun) : (s.setMode key m).gptp = s.gptp := rfl
@[simp] theorem State.setMode_dict (key : Nat) (m : ModeRun) : (s.setMode key m).dict = s.dict := rfl
@[simp] theorem State.setMode_store (key : Nat) (m : ModeRun) : (s.setMode key m).store = s.store := rfl
@[simp] theorem State.setMode_led (key : Nat) (m : ModeRun) : (s.setMode key m).led = s.led := rfl
@[simp] theorem State.setMode_loop (key : Nat) (m : ModeRun) : (s.setMode key m).loop = s.loop := rfl
@[simp] theorem State.setMode_sup (key : Nat) (m : ModeRun) : (s.setMode key m).sup = s.sup := rfl
@[simp] theorem State.setMode_path (key : Nat) (m : ModeRun) : (s.setMode key m).path = s.path := rfl
@[simp] theorem State.setMode_gnss (key : Nat) (m : ModeRun) : (s.setMode key m).gnss = s.gnss := rfl
@[simp] theorem State.setMode_img (key : Nat) (m : ModeRun) : (s.setMode key m).img = s.img := rfl
@[simp] theorem State.setMode_net (key : Nat) (m : ModeRun) : (s.setMode key m).net = s.net := rfl
@[simp] theorem State.setMode_sense (key : Nat) (m : ModeRun) : (s.setMode key m).sense = s.sense := rfl
@[simp] theorem State.setMode_sw (key : Nat) (m : ModeRun) : (s.setMode key m).sw = s.sw := rfl
@[simp] theorem State.setMode_valve (key : Nat) (m : ModeRun) : (s.setMode key m).valve = s.valve := rfl
@[simp] theorem State.setMode_pwr (key : Nat) (m : ModeRun) : (s.setMode key m).pwr = s.pwr := rfl
@[simp] theorem State.setMode_pair (key : Nat) (m : ModeRun) : (s.setMode key m).pair = s.pair := rfl
@[simp] theorem State.setMode_recd (key : Nat) (m : ModeRun) : (s.setMode key m).recd = s.recd := rfl
@[simp] theorem State.setMode_upd (key : Nat) (m : ModeRun) : (s.setMode key m).upd = s.upd := rfl
@[simp] theorem State.setMode_start (key : Nat) (m : ModeRun) : (s.setMode key m).start = s.start := rfl
@[simp] theorem State.setMode_free (key : Nat) (m : ModeRun) : (s.setMode key m).free = s.free := rfl
@[simp] theorem State.setMode_sent (key : Nat) (m : ModeRun) : (s.setMode key m).sent = s.sent := rfl
@[simp] theorem State.setMode_pending (key : Nat) (m : ModeRun) : (s.setMode key m).pending = s.pending := rfl

@[simp] theorem State.answer_phase (q : Req) (svc n : Nat) (st : Status) (b : Bytes) : (s.answer q svc n st b).phase = s.phase := rfl
@[simp] theorem State.answer_k (q : Req) (svc n : Nat) (st : Status) (b : Bytes) : (s.answer q svc n st b).k = s.k := rfl
@[simp] theorem State.answer_obj (q : Req) (svc n : Nat) (st : Status) (b : Bytes) : (s.answer q svc n st b).obj = s.obj := rfl
@[simp] theorem State.answer_blob (q : Req) (svc n : Nat) (st : Status) (b : Bytes) : (s.answer q svc n st b).blob = s.blob := rfl
@[simp] theorem State.answer_snap (q : Req) (svc n : Nat) (st : Status) (b : Bytes) : (s.answer q svc n st b).snap = s.snap := rfl
@[simp] theorem State.answer_snapBlob (q : Req) (svc n : Nat) (st : Status) (b : Bytes) : (s.answer q svc n st b).snapBlob = s.snapBlob := rfl
@[simp] theorem State.answer_ent (q : Req) (svc n : Nat) (st : Status) (b : Bytes) : (s.answer q svc n st b).ent = s.ent := rfl
@[simp] theorem State.answer_exch (q : Req) (svc n : Nat) (st : Status) (b : Bytes) : (s.answer q svc n st b).exch = s.exch := rfl
@[simp] theorem State.answer_app (q : Req) (svc n : Nat) (st : Status) (b : Bytes) : (s.answer q svc n st b).app = s.app := rfl
@[simp] theorem State.answer_app0 (q : Req) (svc n : Nat) (st : Status) (b : Bytes) : (s.answer q svc n st b).app0 = s.app0 := rfl
@[simp] theorem State.answer_tick (q : Req) (svc n : Nat) (st : Status) (b : Bytes) : (s.answer q svc n st b).tick = s.tick := rfl
@[simp] theorem State.answer_time (q : Req) (svc n : Nat) (st : Status) (b : Bytes) : (s.answer q svc n st b).time = s.time := rfl
@[simp] theorem State.answer_gptp (q : Req) (svc n : Nat) (st : Status) (b : Bytes) : (s.answer q svc n st b).gptp = s.gptp := rfl
@[simp] theorem State.answer_dict (q : Req) (svc n : Nat) (st : Status) (b : Bytes) : (s.answer q svc n st b).dict = s.dict := rfl
@[simp] theorem State.answer_store (q : Req) (svc n : Nat) (st : Status) (b : Bytes) : (s.answer q svc n st b).store = s.store := rfl
@[simp] theorem State.answer_mode (q : Req) (svc n : Nat) (st : Status) (b : Bytes) : (s.answer q svc n st b).mode = s.mode := rfl
@[simp] theorem State.answer_led (q : Req) (svc n : Nat) (st : Status) (b : Bytes) : (s.answer q svc n st b).led = s.led := rfl
@[simp] theorem State.answer_loop (q : Req) (svc n : Nat) (st : Status) (b : Bytes) : (s.answer q svc n st b).loop = s.loop := rfl
@[simp] theorem State.answer_sup (q : Req) (svc n : Nat) (st : Status) (b : Bytes) : (s.answer q svc n st b).sup = s.sup := rfl
@[simp] theorem State.answer_path (q : Req) (svc n : Nat) (st : Status) (b : Bytes) : (s.answer q svc n st b).path = s.path := rfl
@[simp] theorem State.answer_gnss (q : Req) (svc n : Nat) (st : Status) (b : Bytes) : (s.answer q svc n st b).gnss = s.gnss := rfl
@[simp] theorem State.answer_img (q : Req) (svc n : Nat) (st : Status) (b : Bytes) : (s.answer q svc n st b).img = s.img := rfl
@[simp] theorem State.answer_net (q : Req) (svc n : Nat) (st : Status) (b : Bytes) : (s.answer q svc n st b).net = s.net := rfl
@[simp] theorem State.answer_sense (q : Req) (svc n : Nat) (st : Status) (b : Bytes) : (s.answer q svc n st b).sense = s.sense := rfl
@[simp] theorem State.answer_sw (q : Req) (svc n : Nat) (st : Status) (b : Bytes) : (s.answer q svc n st b).sw = s.sw := rfl
@[simp] theorem State.answer_valve (q : Req) (svc n : Nat) (st : Status) (b : Bytes) : (s.answer q svc n st b).valve = s.valve := rfl
@[simp] theorem State.answer_pwr (q : Req) (svc n : Nat) (st : Status) (b : Bytes) : (s.answer q svc n st b).pwr = s.pwr := rfl
@[simp] theorem State.answer_pair (q : Req) (svc n : Nat) (st : Status) (b : Bytes) : (s.answer q svc n st b).pair = s.pair := rfl
@[simp] theorem State.answer_recd (q : Req) (svc n : Nat) (st : Status) (b : Bytes) : (s.answer q svc n st b).recd = s.recd := rfl
@[simp] theorem State.answer_upd (q : Req) (svc n : Nat) (st : Status) (b : Bytes) : (s.answer q svc n st b).upd = s.upd := rfl
@[simp] theorem State.answer_start (q : Req) (svc n : Nat) (st : Status) (b : Bytes) : (s.answer q svc n st b).start = s.start := rfl
@[simp] theorem State.answer_free (q : Req) (svc n : Nat) (st : Status) (b : Bytes) : (s.answer q svc n st b).free = s.free := rfl
@[simp] theorem State.answer_pending (q : Req) (svc n : Nat) (st : Status) (b : Bytes) : (s.answer q svc n st b).pending = s.pending := rfl

@[simp] theorem State.takeUp_phase (q : Req) : (s.takeUp q).phase = s.phase := rfl
@[simp] theorem State.takeUp_k (q : Req) : (s.takeUp q).k = s.k := rfl
@[simp] theorem State.takeUp_obj (q : Req) : (s.takeUp q).obj = s.obj := rfl
@[simp] theorem State.takeUp_blob (q : Req) : (s.takeUp q).blob = s.blob := rfl
@[simp] theorem State.takeUp_snap (q : Req) : (s.takeUp q).snap = s.snap := rfl
@[simp] theorem State.takeUp_snapBlob (q : Req) : (s.takeUp q).snapBlob = s.snapBlob := rfl
@[simp] theorem State.takeUp_ent (q : Req) : (s.takeUp q).ent = s.ent := rfl
@[simp] theorem State.takeUp_exch (q : Req) : (s.takeUp q).exch = s.exch := rfl
@[simp] theorem State.takeUp_app (q : Req) : (s.takeUp q).app = s.app := rfl
@[simp] theorem State.takeUp_app0 (q : Req) : (s.takeUp q).app0 = s.app0 := rfl
@[simp] theorem State.takeUp_tick (q : Req) : (s.takeUp q).tick = s.tick := rfl
@[simp] theorem State.takeUp_time (q : Req) : (s.takeUp q).time = s.time := rfl
@[simp] theorem State.takeUp_gptp (q : Req) : (s.takeUp q).gptp = s.gptp := rfl
@[simp] theorem State.takeUp_store (q : Req) : (s.takeUp q).store = s.store := rfl
@[simp] theorem State.takeUp_mode (q : Req) : (s.takeUp q).mode = s.mode := rfl
@[simp] theorem State.takeUp_led (q : Req) : (s.takeUp q).led = s.led := rfl
@[simp] theorem State.takeUp_loop (q : Req) : (s.takeUp q).loop = s.loop := rfl
@[simp] theorem State.takeUp_sup (q : Req) : (s.takeUp q).sup = s.sup := rfl
@[simp] theorem State.takeUp_path (q : Req) : (s.takeUp q).path = s.path := rfl
@[simp] theorem State.takeUp_gnss (q : Req) : (s.takeUp q).gnss = s.gnss := rfl
@[simp] theorem State.takeUp_img (q : Req) : (s.takeUp q).img = s.img := rfl
@[simp] theorem State.takeUp_net (q : Req) : (s.takeUp q).net = s.net := rfl
@[simp] theorem State.takeUp_sense (q : Req) : (s.takeUp q).sense = s.sense := rfl
@[simp] theorem State.takeUp_sw (q : Req) : (s.takeUp q).sw = s.sw := rfl
@[simp] theorem State.takeUp_valve (q : Req) : (s.takeUp q).valve = s.valve := rfl
@[simp] theorem State.takeUp_pwr (q : Req) : (s.takeUp q).pwr = s.pwr := rfl
@[simp] theorem State.takeUp_pair (q : Req) : (s.takeUp q).pair = s.pair := rfl
@[simp] theorem State.takeUp_recd (q : Req) : (s.takeUp q).recd = s.recd := rfl
@[simp] theorem State.takeUp_upd (q : Req) : (s.takeUp q).upd = s.upd := rfl
@[simp] theorem State.takeUp_start (q : Req) : (s.takeUp q).start = s.start := rfl
@[simp] theorem State.takeUp_free (q : Req) : (s.takeUp q).free = s.free := rfl
@[simp] theorem State.takeUp_sent (q : Req) : (s.takeUp q).sent = s.sent := rfl
@[simp] theorem State.takeUp_pending (q : Req) : (s.takeUp q).pending = s.pending := rfl

@[simp] theorem State.putSession_phase (x : Session) : (s.putSession x).phase = s.phase := rfl
@[simp] theorem State.putSession_k (x : Session) : (s.putSession x).k = s.k := rfl
@[simp] theorem State.putSession_obj (x : Session) : (s.putSession x).obj = s.obj := rfl
@[simp] theorem State.putSession_blob (x : Session) : (s.putSession x).blob = s.blob := rfl
@[simp] theorem State.putSession_snap (x : Session) : (s.putSession x).snap = s.snap := rfl
@[simp] theorem State.putSession_snapBlob (x : Session) : (s.putSession x).snapBlob = s.snapBlob := rfl
@[simp] theorem State.putSession_ent (x : Session) : (s.putSession x).ent = s.ent := rfl
@[simp] theorem State.putSession_exch (x : Session) : (s.putSession x).exch = s.exch := rfl
@[simp] theorem State.putSession_app (x : Session) : (s.putSession x).app = s.app := rfl
@[simp] theorem State.putSession_app0 (x : Session) : (s.putSession x).app0 = s.app0 := rfl
@[simp] theorem State.putSession_tick (x : Session) : (s.putSession x).tick = s.tick := rfl
@[simp] theorem State.putSession_time (x : Session) : (s.putSession x).time = s.time := rfl
@[simp] theorem State.putSession_gptp (x : Session) : (s.putSession x).gptp = s.gptp := rfl
@[simp] theorem State.putSession_store (x : Session) : (s.putSession x).store = s.store := rfl
@[simp] theorem State.putSession_mode (x : Session) : (s.putSession x).mode = s.mode := rfl
@[simp] theorem State.putSession_led (x : Session) : (s.putSession x).led = s.led := rfl
@[simp] theorem State.putSession_loop (x : Session) : (s.putSession x).loop = s.loop := rfl
@[simp] theorem State.putSession_sup (x : Session) : (s.putSession x).sup = s.sup := rfl
@[simp] theorem State.putSession_path (x : Session) : (s.putSession x).path = s.path := rfl
@[simp] theorem State.putSession_gnss (x : Session) : (s.putSession x).gnss = s.gnss := rfl
@[simp] theorem State.putSession_img (x : Session) : (s.putSession x).img = s.img := rfl
@[simp] theorem State.putSession_net (x : Session) : (s.putSession x).net = s.net := rfl
@[simp] theorem State.putSession_sense (x : Session) : (s.putSession x).sense = s.sense := rfl
@[simp] theorem State.putSession_sw (x : Session) : (s.putSession x).sw = s.sw := rfl
@[simp] theorem State.putSession_valve (x : Session) : (s.putSession x).valve = s.valve := rfl
@[simp] theorem State.putSession_pwr (x : Session) : (s.putSession x).pwr = s.pwr := rfl
@[simp] theorem State.putSession_pair (x : Session) : (s.putSession x).pair = s.pair := rfl
@[simp] theorem State.putSession_recd (x : Session) : (s.putSession x).recd = s.recd := rfl
@[simp] theorem State.putSession_upd (x : Session) : (s.putSession x).upd = s.upd := rfl
@[simp] theorem State.putSession_start (x : Session) : (s.putSession x).start = s.start := rfl
@[simp] theorem State.putSession_free (x : Session) : (s.putSession x).free = s.free := rfl
@[simp] theorem State.putSession_sent (x : Session) : (s.putSession x).sent = s.sent := rfl
@[simp] theorem State.putSession_pending (x : Session) : (s.putSession x).pending = s.pending := rfl

/-! What the updates change -/

@[simp] theorem State.get_set (key v key' : Nat) :
    (s.set key v).get key' = if key = key' then v else s.get key' := by
  simp [State.get, State.set]

@[simp] theorem State.get_count (key n key' : Nat) :
    (s.count key n).get key' = if key = key' then satAdd 32 (s.get key) n else s.get key' := by
  simp [State.count]

@[simp] theorem State.getBlob_setBlob (key : Nat) (v : Bytes) (key' : Nat) :
    (s.setBlob key v).getBlob key' = if key = key' then v else s.getBlob key' := by
  simp [State.getBlob, State.setBlob]

@[simp] theorem State.sent_send (o : Out) : (s.send o).sent = s.sent ++ [o] := rfl

@[simp] theorem State.sent_answer (q : Req) (svc n : Nat) (st : Status) (b : Bytes) :
    (s.answer q svc n st b).sent = s.sent ++ [.mdp q.transport q.source q.target (svc + 128) n q.txn st.code b] := rfl

/-- A value that an update of another field leaves is read as before. -/
theorem State.get_congr {s t : State} (h : t.obj = s.obj) (key : Nat) : t.get key = s.get key := by
  simp [State.get, h]

/-- The value at the start of the tick is read as before where the snapshot is. -/
theorem State.conf_congr {s t : State} (h : t.snap = s.snap) (key : Nat) : t.conf key = s.conf key := by
  simp [State.conf, h]

@[simp] theorem State.set_getBlob (key v : Nat) (key' : Nat) : (s.set key v).getBlob key' = s.getBlob key' := rfl
@[simp] theorem State.set_conf (key v : Nat) (key' : Nat) : (s.set key v).conf key' = s.conf key' := rfl
@[simp] theorem State.set_running (key v : Nat) : (s.set key v).running = s.running := rfl
@[simp] theorem State.set_standby (key v : Nat) : (s.set key v).standby = s.standby := rfl
@[simp] theorem State.set_acting (key v : Nat) : (s.set key v).acting = s.acting := rfl
@[simp] theorem State.setBlob_get (key : Nat) (v : Bytes) (key' : Nat) : (s.setBlob key v).get key' = s.get key' := rfl
@[simp] theorem State.setBlob_conf (key : Nat) (v : Bytes) (key' : Nat) : (s.setBlob key v).conf key' = s.conf key' := rfl
@[simp] theorem State.setBlob_running (key : Nat) (v : Bytes) : (s.setBlob key v).running = s.running := rfl
@[simp] theorem State.setBlob_standby (key : Nat) (v : Bytes) : (s.setBlob key v).standby = s.standby := rfl
@[simp] theorem State.setBlob_acting (key : Nat) (v : Bytes) : (s.setBlob key v).acting = s.acting := rfl
@[simp] theorem State.count_getBlob (key n : Nat) (key' : Nat) : (s.count key n).getBlob key' = s.getBlob key' := rfl
@[simp] theorem State.count_conf (key n : Nat) (key' : Nat) : (s.count key n).conf key' = s.conf key' := rfl
@[simp] theorem State.count_running (key n : Nat) : (s.count key n).running = s.running := rfl
@[simp] theorem State.count_standby (key n : Nat) : (s.count key n).standby = s.standby := rfl
@[simp] theorem State.count_acting (key n : Nat) : (s.count key n).acting = s.acting := rfl
@[simp] theorem State.send_get (o : Out) (key' : Nat) : (s.send o).get key' = s.get key' := rfl
@[simp] theorem State.send_getBlob (o : Out) (key' : Nat) : (s.send o).getBlob key' = s.getBlob key' := rfl
@[simp] theorem State.send_conf (o : Out) (key' : Nat) : (s.send o).conf key' = s.conf key' := rfl
@[simp] theorem State.send_running (o : Out) : (s.send o).running = s.running := rfl
@[simp] theorem State.send_standby (o : Out) : (s.send o).standby = s.standby := rfl
@[simp] theorem State.send_acting (o : Out) : (s.send o).acting = s.acting := rfl
@[simp] theorem State.event_get (src code : Nat) (p : Bytes) (key' : Nat) : (s.event src code p).get key' = s.get key' := rfl
@[simp] theorem State.event_getBlob (src code : Nat) (p : Bytes) (key' : Nat) : (s.event src code p).getBlob key' = s.getBlob key' := rfl
@[simp] theorem State.event_conf (src code : Nat) (p : Bytes) (key' : Nat) : (s.event src code p).conf key' = s.conf key' := rfl
@[simp] theorem State.event_running (src code : Nat) (p : Bytes) : (s.event src code p).running = s.running := rfl
@[simp] theorem State.event_standby (src code : Nat) (p : Bytes) : (s.event src code p).standby = s.standby := rfl
@[simp] theorem State.event_acting (src code : Nat) (p : Bytes) : (s.event src code p).acting = s.acting := rfl
@[simp] theorem State.write_get (key v : Nat) (b : Bool) (key' : Nat) : (s.write key v b).get key' = s.get key' := rfl
@[simp] theorem State.write_getBlob (key v : Nat) (b : Bool) (key' : Nat) : (s.write key v b).getBlob key' = s.getBlob key' := rfl
@[simp] theorem State.write_conf (key v : Nat) (b : Bool) (key' : Nat) : (s.write key v b).conf key' = s.conf key' := rfl
@[simp] theorem State.write_running (key v : Nat) (b : Bool) : (s.write key v b).running = s.running := rfl
@[simp] theorem State.write_standby (key v : Nat) (b : Bool) : (s.write key v b).standby = s.standby := rfl
@[simp] theorem State.write_acting (key v : Nat) (b : Bool) : (s.write key v b).acting = s.acting := rfl
@[simp] theorem State.invalidate_get (key : Nat) (key' : Nat) : (s.invalidate key).get key' = s.get key' := rfl
@[simp] theorem State.invalidate_getBlob (key : Nat) (key' : Nat) : (s.invalidate key).getBlob key' = s.getBlob key' := rfl
@[simp] theorem State.invalidate_conf (key : Nat) (key' : Nat) : (s.invalidate key).conf key' = s.conf key' := rfl
@[simp] theorem State.invalidate_running (key : Nat) : (s.invalidate key).running = s.running := rfl
@[simp] theorem State.invalidate_standby (key : Nat) : (s.invalidate key).standby = s.standby := rfl
@[simp] theorem State.invalidate_acting (key : Nat) : (s.invalidate key).acting = s.acting := rfl
@[simp] theorem State.capture_getBlob (key v : Nat) (b : Bool) (key' : Nat) : (s.capture key v b).getBlob key' = s.getBlob key' := rfl
@[simp] theorem State.capture_conf (key v : Nat) (b : Bool) (key' : Nat) : (s.capture key v b).conf key' = s.conf key' := rfl
@[simp] theorem State.capture_running (key v : Nat) (b : Bool) : (s.capture key v b).running = s.running := rfl
@[simp] theorem State.capture_standby (key v : Nat) (b : Bool) : (s.capture key v b).standby = s.standby := rfl
@[simp] theorem State.capture_acting (key v : Nat) (b : Bool) : (s.capture key v b).acting = s.acting := rfl
@[simp] theorem State.clearInput_get (key : Nat) (key' : Nat) : (s.clearInput key).get key' = s.get key' := rfl
@[simp] theorem State.clearInput_getBlob (key : Nat) (key' : Nat) : (s.clearInput key).getBlob key' = s.getBlob key' := rfl
@[simp] theorem State.clearInput_conf (key : Nat) (key' : Nat) : (s.clearInput key).conf key' = s.conf key' := rfl
@[simp] theorem State.clearInput_running (key : Nat) : (s.clearInput key).running = s.running := rfl
@[simp] theorem State.clearInput_standby (key : Nat) : (s.clearInput key).standby = s.standby := rfl
@[simp] theorem State.clearInput_acting (key : Nat) : (s.clearInput key).acting = s.acting := rfl
@[simp] theorem State.setMode_get (key : Nat) (m : ModeRun) (key' : Nat) : (s.setMode key m).get key' = s.get key' := rfl
@[simp] theorem State.setMode_getBlob (key : Nat) (m : ModeRun) (key' : Nat) : (s.setMode key m).getBlob key' = s.getBlob key' := rfl
@[simp] theorem State.setMode_conf (key : Nat) (m : ModeRun) (key' : Nat) : (s.setMode key m).conf key' = s.conf key' := rfl
@[simp] theorem State.setMode_running (key : Nat) (m : ModeRun) : (s.setMode key m).running = s.running := rfl
@[simp] theorem State.setMode_standby (key : Nat) (m : ModeRun) : (s.setMode key m).standby = s.standby := rfl
@[simp] theorem State.setMode_acting (key : Nat) (m : ModeRun) : (s.setMode key m).acting = s.acting := rfl
@[simp] theorem State.answer_get (q : Req) (svc n : Nat) (st : Status) (b : Bytes) (key' : Nat) : (s.answer q svc n st b).get key' = s.get key' := rfl
@[simp] theorem State.answer_getBlob (q : Req) (svc n : Nat) (st : Status) (b : Bytes) (key' : Nat) : (s.answer q svc n st b).getBlob key' = s.getBlob key' := rfl
@[simp] theorem State.answer_conf (q : Req) (svc n : Nat) (st : Status) (b : Bytes) (key' : Nat) : (s.answer q svc n st b).conf key' = s.conf key' := rfl
@[simp] theorem State.answer_running (q : Req) (svc n : Nat) (st : Status) (b : Bytes) : (s.answer q svc n st b).running = s.running := rfl
@[simp] theorem State.answer_standby (q : Req) (svc n : Nat) (st : Status) (b : Bytes) : (s.answer q svc n st b).standby = s.standby := rfl
@[simp] theorem State.answer_acting (q : Req) (svc n : Nat) (st : Status) (b : Bytes) : (s.answer q svc n st b).acting = s.acting := rfl
@[simp] theorem State.takeUp_get (q : Req) (key' : Nat) : (s.takeUp q).get key' = s.get key' := rfl
@[simp] theorem State.takeUp_getBlob (q : Req) (key' : Nat) : (s.takeUp q).getBlob key' = s.getBlob key' := rfl
@[simp] theorem State.takeUp_conf (q : Req) (key' : Nat) : (s.takeUp q).conf key' = s.conf key' := rfl
@[simp] theorem State.takeUp_running (q : Req) : (s.takeUp q).running = s.running := rfl
@[simp] theorem State.takeUp_standby (q : Req) : (s.takeUp q).standby = s.standby := rfl
@[simp] theorem State.takeUp_acting (q : Req) : (s.takeUp q).acting = s.acting := rfl
@[simp] theorem State.putSession_get (x : Session) (key' : Nat) : (s.putSession x).get key' = s.get key' := rfl
@[simp] theorem State.putSession_getBlob (x : Session) (key' : Nat) : (s.putSession x).getBlob key' = s.getBlob key' := rfl
@[simp] theorem State.putSession_conf (x : Session) (key' : Nat) : (s.putSession x).conf key' = s.conf key' := rfl
@[simp] theorem State.putSession_running (x : Session) : (s.putSession x).running = s.running := rfl
@[simp] theorem State.putSession_standby (x : Session) : (s.putSession x).standby = s.standby := rfl
@[simp] theorem State.putSession_acting (x : Session) : (s.putSession x).acting = s.acting := rfl

end Sys2Proof.Machine
end

