-- ==== Sys2Proof/Laws/Service.lean ====
section
/-! SUPPORT. What serving a request does once it is admitted, and a write once it is accepted. -/

namespace Sys2Proof.Machine

theorem State.serveFormless_of_frontFormed {s : State} (h : s.frontFormed = true) (n : Nat) : s.serveFormless n = s := by
  cases n with
  | zero => rfl
  | succ n =>
    unfold State.serveFormless
    unfold State.frontFormed at h
    split <;> simp_all

theorem State.findSession_takeUp (s : State) (q p : Req) : (s.takeUp q).findSession p = s.findSession p := rfl

@[simp] theorem State.table_setTable (s : State) (l : List Session) : (s.setTable l).table = l := by
  have h : (s.setTable l).nodeServes = s.nodeServes := rfl
  unfold State.table
  rw [h]
  unfold State.setTable
  split <;> rfl

theorem State.findSession_putSession {s : State} {q : Req} {x y : Session} (h : s.findSession q = some x)
    (hy : y.num = x.num ∧ y.transport = x.transport ∧ y.source = x.source) : (s.putSession y).findSession q = some y := by
  have hx := List.find?_some h
  simp only [Session.is, Bool.and_eq_true, beq_iff_eq] at hx
  have hm : ∀ (p : Session → Bool) (f : Session → Session) (l : List Session), (∀ z, p (f z) = p z) →
      (l.map f).find? p = (l.find? p).map f := by
    intro p f l hp
    rw [List.find?_map]
    congr 1
    exact List.find?_congr fun z _ => hp z
  unfold State.findSession at h ⊢
  unfold State.putSession
  rw [State.table_setTable, hm _ _ _ ?_, h]
  · simp [Session.is, hy]
  · intro z
    split
    · next hz =>
      simp only [Session.is, Bool.and_eq_true, beq_iff_eq] at hz
      simp [Session.is, hz]
    · rfl

@[simp] theorem State.servedBy_get (s : State) (q : Req) (x : Session) (key : Nat) : (s.servedBy q x).get key = s.get key := rfl
@[simp] theorem State.servedBy_conf (s : State) (q : Req) (x : Session) (key : Nat) : (s.servedBy q x).conf key = s.conf key := rfl

/-! What serving leaves as it was: the values and all that is read from them. -/

section served
variable (s : State) (q : Req) (x : Session)

@[simp] theorem State.servedBy_flag (n : Nat) : (s.servedBy q x).flag n = s.flag n := rfl
@[simp] theorem State.servedBy_parent (u : Nat) : (s.servedBy q x).parent u = s.parent u := rfl
@[simp] theorem State.servedBy_commitOk (n : Nat) : (s.servedBy q x).commitOk n = s.commitOk n := rfl
@[simp] theorem State.servedBy_streamOk (n : Nat) : (s.servedBy q x).streamOk n = s.streamOk n := rfl
@[simp] theorem State.servedBy_canCfg (n : Nat) : (s.servedBy q x).canCfg n = s.canCfg n := rfl
@[simp] theorem State.servedBy_swapReady : (s.servedBy q x).swapReady = s.swapReady := rfl
@[simp] theorem State.servedBy_rxTestOk : (s.servedBy q x).rxTestOk = s.rxTestOk := rfl
@[simp] theorem State.servedBy_clearing : (s.servedBy q x).clearing = s.clearing := rfl
@[simp] theorem State.servedBy_activateExtra (t : Nat) : (s.servedBy q x).activateExtra t = s.activateExtra t := rfl
@[simp] theorem State.servedBy_storeExtra : (s.servedBy q x).storeExtra = s.storeExtra := rfl
@[simp] theorem State.servedBy_supplyLow : (s.servedBy q x).supplyLow = s.supplyLow := rfl
@[simp] theorem State.servedBy_uiModeExtra (n m : Nat) : (s.servedBy q x).uiModeExtra n m = s.uiModeExtra n m := rfl
@[simp] theorem State.servedBy_vdCool (n : Nat) : (s.servedBy q x).vdCool n = s.vdCool n := rfl
@[simp] theorem State.servedBy_keyOf (n : Nat) : (s.servedBy q x).keyOf n = s.keyOf n := rfl
@[simp] theorem State.servedBy_proven : (s.servedBy q x).proven = s.proven := rfl
@[simp] theorem State.servedBy_retriggerExtra (n : Nat) : (s.servedBy q x).retriggerExtra n = s.retriggerExtra n := rfl
@[simp] theorem State.servedBy_led : (s.servedBy q x).led = s.led := rfl
@[simp] theorem State.servedBy_upd : (s.servedBy q x).upd = s.upd := rfl
@[simp] theorem State.servedBy_standby : (s.servedBy q x).standby = s.standby := rfl
@[simp] theorem State.slice_get (key : Nat) (b : Bytes) : (s.slice key b).get = s.get := by unfold State.slice; split <;> rfl
@[simp] theorem State.slice_flag (key : Nat) (b : Bytes) : (s.slice key b).flag = s.flag := by unfold State.slice; split <;> rfl
@[simp] theorem State.slice_upd (key : Nat) (b : Bytes) : (s.slice key b).upd = s.upd := by unfold State.slice; split <;> rfl
@[simp] theorem State.slice_supplyLow (key : Nat) (b : Bytes) : (s.slice key b).supplyLow = s.supplyLow := by
  unfold State.slice; split <;> rfl

end served

/-- An admitted request: its body runs on the state that serves it, and its reply is sent and remembered. -/
theorem State.serve_of_admits {s : State} {q : Req} {x : Session} (h : s.admits q x = true) (svc : Nat) (tail : Bytes)
    (body : State → Nat → Reply) : s.serve q svc tail true body = State.finish q svc (body (s.servedBy q x) x.level) := by
  simp only [State.admits, Bool.and_eq_true, beq_iff_eq, decide_eq_true_eq, Option.isNone_iff_eq_none, Bool.not_eq_true'] at h
  obtain ⟨⟨⟨⟨⟨⟨⟨⟨hs, hf⟩, hv⟩, hd⟩, hx⟩, hc⟩, ha⟩, hi⟩, hp⟩ := h
  unfold State.serve
  rw [State.serveFormless_of_frontFormed hf]
  unfold State.serveForm
  have hp' : ((s.takeUp q).putSession { x with last := s.k }).place q = Place.here := hp
  simp [hs, hv, hd, State.findSession_takeUp, hx, hc, hi, hp', State.servedBy]
  intro hcon
  cases hn : x.newest <;> simp_all [Session.ahead]

/-- An accepted write: its effect takes place and it is answered OK. -/
theorem State.serveWrite_of_accepts {s : State} {q : Req} {x : Session} {key ty : Nat} {b : Bytes}
    (h : s.accepts q x key ty b = true) {extra : State → Extra} (he : extra (s.servedBy q x) = {}) (eff : State → State)
    (ref : State → Status → State) : s.serveWrite q key ty b extra eff ref = s.wrote q x key b eff := by
  simp only [State.accepts, Bool.and_eq_true, decide_eq_true_eq] at h
  have hd : q.forwarded = none := by
    have h1 := h.1
    simp only [State.admits, Bool.and_eq_true, Option.isNone_iff_eq_none] at h1
    exact h1.1.1.1.1.1.2
  unfold State.serveWrite
  rw [State.serve_of_admits h.1]
  simp [hd, he, h.2, State.wrote]

/-- A store command that passes every check: it begins and is answered at its end, or is deferred and answered so. -/
theorem State.serveStore_of_accepts {s : State} {q : Req} {x : Session} {key ty : Nat} {b : Bytes} (h : s.accepts q x key ty b = true)
    (he : s.storeExtra = {}) (group : Nat) :
    s.serveStore q key group b ty =
      if s.supplyLow then State.finish q 4 ⟨.storeDeferred, [], ((s.servedBy q x).slice key b).askStore group (some q), false⟩
      else State.finish q 4 ⟨.ok, [], ((s.servedBy q x).slice key b).askStore group (some q), true⟩ := by
  simp only [State.accepts, Bool.and_eq_true, decide_eq_true_eq] at h
  have hd : q.forwarded = none := by
    have h1 := h.1
    simp only [State.admits, Bool.and_eq_true, Option.isNone_iff_eq_none] at h1
    exact h1.1.1.1.1.1.2
  unfold State.serveStore
  rw [State.serve_of_admits h.1]
  simp only [hd, Option.isSome_none, Bool.false_eq_true, if_false, State.servedBy_storeExtra, he, h.2, State.servedBy_supplyLow]
  split <;> simp [*]

/-- The same of a number in the object's own type. -/
theorem State.serveSet_of_accepts {s : State} {q : Req} {x : Session} {key v : Nat} (h : s.acceptsSet q x key v = true)
    {extra : State → Extra} (he : extra (s.servedBy q x) = {}) (eff : State → State) (ref : State → Status → State) :
    s.serveSet q key v extra eff ref = s.wroteSet q x key v eff :=
  State.serveWrite_of_accepts h he eff ref

end Sys2Proof.Machine
end

