-- ==== Sys2Proof/Machine/Pins.lean ====
section
/-! DEFINITION. Where each signal leaves the module, and what its terminals and its blocks bear (R533–R543, R546–R548): the
tables of the connector face and the power budgets. No command reads them. -/

namespace Sys2Proof.Machine

/-- A terminal of the connector face: a pin of one of X1–X16, or a stud (R533, R534). -/
inductive Terminal where
  | pin (connector number : Nat)
  | feed (bank : Nat)
  | feedV
  | vgnd
  | out (channel : Nat)
  deriving DecidableEq, Repr

/-- The current that a stud carries continuously, A (R533); none of a pin. -/
def Terminal.studAmps : Terminal → Option Nat
  | .pin _ _ => none
  | .feed _ => some 40
  | .feedV => some 60
  | .vgnd => some 60
  | .out _ => some 100

/-- Positions of the connectors X1–X9; X10–X12 carry one pair each, X13–X16 are coaxial (R534). -/
def positions : Nat → Nat
  | 1 | 2 | 3 | 4 | 5 | 6 => 30
  | 7 => 40
  | 8 => 44
  | 9 => 56
  | 10 | 11 | 12 => 2
  | _ => 1

/-- Load switch channel n: its pin on the connector of its pair of banks, or, of class C, its stud (R533, R535). -/
def outTerminal (n : Fin 128) : Terminal :=
  if n.val % 16 = 15 then .out n else .pin (n.val / 32 + 1) (15 * (n.val / 16 % 2) + n.val % 16 + 1)

/-- The current that the terminal of a channel carries continuously: the current limit of its class, A (R536). -/
def outAmps (n : Fin 128) : Nat := if n.val % 16 = 15 then 100 else if 12 ≤ n.val % 16 then 40 else 10

/-- The low pin of VD n (R537). -/
def lowPin (n : Fin 48) : Terminal := .pin (5 + n.val / 24) (n.val % 24 + 1)

/-- The rail pin of group g (R537). -/
def railPin (g : Fin 12) : Terminal := .pin (5 + g.val / 6) (25 + g.val % 6)

/-- The two pins of a CAN controller, CANc_H and CANc_L (R538). -/
def canPins (c : Fin 8) : Terminal × Terminal := (.pin 7 (17 + 2 * c.val), .pin 7 (18 + 2 * c.val))

/-- Signals of X7 other than CAN, by name, with their pins (R538). -/
def x7Signals : List (String × List Nat) :=
  [("LOGIC-A", [1, 2]), ("LOGIC-B", [3, 4]), ("LGND", [5, 6, 7, 8]), ("WAKE", [9]), ("PAIR-ID", [10]),
    ("SGND strap return", [11]), ("LEASE-OUT", [12, 13]), ("LEASE-IN", [14, 15]), ("TPULSE", [16]),
    ("SVC transmit", [33, 34]), ("SVC receive", [35, 36]), ("E2", [37, 38]), ("SGND", [39, 40])]

/-- Signal and return of an LS input (R539). -/
def lsPins (n : Fin 16) : Terminal × Terminal := (.pin 8 (n.val + 1), .pin 8 (n.val + 17))

/-- The pin of a sensor supply (R539). -/
def ssPin (n : Fin 4) : Terminal := .pin 8 (33 + n.val)

/-- The pin of a UI input (R539). -/
def uiPin (n : Fin 48) : Terminal := .pin 9 (n.val + 1)

/-- The largest draw of each block from the logic feeds, in tenths of a watt (R546, Table 6). -/
def logicBudget : List (String × Nat) :=
  [("Application cores A0–A3", 48), ("Loop engines L0–L5", 36), ("Supervisor S", 4), ("Imaging", 40),
    ("GNSS RF and baseband", 25), ("DRAM", 20), ("Storage", 8), ("Ethernet PHYs", 16), ("CAN transceivers", 8),
    ("A-PHY receivers", 6), ("Channel sensing", 19), ("Valve control", 10), ("Inputs", 10), ("Conversion losses", 30)]

/-- The largest draw from the logic feeds, tenths of a watt; power to external loads comes on top (R546). -/
def logicMax : Nat := 300

/-- The share of a block that a domain draws: nothing while off, at most 5 % of it in retention (R546). -/
def blockShare (tenths : Nat) (off retention : Bool) : Rat :=
  if off then 0 else if retention then (tenths : Rat) / 20 else tenths

/-- A feed operates at a voltage, mV: 6.0–36 V (R541). -/
def feedOperates (mv : Int) : Bool := decide (6000 ≤ mv ∧ mv ≤ 36000)

/-- A feed withstands a voltage, mV, that stands for a time, ms, with every rating kept (R541). -/
def feedWithstands (mv : Int) (ms : Nat) : Bool := feedOperates mv || decide (36000 < mv ∧ mv ≤ 58000 ∧ ms ≤ 400)

/-- The largest difference of LGND and VGND at the module, mV (R540). -/
def groundShift : Nat := 1000

/-- A condition of Table 4 (R543). -/
inductive Draw where
  | running
  | reset
  | unpowered
  deriving DecidableEq, Repr

/-- The largest standing draw: the logic feeds together, mW, where the table gives it; each bank feed and FEED-V, µA (R543,
Table 4). -/
def Draw.most : Draw → Option Nat × Nat × Nat
  | .running => (some 900, 200, 100)
  | .reset => (some 12, 200, 100)
  | .unpowered => (none, 200, 100)

/-- The largest dissipation into the cold plate: logic and output stages at their bounds, W (R547, R548). -/
def dissipation : Nat := 65

/-- The ratings hold at an ambient and a base temperature, °C (R548). -/
def ratingsHold (ambient base : Rat) : Bool := decide (-40 ≤ ambient ∧ ambient ≤ 85 ∧ -40 ≤ base ∧ base ≤ 75)

/-- The largest on-resistance of a channel's class, mΩ (R246, R547). -/
def onMilliohm (n : Fin 128) : Nat := if n.val % 16 = 15 then 2 else if 12 ≤ n.val % 16 then 6 else 25

/-- The bound of a channel's conduction loss at a current of I amperes, W (R547). -/
def conductionLoss (n : Fin 128) (amps : Rat) : Rat := amps * amps * onMilliohm n / 1000

end Sys2Proof.Machine
end

