-- ==== Sys2Proof/Tests/Slice0.lean ====
section
/-! SUPPORT. The model's own tests: operands that WellFormed refuses, commands on small states, and for every statement with
hypotheses a state and operands that meet them, clause by clause. -/

open Sys2Proof Sys2Proof.Machine

namespace Sys2Proof.Tests

set_option Elab.async false
set_option linter.unusedVariables false

/-- A running module after its first second, all else as after reset. -/
def on : State := { State.reset with phase := .running, k := 4000 }
/-- A state with objects written and in force as configured. -/
def seen (s : State) (l : List (Nat × Nat)) : State := { s.setAll l with snap := (s.setAll l).obj }
/-- A request of a client on the SVC port. -/
def client : Req := { transport := 4, source := 1, version := 1, target := 0, session := 1, txn := 1 }
/-- Its session, of the level that the SVC port can hold. -/
def session3 : Session := { num := 1, level := 3, transport := 4, source := 1, last := 0 }
/-- A running module with that session open. -/
def served : State := { on with dict := { on.dict with sessions := [session3] } }
/-- The session after a request with transaction number 1 was answered. -/
def answered : Session := { session3 with newest := some 1, cache := [⟨1, some (0, [7]), false, 0⟩] }
/-- The session while that request executes. -/
def executing : Session := { session3 with newest := some 1, cache := [⟨1, none, false, 0⟩] }
/-- A boundary at which nothing comes in. -/
def inp0 : TickIn := {}
/-- The message transport on CAN controller 0, base and node address 0. -/
def onSeg : State := { on with dict := { on.dict with can := 0, base := 0, node := 0 } }
/-- A level-1 credential that no code matches. -/
def wrongCred : CredCopy := ⟨0, [], [], u16 (crc16 (u32 0))⟩
/-- A KEEPALIVE as it arrives. -/
def msg0 : MdpMsg := reqMessage client 5 []
/-- A standby with the session of its own SVC port. -/
def standing : State :=
  { on with pair := { state := 3, inForce := true }, dict := { on.dict with local_ := [session3] } }

/-! The ledger, the loops and the supervisor -/

/-- An intake stage and an exit after it. -/
def graph : List (Nat × Nat) :=
  [(Obj.STG_KIND 0, 1), (Obj.STG_NEXT 0, 0xFFFF01), (Obj.STG_KIND 1, 5), (Obj.CRB_CUT_WIDTH, 0x41100000),
   (Obj.CRB_INTAKE_SRC, Obj.UI_ENG 0 * 256)]
def servedGraph : State := seen served graph
def servedLedger : State :=
  { seen served ((Obj.CRB_ENABLE, 1) :: (Obj.CRB_STATE, 1) :: (Obj.DOM_STATE 4, 2) :: graph) with
    led := { on.led with ys := { open_ := [], nextSeq := 3, pages := [(0, some ⟨1, 0, 0, [[0]], true⟩), (1, some ⟨2, 0, 0, [[0]], true⟩)] } } }
def run0 : StoreRun := ⟨0, 3, 4000, [], [], none⟩
def storing : State := { on with store := { on.store with run := some run0 } }
def missing (m : Nat) : State :=
  { seen on [(Obj.CRB_MODEL_MODE, m), (Obj.CRB_MODEL_MODE + 1, 1)] with mode := [(Obj.CRB_MODEL_MODE, ⟨3, false, none, none⟩)] }
def missingBank : State :=
  { seen on [(Obj.BANK_FUSE_MODE 0, 2), (Obj.BANK_FUSE_MODE 0 + 1, 1)] with mode := [(Obj.BANK_FUSE_MODE 0, ⟨3, false, none, none⟩)] }
/-- A slot's settings that let it run, its measurement taken from input 0. -/
def slot0 : List (Nat × Nat) := [(Obj.FL_PV_SRC 0, Obj.UI_ENG 0 * 256)]
def looping : State :=
  { seen on ([(Obj.FL_ENABLE 0, 1), (Obj.DOM_STATE 3, 2)] ++ slot0) with k := 4000 }
def stopped : State :=
  { seen on ([(Obj.AS_ENABLE 0, 1), (Obj.AS_MEMBER 0 0, 0), (0x5000 * 256 + 0x1E, 0x100), (Obj.AS_POLICY 0, 1), (Obj.DOM_STATE 3, 2)] ++ slot0) with
    loop := { on.loop with asm := [(0, ⟨some 1, 0⟩)] } }
def feedConf : State :=
  seen on ([(Obj.FL_ENABLE 0, 1), (Obj.DOM_STATE 3, 2), (Obj.FL_FF1_STAGE 0, 0)] ++ slot0)
def feeding : State :=
  { feedConf with loop := { on.loop with fl := [(0, { init := false, ff1 := { since := some 0, seen := feedConf.ffCfg 0 0 } })] } }
def timedOut : State := { looping with loop := { on.loop with fl := [(0, { pvSince := some 0 })] } }
def servedUnit : State := seen served slot0
def servedTpl : State :=
  seen served [(Obj.TPL_NUMBER, 3), (Obj.TPL_PV_0, Obj.UI_ENG 0 * 256), (Obj.TPL_PV_1, Obj.UI_ENG 1 * 256), (Obj.TPL_SLOT_0, 0), (Obj.TPL_SLOT_1, 1)]
def tpl0 : Tpl := (templateOf 3).getD ⟨"", [], .value, false⟩
def servedAsm : State := served.set (Obj.TP_NUMBER 0) 3
def servedD4 : State := served.set (Obj.DOM_STATE 4) 2
def supervising : State := seen on [(Obj.DOM_STATE 4, 2), (Obj.SUP_PHASE, 0)]

/-! Sensing, switches and valves -/

def onLs : State := seen on [(Obj.DOM_STATE 13, 2), (Obj.LS_ENABLE 0, 1)]
def impact0 : Impact := ⟨0, 1, 1⟩
/-- Filters whose corners lie at 0 Hz and an envelope that does not decay. -/
def lsPlain : State := seen on [(Obj.DOM_STATE 13, 2), (Obj.LS_ENABLE 0, 1), (Obj.LS_F_LOW 0, 0), (Obj.LS_F_HIGH 0, 0), (Obj.LS_DECAY 0, 2 ^ 1100)]
def lsStart : State := lsPlain.setLs 0 { on := true, env := ratF64 1000000 }
def lsEnd : State := lsPlain.setLs 0 { on := true, impact := some impact0 }
def lsForce : State := lsPlain.setLs 0 { on := true, env := ratF64 1000000, impact := some impact0 }
def onImpact : State := onLs.setLs 0 { impact := some impact0, restart := some 0 }
def onLsRestart : State := onLs.setLs 0 { restart := some 0 }
def onUi (x : UiSt) : State := (on.set (Obj.DOM_STATE 13) 2).setUi 0 x
def onSw : State := on.set (Obj.DOM_STATE 11) 2
def pwmConf (freewheel : Nat) : State := seen onSw [(Obj.CH_FREEWHEEL 0, freewheel), (Obj.CH_FUSE_STATE 0, 1)]
def pwming : State := (pwmConf 1).setCh 0 { period := 8, phase := 0, was := 1 }
def pwmingHard : State := (pwmConf 0).setCh 0 { period := 8, phase := 0, was := 1, taken := 0x42480000 }
def pwmHolding : State :=
  { (onSw.setCh 0 { period := 8, phase := 0, duty := 0x42480000 }) with pair := { on.pair with hold := some 0 } }
def fuseFaulted : State :=
  { missingBank with obj := (((missingBank.set (Obj.BANK_FUSE_MODE 0 + 1) 3).set (Obj.DOM_STATE 11) 2)).obj }.setBank 0 { faultAt := some 3999 }
def edged : State := (seen onSw [(Obj.CH_FREEWHEEL 0, 1)]).setCh 0 { edge := true }
def restarting : State :=
  { seen onSw [(Obj.CH_ENABLE 0, 1), (Obj.CH_FUSE_STATE 0, 2), (Obj.CH_RETRY_LEFT 0, 1), (Obj.CH_SOURCE 0, 0), (Obj.CH_DEMAND 0, 0x42480000)] with
    k := 4000000 }
def onVd (x : VdSt) : State := (on.set (Obj.DOM_STATE 12) 2).setVd 0 x
/-- A paralleled pair with an event at the start of the tick. -/
def pairEvent (st : Nat) (len : Option Nat) : State :=
  (seen on [(Obj.DOM_STATE 12, 2), (Obj.VD_PARALLEL 0, 1)]).setVd 0 { st := st, event := some (1000000, len) }
/-- Channel 5 off with its low pin low for 40 windows; its group switch carries current, or none. -/
def lowPin (b : Bool) : State :=
  ((seen on [(Obj.DOM_STATE 12, 2), (Obj.HG_STATE 1, 1), (Obj.HG_CURRENT 1, if b then 0x3F800000 else 0)])).setVd 5 { pinC := 40 }

/-! Satellite navigation, imaging -/

def onGnss : State := { seen on [(Obj.DOM_STATE 6, 2), (Obj.GNSS_ENABLE, 1)] with k := 4001 }
def nav0 : NavUnit := ⟨0, 0, 1, 0, 8, false, 0, 0, [0]⟩
def est0 : PosEst :=
  ⟨false, false, false, none, 0, 0, 0, 0, 0, 0, 0x3F800000, false, 0, 0, 0, 0, List.replicate 6 0, 0, [], [], none⟩
def line0 : CamLine := ⟨0x2C, [], false, false⟩
def streaming : State :=
  seen on [(Obj.STR_ENABLE 0, 1), (Obj.PORT_STATE 0, 2), (Obj.DOM_STATE 7, 2), (Obj.STR_DT 0, 0x2C)]
def framing : State :=
  { streaming with k := 1000000 }.setStream 0 { frame := some ⟨0, 0, 0, 0, 0, {}, 0, false, 0, [], 0⟩ }
def exp0 : Bytes := List.replicate 8 1
def focusing : State := seen on [(Obj.DOM_STATE 7, 2), (Obj.FOC_ENABLE 0, 1), (Obj.FOC_PHASE 0, 0)]
/-- A 640 by 480 window at offset 0. -/
def win : Bytes := u16 0 ++ u16 0 ++ u16 640 ++ u16 480
def servedStream : State :=
  ((((seen served [(Obj.PORT_ENABLE 0, 1), (Obj.STR_IN_W 0, 640), (Obj.STR_IN_H 0, 480), (Obj.STR_OUT_W 0, 640), (Obj.STR_OUT_H 0, 480)]).setBlob
    (Obj.SH_CROP 0) win).setBlob (Obj.SH_FOCUS_WIN 0) win).setBlob (Obj.SH_CLS_WIN 0) win)

/-! CAN, Ethernet, pair -/

def onCan (x : CanSt) : State := (on.set (Obj.DOM_STATE 9) 2).setCan 0 x
def servedCan : State := served
def frame0 : CanFrame := { ext := false, ident := 5, data := [] }
def load0 : AppArea := ⟨1, true, [1] ++ List.replicate 80 0⟩
def cancel0 : AppArea := ⟨2, true, [2] ++ List.replicate 80 0⟩
def loading : State := { onCan { join := 3 } with app0 := [(Obj.CAN_TX_APP_OFFSET 0, load0)] }
def cancelling : State :=
  { onCan { join := 3, bufs := [{ st := 1, frame := some frame0 }, {}, {}] } with app0 := [(Obj.CAN_TX_APP_OFFSET 0, cancel0)] }
def sending : State := onCan { join := 3, bufs := [{ st := 2, frame := some frame0 }, {}, {}] }
def isoNode (st : Nat) : State :=
  (seen on [(Obj.DOM_STATE 9, 2), (Obj.ISO_CTRL, 0), (Obj.ISO_NAME, 5), (Obj.ISO_STATE, st)]).setCan 0 { join := 3 }
def dm1Node : State :=
  (seen on [(Obj.DOM_STATE 9, 2), (Obj.ISO_CTRL, 0), (Obj.ISO_NAME, 5), (Obj.ISO_STATE, 2), (Obj.DM1_ENABLE, 1), (Obj.DM1_PHASE, 0)]).setCan 0
    { join := 3 }
/-- A broadcast message of node 5 in its first packet. -/
def rx0 : TpRx :=
  { ext := false, bam := true, src := 5, dest := 0xFF, prio := 6, pgn := 0xFECA, size := 20, max_ := 0xFF }
def dm1Changed : State :=
  ((seen dm1Node [(Obj.DM1_PHASE, 1), (Obj.DTC_ACTIVE 0, 1)]).setIso fun i => { i with dm1At := some 1 })
def onEth : State :=
  { seen on [(Obj.DOM_STATE 8, 2), (Obj.ETH_LINK 0, 2), (Obj.ETH_LINK 4, 2)] with net := { on.net with eth := [(0, { on := true })] } }
def onGptp : State := { onEth with obj := (seen onEth [(Obj.GPTP_PORTS, 7)]).obj }
def paired (st : Nat) : State :=
  { on with
    obj := (on.set Obj.PAIR_ID 0).obj
    pair := { on.pair with state := st, inForce := true } }
def mirror0 : Mirror := { tick := 4000, promise := 4008, role := 2, timeState := 2 }
def mirroring : State :=
  { paired 3 with obj := (seen (paired 3) [(Obj.DOM_STATE 8, 2), (Obj.ETH_LINK 4, 2)]).obj }
def refill0 : Refill := { storeSeq := 0, tick := 4000, snapshot := mirror0 }
def swapping : State := { paired 4 with pair := { (paired 4).pair with role := some 1, line := { word := some 4000 } } }
def servedSwap : State := { served with pair := { served.pair with state := 4, role := some 1, line := { word := some 4000 } } }
def servedRx : State :=
  { standing with pair := { standing.pair with line := { word := some 4000 } } }

/-! Supply, recorder, update, start -/

def dipping (st v : Nat) : State :=
  { seen (on.capture Obj.SUPPLY_V_MIN v true) [(Obj.SUPPLY_STATE, st)] with pwr := { on.pwr with dip := some (3800, 0x40E00000) } }
def event0 : Bytes := u16 0xC000 ++ List.replicate 14 0
def manifest0 : Manifest := ⟨1, 1, 0, 1, 0, 0, 0, []⟩
/-- A package of one wafer with a hash that nothing matches. -/
def manifest1 : Manifest := { manifest0 with hashes := [[]] }
def verifying : State := { seen on [(Obj.UPD_STATE, 2)] with upd := { rec_ := { state := 2 }, manifest := some manifest0 } }
def servedReady : State :=
  { seen served [(Obj.UPD_PARKED_SRC, Obj.UI_ENG 0 * 256)] with upd := { rec_ := { state := 3 } } }
def servedScheduled : State :=
  { seen served [(Obj.UPD_PARKED_SRC, Obj.UI_ENG 0 * 256)] with upd := { rec_ := { state := 4 } } }
def servedProven (m : Nat) : State :=
  { seen served [(Obj.UPD_CONFIRM_MODE, m)] with upd := { rec_ := { state := 7, proofSeconds := 10000000, proofStarts := 255 } } }
def parkedNow : State :=
  { seen (on.capture (Obj.UI_ENG 0) 0x3F800000 true) [(Obj.UPD_PARKED_SRC, Obj.UI_ENG 0 * 256)] with
    upd := { rec_ := { state := 4, actTick := 4001 }, parked := 10 ^ 6 } }
def start0 : StartIn := ⟨none, true, true, true, true, none⟩
/-- The one wafer of a package, its CRC right. -/
def wafer0 : Bytes :=
  let h := u32 1 ++ u32 0 ++ u16 1 ++ u16 0
  h ++ u32 (crc32c (h ++ [0])) ++ [0]
def overdue (st : Nat) : State :=
  { paired st with pair := { (paired st).pair with line := { expired := 1000000 }, p := { expired := 1000000 } } }
/-- A module that starts for the 255th time after a fault while it proves itself. -/
def failing : State :=
  { (State.reset.putUpd { state := 6, badStarts := 255 }) with start := { cause := 3, ticks := 4 } }
def released : State := { State.reset with start := { supplyOk := 40 } }
/-- A send slot's command to send nothing from the start of the application's window. -/
def iso0 : AppArea := ⟨1, true, List.replicate 11 0 ++ u64 oemBase ++ u32 0⟩


/-- Where the send slot's data lies: the start of the OEM region, wherever that is. -/
theorem iso0_address : iso0.at_ 20 8 = oemBase := by
  have h : iso0.at_ 20 8 = ofLe (leBytes 8 oemBase) := rfl
  have hb : Config.dramStart.toNat < 2 ^ 32 := Config.dramStart.isLt
  have ho : oemBase < 256 ^ 8 := by
    have hw : wzSize ≤ 2 ^ 30 := by decide
    have h8 : (2 : Nat) ^ 32 + 2 ^ 30 < 256 ^ 8 := by decide
    unfold oemBase
    split
    · exact Nat.lt_trans (Nat.add_lt_add_of_lt_of_le hb hw) h8
    · exact Nat.lt_of_lt_of_le (Nat.add_lt_add_of_lt_of_le hb (Nat.zero_le (2 ^ 30))) (Nat.le_of_lt h8)
  rw [h, ofLe_leBytes]
  exact Nat.mod_eq_of_lt ho

theorem iso0_last : iso0.at_ 28 4 = 0 := rfl

/-! Operands that WellFormed refuses: one ill-formed term for each check. -/

theorem test_wf_accepts : Instr.wf (.read client 0x1000 1 0 256) = true ∧ Instr.wf (.tickBoundary inp0) = true ∧
    Instr.wf (.leaseWordRx true (2 ^ 64 - 1)) = true := by decide +kernel
theorem test_wf_request_header : Instr.wf (.keepalive { client with version := 16 } []) = false ∧
    Instr.wf (.keepalive { client with target := 4 } []) = false ∧ Instr.wf (.keepalive { client with session := 65536 } []) = false ∧
    Instr.wf (.keepalive { client with txn := 65536 } []) = false ∧ Instr.wf (.keepalive { client with forwarded := some 4 } []) = false ∧
    Instr.wf (.keepalive { client with partner := some (256, []) } []) = false ∧ Instr.wf (.keepalive { client with oem := (256, []) } []) = false ∧
    Instr.wf (.keepalive { client with partner := some (0, List.replicate 1265 0) } []) = false := by decide +kernel
theorem test_wf_every_request_header : Instr.wf (.close_ { client with version := 16 } []) = false ∧
    Instr.wf (.storeAll { client with version := 16 }) = false ∧ Instr.wf (.canEnable { client with version := 16 } 0) = false ∧
    Instr.wf (.updKeyClear { client with version := 16 } 0) = false ∧ Instr.wf (.rstCommand { client with version := 16 }) = false := by
  decide +kernel
theorem test_wf_object_addresses : Instr.wf (.read client 65536 1 0 1) = false ∧ Instr.wf (.read client 0x1000 256 0 1) = false ∧
    Instr.wf (.write client 0x1000 256 1 0 []) = false ∧ Instr.wf (.assistedFallback (2 ^ 24)) = false ∧
    Instr.wf (.assistedFault (2 ^ 24)) = false ∧ Instr.wf (.captureLate [2 ^ 24]) = false := by decide +kernel
theorem test_wf_service_fields : Instr.wf (.read client 0x1000 1 (2 ^ 32) 1) = false ∧ Instr.wf (.read client 0x1000 1 0 65536) = false ∧
    Instr.wf (.write client 0x1000 1 256 0 []) = false ∧ Instr.wf (.write client 0x1000 1 1 65536 []) = false ∧
    Instr.wf (.open_ client 256 0 []) = false ∧ Instr.wf (.open_ client 0 256 []) = false ∧ Instr.wf (.recWindow client (2 ^ 32) 32) = false ∧
    Instr.wf (.recWindow client 0 65536) = false ∧ Instr.wf (.sessionTimeout 65536) = false := by decide +kernel
theorem test_wf_written_values : Instr.wf (.storeGroup client 65536) = false ∧ Instr.wf (.modeWrite client (2 ^ 24) 0) = false ∧
    Instr.wf (.modeWrite client 0 256) = false ∧ Instr.wf (.ysSetMark client (2 ^ 32)) = false ∧
    Instr.wf (.tgtBaseWrite client 0 (2 ^ 32)) = false ∧ Instr.wf (.supLockWrite client 256) = false ∧
    Instr.wf (.uiModeWrite client 0 256) = false ∧ Instr.wf (.uiCountSet client 0 (2 ^ 31)) = false ∧
    Instr.wf (.updActivate client (2 ^ 64)) = false := by decide +kernel
theorem test_wf_units : Instr.wf (.unitEnable client 48) = false ∧ Instr.wf (.unitDisable client 0x200) = false ∧
    Instr.wf (.unitReset client 0xFF) = false ∧ Instr.wf (.unitOverrunFault 52) = false ∧
    Instr.wf (.computeDeadline [1, 2, 3, 4, 5, 6, 7]) = false := by decide +kernel
theorem test_wf_instants : Instr.wf (.supervisorDeadlineFault 250) = false ∧ Instr.wf (.slotRun 0 251) = false ∧
    Instr.wf (.impactStart 0 250 [] 0) = false ∧ Instr.wf (.impactEnd 0 0 [] 32768) = false ∧ Instr.wf (.impactMaxLen 0 0 (List.replicate 64 0)) = false ∧
    Instr.wf (.currentLimitTurnoff 0 251) = false ∧ Instr.wf (.boostEnd 0 251 0) = false ∧ Instr.wf (.peakEnd 0 251) = false ∧
    Instr.wf (.transitionEnd 0 251 0) = false ∧ Instr.wf (.injectorEventEnd 0 251) = false ∧ Instr.wf (.pairMinOffEnd 0 251) = false ∧
    Instr.wf (.groupOvercurrent 0 (251, 40)) = false ∧ Instr.wf (.gptpSync 0 250000) = false ∧ Instr.wf (.linkDrop 0 250000) = false ∧
    Instr.wf (.frameStart 0 250000 (some 0) []) = false ∧ Instr.wf (.frameEnd 0 (some 250000)) = false := by decide +kernel
theorem test_wf_stage_values : Instr.wf (.switchOffEdge 0 (2 ^ 32) 0) = false ∧ Instr.wf (.switchOffEdge 0 0 251) = false ∧
    Instr.wf (.domainTransitionEnd 0 0 [32]) = false ∧ Instr.wf (.supplyReset 5500 0) = false ∧ Instr.wf (.supplyReset 0 5) = false ∧
    Instr.wf (.supervisorMismatch (2 ^ 32)) = false ∧ Instr.wf (.memoryError (2 ^ 32)) = false := by decide +kernel
theorem test_wf_application_writes : Instr.wf (.appWriteStall ⟨2 ^ 24, 0, true, [], 0⟩) = false ∧
    Instr.wf (.appWriteStall ⟨0, 2 ^ 64, true, [], 0⟩) = false ∧ Instr.wf (.appWriteBlocked 0 (4 * 2 ^ 20)) = false := by decide +kernel
theorem test_wf_samples : Instr.wf (.tickBoundary { inp0 with ui := [{ n := 48 }] }) = false ∧
    Instr.wf (.tickBoundary { inp0 with ss := [⟨0, 0, 0, false⟩, ⟨0, 0, 0, false⟩] }) = false ∧
    Instr.wf (.tickBoundary { inp0 with ch := [⟨0, 0, 251, none, 0, 0⟩] }) = false ∧
    Instr.wf (.tickBoundary { inp0 with vd := [⟨0, 4096, 0, 0, false, false⟩] }) = false ∧
    Instr.wf (.tickBoundary { inp0 with ui := [{ n := 0, samples := List.replicate 17 0 }] }) = false ∧
    Instr.wf (.tickBoundary { inp0 with ui := [{ n := 0, wave := [(250000, 0)] }] }) = false ∧
    Instr.wf (.tickBoundary { inp0 with ui := [{ n := 0, wave := [(8, 0), (8, 1)] }] }) = false ∧
    Instr.wf (.tickBoundary { inp0 with ls := [⟨0, [-32769], 0⟩] }) = false ∧
    Instr.wf (.tickBoundary { inp0 with bank := [⟨0, 2 ^ 32, 0⟩] }) = false ∧
    Instr.wf (.tickBoundary { inp0 with oem := some [0xBFFF] }) = false ∧
    Instr.wf (.tickBoundary { inp0 with app := [⟨2 ^ 24, 0, true, [], 0⟩] }) = false ∧ Instr.wf (.firstTick 2901 inp0) = false := by
  decide +kernel
theorem test_wf_frames : Instr.wf (.canFrameRx 0 { ext := false, ident := 2048, data := [] } 0 true) = false ∧
    Instr.wf (.canFrameRx 0 { ext := true, ident := 2 ^ 29, data := [] } 0 true) = false ∧
    Instr.wf (.canFrameRx 0 { ext := false, ident := 0, data := List.replicate 9 0 } 0 true) = false ∧
    Instr.wf (.canFrameRx 0 { ext := false, fd := true, ident := 0, data := List.replicate 9 0 } 0 true) = false ∧
    Instr.wf (.canFrameRx 0 { ext := false, fd := true, remote := true, ident := 0, data := [] } 0 true) = false ∧
    Instr.wf (.canFrameRx 0 { ext := false, brs := true, ident := 0, data := [] } 0 true) = false ∧
    Instr.wf (.canFrameRx 0 { ext := false, esi := true, ident := 0, data := [] } 0 true) = false ∧
    Instr.wf (.tpRx { ext := false, ident := 0, data := [] } 0) = false ∧ Instr.wf (.txAttemptFail 0 (some (8, false, none))) = false ∧
    Instr.wf (.canBusError 0 8 false) = false ∧ Instr.wf (.competingClaimRx 0 (2 ^ 64)) = false := by decide +kernel
theorem test_wf_messages : Instr.wf (.mdpMessageRx ⟨0, 2 ^ 48, []⟩) = false ∧ Instr.wf (.mdpSegmentRx 0 (2 ^ 29) true []) = false ∧
    Instr.wf (.mdpSegmentRx 0 0 true (List.replicate 65 0)) = false ∧ Instr.wf (.mdpSegmentRx 0 0 false (List.replicate 9 0)) = false ∧
    Instr.wf (.leaseWordRx true (2 ^ 64)) = false ∧ Instr.wf (.leaseFrameRx 0 (2 ^ 29) []) = false ∧
    Instr.wf (.leaseFrameRx 0 0 (List.replicate 9 0)) = false ∧ Instr.wf (.floodWindowEnd 256 0) = false ∧
    Instr.wf (.floodWindowEnd 0 65536) = false ∧ Instr.wf (.ethLinkUp 0 8) = false ∧
    Instr.wf (.refillComplete { refill0 with vals := [(2 ^ 24, 0)] } true) = false := by decide +kernel
theorem test_wf_navigation_and_cameras : Instr.wf (.navRecordWrite { nav0 with sig := 32 }) = false ∧
    Instr.wf (.navRecordWrite { nav0 with ant := 2 }) = false ∧ Instr.wf (.navRecordWrite { nav0 with count := 9 }) = false ∧
    Instr.wf (.positionSolutionRun { est0 with lat := 2 ^ 64 }) = false ∧ Instr.wf (.positionSolutionRun { est0 with vUp := 2 ^ 32 }) = false ∧
    Instr.wf (.linePacket 0 { line0 with dt := 64 }) = false ∧ Instr.wf (.linePacket 0 { line0 with px := [65536] }) = false ∧
    Instr.wf (.frameStart 0 0 (some 65536) []) = false ∧
    Instr.wf (.measurementEpoch [⟨32, 0, 0, 0, 0, 0, 0, 0, 0, 0, 0, 0, 0, 0, false⟩] 0) = false := by decide +kernel
theorem test_wf_start : Instr.wf (.resetRelease { start0 with strap := some (2 ^ 32) }) = false ∧
    Instr.wf (.resetRelease { start0 with partnerRelease := some (2 ^ 32) }) = false := by decide +kernel

/-! One command each, with results that the rules give. -/

/-- The check values of the two CRCs over the digits 1 to 9, and of SHA-256 over abc, as their definitions publish them (R17). -/
theorem test_crc_check_values : crc16 (ascii "123456789") = 0x29B1 ∧ crc32c (ascii "123456789") = 0xE3069283 := by decide +kernel
theorem test_sha256_abc : (sha256 (ascii "abc")).take 4 = [0xBA#8, 0x78#8, 0x16#8, 0xBF#8] := by decide +kernel
/-- A step runs the front command; here a foreign gPTP message is counted once (R70). -/
theorem test_step_front : (match step { onGptp with pending := [.gptpForeignRx 0, .holdoverTimeout] } with
    | .next t => decide (t.get Obj.GPTP_FOREIGN = 1 ∧ t.pending = [.holdoverTimeout])
    | _ => false) = true := by decide +kernel
/-- The first OPEN of a start opens session 0001h and answers it with the level granted (R81, R103). -/
theorem test_open_first : (match exec (.open_ { client with session := 0 } 0 0 []) on with
    | .next t => decide (t.dict.sessions.map (·.num) = [1] ∧ t.sent = [.mdp 4 1 0 129 1 1 0 (u8 0)])
    | _ => false) = true := by decide +kernel
/-- READ of a 16-bit object answers its type code, its length, the bytes that follow and the value (R72, R103). -/
theorem test_read_timeout : (match exec (.read client (Obj.SESS_TIMEOUT / 256) (Obj.SESS_TIMEOUT % 256) 0 1256) served with
    | .next t => decide (t.sent.length = 1 ∧ t.obj = [])
    | _ => false) = true := by decide +kernel
/-- A WRITE of a value of another type's code is refused with TYPE and writes nothing (R105). -/
theorem test_write_type : (match exec (.write client (Obj.SESS_TIMEOUT / 256) (Obj.SESS_TIMEOUT % 256) 0x7F 2 (u16 60)) served with
    | .next t => decide (t.sent = [.mdp 4 1 0 132 1 1 4 []] ∧ t.obj = [])
    | _ => false) = true := by decide +kernel
/-- At an equal base identifier a base frame goes before an extended one, and data before remote (R400). -/
theorem test_frame_order : frameRank { ext := false, ident := 5, data := [] } < frameRank { ext := false, remote := true, ident := 5, data := [] } ∧
    frameRank { ext := false, remote := true, ident := 5, data := [] } < frameRank { ext := true, ident := 5 * 2 ^ 18, data := [] } ∧
    frameRank { ext := true, ident := 5 * 2 ^ 18, data := [] } < frameRank { ext := false, ident := 6, data := [] } := by decide +kernel
/-- The session number after FFFEh is 0001h (R81). -/
theorem test_session_numbers_wrap : freshNum [1, 2] 21 0xFFFE = 3 ∧ freshNum [] 21 0 = 1 := by decide +kernel
/-- Transaction numbers wrap: 0 is one ahead of FFFFh (R107). -/
theorem test_window_wraps : ({ session3 with newest := some 0xFFFF } : Session).ahead 0 = true ∧
    ({ session3 with newest := some 5 } : Session).ahead 5 = false ∧ ({ session3 with newest := some 5 } : Session).ahead 4 = false := by
  decide +kernel
/-- A blocked write beyond the tick memory faults by name (R21). -/
theorem test_blocked_beyond : exec (.appWriteBlocked 0 (4 * 2 ^ 20)) on = .fault .outsideTickMemory := rfl

/-! Witnesses: states and operands that meet the hypotheses of each statement, clause by clause. -/

theorem witness_StepRunsTheFrontCommand :
    (∃ (c : Instr) (rest : List Instr) (s : State), s.pending = c :: rest) ∧
    (∃ s : State, s.pending = []) :=
  ⟨⟨.holdoverTimeout, [.holdoverEnd], { on with pending := [.holdoverTimeout, .holdoverEnd] }, by decide +kernel⟩,
   ⟨on, by decide +kernel⟩⟩

theorem witness_EveryStepKeepsTheRestOfTheQueue :
    ∃ s t : State, step s = .next t :=
  ⟨on, on, rfl⟩

theorem witness_AtMostFourMessagesServedInATick :
    ∃ s t : State, s.dict.served ≤ 4 ∧ step s = .next t :=
  ⟨on, on, ⟨by decide, rfl⟩⟩

theorem witness_RequestsWaitWhileNothingIsServed :
    ∃ (i : Instr) (q : Req) (s : State), i.request? = some q ∧ (s.running = false ∨ 4 ≤ s.dict.served) :=
  ⟨.keepalive client [], client, State.reset, by decide +kernel⟩

theorem witness_RequestMessagesArriveWhole :
    ∃ (q : Req) (svc : Nat) (tail : Bytes) (s : State), q.version < 16 ∧ q.target < 3 ∧ svc < 128 ∧ q.session < 65536 ∧ q.txn < 65536 ∧ q.forwarded = none ∧ q.partner = none ∧ q.oem = (0, []) ∧ tail.length ≤ 1264 ∧ s.receives q.transport = true ∧ s.dict.queue.length < 64 :=
  ⟨{ client with session := 65535, target := 2 }, 127, List.replicate 1264 0, on, by decide +kernel⟩

theorem witness_LeaseWordsReadBack :
    (∃ w : PartnerWord, w.id < 2 ∧ w.role < 4 ∧ w.value < 2 ^ 32) ∧
    (∃ v : Nat, bits v 3 0 ≠ 9) :=
  ⟨⟨⟨1, 3, true, 4294967295, true, true⟩, by decide +kernel⟩,
   ⟨8, by decide +kernel⟩⟩

theorem witness_LeaseFramesReadBack :
    (∃ (w : PartnerWord) (tick : Nat), w.id < 2 ∧ w.role < 4 ∧ w.value < 2 ^ 32 ∧ tick = 4001) ∧
    (∃ b : Bytes, b.length ≠ 8) :=
  ⟨⟨⟨1, 3, true, 4294967295, true, true⟩, 4001, by decide +kernel⟩,
   ⟨[], by decide +kernel⟩⟩

theorem witness_OpenedSessionsGetAFreshNumber :
    (∃ (s : State) (q : Req) (lvl : Nat), s.table.length ≤ 16 ∧ lvl = 3 ∧ q = client ∧ s.nodeServes = true) ∧
    (∃ (s : State) (q : Req) (lvl : Nat), s.table.length ≤ 16 ∧ lvl = 3 ∧ q = client ∧ s.nodeServes = false) ∧
    (∃ (s : State) (q : Req) (lvl : Nat), s.table = [] ∧ s.dict.lastNum = 0 ∧ s.dict.localNum = 0 ∧ q = client ∧ lvl = 0) :=
  ⟨⟨{ on with dict := { on.dict with sessions := List.replicate 16 session3, lastNum := 65534 } }, client, 3, by decide +kernel⟩,
   ⟨{ standing with dict := { standing.dict with local_ := List.replicate 3 session3, localNum := 1 } }, client, 3, by decide +kernel⟩,
   ⟨on, client, 0, by decide +kernel⟩⟩

theorem witness_OpenKeepsTheSessionTablesBounded :
    ∃ (q : Req) (level len : Nat) (code : Bytes) (s t : State), s.dict.sessions.length ≤ 16 ∧ s.dict.local_.length ≤ 4 ∧ exec (.open_ q level len code) s = .next t :=
  ⟨client, 0, 0, [], State.reset, State.reset, ⟨by decide, by decide, rfl⟩⟩

theorem witness_RefusedWritesChangeNoObject :
    (∃ (q : Req) (x : Session) (ix sub : Nat) (st : Status) (s : State), s.admits q x = true ∧ sub < 256 ∧ s.oemIndex ix = false ∧ s.presentRow (ix * 256 + sub) = none ∧ st = Status.noObject) ∧
    (∃ (q : Req) (x : Session) (ix sub : Nat) (st : Status) (s : State), s.admits q x = true ∧ sub < 256 ∧ s.oemIndex ix = false ∧ (∃ r, s.presentRow (ix * 256 + sub) = some r ∧ r.acc = .ro) ∧ st = Status.access) ∧
    (∃ (q : Req) (x : Session) (ix sub : Nat) (st : Status) (s : State), s.admits q x = true ∧ sub < 256 ∧ s.oemIndex ix = false ∧ (∃ r, s.presentRow (ix * 256 + sub) = some r ∧ r.acc ≠ .ro ∧ x.level < r.lvl) ∧ st = Status.level) :=
  ⟨⟨client, session3, 0x0FFF, 1, .noObject, served, by decide +kernel⟩,
   ⟨client, session3, 0x1000, 2, .access, served, by decide +kernel⟩,
   ⟨client, { session3 with level := 0 }, Obj.STORE_ALL / 256, Obj.STORE_ALL % 256, .level, { on with dict := { on.dict with sessions := [{ session3 with level := 0 }] } }, by decide +kernel⟩⟩

theorem witness_StandbysRefuseWritesOfTheNode :
    ∃ (q : Req) (x : Session) (ix sub : Nat) (b : Bytes) (r : ObjRow) (s : State), s.admits q x = true ∧ sub < 256 ∧ s.standby = true ∧ moduleLocal (ix * 256 + sub) = false ∧ s.presentRow (ix * 256 + sub) = some r ∧ r.acc ≠ .ro ∧ r.lvl ≤ x.level ∧ r.ty.lengthOk b.length = true ∧ r.ty.valueOk b = true ∧ r.chk.ok r.ty b = true ∧ s.oemIndex ix = false ∧ ((s.servedBy q x).writeExtra (ix * 256 + sub) b).range = true :=
  ⟨client, session3, Obj.SESS_TIMEOUT / 256, Obj.SESS_TIMEOUT % 256, valBytes Obj.SESS_TIMEOUT 60, (rowOf Obj.SESS_TIMEOUT).getD ⟨0, 0, .u8, .ro, 1, 0, .any⟩, standing, by decide +kernel⟩

theorem witness_WrittenValuesHold :
    ∃ (q : Req) (x : Session) (ix sub ty : Nat) (b : Bytes) (s : State), s.accepts q x (ix * 256 + sub) ty b = true ∧ sub < 256 ∧ s.oemIndex ix = false ∧ ix * 256 + sub ≠ Obj.STORE_ALL ∧ ix * 256 + sub ≠ Obj.STORE_GROUP ∧ ix * 256 + sub ≠ Obj.STORE_DEFAULTS ∧ isMode (ix * 256 + sub) = false ∧ isBlob (ix * 256 + sub) = false ∧ (s.servedBy q x).writeExtra (ix * 256 + sub) b = {} ∧ ((s.servedBy q x).slice (ix * 256 + sub) b).chapterWrite (some q) (ix * 256 + sub) b = none :=
  ⟨client, session3, Obj.SESS_TIMEOUT / 256, Obj.SESS_TIMEOUT % 256, tyOf Obj.SESS_TIMEOUT, valBytes Obj.SESS_TIMEOUT 60, served, by decide +kernel⟩

theorem witness_DuplicatesAreAnsweredFromTheCache :
    ∃ (q : Req) (x : Session) (c : Cached) (st : Nat) (body : Bytes) (i : Instr) (svc : Nat) (s : State), s.serves q = true ∧ s.frontFormed = true ∧ q.version = 1 ∧ q.forwarded = none ∧ s.findSession q = some x ∧ x.cache.find? (fun c => c.txn == q.txn) = some c ∧ c.ans = some (st, body) ∧ c.elsewhere = false ∧ i = .close_ q [] ∧ svc = 2 :=
  ⟨client, answered, ⟨1, some (0, [7]), false, 0⟩, 0, [7], .close_ client [], 2, { on with dict := { on.dict with sessions := [answered] } }, by decide +kernel⟩

theorem witness_RequestsOutsideASessionAreRefused :
    (∃ (q : Req) (i : Instr) (svc : Nat) (s : State), s.serves q = true ∧ s.frontFormed = true ∧ q.version = 1 ∧ q.forwarded = none ∧ i = .close_ q [] ∧ svc = 2 ∧ s.findSession q = none) ∧
    (∃ (q : Req) (x : Session) (i : Instr) (svc : Nat) (s : State), s.serves q = true ∧ s.frontFormed = true ∧ q.version = 1 ∧ q.forwarded = none ∧ i = .close_ q [] ∧ svc = 2 ∧ s.findSession q = some x ∧ x.cache.find? (fun c => c.txn == q.txn) = none ∧ x.ahead q.txn = false) :=
  ⟨⟨client, .close_ client [], 2, on, by decide +kernel⟩,
   ⟨client, { session3 with newest := some 1 }, .close_ client [], 2, { on with dict := { on.dict with sessions := [{ session3 with newest := some 1 }] } }, by decide +kernel⟩⟩

theorem witness_FailedStoresKeepTheOldArea :
    ∃ (r : StoreRun) (i : Fin 2) (s : State), s.running = true ∧ s.store.run = some r ∧ i = 1 :=
  ⟨run0, 1, storing, by decide +kernel⟩

theorem witness_StoreAnswersComeWhenItEnds :
    (∃ (q : Req) (x : Session) (s : State), s.accepts q x Obj.STORE_ALL 3 (u16 1) = true ∧ s.storeExtra = {} ∧ s.supplyLow = false) ∧
    (∃ (q : Req) (x : Session) (s : State), s.accepts q x Obj.STORE_ALL 3 (u16 1) = true ∧ s.storeExtra = {} ∧ s.supplyLow = true) ∧
    (∃ (r : StoreRun) (s : State), s.running = true ∧ s.store.deferred = some r ∧ s.supplyLow = false ∧ s.conf Obj.SUPPLY_STATE = 0) ∧
    (∃ (r : StoreRun) (s : State), s.running = true ∧ s.store.run = some r ∧ r.req = none) ∧
    (∃ (r : StoreRun) (q : Req) (s : State), s.running = true ∧ s.store.run = some r ∧ r.req = some q) :=
  ⟨⟨client, session3, served, by decide +kernel⟩,
   ⟨client, session3, served.set Obj.SUPPLY_STATE 1, by decide +kernel⟩,
   ⟨run0, { on with store := { on.store with deferred := some run0 } }, by decide +kernel⟩,
   ⟨run0, storing, by decide +kernel⟩,
   ⟨{ run0 with req := some client }, client, { storing with store := { storing.store with run := some { run0 with req := some client } } }, by decide +kernel⟩⟩

theorem witness_DuplicatesOfAStoreAreEachAnswered :
    (∃ (q : Req) (x : Session) (c : Cached) (s : State), s.serves q = true ∧ s.frontFormed = true ∧ q.version = 1 ∧ q.forwarded = none ∧ s.findSession q = some x ∧ x.cache.find? (fun c => c.txn == q.txn) = some c ∧ c.ans = none) ∧
    (∃ (q : Req) (x : Session) (c : Cached) (r : StoreRun) (s : State), s.running = true ∧ s.store.run = some r ∧ r.req = some q ∧ s.findSession q = some x ∧ x.cache.find? (fun c => c.txn == q.txn) = some c) :=
  ⟨⟨client, executing, ⟨1, none, false, 0⟩, { on with dict := { on.dict with sessions := [executing] } }, by decide +kernel⟩,
   ⟨client, executing, ⟨1, none, false, 0⟩, { run0 with req := some client }, { storing with store := { storing.store with run := some { run0 with req := some client } }, dict := { on.dict with sessions := [executing] } }, by decide +kernel⟩⟩

theorem witness_SeventeenthWaitingFrameIsLost :
    (∃ (c : Fin 8) (f : CanFrame) (sof : Nat) (s : State), s.onBus c = true ∧ (s.can c).isOff = false ∧ (f.fd = false ∨ s.flag (Obj.CAN_FD c) = true) ∧ sof = 0 ∧ (s.can c).wait.length = 15) ∧
    (∃ (c : Fin 8) (f : CanFrame) (sof : Nat) (s : State), s.onBus c = true ∧ (s.can c).isOff = false ∧ (f.fd = false ∨ s.flag (Obj.CAN_FD c) = true) ∧ sof = 0 ∧ (s.can c).wait.length = 16) :=
  ⟨⟨0, frame0, 0, onCan { join := 3, wait := List.replicate 15 (frame0, 0, false) }, by decide +kernel⟩,
   ⟨0, frame0, 0, onCan { join := 3, wait := List.replicate 16 (frame0, 0, false) }, by decide +kernel⟩⟩

theorem witness_ArbitrationPicksOneBuffer :
    ∃ (c : Fin 8) (b : Nat) (s : State), s.onBus c = true ∧ (s.can c).isOff = false ∧ (s.can c).leave = false ∧ (s.can c).sending = none ∧ b < 3 ∧ ((s.can c).bufs.getD b {}).st = 1 ∧ s.conf (Obj.CAN_TX_ORDER c) ≠ 1 ∧ ∀ a < 3, ((s.can c).bufs.getD a {}).st = 1 → (((s.can c).bufs.getD b {}).frame.map frameRank).getD 0 < (((s.can c).bufs.getD a {}).frame.map frameRank).getD 0 ∨ b ≤ a :=
  ⟨0, 0, onCan { join := 3, bufs := [{ st := 1, frame := some frame0 }, {}, {}] }, by decide +kernel⟩

theorem witness_ReadsChangeNoObject :
    ∃ (q : Req) (i : Instr) (s t : State), i = .keepalive q [] ∧ exec i s = .next t :=
  ⟨client, .keepalive client [], State.reset, State.reset, ⟨rfl, rfl⟩⟩

theorem witness_RegisteredObjectsAreTheApplications :
    (∃ (q : Req) (x : Session) (ix sub : Nat) (s : State), s.admits q x = true ∧ sub < 256 ∧ 0xC000 ≤ ix ∧ ix ≤ 0xEFFF ∧ ix ∈ s.dict.oem) ∧
    (∃ (q : Req) (x : Session) (ix sub : Nat) (s : State), s.admits q x = true ∧ sub < 256 ∧ 0xC000 ≤ ix ∧ ix ≤ 0xEFFF ∧ ix ∉ s.dict.oem) :=
  ⟨⟨client, session3, 0xEFFF, 255, { served with dict := { served.dict with oem := [0xEFFF] } }, by decide +kernel⟩,
   ⟨client, session3, 0xC000, 0, served, by decide +kernel⟩⟩

theorem witness_TickRowsTakeEffect :
    (∃ inp : TickIn, ∃ s : State, s.running = true ∧ s.endTick.resetNextTick = false) ∧
    (∃ inp : TickIn, ∃ s : State, s.running = true ∧ s.endTick.resetNextTick = true) ∧
    (∃ inp : TickIn, ∃ s : State, s.running = false) ∧
    (∃ ms : Nat, ∃ inp : TickIn, ∃ s : State, s.phase = .starting ∧ s.start.due = none ∧ s.start.migrated = false ∧ ms ≤ 900) ∧
    (∃ inputs : List Nat, ∃ s : State, s.running = true) ∧
    (∃ e : Nat, ∃ s : State, s.running = true ∧ s.capturedNow e = true ∧ 0x3800 ≤ e / 256 ∧ e / 256 < 0x4000) ∧
    (∃ done : List Nat, ∃ s : State, s.running = true) ∧
    (∃ w : AppWrite, ∃ s : State, s.running = true ∧ s.writable w.area = true) ∧
    (∃ w : AppWrite, ∃ s : State, s.running = true ∧ s.writable w.area = false ∧ isArea w.area = true) ∧
    (∃ s : State, s.running = true) ∧
    (∃ core : Fin 4, ∃ offset : Nat, ∃ s : State, s.running = true ∧ offset < 4 * 2 ^ 20) :=
  ⟨⟨inp0, on, by decide +kernel⟩,
   ⟨inp0, { on with start := { on.start with due := some ⟨7, 1, 4001⟩ } }, by decide +kernel⟩,
   ⟨inp0, State.reset, by decide +kernel⟩,
   ⟨900, inp0, { State.reset with phase := .starting }, by decide +kernel⟩,
   ⟨[Obj.UI_ENG 0], on, by decide +kernel⟩,
   ⟨0x380030, { on with ent := [(0x380030, ⟨4000, true⟩)] }, by decide +kernel⟩,
   ⟨[200], on, by decide +kernel⟩,
   ⟨{ area := Obj.ISO_TX_OFFSET, stamp := 4000, valid := true, body := [] }, on, by decide +kernel⟩,
   ⟨{ area := Obj.SUP_ASSIST_OFFSET, stamp := 4000, valid := true, body := [] }, on, by decide +kernel⟩,
   ⟨on, by decide +kernel⟩,
   ⟨3, 4194303, on, by decide +kernel⟩⟩

theorem witness_WritesBeyondTheTickMemoryFault :
    ∃ core : Fin 4, ∃ offset : Nat, ∃ s : State, 4 * 2 ^ 20 ≤ offset :=
  ⟨0, 4194304, on, by decide +kernel⟩

theorem witness_OverrunEscalationTakesEffect :
    (∃ u : Nat, ∃ s : State, s.running = true ∧ u ≤ steerUnit ∧ s.conf Obj.TICK_ESC_CONSEC ≤ Sparse.find (fun _ => 0) s.tick.consec u ∧ s.tick.faulted.contains u = false ∧ (48 ≤ u ∨ (s.fl u).fault = 0)) ∧
    (∃ e : Fin 6, ∃ s : State, s.running = true ∧ s.conf Obj.TICK_ESC_WINDOW ≤ s.ovrWindow e ∧ bit (s.get Obj.TICK_ENGINE_FAULT) e = false) ∧
    (∃ offset : Nat, ∃ s : State, s.running = true) ∧
    (∃ q : Req, ∃ x : Session, ∃ e : Fin 6, ∃ s : State, s.acceptsSet q x Obj.TICK_ENGINE_RESTART e = true ∧ bit (s.get Obj.TICK_ENGINE_FAULT) e = true) ∧
    (∃ e : Fin 6, ∃ s : State, s.running = true ∧ s.k % 4000 = 0 ∧ s.tick.restarting.contains e.val = true ∧ Sparse.find (fun _ => 0) s.tick.restartAt e ≤ s.k) :=
  ⟨⟨0, { on with tick := { on.tick with consec := [(0, 8)] } }, by decide +kernel⟩,
   ⟨0, { on with tick := { on.tick with window := [(4000, 0, 40)] } }, by decide +kernel⟩,
   ⟨5, on, by decide +kernel⟩,
   ⟨client, session3, 2, served.set Obj.TICK_ENGINE_FAULT 4, by decide +kernel⟩,
   ⟨2, { on with tick := { on.tick with restarting := [2] } }, by decide +kernel⟩⟩

theorem witness_TimebaseRowsTakeEffect :
    (∃ e : Int, ∃ s : State, s.steerDue = true ∧ s.posDue = false ∧ s.acting = true ∧ s.gnss.timeSol = some (e, s.k) ∧ s.get Obj.INT_STATE ≠ 2) ∧
    (∃ s : State, s.steerDue = true ∧ s.posDue = false ∧ (∀ e : Int, s.gnss.timeSol = some (e, s.k) → s.get Obj.INT_STATE = 2)) ∧
    (∃ e : Int, ∃ s : State, s.steerDue = true ∧ s.posDue = false ∧ s.acting = false ∧ s.gnss.timeSol = some (e, s.k) ∧ s.get Obj.INT_STATE ≠ 2) ∧
    (∃ since : Nat, ∃ s : State, s.running = true ∧ s.acting = true ∧ s.time.lockSince = some since ∧ s.get Obj.TIME_STATE = 2 ∧ since + 40000 ≤ s.k) ∧
    (∃ s : State, s.running = true ∧ s.acting = true ∧ (s.get Obj.TIME_STATE = 2 ∨ s.get Obj.TIME_STATE = 3) ∧ (s.time.lastSol + 4000 ≤ s.k ∨ s.get Obj.INT_STATE = 2)) ∧
    (∃ since : Nat, ∃ s : State, s.running = true ∧ s.acting = true ∧ s.time.holdValid = some since ∧ s.get Obj.TIME_STATE = 4 ∧ since + 4000 ≤ s.k ∧ s.k ≤ s.time.lastSol + epochTicks s.gnss.rate) ∧
    (∃ since : Nat, ∃ s : State, s.running = true ∧ s.time.window = some since ∧ since + s.conf Obj.TIME_STEP_WINDOW ≤ s.k + 1) :=
  ⟨⟨0, { (((onGnss.set (Obj.DOM_STATE 4) 2))) with gnss := { onGnss.gnss with epoch := some 4000, timeSol := some (0, 4001) }, tick := { on.tick with ran := [posUnit] } }, by decide +kernel⟩,
   ⟨{ (((onGnss.set (Obj.DOM_STATE 4) 2))) with gnss := { onGnss.gnss with epoch := some 4000 }, tick := { on.tick with ran := [posUnit] } }, by decide +kernel, by decide +kernel, fun e h => by cases h⟩,
   ⟨0, { onGnss.set (Obj.DOM_STATE 4) 2 with gnss := { onGnss.gnss with epoch := some 4000, timeSol := some (0, 4001) }, tick := { on.tick with ran := [posUnit] }, pair := { on.pair with state := 3, inForce := true } }, by decide +kernel⟩,
   ⟨0, { (on.set Obj.TIME_STATE 2) with k := 40000, time := { on.time with lockSince := some 0 } }, by decide +kernel⟩,
   ⟨on.set Obj.TIME_STATE 2, by decide +kernel⟩,
   ⟨0, { (on.set Obj.TIME_STATE 4) with time := { on.time with holdValid := some 0, lastSol := 4000 } }, by decide +kernel⟩,
   ⟨0, { on with k := 4000000000, time := { on.time with window := some 0 } }, by decide +kernel⟩⟩

theorem witness_GrandmasterRowsTakeEffect :
    (∃ p : Fin 3, ∃ sub : Nat, ∃ s : State, s.gptpSends p = true ∧ intervalOver s.gptp.lastSync p s.k s.gptp.syncLog = true) ∧
    (∃ p : Fin 3, ∃ s : State, s.gptpSends p = true ∧ intervalOver s.gptp.lastAnnounce p s.k s.gptp.announceLog = true) ∧
    (∃ p : Fin 3, ∃ s : State, s.running = true ∧ s.portUp p = true ∧ bit s.gptp.ports p = true) ∧
    (∃ s : State, s.running = true ∧ s.k % 4000 = 0) :=
  ⟨⟨0, 0, onGptp, by decide +kernel⟩,
   ⟨0, onGptp, by decide +kernel⟩,
   ⟨0, onGptp, by decide +kernel⟩,
   ⟨on, by decide +kernel⟩⟩

theorem witness_TransportRowsTakeEffect :
    (∃ m : MdpMsg, ∃ s : State, s.receives m.transport = true ∧ mdpOk m.bytes = true ∧ s.dict.queue.length < 64) ∧
    (∃ m : MdpMsg, ∃ s : State, s.receives m.transport = true ∧ (mdpOk m.bytes = false ∨ 64 ≤ s.dict.queue.length)) ∧
    (∃ c : Fin 8, ∃ ident : Nat, ∃ data : Bytes, ∃ s : State, s.receives 0 = true ∧ c.val = s.dict.can ∧ bits ident 28 13 = bits s.dict.base 28 13 ∧ bits ident 12 6 = s.dict.node ∧ bit ident 5 = false) ∧
    (∃ c : Fin 8, ∃ ident : Nat, ∃ data : Bytes, ∃ s : State, s.receives 0 = true ∧ c.val = s.dict.can ∧ bits ident 28 13 = bits s.dict.base 28 13 ∧ bits ident 12 6 = s.dict.node ∧ bit ident 5 = false ∧ field data 0 1 = 0x80 ∧ data.length = 64) ∧
    (∃ c : Fin 8, ∃ ident : Nat, ∃ data : Bytes, ∃ s : State, s.receives 0 = true ∧ c.val = s.dict.can ∧ bits ident 28 13 = bits s.dict.base 28 13 ∧ bits ident 12 6 = s.dict.node ∧ bit ident 5 = false ∧ field data 0 1 = 0xC0) ∧
    (∃ c : Fin 8, ∃ ident : Nat, ∃ data : Bytes, ∃ r : Reasm, ∃ s : State, s.receives 0 = true ∧ c.val = s.dict.can ∧ bits ident 28 13 = bits s.dict.base 28 13 ∧ bits ident 12 6 = s.dict.node ∧ bit ident 5 = false ∧ (s.dict.reasm.find? fun r => r.client == bits ident 4 0) = some r ∧ r.next ≤ 20 ∧ field data 0 1 = r.next ∧ data.length = 64) ∧
    (∃ c : Fin 8, ∃ ident : Nat, ∃ data : Bytes, ∃ r : Reasm, ∃ s : State, s.receives 0 = true ∧ c.val = s.dict.can ∧ bits ident 28 13 = bits s.dict.base 28 13 ∧ bits ident 12 6 = s.dict.node ∧ bit ident 5 = false ∧ (s.dict.reasm.find? fun r => r.client == bits ident 4 0) = some r ∧ r.next ≤ 20 ∧ field data 0 1 = r.next + 0x40) ∧
    (∃ c : Fin 8, ∃ ident : Nat, ∃ data : Bytes, ∃ r : Reasm, ∃ s : State, s.receives 0 = true ∧ c.val = s.dict.can ∧ bits ident 28 13 = bits s.dict.base 28 13 ∧ bits ident 12 6 = s.dict.node ∧ bit ident 5 = false ∧ (s.dict.reasm.find? fun r => r.client == bits ident 4 0) = some r ∧ bit (field data 0 1) 7 = false ∧ bits (field data 0 1) 5 0 ≠ r.next) ∧
    (∃ c : Fin 32, ∃ s : State, s.running = true ∧ (s.dict.reasm.any fun r => r.client == c.val && decide (r.last + s.dict.segTimeout < s.k)) = true) ∧
    (∃ s : State, s.running = true ∧ s.k % 4000 = 0) :=
  ⟨⟨msg0, on, by decide +kernel⟩,
   ⟨⟨5, 1, []⟩, on, by decide +kernel⟩,
   ⟨0, 0, [], onSeg, by decide +kernel⟩,
   ⟨0, 0, 0x80 :: List.replicate 63 0, onSeg, by decide +kernel⟩,
   ⟨0, 0, [0xC0], onSeg, by decide +kernel⟩,
   ⟨0, 0, 1 :: List.replicate 63 0, ⟨0, 1, [], 4000⟩, { onSeg with dict := { onSeg.dict with reasm := [⟨0, 1, [], 4000⟩] } }, by decide +kernel⟩,
   ⟨0, 0, [0x41], ⟨0, 1, [], 4000⟩, { onSeg with dict := { onSeg.dict with reasm := [⟨0, 1, [], 4000⟩] } }, by decide +kernel⟩,
   ⟨0, 0, [5], ⟨0, 1, [], 4000⟩, { onSeg with dict := { onSeg.dict with reasm := [⟨0, 1, [], 4000⟩] } }, by decide +kernel⟩,
   ⟨3, { on with dict := { on.dict with segTimeout := 400, reasm := [⟨3, 1, [], 0⟩] } }, by decide +kernel⟩,
   ⟨on, by decide +kernel⟩⟩

theorem witness_SessionRowsTakeEffect :
    (∃ q : Req, ∃ level : Nat, ∃ len : Nat, ∃ code : Bytes, ∃ s : State, s.serves q = true ∧ s.frontFormed = true ∧ (s.takeUp q).openStatus q level len code = .ok) ∧
    (∃ q : Req, ∃ level : Nat, ∃ len : Nat, ∃ code : Bytes, ∃ s : State, s.serves q = true ∧ s.frontFormed = true ∧ (s.takeUp q).openStatus q level len code = .sessionsFull) ∧
    (∃ q : Req, ∃ level : Nat, ∃ len : Nat, ∃ code : Bytes, ∃ s : State, s.serves q = true ∧ s.frontFormed = true ∧ (s.takeUp q).openStatus q level len code = .credential) ∧
    (∃ q : Req, ∃ x : Session, ∃ s : State, s.admits q x = true) ∧
    (∃ q : Req, ∃ x : Session, ∃ s : State, s.admits q x = true) ∧
    (∃ num : Nat, ∃ s : State, s.running = true) ∧
    (∃ s : State, s.running = true ∧ 5 ≤ (s.dict.fails.filter fun t => decide (s.k < t + 240000)).length ∧ s.dict.lockout = none) ∧
    (∃ since : Nat, ∃ s : State, s.dict.lockout = some since ∧ since + 240000 ≤ s.k) ∧
    (∃ q : Req, ∃ x : Session, ∃ which : Fin 2, ∃ code : Bytes, ∃ s : State, s.accepts q x (credKey which) (tyOf (credKey which)) code = true) ∧
    (∃ q : Req, ∃ x : Session, ∃ s : State, s.acceptsSet q x Obj.SESS_CLOSE_ALL 1 = true) :=
  ⟨⟨{ client with session := 0 }, 0, 0, [], on, by decide +kernel⟩,
   ⟨{ client with session := 0 }, 0, 0, [], { on with dict := { on.dict with sessions := List.replicate 16 session3 } }, by decide +kernel⟩,
   ⟨{ client with session := 0 }, 1, 6, List.replicate 6 0x41, { on with dict := { on.dict with cred1 := (some wrongCred, none) } }, by decide +kernel⟩,
   ⟨client, session3, served, by decide +kernel⟩,
   ⟨client, session3, served, by decide +kernel⟩,
   ⟨1, served, by decide +kernel⟩,
   ⟨{ on with dict := { on.dict with fails := [1, 2, 3, 4, 5] } }, by decide +kernel⟩,
   ⟨0, { on with k := 240000, dict := { on.dict with lockout := some 0 } }, by decide +kernel⟩,
   ⟨client, session3, 0, List.replicate 6 0x41, served, by decide +kernel⟩,
   ⟨client, session3, served, by decide +kernel⟩⟩

theorem witness_ReadAndWriteRowsTakeEffect :
    (∃ q : Req, ∃ x : Session, ∃ ix : Nat, ∃ sub : Nat, ∃ maxLen : Nat, ∃ r : ObjRow, ∃ s : State, s.admits q x = true ∧ sub < 256 ∧ ix * 256 + sub ≠ Obj.REC_WINDOW ∧ s.oemIndex ix = false ∧ s.presentRow (ix * 256 + sub) = some r ∧ r.acc ≠ .wo ∧ r.acc ≠ .cmd ∧ r.ty ≠ .str ∧ r.ty ≠ .block ∧ s.readOff r (ix * 256 + sub) = false) ∧
    (∃ q : Req, ∃ x : Session, ∃ ix : Nat, ∃ sub : Nat, ∃ offset : Nat, ∃ maxLen : Nat, ∃ b : Bytes, ∃ r : ObjRow, ∃ s : State, s.admits q x = true ∧ sub < 256 ∧ ix * 256 + sub ≠ Obj.REC_WINDOW ∧ s.oemIndex ix = false ∧ s.presentRow (ix * 256 + sub) = some r ∧ r.acc ≠ .wo ∧ r.acc ≠ .cmd ∧ (r.ty = .str ∨ r.ty = .block) ∧ s.readOff r (ix * 256 + sub) = false ∧ (s.servedBy q x).readBlob (ix * 256 + sub) = some b ∧ offset ≤ b.length) ∧
    (∃ q : Req, ∃ x : Session, ∃ ix : Nat, ∃ sub : Nat, ∃ ty : Nat, ∃ b : Bytes, ∃ s : State, s.accepts q x (ix * 256 + sub) ty b = true ∧ sub < 256 ∧ s.oemIndex ix = false ∧ ix * 256 + sub ≠ Obj.STORE_ALL ∧ ix * 256 + sub ≠ Obj.STORE_GROUP ∧ ix * 256 + sub ≠ Obj.STORE_DEFAULTS ∧ (s.servedBy q x).writeExtra (ix * 256 + sub) b = {}) :=
  ⟨⟨client, session3, Obj.SESS_TIMEOUT / 256, Obj.SESS_TIMEOUT % 256, 1256, (rowOf Obj.SESS_TIMEOUT).getD ⟨0, 0, .u8, .ro, 1, 0, .any⟩, served, by decide +kernel⟩,
   ⟨client, session3, Obj.SH_CROP 0 / 256, Obj.SH_CROP 0 % 256, 4, 4, win, (rowOf (Obj.SH_CROP 0)).getD ⟨0, 0, .u8, .ro, 1, 0, .any⟩, servedStream, by decide +kernel⟩,
   ⟨client, session3, Obj.REC_CURSOR / 256, Obj.REC_CURSOR % 256, tyOf Obj.REC_CURSOR, valBytes Obj.REC_CURSOR 5, served, by decide +kernel⟩⟩

theorem witness_StoreRowsTakeEffect :
    (∃ q : Req, ∃ x : Session, ∃ s : State, s.acceptsSet q x Obj.STORE_ALL 1 = true ∧ s.storeExtra = {} ∧ s.supplyLow = false) ∧
    (∃ q : Req, ∃ x : Session, ∃ s : State, s.acceptsSet q x Obj.STORE_ALL 1 = true ∧ s.storeExtra = {} ∧ s.supplyLow = true) ∧
    (∃ q : Req, ∃ x : Session, ∃ g : Nat, ∃ s : State, s.acceptsSet q x Obj.STORE_GROUP g = true ∧ s.storeExtra = {} ∧ s.supplyLow = false) ∧
    (∃ q : Req, ∃ x : Session, ∃ s : State, s.acceptsSet q x Obj.STORE_DEFAULTS 1 = true) ∧
    (∃ r : StoreRun, ∃ s : State, s.running = true ∧ s.store.run = some r) ∧
    (∃ r : StoreRun, ∃ i : Fin 2, ∃ s : State, s.running = true ∧ s.store.run = some r ∧ s.standby = false) ∧
    (∃ r : StoreRun, ∃ s : State, s.running = true ∧ s.store.deferred = some r ∧ s.get Obj.SUPPLY_STATE = 0 ∧ s.conf Obj.SUPPLY_STATE = 0) :=
  ⟨⟨client, session3, served, by decide +kernel⟩,
   ⟨client, session3, served.set Obj.SUPPLY_STATE 1, by decide +kernel⟩,
   ⟨client, session3, 3, served, by decide +kernel⟩,
   ⟨client, session3, served, by decide +kernel⟩,
   ⟨run0, storing, by decide +kernel⟩,
   ⟨run0, 1, storing, by decide +kernel⟩,
   ⟨run0, { on with store := { on.store with deferred := some run0 } }, by decide +kernel⟩⟩

theorem witness_FunctionModeRowsTakeEffect :
    (∃ q : Req, ∃ x : Session, ∃ key : Nat, ∃ v : Nat, ∃ s : State, isMode key = true ∧ s.acceptsSet q x key v = true) ∧
    (∃ key : Nat, ∃ s : State, isMode key = true ∧ s.thirdMiss key 1 = true) ∧
    (∃ key : Nat, ∃ s : State, isMode key = true ∧ s.thirdMiss key 2 = true ∧ key ≠ Obj.CRB_MODEL_MODE) ∧
    (∃ s : State, s.thirdMiss Obj.CRB_MODEL_MODE 2 = true) :=
  ⟨⟨client, session3, Obj.SUP_MODE, 0, served, by decide +kernel⟩,
   ⟨Obj.CRB_MODEL_MODE, missing 1, by decide +kernel⟩,
   ⟨Obj.BANK_FUSE_MODE 0, missingBank, by decide +kernel⟩,
   ⟨missing 2, by decide +kernel⟩⟩

theorem witness_LedgerRowsTakeEffect :
    (∃ q : Req, ∃ x : Session, ∃ s : State, s.acceptsSet q x Obj.CRB_ENABLE 1 = true ∧ graphErr s.get = 0) ∧
    (∃ q : Req, ∃ x : Session, ∃ fails : List Nat, ∃ s : State, s.acceptsSet q x Obj.CRB_ENABLE 0 = true) ∧
    (∃ q : Req, ∃ x : Session, ∃ fails : List Nat, ∃ s : State, s.acceptsSet q x Obj.CRB_CLEAR 1 = true) ∧
    (∃ q : Req, ∃ x : Session, ∃ fails : List Nat, ∃ s : State, s.acceptsSet q x Obj.YS_SEAL 1 = true) ∧
    (∃ fails : List Nat, ∃ s : State, s.ledgerDue = true ∧ s.acting = true) ∧
    (∃ b : Bool, ∃ s : State, s.running = true ∧ s.led.ckRun = some b) ∧
    (∃ until_ : Nat, ∃ s : State, s.running = true ∧ s.led.reducedUntil = some until_ ∧ until_ ≤ s.k) ∧
    (∃ q : Req, ∃ x : Session, ∃ seq : Nat, ∃ s : State, s.acceptsSet q x Obj.YS_SET_MARK seq = true ∧ s.led.ys.markOk seq = true) :=
  ⟨⟨client, session3, servedGraph, by decide +kernel⟩,
   ⟨client, session3, [], served, by decide +kernel⟩,
   ⟨client, session3, [], servedLedger, by decide +kernel⟩,
   ⟨client, session3, [], servedLedger, by decide +kernel⟩,
   ⟨[], servedLedger, by decide +kernel⟩,
   ⟨false, { on with led := { on.led with ckRun := some false } }, by decide +kernel⟩,
   ⟨4000, { on with led := { on.led with reducedUntil := some 4000 } }, by decide +kernel⟩,
   ⟨client, session3, 1, servedLedger, by decide +kernel⟩⟩

theorem witness_LoopRowsTakeEffect :
    (∃ n : Fin 48, ∃ us : Nat, ∃ s : State, s.slotTurn n = true ∧ s.slotStops n = false ∧ s.pvTimedOut n = false) ∧
    (∃ n : Fin 48, ∃ us : Nat, ∃ s : State, s.slotTurn n = true ∧ s.slotStops n = true) ∧
    (∃ n : Fin 48, ∃ us : Nat, ∃ s : State, s.slotTurn n = true ∧ s.slotStops n = false ∧ s.pvTimedOut n = true) ∧
    (∃ n : Fin 48, ∃ s : State, s.slotTurn n = true ∧ s.slotStops n = false ∧ s.pvTimedOut n = true) ∧
    (∃ n : Fin 48, ∃ term : Fin 2, ∃ s : State, s.slotTurn n = true ∧ s.slotStops n = false ∧ s.pvTimedOut n = false ∧ s.ffDrops n term = true) ∧
    (∃ q : Req, ∃ x : Session, ∃ u : Nat, ∃ s : State, s.acceptsSet q x (enableKey u) 1 = true ∧ s.parent u = none ∧ (s.servedBy q x).unitCheck u = none) ∧
    (∃ q : Req, ∃ x : Session, ∃ u : Nat, ∃ s : State, s.acceptsSet q x (enableKey u) 0 = true ∧ s.parent u = none) ∧
    (∃ q : Req, ∃ x : Session, ∃ u : Nat, ∃ s : State, s.acceptsSet q x (unitKey u 0x1D) 1 = true ∧ (((s.servedBy q x).below 257 u).any fun v => decide (v < 48) && bit (s.get Obj.TICK_ENGINE_FAULT) (engineOf v)) = false) ∧
    (∃ q : Req, ∃ x : Session, ∃ t : Tpl, ∃ s : State, s.acceptsSet q x Obj.TPL_BUILD 1 = true ∧ (s.servedBy q x).tplCode = 0 ∧ templateOf (s.get Obj.TPL_NUMBER) = some t) ∧
    (∃ q : Req, ∃ x : Session, ∃ a : Fin 256, ∃ s : State, s.acceptsSet q x (Obj.TP_NUMBER a) 0 = true ∧ (s.servedBy q x).templateExtra a 0 = {}) :=
  ⟨⟨0, 10, looping, by decide +kernel⟩,
   ⟨0, 10, stopped, by decide +kernel⟩,
   ⟨0, 10, timedOut, by decide +kernel⟩,
   ⟨0, timedOut, by decide +kernel⟩,
   ⟨0, 0, feeding, by decide +kernel⟩,
   ⟨client, session3, 0, servedUnit, by decide +kernel⟩,
   ⟨client, session3, 0, served, by decide +kernel⟩,
   ⟨client, session3, 0, (served.set (Obj.DOM_STATE 3) 2), by decide +kernel⟩,
   ⟨client, session3, tpl0, servedTpl, by decide +kernel⟩,
   ⟨client, session3, 0, servedAsm, by decide +kernel⟩⟩

theorem witness_SupervisorRowsTakeEffect :
    (∃ s : State, s.supDue = true) ∧
    (∃ w : Window, ∃ s : State, s.running = true ∧ s.acting = true ∧ s.sup.window = some w ∧ w.open_ + s.conf Obj.SUP_WINDOW_MAX ≤ s.k ∧ w.complete = false) ∧
    (∃ s : State, s.running = true ∧ s.acting = true ∧ s.supState = 3 ∧ s.sup.since + s.conf Obj.SUP_SETTLE ≤ s.k) ∧
    (∃ s : State, s.running = true ∧ s.acting = true ∧ s.supState = 6 ∧ s.sup.since + s.conf Obj.SUP_RETRY ≤ s.k) ∧
    (∃ q : Req, ∃ x : Session, ∃ i : Fin 5, ∃ v : Nat, ∃ s : State, s.acceptsSet q x (Obj.TGT_BASE i) v = true ∧ targetOk (s.get (Obj.TGT_MIN i)) v (s.get (Obj.TGT_MAX i)) = true) ∧
    (∃ q : Req, ∃ x : Session, ∃ v : Nat, ∃ s : State, s.acceptsSet q x Obj.SUP_LOCK v = true) ∧
    (∃ q : Req, ∃ x : Session, ∃ s : State, s.acceptsSet q x Obj.SUP_ENABLE 0 = true) ∧
    (∃ q : Req, ∃ x : Session, ∃ s : State, s.acceptsSet q x Obj.SUP_ADOPT 1 = true) :=
  ⟨⟨supervising, by decide +kernel⟩,
   ⟨{ open_ := 0, want := 1 }, { on with k := 10 ^ 9, sup := { on.sup with window := some { open_ := 0, want := 1 } } }, by decide +kernel⟩,
   ⟨{ seen on [(Obj.SUP_STATE, 3)] with k := 10 ^ 9 }, by decide +kernel⟩,
   ⟨{ seen on [(Obj.SUP_STATE, 6)] with k := 10 ^ 9 }, by decide +kernel⟩,
   ⟨client, session3, 0, 0x44480000, servedD4, by decide +kernel⟩,
   ⟨client, session3, 3, served, by decide +kernel⟩,
   ⟨client, session3, served, by decide +kernel⟩,
   ⟨client, session3, servedD4, by decide +kernel⟩⟩

theorem witness_LossSensorRowsTakeEffect :
    (∃ n : Fin 16, ∃ us : Nat, ∃ samples : List Int, ∃ last : Int, ∃ s : State, s.lsReaches n us (samples ++ [last]) .started = true) ∧
    (∃ n : Fin 16, ∃ us : Nat, ∃ samples : List Int, ∃ last : Int, ∃ s : State, s.lsReaches n us (samples ++ [last]) .ended = true) ∧
    (∃ n : Fin 16, ∃ us : Nat, ∃ samples : List Int, ∃ s : State, s.lsReaches n us samples .forced = true) ∧
    (∃ n : Fin 16, ∃ since : Nat, ∃ s : State, s.running = true ∧ (s.ls n).restart = some since ∧ since < s.k ∧ (s.ls n).impact.isSome = true) ∧
    (∃ n : Fin 16, ∃ since : Nat, ∃ s : State, s.running = true ∧ (s.ls n).restart = some since ∧ since < s.k ∧ (s.ls n).impact = none) :=
  ⟨⟨0, 0, [], 0, lsStart, by decide +kernel⟩,
   ⟨0, 0, [], 0, lsEnd, by decide +kernel⟩,
   ⟨0, 0, [0], lsForce, by decide +kernel⟩,
   ⟨0, 0, onImpact, by decide +kernel⟩,
   ⟨0, 0, onLsRestart, by decide +kernel⟩⟩

theorem witness_UniversalInputRowsTakeEffect :
    (∃ q : Req, ∃ x : Session, ∃ n : Fin 48, ∃ m : Nat, ∃ s : State, s.acceptsSet q x (Obj.UI_MODE n) m = true ∧ (s.servedBy q x).uiModeExtra n m = {}) ∧
    (∃ n : Fin 48, ∃ since : Nat, ∃ s : State, s.running = true ∧ (s.ui n).settle = some since ∧ since + 16 ≤ s.k) ∧
    (∃ n : Fin 48, ∃ s : State, s.running = true ∧ s.uiOn n = true ∧ s.conf (Obj.UI_MODE n) = 3 ∧ 2 ≤ (s.ui n).overC ∧ (s.ui n).shunt = none ∧ s.uiLateNow n = false) ∧
    (∃ n : Fin 48, ∃ s : State, s.running = true ∧ s.uiOn n = true ∧ s.conf (Obj.UI_MODE n) = 3 ∧ 2 ≤ (s.ui n).overC ∧ (s.ui n).shunt = none ∧ s.uiLateNow n = true) ∧
    (∃ n : Fin 48, ∃ since : Nat, ∃ s : State, s.running = true ∧ (s.ui n).shunt = some since ∧ since + 4000 ≤ s.k) ∧
    (∃ n : Fin 48, ∃ s : State, s.running = true ∧ s.uiOn n = true ∧ s.conf (Obj.UI_MODE n) = 5 ∧ s.uiLateNow n = false ∧ s.conf (Obj.UI_DEBOUNCE n) + 1 ≤ (s.ui n).diff) ∧
    (∃ q : Req, ∃ x : Session, ∃ n : Fin 48, ∃ v : Int, ∃ s : State, s.acceptsSet q x (Obj.UI_COUNT_SET n) (encInt 32 v) = true ∧ s.get (Obj.UI_MODE n) = 7 ∧ n.val % 2 = 0) :=
  ⟨⟨client, session3, 0, 1, served, by decide +kernel⟩,
   ⟨0, 0, onUi { settle := some 0 }, by decide +kernel⟩,
   ⟨0, { onUi { overC := 2 } with snap := [(Obj.UI_MODE 0, 3)] }, by decide +kernel⟩,
   ⟨0, { (onUi { overC := 2 }).set (Obj.UI_STATUS 0) 2048 with snap := [(Obj.UI_MODE 0, 3)] }, by decide +kernel⟩,
   ⟨0, 0, onUi { shunt := some 0 }, by decide +kernel⟩,
   ⟨0, { onUi { diff := 255 } with snap := [(Obj.UI_MODE 0, 5)] }, by decide +kernel⟩,
   ⟨client, session3, 0, -5, ((served.set (Obj.DOM_STATE 13) 2).set (Obj.UI_MODE 0) 7), by decide +kernel⟩⟩

theorem witness_SensorSupplyRowsTakeEffect :
    (∃ n : Fin 4, ∃ s : State, s.running = true ∧ s.get (Obj.SS_STATE n) = 2 ∧ 40 ≤ (s.ss n).limit) ∧
    (∃ n : Fin 4, ∃ s : State, s.running = true ∧ s.get (Obj.SS_STATE n) = 3 ∧ (s.ss n).since + s.conf (Obj.SS_RETRY n) ≤ s.k) ∧
    (∃ q : Req, ∃ x : Session, ∃ n : Fin 4, ∃ s : State, s.acceptsSet q x (Obj.SS_REARM n) 1 = true ∧ s.get (Obj.SS_STATE n) = 4) :=
  ⟨⟨0, (on.set (Obj.SS_STATE 0) 2).setSs 0 { limit := 40 }, by decide +kernel⟩,
   ⟨3, { on.set (Obj.SS_STATE 3) 3 with k := 100000000 }, by decide +kernel⟩,
   ⟨client, session3, 3, served.set (Obj.DOM_STATE 13) 2 |>.set (Obj.SS_STATE 3) 4, by decide +kernel⟩⟩

theorem witness_LayerTwoRowsTakeEffect :
    (∃ n : Fin 128, ∃ us : Nat, ∃ s : State, s.conducts n = true ∧ 200 ≤ us ∧ us ≤ 204) ∧
    (∃ n : Fin 128, ∃ temp : Rat, ∃ s : State, 170 ≤ temp ∧ temp ≤ 180 ∧ (s.ch n).latch = false) ∧
    (∃ n : Fin 128, ∃ temp : Rat, ∃ s : State, temp < 150 ∧ (s.ch n).latch = true) :=
  ⟨⟨127, 200, on.setCh 127 { on := true }, by decide +kernel⟩,
   ⟨0, 175, on, by decide +kernel⟩,
   ⟨0, 149, on.setCh 0 { latch := true }, by decide +kernel⟩⟩

theorem witness_SwitchEdgeRowsTakeEffect :
    (∃ n : Fin 128, ∃ s : State, s.pwmDue n = true ∧ s.swActs = true ∧ s.pair.hold = none ∧ s.unapplied s.k = false ∧ (s.ch n).was = 1 ∧ s.confFlag (Obj.CH_FREEWHEEL n) = true) ∧
    (∃ n : Fin 128, ∃ s : State, s.pwmDue n = true ∧ s.swActs = true ∧ s.pair.hold = none ∧ s.unapplied s.k = false ∧ (s.ch n).was = 1 ∧ s.confFlag (Obj.CH_FREEWHEEL n) = false ∧ f32lt 0 (s.ch n).taken = true ∧ f32lt (s.ch n).taken 0x42C80000 = true) ∧
    (∃ n : Fin 128, ∃ s : State, s.pwmDue n = true ∧ (s.pair.hold.isSome = true ∨ s.unapplied s.k = true) ∧ f32lt 0 (s.ch n).duty = true) ∧
    (∃ n : Fin 128, ∃ current : Nat, ∃ ton : Nat, ∃ s : State, ((s.ch n).edge = true ∨ s.pwmEnds n = true)) :=
  ⟨⟨0, pwming, by decide +kernel⟩,
   ⟨0, pwmingHard, by decide +kernel⟩,
   ⟨0, pwmHolding, by decide +kernel⟩,
   ⟨0, 0, 5, edged, by decide +kernel⟩⟩

theorem witness_WireFuseRowsTakeEffect :
    (∃ n : Fin 128, ∃ s : State, s.swActs = true ∧ (s.get (Obj.CH_FUSE_STATE n) = 2 ∨ s.get (Obj.CH_FUSE_STATE n) = 3 ∨ s.get (Obj.CH_FUSE_STATE n) = 4) ∧ (s.ch n).changed = false ∧ s.confFlag (Obj.CH_ENABLE n) = true ∧ s.chAsked n = true ∧ (s.ch n).since + s.conf (Obj.CH_RETRY_DELAY n) ≤ s.k ∧ 0 < s.get (Obj.CH_RETRY_LEFT n) ∧ s.latchShown n = false ∧ s.permits n = true) ∧
    (∃ n : Fin 128, ∃ s : State, s.swActs = true ∧ s.get (Obj.CH_FUSE_STATE n) = 1 ∧ s.conf (Obj.CH_RETRY_RESET n) ≤ (s.ch n).onTicks ∧ s.tripSeen n = false) ∧
    (∃ q : Req, ∃ x : Session, ∃ n : Fin 128, ∃ s : State, s.acceptsSet q x (Obj.CH_REARM n) 1 = true) ∧
    (∃ q : Req, ∃ x : Session, ∃ b : Fin 8, ∃ s : State, s.acceptsSet q x (Obj.BANK_REARM b) 1 = true) ∧
    (∃ b : Fin 8, ∃ s : State, s.fuseTripDue b = true) ∧
    (∃ q : Req, ∃ x : Session, ∃ n : Fin 128, ∃ s : State, s.acceptsSet q x (Obj.CH_OL_LEARN n) 1 = true ∧ s.flag (Obj.CH_FINE n) = true) ∧
    (∃ n : Fin 128, ∃ k : Nat, ∃ sum : Nat, ∃ s : State, s.running = true ∧ (s.ch n).learn = some (k, sum) ∧ 400 ≤ k) :=
  ⟨⟨0, restarting, by decide +kernel⟩,
   ⟨0, (onSw.set (Obj.CH_FUSE_STATE 0) 1).setCh 0 { onTicks := 10000000 }, by decide +kernel⟩,
   ⟨client, session3, 127, served.set (Obj.DOM_STATE 11) 2, by decide +kernel⟩,
   ⟨client, session3, 7, served.set (Obj.DOM_STATE 11) 2, by decide +kernel⟩,
   ⟨0, fuseFaulted, by decide +kernel⟩,
   ⟨client, session3, 0, served.set (Obj.DOM_STATE 11) 2 |>.set (Obj.CH_FINE 0) 1, by decide +kernel⟩,
   ⟨0, 400, 20000, on.setCh 0 { learn := some (400, 20000) }, by decide +kernel⟩⟩

theorem witness_BankRowsTakeEffect :
    (∃ b : Fin 8, ∃ s : State, s.swActs = true ∧ 4 ≤ (s.bank b).underC) ∧
    (∃ b : Fin 8, ∃ n : Fin 128, ∃ s : State, s.swActs = true ∧ s.restorable b = some n.val) ∧
    (∃ since : Nat, ∃ s : State, s.swActs = true ∧ s.sw.dipReported = some since ∧ since < s.k) :=
  ⟨⟨7, onSw.setBank 7 { underC := 4 }, by decide +kernel⟩,
   ⟨0, 3, { ((onSw.set (Obj.CH_FUSE_STATE 3) 6).setBank 0 { dipShed := [3] }) with k := 4001 }, by decide +kernel⟩,
   ⟨0, { onSw with sw := { onSw.sw with dipReported := some 0 } }, by decide +kernel⟩⟩

theorem witness_ValveEventRowsTakeEffect :
    (∃ n : Fin 48, ∃ at_ : Nat, ∃ len : Option Nat, ∃ s : State, (s.vd n).event = some (at_, len) ∧ s.vdLive = true ∧ s.pair.hold = none ∧ at_ < 250 * (s.k + 1) ∧ s.eventTurn n = true ∧ (¬ (s.openCoil n = true ∧ at_ = 250 * s.k)) ∧ s.paralleled n = false ∧ (s.vd n).st = 0) ∧
    (∃ n : Fin 48, ∃ at_ : Nat, ∃ len : Option Nat, ∃ s : State, (s.vd n).event = some (at_, len) ∧ s.vdLive = true ∧ s.pair.hold = none ∧ at_ < 250 * (s.k + 1) ∧ s.eventTurn n = true ∧ (¬ (s.openCoil n = true ∧ at_ = 250 * s.k)) ∧ s.paralleled n = false ∧ ((s.vd n).st = 1 ∨ (s.vd n).st = 2)) ∧
    (∃ n : Fin 48, ∃ at_ : Nat, ∃ len : Option Nat, ∃ s : State, (s.vd n).event = some (at_, len) ∧ s.vdLive = true ∧ s.pair.hold = none ∧ at_ < 250 * (s.k + 1) ∧ s.eventTurn n = true ∧ (¬ (s.openCoil n = true ∧ at_ = 250 * s.k)) ∧ s.paralleled n = false ∧ 3 ≤ (s.vd n).st ∧ (s.vd n).st ≤ 7) ∧
    (∃ n : Fin 48, ∃ at_ : Nat, ∃ len : Option Nat, ∃ s : State, (s.vd n).event = some (at_, len) ∧ s.vdLive = true ∧ s.pair.hold = none ∧ at_ < 250 * (s.k + 1) ∧ s.eventTurn n = true ∧ (¬ (s.openCoil n = true ∧ at_ = 250 * s.k)) ∧ s.paralleled n = true ∧ 1 ≤ (s.vd n).st ∧ (s.vd n).st ≤ 5) ∧
    (∃ n : Fin 48, ∃ at_ : Nat, ∃ len : Option Nat, ∃ s : State, (s.vd n).event = some (at_, len) ∧ s.vdLive = true ∧ s.pair.hold = none ∧ at_ < 250 * (s.k + 1) ∧ s.eventTurn n = true ∧ (¬ (s.openCoil n = true ∧ at_ = 250 * s.k)) ∧ s.paralleled n = true ∧ ((s.vd n).st = 7 ∨ ((s.vd n).st = 0 ∧ ∃ off, (s.vd n).offAt = some off ∧ max at_ (250 * s.k) < off + s.conf (Obj.VD_MIN_OFF n)))) ∧
    (∃ n : Fin 48, ∃ at_ : Nat, ∃ len : Option Nat, ∃ s : State, (s.vd n).event = some (at_, len) ∧ s.vdLive = true ∧ s.pair.hold = none ∧ at_ < 250 * (s.k + 1) ∧ s.eventTurn n = true ∧ (¬ (s.openCoil n = true ∧ at_ = 250 * s.k)) ∧ s.paralleled n = true ∧ (s.vd n).st = 0 ∧ (∀ off, (s.vd n).offAt = some off → off + s.conf (Obj.VD_MIN_OFF n) ≤ max at_ (250 * s.k))) ∧
    (∃ n : Fin 48, ∃ us : Nat, ∃ current : Rat, ∃ s : State, s.vdLive = true ∧ us < 250 ∧ (s.vd n).st = 2 ∧ (s.vd n).boostAt ≤ 250 * s.k + us ∧ (s.confRat (Obj.VD_I_PEAK n) ≤ current ∨ (s.vd n).boostAt + s.conf (Obj.VD_BOOST_TIME n) ≤ 250 * s.k + us)) ∧
    (∃ n : Fin 48, ∃ us : Nat, ∃ s : State, s.vdLive = true ∧ us < 250 ∧ (s.vd n).st = 3 ∧ (s.vd n).peakFrom + s.conf (Obj.VD_PEAK_TIME n) ≤ 250 * s.k + us) ∧
    (∃ n : Fin 48, ∃ us : Nat, ∃ current : Rat, ∃ s : State, s.vdLive = true ∧ us < 250 ∧ (s.vd n).st = 4 ∧ current ≤ f32rat (s.holdTarget n)) ∧
    (∃ n : Fin 48, ∃ us : Nat, ∃ from_ : Nat, ∃ len : Nat, ∃ s : State, (s.vd n).inj = some (from_, len) ∧ s.vdLive = true ∧ us < 250 ∧ from_ + len ≤ 250 * s.k + us) ∧
    (∃ n : Fin 48, ∃ current : Rat, ∃ s : State, (s.vd n).st = 6 ∧ current < 1 / 50) ∧
    (∃ n : Fin 48, ∃ us : Nat, ∃ off : Nat, ∃ s : State, (s.vd n).offAt = some off ∧ s.vdLive = true ∧ s.pair.hold = none ∧ us < 250 ∧ (s.vd n).st = 7 ∧ off + s.conf (Obj.VD_MIN_OFF n) ≤ 250 * s.k + us) ∧
    (∃ q : Req, ∃ x : Session, ∃ n : Fin 48, ∃ s : State, s.acceptsSet q x (Obj.VD_RETRIGGER n) 1 = true ∧ (s.servedBy q x).retriggerExtra n = {}) :=
  ⟨⟨0, 1000000, none, onVd { event := some (1000000, none) }, by decide +kernel⟩,
   ⟨0, 1000000, none, onVd { event := some (1000000, none), st := 2 }, by decide +kernel⟩,
   ⟨0, 1000000, none, onVd { event := some (1000000, none), st := 5 }, by decide +kernel⟩,
   ⟨0, 1000000, none, pairEvent 5 none, by decide +kernel⟩,
   ⟨0, 1000000, none, pairEvent 7 none, by decide +kernel, by decide +kernel, rfl, by decide +kernel, by decide +kernel, by decide +kernel, by decide +kernel, Or.inl (by decide +kernel)⟩,
   ⟨0, 1000000, none, pairEvent 0 none, by decide +kernel, by decide +kernel, rfl, by decide +kernel, by decide +kernel, by decide +kernel, by decide +kernel, by decide +kernel, fun o h => by cases h⟩,
   ⟨0, 10, 100, onVd { st := 2 }, by decide +kernel⟩,
   ⟨0, 249, onVd { st := 3 }, by decide +kernel⟩,
   ⟨0, 0, 0, onVd { st := 4 }, by decide +kernel⟩,
   ⟨0, 5, 1000000, 5, onVd { st := 5, inj := some (1000000, 5) }, by decide +kernel⟩,
   ⟨0, 0, onVd { st := 6 }, by decide +kernel⟩,
   ⟨0, 0, 0, onVd { st := 7, offAt := some 0 }, by decide +kernel⟩,
   ⟨client, session3, 0, served.set (Obj.DOM_STATE 12) 2 |>.setVd 0 { cmdOn := true }, by decide +kernel⟩⟩

theorem witness_ValveFaultRowsTakeEffect :
    (∃ n : Fin 48, ∃ current : Rat, ∃ s : State, s.vdLive = true ∧ 12 < current ∧ (s.vd (s.governorOf n)).st ≠ 8) ∧
    (∃ g : Fin 12, ∃ us : Nat × Rat, ∃ s : State, s.vdLive = true ∧ 100 ≤ us.1 ∧ 34 ≤ us.2 ∧ us.2 ≤ 46 ∧ s.groupConducts g = true) ∧
    (∃ n : Fin 48, ∃ s : State, s.vdLive = true ∧ ((s.vd n).st = 0 ∨ (s.vd n).st = 7) ∧ 40 ≤ (s.vd n).pinC ∧ s.valve.suspend = 0 ∧ s.groupConducts (n.val / 4) = true ∧ s.regulatedSum (n / 4) + 3 / 10 < f32rat (s.get (Obj.HG_CURRENT (n / 4)))) ∧
    (∃ n : Fin 48, ∃ s : State, s.vdLive = true ∧ ((s.vd n).st = 0 ∨ (s.vd n).st = 7) ∧ 40 ≤ (s.vd n).pinC ∧ s.valve.suspend = 0 ∧ s.groupConducts (n.val / 4) = true ∧ f32rat (s.get (Obj.HG_CURRENT (n / 4))) ≤ s.regulatedSum (n / 4) + 3 / 10 ∧ (s.vd n).openOff = false) ∧
    (∃ n : Fin 48, ∃ s : State, s.vdLive = true ∧ s.pair.hold = none ∧ (s.vd n).last = 5 ∧ 4 ≤ (s.vd n).st ∧ (s.vd n).st ≤ 6 ∧ 4 ≤ (s.vd n).openC ∧ s.valve.suspend = 0) ∧
    (∃ q : Req, ∃ x : Session, ∃ n : Fin 48, ∃ s : State, s.acceptsSet q x (Obj.VD_REARM n) 1 = true ∧ (s.servedBy q x).vdCool n = true) ∧
    (∃ q : Req, ∃ x : Session, ∃ g : Fin 12, ∃ s : State, s.acceptsSet q x (Obj.HG_REARM g) 1 = true) ∧
    (∃ since : Nat, ∃ s : State, s.valve.bstStart = some since ∧ s.domOn 12 = true ∧ s.valve.bst = 1 ∧ since + 800 ≤ s.k) ∧
    (∃ since : Nat, ∃ s : State, s.valve.bstFail = some since ∧ s.domOn 12 = true ∧ s.valve.bst = 3 ∧ since + 4000 ≤ s.k ∧ 6 ≤ f32rat (s.get (Obj.BST_V_FEED 0))) :=
  ⟨⟨0, 13, onVd {}, by decide +kernel⟩,
   ⟨11, (100, 40), (onVd {}).set (Obj.HG_STATE 11) 1, by decide +kernel⟩,
   ⟨5, lowPin true, by decide +kernel⟩,
   ⟨5, lowPin false, by decide +kernel⟩,
   ⟨0, onVd { st := 5, last := 5, openC := 4 }, by decide +kernel⟩,
   ⟨client, session3, 0, served.set (Obj.DOM_STATE 12) 2, by decide +kernel⟩,
   ⟨client, session3, 0, served.set (Obj.DOM_STATE 12) 2, by decide +kernel⟩,
   ⟨0, { onVd {} with valve := { bst := 1, bstStart := some 0 } }, by decide +kernel⟩,
   ⟨0, { (onVd {}).set (Obj.BST_V_FEED 0) 0x41400000 with valve := { bst := 3, bstFail := some 0 } }, by decide +kernel⟩⟩

theorem witness_NavigationRowsTakeEffect :
    (∃ a : Fin 2, ∃ s : State, s.gnssOn = true ∧ (s.ant a).on = true ∧ 40 ≤ (s.ant a).limit) ∧
    (∃ a : Fin 2, ∃ since : Nat, ∃ s : State, (s.ant a).offAt = some since ∧ s.gnssOn = true ∧ since + 4000 ≤ s.k) ∧
    (∃ a : Fin 2, ∃ s : State, s.gnssOn = true ∧ (s.ant a).on = true ∧ 400 ≤ (s.ant a).low) ∧
    (∃ meas : List RawMeas, ∃ unserved : Nat, ∃ s : State, s.gnssOn = true ∧ s.afterEpoch = true ∧ s.gnss.epoch ≠ some (s.k - 1)) ∧
    (∃ u : NavUnit, ∃ s : State, s.gnssOn = true ∧ 1 ≤ u.count ∧ u.count ≤ navFull u ∧ u.chan < 320 ∧ s.confFlag Obj.GQ_NAV = true ∧ bit (s.sigMask u.ant) u.sig = true ∧ (u.ant = 0 ∨ bit s.gnss.maskA u.sig = false)) ∧
    (∃ est : PosEst, ∃ s : State, s.posDue = true) ∧
    (∃ ep : Nat, ∃ s : State, s.gnssOn = true ∧ s.gnss.epoch = some ep) ∧
    (∃ s : State, s.running = true ∧ s.acting = true ∧ s.gnss.tm.getD 0 0 ≠ 0 ∧ s.k % s.gnss.tm.getD 1 4000 = 0 ∧ bit (s.gnss.tm.getD 3 0) (s.get Obj.TIME_STATE) = true ∧ s.gnss.pulseAt ≠ some s.k) ∧
    (∃ s : State, s.running = true ∧ s.acting = true ∧ s.k % s.gnss.tm.getD 1 4000 = 0 ∧ s.gnss.messageAt ≠ some s.k) ∧
    (∃ q : Req, ∃ x : Session, ∃ s : State, s.acceptsSet q x Obj.GNSS_ENABLE 1 = true) ∧
    (∃ s : State, s.running = true ∧ s.k % 4000 = 0) ∧
    (∃ s : State, s.running = true ∧ s.k % 4000 = 0) :=
  ⟨⟨1, onGnss.setAnt 1 { on := true, limit := 40 }, by decide +kernel⟩,
   ⟨0, 0, onGnss.setAnt 0 { offAt := some 0 }, by decide +kernel⟩,
   ⟨0, onGnss.setAnt 0 { on := true, low := 400 }, by decide +kernel⟩,
   ⟨[], 0, onGnss, by decide +kernel⟩,
   ⟨nav0, { onGnss with snap := (Obj.GQ_NAV, 1) :: onGnss.snap }, by decide +kernel⟩,
   ⟨est0, { onGnss.set (Obj.DOM_STATE 4) 2 with gnss := { onGnss.gnss with epoch := some 4000 } }, by decide +kernel⟩,
   ⟨4000, { onGnss with gnss := { onGnss.gnss with epoch := some 4000 } }, by decide +kernel⟩,
   ⟨on.set Obj.TIME_STATE 2, by decide +kernel⟩,
   ⟨on, by decide +kernel⟩,
   ⟨client, session3, served, by decide +kernel⟩,
   ⟨on, by decide +kernel⟩,
   ⟨on, by decide +kernel⟩⟩

theorem witness_CameraRowsTakeEffect :
    (∃ q : Req, ∃ x : Session, ∃ p : Fin 2, ∃ s : State, s.acceptsSet q x (Obj.PORT_ENABLE p) 1 = true) ∧
    (∃ p : Fin 2, ∃ s : State, s.running = true ∧ s.domOn 7 = true ∧ (s.get (Obj.PORT_STATE p) = 1 ∨ s.get (Obj.PORT_STATE p) = 3) ∧ s.img.trying.contains p.val = true) ∧
    (∃ p : Fin 2, ∃ ns : Nat, ∃ s : State, s.running = true ∧ s.get (Obj.PORT_STATE p) = 2) ∧
    (∃ p : Fin 2, ∃ s : State, s.running = true ∧ s.get (Obj.PORT_STATE p) = 3 ∧ Sparse.find (fun _ => 0) s.img.tried p + 4000 ≤ s.k) ∧
    (∃ n : Fin 8, ∃ ns : Nat, ∃ number : Nat, ∃ acks : List Bool, ∃ s : State, s.streamRuns n = true ∧ ((s.closeFrame n (s.k * 250000 + ns) 4).stream n).lastStart = none) ∧
    (∃ n : Fin 8, ∃ ns : Nat, ∃ number : Nat, ∃ acks : List Bool, ∃ s : State, ∃ p : Nat, s.streamRuns n = true ∧ ((s.closeFrame n (s.k * 250000 + ns) 4).stream n).lastStart = some p ∧ 900000000 ≤ ((s.k * 250000 + ns - p : Nat) : Rat) * (s.closeFrame n (s.k * 250000 + ns) 4).confRat (Obj.STR_FPS_MAX n)) ∧
    (∃ n : Fin 8, ∃ ns : Nat, ∃ number : Nat, ∃ acks : List Bool, ∃ s : State, ∃ p : Nat, s.streamRuns n = true ∧ ((s.closeFrame n (s.k * 250000 + ns) 4).stream n).lastStart = some p ∧ ((s.k * 250000 + ns - p : Nat) : Rat) * (s.closeFrame n (s.k * 250000 + ns) 4).confRat (Obj.STR_FPS_MAX n) < 900000000) ∧
    (∃ n : Fin 8, ∃ l : CamLine, ∃ s : State, s.streamRuns n = true ∧ l.ecc = false ∧ l.crc = false ∧ l.dt = s.conf (Obj.STR_DT n) ∧ (l.dt = 0x2A ∨ l.dt = 0x2B ∨ l.dt = 0x2C)) ∧
    (∃ n : Fin 8, ∃ l : CamLine, ∃ s : State, s.running = true ∧ s.domOn 7 = true ∧ s.get (Obj.PORT_STATE (n / 4)) = 2 ∧ l.ecc = true) ∧
    (∃ n : Fin 8, ∃ ns : Nat, ∃ s : State, s.streamRuns n = true) ∧
    (∃ n : Fin 8, ∃ s : State, s.streamRuns n = true ∧ (s.stream n).frame.isSome = true ∧ (s.stream n).lineAt + s.conf (Obj.STR_TIMEOUT n) ≤ s.k) :=
  ⟨⟨client, session3, 1, served, by decide +kernel⟩,
   ⟨0, { (on.set (Obj.DOM_STATE 7) 2).set (Obj.PORT_STATE 0) 1 with img := { on.img with trying := [0] } }, by decide +kernel⟩,
   ⟨0, 5, on.set (Obj.PORT_STATE 0) 2, by decide +kernel⟩,
   ⟨0, on.set (Obj.PORT_STATE 0) 3, by decide +kernel⟩,
   ⟨0, 5, 1, [], streaming, by decide +kernel⟩,
   ⟨0, 5, 1, [], streaming.setStream 0 { lastStart := some 0 }, 0, by decide +kernel⟩,
   ⟨0, 5, 1, [], streaming.setStream 0 { lastStart := some 1000000000 }, 1000000000, by decide +kernel⟩,
   ⟨0, line0, streaming, by decide +kernel⟩,
   ⟨7, { line0 with ecc := true }, (on.set (Obj.DOM_STATE 7) 2).set (Obj.PORT_STATE 1) 2, by decide +kernel⟩,
   ⟨0, 9, streaming, by decide +kernel⟩,
   ⟨0, framing, by decide +kernel⟩⟩

theorem witness_StreamRowsTakeEffect :
    (∃ q : Req, ∃ x : Session, ∃ n : Fin 8, ∃ s : State, s.acceptsSet q x (Obj.STR_ENABLE n) 1 = true ∧ (s.servedBy q x).streamOk n = true) ∧
    (∃ q : Req, ∃ x : Session, ∃ n : Fin 8, ∃ s : State, s.acceptsSet q x (Obj.STR_ENABLE n) 0 = true) ∧
    (∃ q : Req, ∃ x : Session, ∃ n : Fin 8, ∃ s : State, s.acceptsSet q x (Obj.SH_COMMIT n) 1 = true ∧ (s.servedBy q x).commitOk n = true ∧ s.flag (Obj.STR_ENABLE n) = true) ∧
    (∃ n : Fin 8, ∃ c : ShadowSet, ∃ since : Nat, ∃ s : State, s.running = true ∧ (s.stream n).served = some (c, since) ∧ since < s.k) ∧
    (∃ q : Req, ∃ x : Session, ∃ n : Fin 8, ∃ b : Bytes, ∃ s : State, s.accepts q x (Obj.EXP_REQUEST n) (tyOf (Obj.EXP_REQUEST n)) b = true ∧ expOk b = true) ∧
    (∃ n : Fin 8, ∃ s : State, s.running = true ∧ s.domOn 7 = true ∧ s.confFlag (Obj.FOC_ENABLE n) = true ∧ s.k % 40 = s.conf (Obj.FOC_PHASE n) ∧ s.tick.ran.contains (focusUnit n) = false) :=
  ⟨⟨client, session3, 0, servedStream, by decide +kernel⟩,
   ⟨client, session3, 0, served, by decide +kernel⟩,
   ⟨client, session3, 0, servedStream.set (Obj.STR_ENABLE 0) 1 |>.set (Obj.DOM_STATE 7) 2, by decide +kernel⟩,
   ⟨0, {}, 3999, on.setStream 0 { served := some ({}, 3999) }, by decide +kernel⟩,
   ⟨client, session3, 0, exp0, served.set (Obj.DOM_STATE 7) 2, by decide +kernel⟩,
   ⟨0, focusing, by decide +kernel⟩⟩

theorem witness_CanControllerRowsTakeEffect :
    (∃ q : Req, ∃ x : Session, ∃ c : Fin 8, ∃ s : State, s.acceptsSet q x (Obj.CAN_ENABLE c) 1 = true ∧ s.canCfg c = 0 ∧ s.flag (Obj.CAN_ENABLE c) = false) ∧
    (∃ q : Req, ∃ x : Session, ∃ c : Fin 8, ∃ s : State, s.acceptsSet q x (Obj.CAN_ENABLE c) 0 = true) ∧
    (∃ c : Fin 8, ∃ s : State, s.running = true ∧ s.domOn (canDom c) = true ∧ (s.can c).join = 2) ∧
    (∃ c : Fin 8, ∃ f : CanFrame, ∃ sof : Nat, ∃ dram : Bool, ∃ s : State, s.onBus c = true ∧ (s.can c).isOff = false ∧ (f.fd = false ∨ s.flag (Obj.CAN_FD c) = true) ∧ (s.can c).rec_ ≤ 127) ∧
    (∃ c : Fin 8, ∃ f : CanFrame, ∃ sof : Nat, ∃ dram : Bool, ∃ s : State, s.onBus c = true ∧ (s.can c).isOff = false ∧ (f.fd = false ∨ s.flag (Obj.CAN_FD c) = true) ∧ 127 < (s.can c).rec_) ∧
    (∃ c : Fin 8, ∃ f : CanFrame, ∃ sof : Nat, ∃ dram : Bool, ∃ s : State, s.onBus c = true ∧ (s.can c).isOff = false ∧ f.fd = true ∧ s.flag (Obj.CAN_FD c) = false) ∧
    (∃ c : Fin 8, ∃ lec : Nat, ∃ eight : Bool, ∃ s : State, s.onBus c = true ∧ (s.can c).isOff = false) ∧
    (∃ c : Fin 8, ∃ s : State, s.onBus c = true ∧ (s.can c).isOff = false ∧ 256 ≤ (s.can c).tec) ∧
    (∃ c : Fin 8, ∃ s : State, s.onBus c = true ∧ (s.can c).err = 3) ∧
    (∃ q : Req, ∃ x : Session, ∃ c : Fin 8, ∃ s : State, s.acceptsSet q x (Obj.CAN_RECOVER c) 1 = true ∧ s.get (Obj.CAN_ERR_STATE c) = 2) :=
  ⟨⟨client, session3, 0, servedCan, by decide +kernel⟩,
   ⟨client, session3, 7, served, by decide +kernel⟩,
   ⟨0, onCan { join := 2 }, by decide +kernel⟩,
   ⟨0, frame0, 0, true, onCan { join := 3 }, by decide +kernel⟩,
   ⟨0, frame0, 0, true, onCan { join := 3, rec_ := 130 }, by decide +kernel⟩,
   ⟨0, { frame0 with fd := true }, 0, true, (onCan { join := 3 }).set (Obj.CAN_FD 0) 0, by decide +kernel⟩,
   ⟨0, 1, true, onCan { join := 3 }, by decide +kernel⟩,
   ⟨0, onCan { join := 3, tec := 256 }, by decide +kernel⟩,
   ⟨0, onCan { join := 3, err := 3 }, by decide +kernel⟩,
   ⟨client, session3, 0, servedCan.set (Obj.CAN_ERR_STATE 0) 2 |>.set (Obj.DOM_STATE 9) 2, by decide +kernel⟩⟩

theorem witness_TransmitRowsTakeEffect :
    (∃ c : Fin 8, ∃ b : Fin 3, ∃ a : AppArea, ∃ s : State, s.txEntry c b = some a ∧ s.running = true ∧ 2 ≤ (s.can c).join ∧ a.at_ 9 1 = 1 ∧ (s.buf c b).st = 0 ∧ s.frameOk c a = true ∧ s.moduleOwned c b = false ∧ s.standby = false) ∧
    (∃ c : Fin 8, ∃ b : Fin 3, ∃ a : AppArea, ∃ s : State, s.txEntry c b = some a ∧ s.running = true ∧ 2 ≤ (s.can c).join ∧ a.at_ 9 1 = 2 ∧ (s.buf c b).st = 1) ∧
    (∃ c : Fin 8, ∃ b : Fin 3, ∃ a : AppArea, ∃ s : State, s.txEntry c b = some a ∧ s.running = true ∧ 2 ≤ (s.can c).join ∧ a.at_ 9 1 = 2 ∧ (s.buf c b).st = 2) ∧
    (∃ c : Fin 8, ∃ b : Nat, ∃ s : State, s.onBus c = true ∧ (s.can c).isOff = false ∧ (s.can c).leave = false ∧ (s.can c).sending = none ∧ s.chosen c = some b) ∧
    (∃ c : Fin 8, ∃ b : Nat, ∃ s : State, (s.can c).sending = some b ∧ s.onBus c = true ∧ (s.buf c b).cancel = none ∧ (s.buf c b).single = false) ∧
    (∃ c : Fin 8, ∃ b : Nat, ∃ s : State, (s.can c).sending = some b ∧ s.onBus c = true ∧ (s.buf c b).cancel = none ∧ (s.buf c b).single = true) ∧
    (∃ c : Fin 8, ∃ b : Nat, ∃ lec : Nat, ∃ exempt : Bool, ∃ s : State, (s.can c).sending = some b ∧ s.onBus c = true ∧ (s.buf c b).cancel = none ∧ (s.buf c b).single = false) ∧
    (∃ c : Fin 8, ∃ b : Nat, ∃ lec : Nat, ∃ exempt : Bool, ∃ delay : Fin 256, ∃ f : CanFrame, ∃ s : State, (s.can c).sending = some b ∧ s.onBus c = true ∧ (s.buf c b).cancel = none ∧ (s.buf c b).single = false ∧ (s.buf c b).frame = some f) ∧
    (∃ c : Fin 8, ∃ b : Nat, ∃ stamp : Nat, ∃ s : State, (s.can c).sending = some b ∧ s.onBus c = true ∧ (s.buf c b).cancel = some stamp) ∧
    (∃ c : Fin 8, ∃ b : Nat, ∃ sof : Nat, ∃ dram : Bool, ∃ delay : Fin 256, ∃ f : CanFrame, ∃ s : State, (s.can c).sending = some b ∧ s.onBus c = true ∧ (s.buf c b).frame = some f) :=
  ⟨⟨0, 0, load0, loading, by decide +kernel⟩,
   ⟨0, 0, cancel0, cancelling, by decide +kernel⟩,
   ⟨0, 0, cancel0, { sending with app0 := [(Obj.CAN_TX_APP_OFFSET 0, cancel0)] }, by decide +kernel⟩,
   ⟨0, 0, onCan { join := 3, bufs := [{ st := 1, frame := some frame0 }, {}, {}] }, by decide +kernel⟩,
   ⟨0, 0, sending, by decide +kernel⟩,
   ⟨0, 0, onCan { join := 3, bufs := [{ st := 2, frame := some frame0, single := true }, {}, {}] }, by decide +kernel⟩,
   ⟨0, 0, 3, false, sending, by decide +kernel⟩,
   ⟨0, 0, 3, false, 5, frame0, sending, by decide +kernel⟩,
   ⟨0, 0, 9, onCan { join := 3, bufs := [{ st := 2, frame := some frame0, cancel := some 9 }, {}, {}] }, by decide +kernel⟩,
   ⟨0, 0, 5, true, 0, frame0, sending, by decide +kernel⟩⟩

theorem witness_IsoNodeRowsTakeEffect :
    (∃ s : State, s.running = true ∧ s.acting = true ∧ s.k % s.net.hb.getD 0 400 = s.net.hb.getD 1 0 ∧ s.net.hbAt ≠ some s.k) ∧
    (∃ s : State, s.isoUp = true ∧ s.conf Obj.ISO_NAME ≠ 0 ∧ s.get Obj.ISO_STATE = 0) ∧
    (∃ addr : Fin 256, ∃ name : Nat, ∃ s : State, s.isoUp = true ∧ (s.get Obj.ISO_STATE = 1 ∨ s.get Obj.ISO_STATE = 2) ∧ s.net.iso.addr = addr.val ∧ s.conf Obj.ISO_NAME < name) ∧
    (∃ addr : Fin 256, ∃ name : Nat, ∃ s : State, s.isoUp = true ∧ s.net.iso.addr ≠ addr.val) ∧
    (∃ addr : Fin 256, ∃ name : Nat, ∃ s : State, s.isoUp = true ∧ (s.get Obj.ISO_STATE = 1 ∨ s.get Obj.ISO_STATE = 2) ∧ s.net.iso.addr = addr.val ∧ name < s.conf Obj.ISO_NAME) ∧
    (∃ s : State, s.isoUp = true ∧ s.get Obj.ISO_STATE ≠ 0) ∧
    (∃ s : State, s.isoUp = true ∧ s.get Obj.ISO_STATE = 1 ∧ s.net.iso.claimAt + 1000 ≤ s.k) ∧
    (∃ n : Fin 8, ∃ data : Bytes, ∃ s : State, s.running = true ∧ s.acting = true ∧ (s.area0 (Obj.ISO_TX_OFFSET + n)).valid = true ∧ Sparse.find (fun _ => 0) s.net.iso.seen n ≠ (s.area0 (Obj.ISO_TX_OFFSET + n)).stamp + 1 ∧ Sparse.find (fun _ => 0) s.net.iso.results n ≠ 1 ∧ s.get Obj.ISO_STATE ≠ 2) ∧
    (∃ n : Fin 8, ∃ data : Bytes, ∃ a : AppArea, ∃ s : State, s.running = true ∧ s.acting = true ∧ s.area0 (Obj.ISO_TX_OFFSET + n) = a ∧ a.valid = true ∧ Sparse.find (fun _ => 0) s.net.iso.seen n ≠ a.stamp + 1 ∧ Sparse.find (fun _ => 0) s.net.iso.results n ≠ 1 ∧ s.get Obj.ISO_STATE = 2 ∧ (a.at_ 10 1 ≠ 0xFF ∨ a.at_ 16 4 ≤ 1785) ∧ a.at_ 16 4 ≤ 117440505 ∧ oemBase ≤ a.at_ 20 8 ∧ a.at_ 20 8 + a.at_ 16 4 ≤ oemBase + oemSize ∧ a.at_ 9 1 < 8 ∧ a.at_ 11 1 = 0 ∧ a.at_ 12 4 < 2 ^ 18 ∧ a.at_ 28 4 = 0) ∧
    (∃ f : CanFrame, ∃ time : Nat, ∃ s : State, s.isoUp = true ∧ f.ext = true ∧ f.remote = false ∧ f.data.length = 8 ∧ (f.ident / 256 % 256 = 0xFF ∨ (s.get Obj.ISO_STATE = 2 ∧ f.ident / 256 % 256 = s.get Obj.ISO_ADDR)) ∧ (f.ident / 2 ^ 16 % 256 = 0xEC ∨ f.ident / 2 ^ 16 % 256 = 0xC8)) ∧
    (∃ f : CanFrame, ∃ time : Nat, ∃ y : TpRx, ∃ s : State, s.isoUp = true ∧ f.ext = true ∧ f.remote = false ∧ f.data.length = 8 ∧ (f.ident / 256 % 256 = 0xFF ∨ (s.get Obj.ISO_STATE = 2 ∧ f.ident / 256 % 256 = s.get Obj.ISO_ADDR)) ∧ (f.ident / 2 ^ 16 % 256 = 0xEB ∨ f.ident / 2 ^ 16 % 256 = 0xC7) ∧ (s.net.iso.rx.find? fun y => y.src == f.ident % 256 && y.ext == (f.ident / 2 ^ 16 % 256 == 0xC7) && y.bam == (f.ident / 256 % 256 == 0xFF)) = some y) ∧
    (∃ n : Fin 8, ∃ y : TpTx, ∃ s : State, s.isoUp = true ∧ s.tpTx n = some y ∧ y.bamAt = none ∧ y.due ≤ s.k) ∧
    (∃ n : Fin 8, ∃ y : TpRx, ∃ s : State, s.isoUp = true ∧ s.net.iso.rx[n.val]? = some y ∧ y.due ≤ s.k) ∧
    (∃ s : State, s.running = true ∧ s.acting = true ∧ s.k % 4000 = s.conf Obj.DM1_PHASE ∧ s.net.iso.dm1At ≠ some ((s.k + 4000 - s.conf Obj.DM1_PHASE) / 4000)) ∧
    (∃ s : State, s.running = true ∧ s.acting = true ∧ s.dm1Sends = true ∧ s.k % 4000 ≠ s.conf Obj.DM1_PHASE ∧ s.net.iso.dm1At = some ((s.k + 4000 - s.conf Obj.DM1_PHASE) / 4000) ∧ s.net.iso.dm1Extra ≠ some ((s.k + 4000 - s.conf Obj.DM1_PHASE) / 4000) ∧ (s.get (Obj.DM1_MODE + 1) = 0 ∨ s.get (Obj.DM1_MODE + 1) = 2) ∧ ((List.range 32).any fun d => s.activeDtcs.contains d != s.flag (Obj.DTC_ACTIVE d)) = true) :=
  ⟨⟨{ on with k := 4003 }, by decide +kernel⟩,
   ⟨isoNode 0, by decide +kernel⟩,
   ⟨254, 9, isoNode 2, by decide +kernel⟩,
   ⟨253, 0, isoNode 2, by decide +kernel⟩,
   ⟨254, 0, isoNode 2, by decide +kernel⟩,
   ⟨isoNode 3, by decide +kernel⟩,
   ⟨isoNode 1, by decide +kernel⟩,
   ⟨0, [], { on with app0 := [(Obj.ISO_TX_OFFSET, { valid := true })] }, by decide +kernel⟩,
   ⟨0, [], iso0, { isoNode 2 with app0 := [(Obj.ISO_TX_OFFSET, iso0)] }, by
    have h := iso0_address
    refine ⟨by decide +kernel, by decide +kernel, rfl, rfl, by decide +kernel, by decide +kernel, by decide +kernel, by decide, by decide, ?_, ?_, by decide, by decide, by decide, iso0_last⟩
    · exact Nat.le_of_eq h.symm
    · rw [h, show iso0.at_ 16 4 = 0 from rfl]; omega⟩,
   ⟨{ ext := true, ident := 0x1CECFF05, data := List.replicate 8 0 }, 0, isoNode 2, by decide +kernel⟩,
   ⟨{ ext := true, ident := 0x1CEBFF05, data := List.replicate 8 0 }, 0, rx0, (isoNode 2).setIso fun i => { i with rx := [rx0] }, by decide +kernel⟩,
   ⟨0, ⟨false, 5, 0, [], 1, none, 9⟩, (isoNode 2).setTx 0 (some ⟨false, 5, 0, [], 1, none, 9⟩), by decide +kernel⟩,
   ⟨0, rx0, (isoNode 2).setIso fun i => { i with rx := [rx0] }, by decide +kernel⟩,
   ⟨dm1Node, by decide +kernel⟩,
   ⟨dm1Changed, by decide +kernel⟩⟩

theorem witness_EthernetRowsTakeEffect :
    (∃ p : Fin 4, ∃ ok : Bool, ∃ data : Bytes, ∃ s : State, s.running = true ∧ s.portUp p = true ∧ (ok = false ∨ data.length < 60 ∨ 1518 < data.length)) ∧
    (∃ p : Fin 4, ∃ data : Bytes, ∃ s : State, s.running = true ∧ s.portUp p = true ∧ 60 ≤ data.length ∧ data.length ≤ 1518 ∧ (beField data 12 2 ≠ 0x88F7 ∨ bit s.gptp.ports p = false) ∧ (s.eth p).ip = 0) ∧
    (∃ p : Fin 4, ∃ data : Bytes, ∃ s : State, s.running = true ∧ s.portUp p = true ∧ 60 ≤ data.length ∧ data.length ≤ 1518 ∧ (beField data 12 2 ≠ 0x88F7 ∨ bit s.gptp.ports p = false) ∧ (s.eth p).ip ≠ 0) ∧
    (∃ p : Fin 4, ∃ data : Bytes, ∃ s : State, s.running = true ∧ s.portUp p = true ∧ 60 ≤ data.length ∧ data.length ≤ 1518 ∧ beField data 12 2 = 0x88F7 ∧ bit s.gptp.ports p = true) ∧
    (∃ s : State, s.running = true ∧ s.k % 4000 = 0) ∧
    (∃ s : State, s.running = true ∧ (s.eth 4).on = true ∧ s.get (Obj.ETH_LINK 4) = 2 ∧ s.standby = true) ∧
    (∃ p : Fin 5, ∃ s : State, s.running = true ∧ (s.eth p).on = true ∧ s.get (Obj.ETH_LINK p) = 2 ∧ (p.val ≠ 4 ∨ s.standby = false)) ∧
    (∃ p : Fin 5, ∃ sqi : Nat, ∃ s : State, s.running = true ∧ (s.eth p).on = true ∧ s.domOn 8 = true ∧ s.get (Obj.ETH_LINK p) ≠ 2 ∧ p.val ≠ 4) ∧
    (∃ sqi : Nat, ∃ s : State, s.running = true ∧ (s.eth 4).on = true ∧ s.domOn 8 = true ∧ s.get (Obj.ETH_LINK 4) ≠ 2) :=
  ⟨⟨0, true, [], onEth, by decide +kernel⟩,
   ⟨0, List.replicate 60 0, onEth, by decide +kernel⟩,
   ⟨0, List.replicate 60 0, { onEth with net := { onEth.net with eth := [(0, { on := true, ip := 5 })] } }, by decide +kernel⟩,
   ⟨0, List.replicate 12 0 ++ [0x88, 0xF7] ++ List.replicate 46 0, { onEth with gptp := { onEth.gptp with ports := 7 } }, by decide +kernel⟩,
   ⟨on, by decide +kernel⟩,
   ⟨{ mirroring with net := { mirroring.net with eth := [(4, { on := true })] } }, by decide +kernel⟩,
   ⟨0, onEth, by decide +kernel⟩,
   ⟨0, 5, onEth.set (Obj.ETH_LINK 0) 1, by decide +kernel⟩,
   ⟨5, { onEth.set (Obj.ETH_LINK 4) 1 with net := { onEth.net with eth := [(4, { on := true })] } }, by decide +kernel⟩⟩

theorem witness_LeaseRowsTakeEffect :
    (∃ s : State, s.running = true ∧ s.pair.state = 1 ∧ (s.pair.quiet + (if s.get Obj.PAIR_ID = 0 then 400 else 800) ≤ s.k)) ∧
    (∃ s : State, s.running = true ∧ s.pair.state ≠ 0) ∧
    (∃ receiver : Bool, ∃ w : PartnerWord, ∃ word : Nat, ∃ s : State, ofWord word = some w ∧ (s.pair.rxTest.all fun t => t.1 == boolNat receiver) = true ∧ s.running = true ∧ s.pair.inForce = true) ∧
    (∃ receiver : Bool, ∃ w : PartnerWord, ∃ word : Nat, ∃ s : State, ofWord word = some w ∧ (s.pair.rxTest.all fun t => t.1 == boolNat receiver) = true ∧ s.running = false ∧ s.pair.hold.isSome = true ∧ w.role = 2) ∧
    (∃ s : State, s.running = true ∧ s.pair.inForce = true ∧ s.pair.canUsed = true ∧ (s.k % 4 = if s.pair.state = 4 then 1 else 3)) ∧
    (∃ c : Fin 8, ∃ ident : Nat, ∃ tick : Nat, ∃ data : Bytes, ∃ w : PartnerWord, ∃ s : State, ofFrame data = some (w, tick) ∧ s.running = true ∧ s.pair.inForce = true ∧ s.pair.canUsed = true ∧ c.val = s.pair.can ∧ ident = s.pair.canId - s.pair.canId % 2 + (1 - s.get Obj.PAIR_ID % 2) ∧ ((s.seePartner 2 w).k + 256 - tick) % 256 ≤ (s.seePartner 2 w).pair.lease - 3) ∧
    (∃ c : Fin 8, ∃ ident : Nat, ∃ tick : Nat, ∃ data : Bytes, ∃ w : PartnerWord, ∃ s : State, ofFrame data = some (w, tick) ∧ s.running = true ∧ s.pair.inForce = true ∧ s.pair.canUsed = true ∧ c.val = s.pair.can ∧ ident = s.pair.canId - s.pair.canId % 2 + (1 - s.get Obj.PAIR_ID % 2) ∧ (s.seePartner 2 w).pair.lease - 3 < ((s.seePartner 2 w).k + 256 - tick) % 256) ∧
    (∃ s : State, s.running = true ∧ s.pair.inForce = true ∧ s.pair.state = 4 ∧ s.pair.promise < s.k ∧ s.pair.releaseAt = none ∧ s.pair.hold = none) ∧
    (∃ s : State, s.takeoverDue = true) ∧
    (∃ since : Nat, ∃ s : State, s.pair.hold = some since ∧ (s.pair.holdEnd = true ∨ since + s.pair.holdLimit ≤ s.k)) :=
  ⟨⟨paired 1, by decide +kernel⟩,
   ⟨paired 4, by decide +kernel⟩,
   ⟨true, (paired 4).ownWord, (paired 4).ownWord.word, { paired 3 with pair := { (paired 3).pair with rxTest := some (1, 0) } }, by decide +kernel⟩,
   ⟨true, (paired 4).ownWord, (paired 4).ownWord.word, { State.reset with pair := { hold := some 0 } }, by decide +kernel⟩,
   ⟨{ paired 4 with k := 4001, pair := { (paired 4).pair with canUsed := true } }, by decide +kernel⟩,
   ⟨0, 0x101, 160, (paired 4).ownWord.frame 4000, (paired 4).ownWord, { paired 3 with pair := { (paired 3).pair with canUsed := true, can := 0 } }, by decide +kernel⟩,
   ⟨0, 0x101, 100, (paired 4).ownWord.frame 100, (paired 4).ownWord, { paired 3 with pair := { (paired 3).pair with canUsed := true, can := 0 } }, by decide +kernel⟩,
   ⟨paired 4, by decide +kernel⟩,
   ⟨overdue 3, by decide +kernel⟩,
   ⟨0, { State.reset with pair := { hold := some 0, holdEnd := true } }, by decide +kernel⟩⟩

theorem witness_MirrorRowsTakeEffect :
    (∃ m : Mirror, ∃ align : Int, ∃ s : State, s.running = true ∧ s.pair.inForce = true ∧ s.portUp 4 = true ∧ m.role = 2 ∧ (s.pair.state = 1 ∨ s.standby = true)) ∧
    (∃ s : State, s.running = true ∧ s.standby = true ∧ s.pair.lastMirror ≠ some s.k) ∧
    (∃ m : Mirror, ∃ align : Int, ∃ s : State, s.running = true ∧ s.pair.inForce = true ∧ s.portUp 4 = true ∧ (m.role ≠ 2 ∨ (s.pair.state ≠ 1 ∧ s.standby = false))) ∧
    (∃ r : Refill, ∃ s : State, s.running = true ∧ s.pair.state = 2 ∧ (s.takeRefill r).ledgerOn = true) ∧
    (∃ r : Refill, ∃ s : State, s.running = true ∧ s.pair.state = 2 ∧ (s.takeRefill r).ledgerOn = false) :=
  ⟨⟨mirror0, 0, mirroring, by decide +kernel⟩,
   ⟨paired 3, by decide +kernel⟩,
   ⟨{ mirror0 with role := 1 }, 0, mirroring, by decide +kernel⟩,
   ⟨{ refill0 with vals := [(Obj.CRB_STATE, 1)] }, seen (paired 2) [(Obj.DOM_STATE 4, 2), (Obj.CRB_ENABLE, 1)], by decide +kernel⟩,
   ⟨refill0, paired 2, by decide +kernel⟩⟩

theorem witness_SwitchoverRowsTakeEffect :
    (∃ q : Req, ∃ x : Session, ∃ s : State, s.acceptsSet q x Obj.PAIR_SWAP_NOW 1 = true ∧ s.swapReady = true) ∧
    (∃ at_ : Nat, ∃ s : State, s.pair.releaseAt = some at_ ∧ at_ ≤ s.k) ∧
    (∃ s : State, s.swapReady = true ∧ s.swapInterval ≤ s.pair.operTicks ∧ s.confFlag Obj.PAIR_SWAP_WINDOW = true ∧ s.pair.health = false) ∧
    (∃ s : State, s.running = true ∧ s.pair.state = 4 ∧ 2 * s.swapInterval ≤ s.pair.operTicks ∧ s.pair.overdue = false) ∧
    (∃ s : State, s.swapReady = true ∧ s.healthFault = true ∧ s.pair.health = false) ∧
    (∃ s : State, s.running = true ∧ s.pair.state = 4 ∧ s.pair.seen.getD s.pair.quiet + 40 ≤ s.k) :=
  ⟨⟨client, session3, servedSwap, by decide +kernel⟩,
   ⟨4000, { on with pair := { on.pair with releaseAt := some 4000 } }, by decide +kernel⟩,
   ⟨{ swapping with snap := [(Obj.PAIR_SWAP_WINDOW, 1)], pair := { swapping.pair with operTicks := 10 ^ 12 } }, by decide +kernel⟩,
   ⟨{ swapping with pair := { swapping.pair with operTicks := 10 ^ 12 } }, by decide +kernel⟩,
   ⟨{ swapping.set Obj.TICK_ENGINE_FAULT 1 with snap := [(Obj.PAIR_HEALTH_SWAP, 1)] }, by decide +kernel⟩,
   ⟨paired 4, by decide +kernel⟩⟩

theorem witness_PairHealthRowsTakeEffect :
    (∃ path : Fin 3, ∃ s : State, s.running = true ∧ s.pair.inForce = true ∧ s.leasePaths.contains path.val = true ∧ (s.leasePath path).fault = false ∧ (s.leasePath path).word.getD s.pair.quiet + 40 ≤ s.k ∧ (s.leasePaths.any fun i => i != path.val && s.shows i) = true) ∧
    (∃ path : Fin 3, ∃ since : Nat, ∃ word : Nat, ∃ s : State, (s.leasePath path).okSince = some since ∧ (s.leasePath path).word = some word ∧ s.running = true ∧ (s.leasePath path).fault = true ∧ since + 4000 ≤ s.k ∧ s.k ≤ word + 40) ∧
    (∃ serial : Bytes, ∃ s : State, s.running = true ∧ s.pair.state = 4 ∧ 4 ≤ s.pair.actives ∧ s.pair.activeAt = some s.k) ∧
    (∃ q : Req, ∃ x : Session, ∃ i : Fin 2, ∃ s : State, s.acceptsSet q x Obj.PAIR_RX_TEST (i + 1) = true ∧ s.rxTestOk = true) ∧
    (∃ serve : Nat, ∃ since : Nat, ∃ s : State, s.pair.rxTest = some (serve, since) ∧ s.running = true ∧ s.shows 0 = false) ∧
    (∃ serve : Nat, ∃ since : Nat, ∃ s : State, s.pair.rxTest = some (serve, since) ∧ s.running = true ∧ s.shows 0 = true ∧ since + 4000 ≤ s.k) ∧
    (∃ since : Nat, ∃ s : State, s.pair.timeOff = some since ∧ s.running = true ∧ s.standby = true ∧ since + 4000 ≤ s.k ∧ s.pair.timeSeen = false) :=
  ⟨⟨0, { paired 3 with pair := { (paired 3).pair with p := { word := some 4000 } } }, by decide +kernel⟩,
   ⟨0, 0, 4000, { paired 3 with pair := { (paired 3).pair with line := { word := some 4000, okSince := some 0, fault := true } } }, by decide +kernel⟩,
   ⟨[], { (paired 4).set Obj.PAIR_ID 1 with pair := { (paired 4).pair with actives := 4, activeAt := some 4000 } }, by decide +kernel⟩,
   ⟨client, session3, 1, servedRx, by decide +kernel⟩,
   ⟨1, 3000, { paired 3 with pair := { (paired 3).pair with rxTest := some (1, 3000) } }, by decide +kernel⟩,
   ⟨1, 0, { paired 3 with pair := { (paired 3).pair with rxTest := some (1, 0), line := { word := some 4000 } } }, by decide +kernel⟩,
   ⟨0, { paired 3 with pair := { (paired 3).pair with timeOff := some 0 } }, by decide +kernel⟩⟩

theorem witness_PowerDomainRowsTakeEffect :
    (∃ d : Fin 15, ∃ s : State, s.running = true ∧ 2 ≤ d.val ∧ s.get (Obj.DOM_STATE d) = 0 ∧ s.get (Obj.DOM_ALLOWED d) = 1 ∧ Sparse.find (fun _ => 0) s.pwr.settled d ≤ s.k) ∧
    (∃ d : Fin 15, ∃ s : State, s.running = true ∧ 2 ≤ d.val ∧ s.get (Obj.DOM_STATE d) = 0 ∧ s.get (Obj.DOM_ALLOWED d) = 2 ∧ Sparse.find (fun _ => 0) s.pwr.settled d ≤ s.k) ∧
    (∃ d : Fin 15, ∃ s : State, s.running = true ∧ 2 ≤ d.val ∧ s.get (Obj.DOM_STATE d) = 1 ∧ s.get (Obj.DOM_ALLOWED d) = 2 ∧ Sparse.find (fun _ => 0) s.pwr.settled d ≤ s.k) ∧
    (∃ d : Fin 15, ∃ s : State, s.running = true ∧ 2 ≤ d.val ∧ s.get (Obj.DOM_STATE d) = 1 ∧ s.get (Obj.DOM_ALLOWED d) = 0 ∧ Sparse.find (fun _ => 0) s.pwr.settled d ≤ s.k) ∧
    (∃ d : Fin 15, ∃ s : State, s.running = true ∧ 2 ≤ d.val ∧ s.get (Obj.DOM_STATE d) = 2 ∧ s.get (Obj.DOM_ALLOWED d) = 1 ∧ Sparse.find (fun _ => 0) s.pwr.settled d ≤ s.k) ∧
    (∃ d : Fin 15, ∃ s : State, s.running = true ∧ 2 ≤ d.val ∧ s.get (Obj.DOM_STATE d) = 2 ∧ s.get (Obj.DOM_ALLOWED d) = 0 ∧ Sparse.find (fun _ => 0) s.pwr.settled d ≤ s.k) ∧
    (∃ d : Fin 15, ∃ us : Nat, ∃ lost : List Nat, ∃ s : State, s.get (Obj.DOM_STATE d) = 6 ∧ us ≤ 40) ∧
    (∃ d : Fin 15, ∃ us : Nat, ∃ lost : List Nat, ∃ s : State, s.get (Obj.DOM_STATE d) = 4 ∧ us ≤ 40) ∧
    (∃ d : Fin 15, ∃ us : Nat, ∃ lost : List Nat, ∃ s : State, s.get (Obj.DOM_STATE d) = 5 ∧ us ≤ 20) ∧
    (∃ d : Fin 15, ∃ us : Nat, ∃ lost : List Nat, ∃ s : State, s.get (Obj.DOM_STATE d) = 7 ∧ us ≤ onTime d ∧ Sparse.find (fun _ => 0) s.pwr.goal d ≠ 1) ∧
    (∃ d : Fin 15, ∃ us : Nat, ∃ lost : List Nat, ∃ s : State, s.get (Obj.DOM_STATE d) = 7 ∧ us ≤ onTime d ∧ Sparse.find (fun _ => 0) s.pwr.goal d = 1) ∧
    (∃ c : Fin 10, ∃ d : Fin 15, ∃ s : State, s.running = true ∧ s.accessVote c d = false ∧ s.domOn d = false) ∧
    (∃ c : Fin 10, ∃ d : Fin 15, ∃ s : State, s.running = true ∧ s.accessVote c d = true) ∧
    (∃ c : Fin 10, ∃ d : Fin 15, ∃ s : State, s.running = true) ∧
    (∃ level : Bool, ∃ s : State, s.pwr.wake ≠ level) ∧
    (∃ since : Nat, ∃ s : State, s.pwr.wakeLow = some since ∧ since + s.conf Obj.PWR_EXT_HOLD ≤ s.k) ∧
    (∃ q : Req, ∃ x : Session, ∃ d : Fin 15, ∃ s : State, s.acceptsSet q x (Obj.DOM_RET_ACK d) 1 = true) :=
  ⟨⟨5, (on.set (Obj.DOM_STATE 5) 0).set (Obj.DOM_ALLOWED 5) 1, by decide +kernel⟩,
   ⟨5, (on.set (Obj.DOM_STATE 5) 0).set (Obj.DOM_ALLOWED 5) 2, by decide +kernel⟩,
   ⟨5, (on.set (Obj.DOM_STATE 5) 1).set (Obj.DOM_ALLOWED 5) 2, by decide +kernel⟩,
   ⟨5, (on.set (Obj.DOM_STATE 5) 1).set (Obj.DOM_ALLOWED 5) 0, by decide +kernel⟩,
   ⟨5, (on.set (Obj.DOM_STATE 5) 2).set (Obj.DOM_ALLOWED 5) 1, by decide +kernel⟩,
   ⟨5, (on.set (Obj.DOM_STATE 5) 2).set (Obj.DOM_ALLOWED 5) 0, by decide +kernel⟩,
   ⟨6, 40, [], on.set (Obj.DOM_STATE 6) 6, by decide +kernel⟩,
   ⟨6, 40, [], on.set (Obj.DOM_STATE 6) 4, by decide +kernel⟩,
   ⟨6, 20, [], on.set (Obj.DOM_STATE 6) 5, by decide +kernel⟩,
   ⟨6, 0, [], on.set (Obj.DOM_STATE 6) 7, by decide +kernel⟩,
   ⟨6, 0, [], { on.set (Obj.DOM_STATE 6) 7 with pwr := { on.pwr with goal := [(6, 1)] } }, by decide +kernel⟩,
   ⟨9, 14, on.set (Obj.DOM_STATE 14) 0, by decide +kernel⟩,
   ⟨9, 14, { on with pwr := { on.pwr with access := [⟨9, 14, 0⟩] } }, by decide +kernel⟩,
   ⟨0, 0, on, by decide +kernel⟩,
   ⟨true, on, by decide +kernel⟩,
   ⟨0, { on with k := 10 ^ 10, pwr := { on.pwr with wakeLow := some 0 } }, by decide +kernel⟩,
   ⟨client, session3, 6, served, by decide +kernel⟩⟩

theorem witness_SupplyRowsTakeEffect :
    (∃ s : State, s.running = true ∧ s.supplySeen = true ∧ s.get Obj.SUPPLY_STATE = 0 ∧ f32lt (s.get Obj.SUPPLY_V_MIN) s.warnLevel = true) ∧
    (∃ since : Nat, ∃ low : Nat, ∃ s : State, s.pwr.dip = some (since, low) ∧ s.running = true ∧ s.get Obj.SUPPLY_STATE = 1 ∧ since + 200 ≤ s.k) ∧
    (∃ since : Nat, ∃ low : Nat, ∃ s : State, s.pwr.dip = some (since, low) ∧ s.running = true ∧ s.supplySeen = true ∧ f32rat s.warnLevel + 1 / 2 ≤ f32rat (s.get Obj.SUPPLY_V_MIN)) ∧
    (∃ mv : Nat, ∃ reached : Nat, ∃ s : State, mv < 5500 ∧ s.alive = true) ∧
    (∃ mv : Nat, ∃ reached : Nat, ∃ s : State, mv < 5500 ∧ s.alive = false) ∧
    (∃ feed : Fin 2, ∃ s : State, s.running = true ∧ bit (s.get Obj.SUPPLY_FEED_FLAGS) feed = true ∧ bit (s.get Obj.SUPPLY_FEED_FLAGS) (1 - feed.val) = false ∧ bit s.pwr.feedLow feed = false) :=
  ⟨⟨dipping 0 0x40E00000, by decide +kernel⟩,
   ⟨3800, 0x40E00000, dipping 1 0x40E00000, by decide +kernel⟩,
   ⟨3800, 0x40E00000, dipping 1 0x41500000, by decide +kernel⟩,
   ⟨5499, 0, on, by decide +kernel⟩,
   ⟨0, 0, State.reset, by decide +kernel⟩,
   ⟨1, on.set Obj.SUPPLY_FEED_FLAGS 2, by decide +kernel⟩⟩

theorem witness_RecorderRowsTakeEffect :
    (∃ src : Nat, ∃ code : Nat, ∃ f : Flood, ∃ s : State, s.flood src code = some f ∧ s.running = true ∧ f.began + 4000 ≤ s.k ∧ f.suppressed ≠ 0) ∧
    (∃ src : Nat, ∃ code : Nat, ∃ f : Flood, ∃ s : State, s.flood src code = some f ∧ s.running = true ∧ f.began + 4000 ≤ s.k ∧ f.suppressed = 0) ∧
    (∃ s : State, s.running = true ∧ s.k % 4000 = 0 ∧ s.recd.opSeconds % s.conf Obj.REC_MARK_SECONDS = 0 ∧ s.recd.markAt ≠ some s.k) ∧
    (∃ since : Nat, ∃ s : State, s.recd.recoverySince = some since ∧ s.running = true ∧ since + 240000 ≤ s.k) ∧
    (∃ q : Req, ∃ x : Session, ∃ s : State, s.acceptsSet q x Obj.REC_CLEAR_CIRC 1 = true ∧ s.clearing = false) ∧
    (∃ q : Req, ∃ x : Session, ∃ s : State, s.acceptsSet q x Obj.REC_CLEAR_KEPT 1 = true ∧ s.clearing = false) ∧
    (∃ q : Req, ∃ x : Session, ∃ b : Bytes, ∃ s : State, s.accepts q x Obj.REC_APP_EVENT (tyOf Obj.REC_APP_EVENT) b = true ∧ appEventOk b = true) ∧
    (∃ q : Req, ∃ x : Session, ∃ maxLen : Nat, ∃ s : State, s.admits q x = true ∧ 32 ≤ maxLen) :=
  ⟨⟨8, 0x3000, ⟨8, 0x3000, 0, 9, 1⟩, { on with recd := { on.recd with floods := [⟨8, 0x3000, 0, 9, 1⟩] } }, by decide +kernel⟩,
   ⟨8, 0x3000, ⟨8, 0x3000, 0, 9, 0⟩, { on with recd := { on.recd with floods := [⟨8, 0x3000, 0, 9, 0⟩] } }, by decide +kernel⟩,
   ⟨on, by decide +kernel⟩,
   ⟨0, { on with k := 240000, recd := { on.recd with recoverySince := some 0 } }, by decide +kernel⟩,
   ⟨client, session3, served, by decide +kernel⟩,
   ⟨client, session3, served, by decide +kernel⟩,
   ⟨client, session3, event0, served, by decide +kernel⟩,
   ⟨client, session3, 32, served, by decide +kernel⟩⟩

theorem witness_UpdateRowsTakeEffect :
    (∃ q : Req, ∃ x : Session, ∃ b : Bytes, ∃ s : State, s.accepts q x Obj.UPD_WAFER (tyOf Obj.UPD_WAFER) b = true ∧ (s.servedBy q x).waferRange b = true ∧ (s.servedBy q x).waferState (waferOf b) = true) ∧
    (∃ ok : Bool, ∃ rb : List Bool, ∃ m : Manifest, ∃ s : State, s.upd.manifest = some m ∧ s.upd.verify = none ∧ s.running = true ∧ s.upd.rec_.state = 2 ∧ s.conf Obj.UPD_STATE = 2 ∧ (∃ g < m.hashes.length, s.groupOk m g = false)) ∧
    (∃ ok : Bool, ∃ rb : List Bool, ∃ m : Manifest, ∃ s : State, s.upd.manifest = some m ∧ s.upd.verify = none ∧ s.running = true ∧ s.upd.rec_.state = 2 ∧ s.conf Obj.UPD_STATE = 2 ∧ ok = false ∧ (∀ g < m.hashes.length, s.groupOk m g = true)) ∧
    (∃ ok : Bool, ∃ rb : List Bool, ∃ m : Manifest, ∃ s : State, s.upd.manifest = some m ∧ s.upd.verify = none ∧ s.running = true ∧ s.upd.rec_.state = 2 ∧ s.conf Obj.UPD_STATE = 2 ∧ ok = true ∧ (∀ g < m.hashes.length, s.groupOk m g = true)) ∧
    (∃ m : Manifest, ∃ s : State, s.upd.manifest = some m ∧ s.upd.verify = some .ready ∧ s.running = true) ∧
    (∃ m : Manifest, ∃ bad : List Nat, ∃ s : State, s.upd.manifest = some m ∧ s.upd.verify = some (.receiving bad) ∧ s.running = true) ∧
    (∃ m : Manifest, ∃ code : Nat, ∃ s : State, s.upd.manifest = some m ∧ s.upd.verify = some (.rejected code) ∧ s.running = true) ∧
    (∃ q : Req, ∃ x : Session, ∃ tick : Nat, ∃ s : State, s.acceptsSet q x Obj.UPD_ACTIVATE tick = true ∧ (s.servedBy q x).activateExtra tick = {}) ∧
    (∃ q : Req, ∃ x : Session, ∃ s : State, s.acceptsSet q x Obj.UPD_ACTIVATE removeTick = true ∧ s.upd.rec_.state = 4 ∧ s.get Obj.UPD_PARKED_SRC ≠ 0) ∧
    (∃ s : State, s.running = true ∧ s.upd.rec_.state = 4 ∧ s.upd.rec_.actTick = s.k + 1 ∧ s.interlock = false) ∧
    (∃ s : State, s.running = true ∧ s.upd.rec_.state = 4 ∧ s.upd.rec_.actTick = s.k + 1 ∧ s.interlock = true) ∧
    (∃ q : Req, ∃ x : Session, ∃ s : State, s.acceptsSet q x Obj.UPD_CANCEL 1 = true ∧ (s.upd.rec_.state = 1 ∨ s.upd.rec_.state = 3 ∨ s.upd.rec_.state = 4)) ∧
    (∃ q : Req, ∃ x : Session, ∃ s : State, s.acceptsSet q x Obj.UPD_CONFIRM 1 = true ∧ s.upd.rec_.state = 7 ∧ s.proven = true ∧ s.conf Obj.UPD_CONFIRM_MODE = 1) ∧
    (∃ s : State, s.running = true ∧ s.upd.rec_.state = 7 ∧ s.conf Obj.UPD_CONFIRM_MODE = 0 ∧ s.k % 4000 = 0 ∧ s.proven = true) ∧
    (∃ s : State, s.running = true ∧ s.upd.rec_.state = 7 ∧ s.k % 4000 = 0 ∧ s.upd.secondAt ≠ some s.k) ∧
    (∃ q : Req, ∃ x : Session, ∃ s : State, s.acceptsSet q x Obj.UPD_REJECT 1 = true ∧ s.upd.rec_.state = 7) ∧
    (∃ q : Req, ∃ x : Session, ∃ i : Fin 3, ∃ b : Bytes, ∃ s : State, s.accepts q x (Obj.UPD_KEY i) (tyOf (Obj.UPD_KEY i)) b = true ∧ s.keyOf (i + 1) = none) ∧
    (∃ q : Req, ∃ x : Session, ∃ i : Fin 3, ∃ s : State, s.acceptsSet q x Obj.UPD_KEY_CLEAR (i + 1) = true) :=
  ⟨⟨client, session3, wafer0, served, by decide +kernel⟩,
   ⟨true, [], manifest1, { verifying with upd := { verifying.upd with manifest := some manifest1 } }, by decide +kernel⟩,
   ⟨false, [], manifest0, verifying, by decide +kernel⟩,
   ⟨true, [], manifest0, verifying, by decide +kernel⟩,
   ⟨manifest0, { verifying with upd := { verifying.upd with verify := some .ready } }, by decide +kernel⟩,
   ⟨manifest0, [], { verifying with upd := { verifying.upd with verify := some (.receiving []) } }, by decide +kernel⟩,
   ⟨manifest0, 6, { verifying with upd := { verifying.upd with verify := some (.rejected 6) } }, by decide +kernel⟩,
   ⟨client, session3, 0, servedReady, by decide +kernel⟩,
   ⟨client, session3, servedScheduled, by decide +kernel⟩,
   ⟨{ on.set Obj.SUPPLY_STATE 1 with upd := { rec_ := { state := 4, actTick := 4001 } } }, by decide +kernel⟩,
   ⟨parkedNow, by decide +kernel⟩,
   ⟨client, session3, servedScheduled, by decide +kernel⟩,
   ⟨client, session3, servedProven 1, by decide +kernel⟩,
   ⟨servedProven 0, by decide +kernel⟩,
   ⟨servedProven 0, by decide +kernel⟩,
   ⟨client, session3, servedProven 1, by decide +kernel⟩,
   ⟨client, session3, 2, List.replicate 32 7, served, by decide +kernel⟩,
   ⟨client, session3, 2, served, by decide +kernel⟩⟩

theorem witness_ResetRowsTakeEffect :
    (∃ addr : Nat, ∃ s : State, s.alive = true) ∧
    (∃ s : State, s.alive = true ∧ 8 ≤ s.start.watchdog) ∧
    (∃ addr : Nat, ∃ s : State, s.alive = true) ∧
    (∃ q : Req, ∃ x : Session, ∃ s : State, s.acceptsSet q x Obj.RST_COMMAND 1 = true ∧ (s.servedBy q x).resetExtra = {}) ∧
    (∃ d : ResetDue, ∃ s : State, s.start.due = some d ∧ d.at_ ≤ s.k) ∧
    (∃ inp : StartIn, ∃ s : State, s.releaseDue = true ∧ (s.releaseBegin inp).updateStart.2 = true) ∧
    (∃ inp : StartIn, ∃ s : State, s.releaseDue = true ∧ (s.releaseBegin inp).updateStart.2 = false) :=
  ⟨⟨5, on, by decide +kernel⟩,
   ⟨{ on with start := { on.start with watchdog := 8 } }, by decide +kernel⟩,
   ⟨5, on, by decide +kernel⟩,
   ⟨client, session3, served, by decide +kernel⟩,
   ⟨⟨7, 1, 4000⟩, { on with start := { on.start with due := some ⟨7, 1, 4000⟩ } }, by decide +kernel⟩,
   ⟨start0, released, by decide +kernel⟩,
   ⟨start0, failing, by decide +kernel⟩⟩

end Sys2Proof.Tests
end

section
/-! The state after reset. Every table of it is empty, so that each of its reads gives what an unlisted key reads as: the
default of R14 for an object, nothing valid for an entry of the tick image (R25) and for an application area. That an object
whose table gives a dash reads 0, that k begins at 0 and that no area is in force are the model's choice (log entry 2). -/

namespace Sys2Proof.Machine

/-- Nothing is listed in the empty table. -/
@[simp] theorem Sparse.find_nil {α : Type} (d : Nat → α) (key : Nat) : Sparse.find d [] key = d key := rfl

@[simp] theorem State.reset_get (key : Nat) : State.reset.get key = objDefault key := Sparse.find_nil objDefault key

@[simp] theorem State.reset_conf (key : Nat) : State.reset.conf key = objDefault key := Sparse.find_nil objDefault key

@[simp] theorem State.reset_getBlob (key : Nat) : State.reset.getBlob key = blobDefault key :=
  Sparse.find_nil blobDefault key

@[simp] theorem State.reset_entry (key : Nat) : State.reset.entry key = {} :=
  Sparse.find_nil (fun _ => ({} : Entry)) ((entKey key).getD key)

@[simp] theorem State.reset_area (key : Nat) : State.reset.area key = {} :=
  Sparse.find_nil (fun _ => ({} : AppArea)) key

/-- A module runs in the phase `running` alone. -/
theorem State.not_running_of_phase {s : State} (h : s.phase ≠ .running) : s.running = false := by
  simp [State.running, h]

theorem State.reset_not_running : State.reset.running = false :=
  State.not_running_of_phase (s := State.reset) Phase.noConfusion

/-- Settles O4: the tables by what an unlisted key reads as, the module's phase by `not_running_of_phase`, and every other
field by its value in `State.reset`. -/
theorem resetLeavesDefaults : Obligations.ResetLeavesDefaults := by
  unfold Obligations.ResetLeavesDefaults
  refine ⟨⟨rfl, State.reset_not_running, rfl⟩, fun key => ?values, ⟨rfl, rfl, rfl, Nat.zero_le 4⟩, rfl, rfl, rfl, rfl, rfl⟩
  case values =>
    have entryClear : (State.reset.entry key).valid = false := by rw [State.reset_entry]
    have areaClear : (State.reset.area key).valid = false := by rw [State.reset_area]
    exact ⟨State.reset_get key, State.reset_conf key, State.reset_getBlob key, entryClear, areaClear⟩

end Sys2Proof.Machine
end

section
/-! The rows of the tick and of its application writes (R27, R44–R50), one lemma for each guard that a row tests. -/

namespace Sys2Proof.Machine

/-- The tick memory holds two copies: 4 MiB. -/
theorem two_copySize : 2 * copySize = 4 * 2 ^ 20 := rfl

/-! TICK_BOUNDARY and FIRST_TICK -/

theorem exec_tickBoundary_of_not_running (inp : TickIn) {s : State} (hrun : s.running = false) :
    exec (.tickBoundary inp) s = .next (s.idleTick inp) := by
  change execTickBoundary inp s = _
  rw [execTickBoundary, hrun]
  rfl

theorem exec_tickBoundary_of_reset (inp : TickIn) {s : State} (hrun : s.running = true)
    (hreset : s.endTick.resetNextTick = true) : exec (.tickBoundary inp) s = .next (s.endTick.idleBegin inp) := by
  change execTickBoundary inp s = _
  simp only [execTickBoundary, hrun, hreset, Bool.not_true, Bool.false_eq_true, if_false, if_true]

theorem exec_tickBoundary_of_running (inp : TickIn) {s : State} (hrun : s.running = true)
    (hreset : s.endTick.resetNextTick = false) :
    exec (.tickBoundary inp) s = .next
      ((((((List.range 16).foldl (fun s n => s.lsFinish inp.ls n) s.endTick).boundary inp).captures inp).appWrites
        inp.app).registerOem inp.oem) := by
  change execTickBoundary inp s = _
  simp only [execTickBoundary, hrun, hreset, Bool.not_true, Bool.false_eq_true, if_false]

/-- Without a migration the first tick comes at most 900 ms after the release (R524). -/
theorem exec_firstTick_of_not_migrated {ms : Nat} (inp : TickIn) {s : State} (hphase : s.phase = .starting)
    (hdue : s.start.due = none) (hmig : s.start.migrated = false) (hms : ms ≤ 900) :
    exec (.firstTick ms inp) s = .next ((((s.firstTick ms).captures inp).appWrites inp.app).registerOem inp.oem) := by
  have hlimit : ms ≤ if s.start.migrated then 2900 else 900 := by rwa [hmig]
  exact if_pos ⟨hphase, hdue, hlimit⟩

/-! CAPTURE_LATE and COMPUTE_DEADLINE -/

theorem exec_captureLate_of_running (inputs : List Nat) {s : State} (hrun : s.running = true) :
    exec (.captureLate inputs) s = .next ((inputs.filter s.capturedNow).foldl State.lateEntry s) := if_pos hrun

/-- No chapter adds anything to a late entry of the valve drive. -/
theorem State.lateEntry_of_valveDrive (s : State) {e : Nat} (hlo : 0x3800 ≤ e / 256) (hhi : e / 256 < 0x4000) :
    s.lateEntry e = (s.uncapture e).lateTick.clearInput e := by
  have notChannel : ¬ (0x3000 ≤ e / 256 ∧ e / 256 < 0x3080) := by omega
  have notLs : ¬ (0x4010 ≤ e / 256 ∧ e / 256 < 0x4020) := by omega
  have notUi : ¬ (0x4040 ≤ e / 256 ∧ e / 256 < 0x4070) := by omega
  have notXv : ¬ (0x40C0 ≤ e / 256 ∧ e / 256 < 0x40E0) := by omega
  rw [State.lateEntry, if_neg notChannel, if_neg notLs, if_neg notUi, if_neg notXv]

theorem exec_captureLate_valveDrive {e : Nat} {s : State} (hrun : s.running = true) (hnow : s.capturedNow e = true)
    (hlo : 0x3800 ≤ e / 256) (hhi : e / 256 < 0x4000) :
    exec (.captureLate [e]) s = .next ((s.uncapture e).lateTick.clearInput e) := by
  rw [exec_captureLate_of_running _ hrun, List.filter_singleton, hnow]
  exact congrArg _ (s.lateEntry_of_valveDrive hlo hhi)

theorem exec_computeDeadline_of_running (done : List Nat) {s : State} (hrun : s.running = true) :
    exec (.computeDeadline done) s = .next ((List.range 6).foldl (fun s e =>
      let late := decide (200 ≤ done.getD e 0)
      let us := if s.dueUnits e late = [] then min 199 (done.getD e 0) else 200
      (s.set (Obj.TICK_PEAK e) (max us (s.get (Obj.TICK_PEAK e)))).engineDeadline e late) s) := if_pos hrun

/-! APP_WRITE_STALL and APP_WRITE_BLOCKED -/

theorem exec_appWriteStall_of_writable {w : AppWrite} {s : State} (hrun : s.running = true) (hw : s.writable w.area = true) :
    exec (.appWriteStall w) s = .next (State.count { s with tick := { s.tick with
      stalled := s.tick.stalled ++ [⟨w.area, ⟨w.stamp, w.valid, w.body⟩, s.k⟩] } } Obj.TICK_APP_STALLS 1) := by
  change execAppWriteStall w s = _
  rw [execAppWriteStall, if_pos hrun, if_pos hw]

/-- A write to an area that may not be written now is blocked at the area's offset (R27, R100). -/
theorem exec_appWriteStall_of_blocked {w : AppWrite} {s : State} (hrun : s.running = true) (hw : s.writable w.area = false)
    (harea : isArea w.area = true) :
    exec (.appWriteStall w) s = .next (s.blockWrite w.core (tickOffset s.runSlot.release s.k w.area)) := by
  have hblock : s.blockArea w.core w.area = s.blockWrite w.core (tickOffset s.runSlot.release s.k w.area) := if_pos harea
  change execAppWriteStall w s = _
  rw [execAppWriteStall, if_pos hrun, hw, hblock]
  rfl

/-- That such an offset stops the model, whether the module runs or not, is the model's choice: the rules give no meaning to
a write outside the tick memory. -/
theorem exec_appWriteBlocked_of_le (core : Fin 4) {offset : Nat} (s : State) (h : 4 * 2 ^ 20 ≤ offset) :
    exec (.appWriteBlocked core offset) s = .fault .outsideTickMemory := if_pos (two_copySize.trans_le h)

theorem exec_appWriteBlocked_of_lt (core : Fin 4) {offset : Nat} {s : State} (hrun : s.running = true)
    (h : offset < 4 * 2 ^ 20) : exec (.appWriteBlocked core offset) s = .next (s.blockWrite core offset) := by
  have inside : ¬ 2 * copySize ≤ offset := by rw [two_copySize]; omega
  change execAppWriteBlocked core offset s = _
  rw [execAppWriteBlocked, if_neg inside, if_pos hrun]

/-! STALLED_WRITE_LAND (R47) -/

/-- A stalled write lands, unless the application has written its area in this tick. -/
def State.landStalled (s : State) (w : Stalled) : State :=
  if w.area ∈ s.tick.wrote then s else s.landArea w.area w.val

theorem State.landArea_changes_app (s : State) (key : Nat) (a : AppArea) : ∃ app, s.landArea key a = { s with app := app } := by
  unfold State.landArea
  split
  case isTrue => exact ⟨_, rfl⟩
  case isFalse => exact ⟨s.app, rfl⟩

theorem State.landStalled_changes_app (s : State) (w : Stalled) : ∃ app, s.landStalled w = { s with app := app } := by
  unfold State.landStalled
  split
  case isTrue => exact ⟨s.app, rfl⟩
  case isFalse => exact s.landArea_changes_app w.area w.val

/-- However many stalled writes land, the application areas are all that changes. -/
theorem State.landStalled_foldl_changes_app (l : List Stalled) (s : State) :
    ∃ app, l.foldl State.landStalled s = { s with app := app } := by
  induction l generalizing s with
  | nil => exact ⟨s.app, rfl⟩
  | cons w l ih =>
    obtain ⟨app, hw⟩ := s.landStalled_changes_app w
    obtain ⟨app', hl⟩ := ih { s with app := app }
    exact ⟨app', by rw [List.foldl_cons, hw, hl]⟩

/-- The writes that stalled in an earlier tick have landed. -/
def State.landDue (s : State) : State := (s.tick.stalled.filter fun w => decide (w.at_ < s.k)).foldl State.landStalled s

theorem exec_stalledWriteLand_of_running {s : State} (hrun : s.running = true) :
    exec .stalledWriteLand s = .next { s.landDue with tick := { s.landDue.tick with
      stalled := s.landDue.tick.stalled.filter fun w => decide (s.landDue.k ≤ w.at_) } } := if_pos hrun

/-- What the row changes: the areas, and which writes still wait. -/
theorem exec_stalledWriteLand_frame {s : State} (hrun : s.running = true) :
    ∃ t, exec .stalledWriteLand s = .next t ∧ t.tick.stalled = s.tick.stalled.filter (fun w => decide (s.k ≤ w.at_)) ∧
      t.app = s.landDue.app ∧ t = { s with app := t.app, tick := { s.tick with stalled := t.tick.stalled } } := by
  obtain ⟨app, hland⟩ : ∃ app, s.landDue = { s with app := app } := State.landStalled_foldl_changes_app _ s
  rw [exec_stalledWriteLand_of_running hrun, hland]
  exact ⟨_, rfl, rfl, rfl, rfl⟩

/-- Settles O24: the offset lies beyond both copies, and that is asked before anything else. -/
theorem writesBeyondTheTickMemoryFault : Obligations.WritesBeyondTheTickMemoryFault := by
  unfold Obligations.WritesBeyondTheTickMemoryFault
  exact fun core _ s h => exec_appWriteBlocked_of_le core s h

/-- Settles O23: one row lemma for each clause. -/
theorem tickRowsTakeEffect : Obligations.TickRowsTakeEffect := by
  unfold Obligations.TickRowsTakeEffect
  refine ⟨?boundary, ?reset, ?idle, ?first, ?late, ?valveLate, ?deadline, ?stall, ?stallBlocked, ?land, ?blocked⟩
  case boundary => exact fun inp _ hrun hreset => exec_tickBoundary_of_running inp hrun hreset
  case reset => exact fun inp _ hrun hreset => exec_tickBoundary_of_reset inp hrun hreset
  case idle => exact fun inp _ hrun => exec_tickBoundary_of_not_running inp hrun
  case first => exact fun _ inp _ hphase hdue hmig hms => exec_firstTick_of_not_migrated inp hphase hdue hmig hms
  case late => exact fun inputs _ hrun => exec_captureLate_of_running inputs hrun
  case valveLate => exact fun _ _ hrun hnow hlo hhi => exec_captureLate_valveDrive hrun hnow hlo hhi
  case deadline => exact fun done _ hrun => exec_computeDeadline_of_running done hrun
  case stall => exact fun _ _ hrun hw => exec_appWriteStall_of_writable hrun hw
  case stallBlocked => exact fun _ _ hrun hw harea => exec_appWriteStall_of_blocked hrun hw harea
  case land => exact fun _ hrun => exec_stalledWriteLand_frame hrun
  case blocked => exact fun core _ _ hrun h => exec_appWriteBlocked_of_lt core hrun h

end Sys2Proof.Machine
end

section
/-! The rows of the function modes (R96–R99, R155). -/

namespace Sys2Proof.Machine

/-- The stage model of the ledger has a mode object. -/
theorem isMode_crbModelMode : isMode Obj.CRB_MODEL_MODE = true := by decide

theorem State.fallBack_of_thirdMiss {s : State} {key : Nat} (h : s.thirdMiss key 1 = true) :
    s.fallBack key = (s.write (key + 1) 2 true).event 0 0x1023 (u16 (key / 256) ++ u8 key) := if_pos h

theorem State.assistFault_of_thirdMiss {s : State} {key : Nat} (h : s.thirdMiss key 2 = true) :
    s.assistFault key = (s.write (key + 1) 3 true).event 0 0x1024 (u16 (key / 256) ++ u8 key) := if_pos h

theorem exec_modeWrite_of_accepts {q : Req} {x : Session} {key v : Nat} {s : State} (hmode : isMode key = true)
    (h : s.acceptsSet q x key v = true) :
    exec (.modeWrite q key v) s = .next (s.wroteSet q x key v fun s => s.writeMode key v) := by
  change execModeWrite q key v s = _
  rw [execModeWrite, if_pos hmode, State.serveSet_of_accepts h rfl]

theorem exec_assistedFallback_of_isMode {key : Nat} (s : State) (hmode : isMode key = true) :
    exec (.assistedFallback key) s = .next (s.fallBack key) := congrArg _ (if_pos hmode)

theorem exec_assistedFault_of_isMode {key : Nat} (s : State) (hmode : isMode key = true) :
    exec (.assistedFault key) s = .next (if key = Obj.CRB_MODEL_MODE ∧ s.thirdMiss key 2 then (s.assistFault key).clearLedger
      else s.assistFault key) := if_pos hmode

theorem exec_assistedFault_of_ne_stageModel {key : Nat} (s : State) (hmode : isMode key = true)
    (hne : key ≠ Obj.CRB_MODEL_MODE) : exec (.assistedFault key) s = .next (s.assistFault key) := by
  rw [exec_assistedFault_of_isMode s hmode, if_neg fun h => hne h.1]

/-- A fault of the stage model stops the ledger's forecast in the same run (R155; that it is this run is the model's
choice, log entry 18). -/
theorem exec_assistedFault_of_stageModel {s : State} (h : s.thirdMiss Obj.CRB_MODEL_MODE 2 = true) :
    exec (.assistedFault Obj.CRB_MODEL_MODE) s = .next (s.assistFault Obj.CRB_MODEL_MODE).clearLedger := by
  rw [exec_assistedFault_of_isMode s isMode_crbModelMode, if_pos ⟨rfl, h⟩]

/-- Settles O32: which row runs, by the mode object; then what the third miss does, by its mode. -/
theorem functionModeRowsTakeEffect : Obligations.FunctionModeRowsTakeEffect := by
  unfold Obligations.FunctionModeRowsTakeEffect
  refine ⟨?write, ?fallback, ?fault, ?stageModel⟩
  case write => exact fun _ _ _ _ _ hmode h => exec_modeWrite_of_accepts hmode h
  case fallback =>
    intro key s hmode h
    rw [exec_assistedFallback_of_isMode s hmode, State.fallBack_of_thirdMiss h]
  case fault =>
    intro key s hmode h hne
    rw [exec_assistedFault_of_ne_stageModel s hmode hne, State.assistFault_of_thirdMiss h]
  case stageModel =>
    intro s h
    rw [exec_assistedFault_of_stageModel h, State.assistFault_of_thirdMiss h]

end Sys2Proof.Machine
end

section
/-! The rows of the escalation of overruns (R50, R51, R518). -/

namespace Sys2Proof.Machine

/-- A unit is gone when it is faulted, or when it is a slot (a unit below 48) with a fault of its own. -/
theorem State.unit_not_gone {s : State} {u : Nat} (hfaulted : s.tick.faulted.contains u = false)
    (hslot : 48 ≤ u ∨ (s.fl u).fault = 0) :
    (s.tick.faulted.contains u || (decide (u < 48) && decide ((s.fl u).fault ≠ 0))) = false := by
  rw [hfaulted, Bool.false_or]
  rcases hslot with noSlot | noFault
  · rw [decide_eq_false (Nat.not_lt.mpr noSlot), Bool.false_and]
  · rw [decide_eq_false (not_not.mpr noFault), Bool.and_false]

theorem exec_unitOverrunFault_of_consec {u : Nat} {s : State} (hrun : s.running = true) (hu : u ≤ steerUnit)
    (hconsec : s.conf Obj.TICK_ESC_CONSEC ≤ Sparse.find (fun _ => 0) s.tick.consec u)
    (hfaulted : s.tick.faulted.contains u = false) (hslot : 48 ≤ u ∨ (s.fl u).fault = 0) :
    exec (.unitOverrunFault u) s =
      .next ((s.faultUnit u 1).event (unitEngine u + 1) 0x1001 (u8 (unitEngine u) ++ unitByte u)) :=
  if_pos ⟨hrun, hu, hconsec, State.unit_not_gone hfaulted hslot⟩

theorem exec_engineOverrunFault_of_window {e : Fin 6} {s : State} (hrun : s.running = true)
    (hwindow : s.conf Obj.TICK_ESC_WINDOW ≤ s.ovrWindow e) (hsound : bit (s.get Obj.TICK_ENGINE_FAULT) e = false) :
    exec (.engineOverrunFault e) s = .next
      ((((((engineUnits e).filter fun u => decide (48 ≤ u) || s.unitOn u).foldl (fun s u => s.faultUnit u 2) s).set
        Obj.TICK_ENGINE_FAULT (setBit (s.get Obj.TICK_ENGINE_FAULT) e true))).event (e + 1) 0x1002
        (u8 e ++ u16 (s.ovrWindow e))) :=
  have noFault : (!bit (s.get Obj.TICK_ENGINE_FAULT) e) = true := by rw [hsound, Bool.not_false]
  if_pos ⟨hrun, hwindow, noFault⟩

theorem exec_supervisorDeadlineFault_of_running (offset : Nat) {s : State} (hrun : s.running = true) :
    exec (.supervisorDeadlineFault offset) s = .next { s with start := { s.start with due := some ⟨4, offset, s.k⟩ } } :=
  if_pos hrun

/-- What the row adds to the dictionary's checks, that the engine is faulted, is met. -/
theorem exec_tickEngineRestart_of_faulted {q : Req} {x : Session} {e : Fin 6} {s : State}
    (h : s.acceptsSet q x Obj.TICK_ENGINE_RESTART e = true) (hfault : bit (s.get Obj.TICK_ENGINE_FAULT) e = true) :
    exec (.tickEngineRestart q e) s = .next (s.wroteSet q x Obj.TICK_ENGINE_RESTART e fun s => s.restartEngine e) := by
  have noRefusal : ({ state := bit ((s.servedBy q x).get Obj.TICK_ENGINE_FAULT) e } : Extra) = {} := by
    rw [State.servedBy_get, hfault]
  exact congrArg _ (State.serveSet_of_accepts h noRefusal _ _)

theorem exec_engineRestartStart_of_due {e : Fin 6} {s : State} (hrun : s.running = true) (hsecond : s.k % 4000 = 0)
    (hrestart : s.tick.restarting.contains e.val = true) (hat : Sparse.find (fun _ => 0) s.tick.restartAt e ≤ s.k) :
    exec (.engineRestartStart e) s = .next ((if e.val = 4 then s.ledgerRestart else s).engineStart e) :=
  if_pos ⟨hrun, hsecond, hrestart, hat⟩

/-- Settles O25: one row lemma for each clause. -/
theorem overrunEscalationTakesEffect : Obligations.OverrunEscalationTakesEffect := by
  unfold Obligations.OverrunEscalationTakesEffect
  refine ⟨?unit, ?engine, ?supervisor, ?restart, ?start⟩
  case unit => exact fun _ _ hrun hu hconsec hfaulted hslot => exec_unitOverrunFault_of_consec hrun hu hconsec hfaulted hslot
  case engine => exact fun _ _ hrun hwindow hsound => exec_engineOverrunFault_of_window hrun hwindow hsound
  case supervisor => exact fun offset _ hrun => exec_supervisorDeadlineFault_of_running offset hrun
  case restart => exact fun _ _ _ _ h hfault => exec_tickEngineRestart_of_faulted h hfault
  case start => exact fun _ _ hrun hsecond hrestart hat => exec_engineRestartStart_of_due hrun hsecond hrestart hat

end Sys2Proof.Machine
end

section
/-! The rows of module time (R54–R56, R61, R63). -/

namespace Sys2Proof.Machine

/-! TIME_STEERING_RUN -/

/-- What a run does with the time solution of its tick, or without one, before it writes the estimate of the error: a standby
measures and does not act (R61, R63). -/
def State.steerRun (s : State) : State :=
  match s.gnss.timeSol with
  | some (e, at_) =>
    if at_ = s.k ∧ (s.get Obj.INT_STATE == 2) = false then (if s.acting then s.steer e else s.measured e)
    else s.unsteered (s.get Obj.INT_STATE == 2)
  | none => s.unsteered (s.get Obj.INT_STATE == 2)

theorem exec_timeSteeringRun_of_due {s : State} (hdue : s.steerDue = true) (hpos : s.posDue = false) :
    exec .timeSteeringRun s =
      .next ((s.steerRun.write Obj.TIME_ERR_EST s.steerRun.errEst true).ranUnit steerUnit) :=
  have posDone : (!s.posDue) = true := by rw [hpos, Bool.not_false]
  if_pos ⟨hdue, posDone⟩

theorem State.steerRun_of_solution {s : State} {e : Int} (hsol : s.gnss.timeSol = some (e, s.k))
    (hint : s.get Obj.INT_STATE ≠ 2) : s.steerRun = if s.acting then s.steer e else s.measured e := by
  rw [State.steerRun, hsol]
  exact if_pos ⟨rfl, beq_eq_false_iff_ne.mpr hint⟩

/-- No solution, one of an earlier tick and an excluded one come to the same. -/
theorem State.steerRun_of_no_solution {s : State}
    (hnone : ∀ e : Int, s.gnss.timeSol = some (e, s.k) → s.get Obj.INT_STATE = 2) :
    s.steerRun = s.unsteered (s.get Obj.INT_STATE == 2) := by
  unfold State.steerRun
  split
  case h_1 e at_ hsol =>
    have unusable : ¬ (at_ = s.k ∧ (s.get Obj.INT_STATE == 2) = false) := by
      rintro ⟨rfl, hint⟩
      exact beq_eq_false_iff_ne.mp hint (hnone e hsol)
    exact if_neg unusable
  case h_2 => rfl

/-! The time states -/

theorem State.setTimeState_of_ne {s : State} {v : Nat} (h : s.get Obj.TIME_STATE ≠ v) :
    s.setTimeState v = (s.set Obj.TIME_STATE v).timeMark := if_neg h

theorem exec_lockCountComplete_of_tracking {since : Nat} {s : State} (hrun : s.running = true) (hact : s.acting = true)
    (hsince : s.time.lockSince = some since) (hstate : s.get Obj.TIME_STATE = 2) (hcount : since + 40000 ≤ s.k) :
    exec .lockCountComplete s = .next ((s.set Obj.TIME_STATE 3).timeMark) := by
  have notLocked : s.get Obj.TIME_STATE ≠ 3 := by rw [hstate]; decide
  change execLockCountComplete s = _
  rw [execLockCountComplete, hsince, ← State.setTimeState_of_ne notLocked]
  exact if_pos ⟨hrun, hact, hstate, hcount⟩

theorem exec_holdoverTimeout_of_steered {s : State} (hrun : s.running = true) (hact : s.acting = true)
    (hstate : s.get Obj.TIME_STATE = 2 ∨ s.get Obj.TIME_STATE = 3)
    (hlost : s.time.lastSol + 4000 ≤ s.k ∨ s.get Obj.INT_STATE = 2) :
    exec .holdoverTimeout s = .next s.holdover := if_pos ⟨hrun, hact, hstate, hlost⟩

theorem exec_holdoverEnd_of_valid {since : Nat} {s : State} (hrun : s.running = true) (hact : s.acting = true)
    (hsince : s.time.holdValid = some since) (hstate : s.get Obj.TIME_STATE = 4) (hvalid : since + 4000 ≤ s.k)
    (hlast : s.k ≤ s.time.lastSol + epochTicks s.gnss.rate) :
    exec .holdoverEnd s = .next (if 10000000 < s.time.err.natAbs then s.toOffset else s.track s.time.err) := by
  change execHoldoverEnd s = _
  rw [execHoldoverEnd, hsince]
  exact if_pos ⟨hrun, hact, hstate, hvalid, hlast⟩

theorem exec_stepWindowClose_of_over {since : Nat} {s : State} (hrun : s.running = true)
    (hsince : s.time.window = some since) (hover : since + s.conf Obj.TIME_STEP_WINDOW ≤ s.k + 1) :
    exec .stepWindowClose s = .next { s with time := { s.time with window := none } } := by
  change execStepWindowClose s = _
  rw [execStepWindowClose, hsince]
  exact if_pos ⟨hrun, hover⟩

/-- Settles O26: the three clauses of the steering run by the solution it finds, every other clause by its row's guard. -/
theorem timebaseRowsTakeEffect : Obligations.TimebaseRowsTakeEffect := by
  unfold Obligations.TimebaseRowsTakeEffect
  refine ⟨?steer, ?unsteered, ?measured, ?lock, ?holdover, ?holdoverEnd, ?window⟩
  case steer =>
    intro e s hdue hpos hact hsol hint
    rw [exec_timeSteeringRun_of_due hdue hpos, State.steerRun_of_solution hsol hint, if_pos hact]
  case unsteered =>
    intro s hdue hpos hnone
    rw [exec_timeSteeringRun_of_due hdue hpos, State.steerRun_of_no_solution hnone]
  case measured =>
    intro e s hdue hpos hact hsol hint
    have notActing : ¬ s.acting = true := ne_true_of_eq_false hact
    rw [exec_timeSteeringRun_of_due hdue hpos, State.steerRun_of_solution hsol hint, if_neg notActing]
  case lock =>
    exact fun _ _ hrun hact hsince hstate hcount => exec_lockCountComplete_of_tracking hrun hact hsince hstate hcount
  case holdover => exact fun _ hrun hact hstate hlost => exec_holdoverTimeout_of_steered hrun hact hstate hlost
  case holdoverEnd =>
    exact fun _ _ hrun hact hsince hstate hvalid hlast => exec_holdoverEnd_of_valid hrun hact hsince hstate hvalid hlast
  case window => exact fun _ _ hrun hsince hover => exec_stepWindowClose_of_over hrun hsince hover

end Sys2Proof.Machine
end

section
/-! The rows of the gPTP grandmaster (R65–R70). -/

namespace Sys2Proof.Machine

/-- What is read at the key that was changed. -/
theorem Sparse.find_put_self {α : Type} [DecidableEq α] (d : Nat → α) (m : Sparse α) (k : Nat) (v : α) :
    Sparse.find d (Sparse.put d m k v) k = v := by rw [Sparse.find_put, if_pos rfl]

/-- What a Sync changes: the port's sequence number and the tick of its latest one, besides what is sent. That its time is
rounded down to a step of 8 ns is the model's choice (log entry 64). -/
theorem exec_gptpSync_of_due {p : Fin 3} (sub : Nat) {s : State} (hsends : s.gptpSends p = true)
    (hover : intervalOver s.gptp.lastSync p s.k s.gptp.syncLog = true) :
    exec (.gptpSync p sub) s = .next { s with
      sent := s.sent ++ [.gptpSync s.clockMac p s.gptp.domain s.gptp.syncLog (Sparse.find (fun _ => 0) s.gptp.seqSync p)
        (stamp8 (s.k * 250000 + sub) + 315964819 * 10 ^ 9)]
      gptp := { s.gptp with
        lastSync := Sparse.put (fun _ => 0) s.gptp.lastSync p (s.k + 1)
        seqSync := Sparse.put (fun _ => 0) s.gptp.seqSync p ((Sparse.find (fun _ => 0) s.gptp.seqSync p + 1) % 65536) } } :=
  if_pos ⟨hsends, hover⟩

/-- What an Announce changes: the same two of its own. The ranges of its accuracy are presumed (log entry 29). -/
theorem exec_gptpAnnounce_of_due {p : Fin 3} {s : State} (hsends : s.gptpSends p = true)
    (hover : intervalOver s.gptp.lastAnnounce p s.k s.gptp.announceLog = true) :
    exec (.gptpAnnounce p) s = .next { s with
      sent := s.sent ++ [.gptpAnnounce s.clockMac p s.gptp.domain s.gptp.announceLog
        (Sparse.find (fun _ => 0) s.gptp.seqAnnounce p) s.gptp.priority1 (clockClass (s.get Obj.TIME_STATE))
        (clockAccuracy (s.get Obj.TIME_ERR_EST)) (clockClass (s.get Obj.TIME_STATE) != 248)
        (decInt 16 (s.get Obj.GPTP_UTC_OFFSET)) s.time.utc.isSome true 0x20]
      gptp := { s.gptp with
        lastAnnounce := Sparse.put (fun _ => 0) s.gptp.lastAnnounce p (s.k + 1)
        seqAnnounce := Sparse.put (fun _ => 0) s.gptp.seqAnnounce p
          ((Sparse.find (fun _ => 0) s.gptp.seqAnnounce p + 1) % 65536) } } := if_pos ⟨hsends, hover⟩

theorem exec_gptpForeignRx_of_enabled {p : Fin 3} {s : State} (hrun : s.running = true) (hup : s.portUp p = true)
    (hport : bit s.gptp.ports p = true) : exec (.gptpForeignRx p) s = .next (s.count Obj.GPTP_FOREIGN 1) :=
  if_pos ⟨hrun, hup, hport⟩

theorem exec_gptpConfigApply_of_second {s : State} (hrun : s.running = true) (hsecond : s.k % 4000 = 0) :
    exec .gptpConfigApply s = .next s.gptpApply := if_pos ⟨hrun, hsecond⟩

/-- Settles O27: the next state of each row, of which the first two clauses read the fields that changed. -/
theorem grandmasterRowsTakeEffect : Obligations.GrandmasterRowsTakeEffect := by
  unfold Obligations.GrandmasterRowsTakeEffect
  refine ⟨?sync, ?announce, ?foreign, ?apply⟩
  case sync =>
    exact fun _ sub _ hsends hover => ⟨_, exec_gptpSync_of_due sub hsends hover, rfl, Sparse.find_put_self _ _ _ _,
      Sparse.find_put_self _ _ _ _, rfl⟩
  case announce =>
    exact fun _ _ hsends hover => ⟨_, exec_gptpAnnounce_of_due hsends hover, rfl, Sparse.find_put_self _ _ _ _,
      Sparse.find_put_self _ _ _ _, rfl⟩
  case foreign => exact fun _ _ hrun hup hport => exec_gptpForeignRx_of_enabled hrun hup hport
  case apply => exact fun _ hrun hsecond => exec_gptpConfigApply_of_second hrun hsecond

end Sys2Proof.Machine
end

section
/-! The rows of the Ethernet ports (R65, R75, R418, R435, R440). -/

namespace Sys2Proof.Machine

/-! ETH_FRAME_RX -/

theorem exec_ethFrameRx_of_bad {p : Fin 4} {ok : Bool} {data : Bytes} {s : State} (hrun : s.running = true)
    (hup : s.portUp p = true) (hbad : ok = false ∨ data.length < 60 ∨ 1518 < data.length) :
    exec (.ethFrameRx p ok data) s = .next (s.count (Obj.ETH_RX_ERRORS p) 1) := by
  have refused : (!ok) = true ∨ data.length < 60 ∨ 1518 < data.length := by rwa [Bool.not_eq_true']
  change execEthFrameRx p ok data s = _
  rw [execEthFrameRx, if_pos ⟨hrun, hup⟩, if_pos refused]

/-- A frame on a port that has an address: ARP and echo requests are answered, an MDP datagram arrives where the module serves
it, and the rest is the application's (R112, R114, R418). -/
def State.ethForAddress (s : State) (p : Fin 4) (ip : Nat) (data : Bytes) : State :=
  match s.arpReply p ip data with
  | some r => s.send (.eth p r)
  | none => match s.echoReply p ip data with
    | some r => s.send (.eth p r)
    | none => match s.mdpDatagram p ip data with
      | some (src, m) => if s.nodeServes || p == 3 then s.mdpArrive ⟨⟨p.val + 1, by omega⟩, src, m⟩ else s
      | none => s.send (.toApp p data)

/-- What a good frame does once it is counted. -/
def State.ethTake (s : State) (p : Fin 4) (data : Bytes) : State :=
  if beField data 12 2 = 0x88F7 ∧ bit s.gptp.ports p = true then
    if beField data 14 1 % 16 = 0 ∨ beField data 14 1 % 16 = 0xB then s.gptpForeign else s
  else if (s.eth p).ip = 0 then s.send (.toApp p data)
  else s.ethForAddress p (s.eth p).ip data

/-- Every branch of the row answers a next state: that of `ethTake`. -/
theorem exec_ethFrameRx_of_good {p : Fin 4} {data : Bytes} {s : State} (hrun : s.running = true) (hup : s.portUp p = true)
    (hmin : 60 ≤ data.length) (hmax : data.length ≤ 1518) :
    exec (.ethFrameRx p true data) s = .next ((s.count (Obj.ETH_RX_FRAMES p) 1).ethTake p data) := by
  have notBad : ¬ ((!true) = true ∨ data.length < 60 ∨ 1518 < data.length) := by
    rintro (h | h | h)
    · cases h
    · omega
    · omega
  change execEthFrameRx p true data s = _
  rw [execEthFrameRx, if_pos ⟨hrun, hup⟩, if_neg notBad]
  dsimp only
  unfold State.ethTake
  split
  case isTrue => rfl
  case isFalse =>
    split
    case isTrue => rfl
    case isFalse =>
      unfold State.ethForAddress
      cases State.arpReply _ _ _ _ with
      | some r => rfl
      | none =>
        cases State.echoReply _ _ _ _ with
        | some r => rfl
        | none => cases State.mdpDatagram _ _ _ _ <;> rfl

theorem exec_ethFrameRx_of_time {p : Fin 4} {data : Bytes} {s : State} (hrun : s.running = true) (hup : s.portUp p = true)
    (hmin : 60 ≤ data.length) (hmax : data.length ≤ 1518) (htype : beField data 12 2 = 0x88F7)
    (hport : bit s.gptp.ports p = true) :
    exec (.ethFrameRx p true data) s = .next (if beField data 14 1 % 16 = 0 ∨ beField data 14 1 % 16 = 0xB
      then (s.count (Obj.ETH_RX_FRAMES p) 1).gptpForeign else s.count (Obj.ETH_RX_FRAMES p) 1) :=
  (exec_ethFrameRx_of_good hrun hup hmin hmax).trans (congrArg _ (if_pos ⟨htype, hport⟩))

/-- The count leaves the settings of the port as they were: the address asked for is that of the state before. -/
theorem exec_ethFrameRx_of_not_time {p : Fin 4} {data : Bytes} {s : State} (hrun : s.running = true)
    (hup : s.portUp p = true) (hmin : 60 ≤ data.length) (hmax : data.length ≤ 1518)
    (hkind : beField data 12 2 ≠ 0x88F7 ∨ bit s.gptp.ports p = false) :
    exec (.ethFrameRx p true data) s = .next (if (s.eth p).ip = 0
      then (s.count (Obj.ETH_RX_FRAMES p) 1).send (.toApp p data)
      else (s.count (Obj.ETH_RX_FRAMES p) 1).ethForAddress p (s.eth p).ip data) := by
  have notTime : ¬ (beField data 12 2 = 0x88F7 ∧ bit s.gptp.ports p = true) := by
    rwa [not_and_or, Bool.not_eq_true]
  exact (exec_ethFrameRx_of_good hrun hup hmin hmax).trans (congrArg _ (if_neg notTime))

/-! ETH_CONFIG_APPLY, ETH_LINK_LOSS and ETH_LINK_UP -/

theorem exec_ethConfigApply_of_second {s : State} (hrun : s.running = true) (hsecond : s.k % 4000 = 0) :
    exec .ethConfigApply s = .next ((List.range 5).foldl (State.ethApply s.conf) s) := if_pos ⟨hrun, hsecond⟩

/-- A port that trains again, its loss counted. -/
def State.ethLost (s : State) (p : Nat) : State := (s.ethPower p true).count (Obj.ETH_LINK_LOSSES p) 1

theorem State.ethLost_standby (s : State) (p : Nat) : (s.ethLost p).standby = s.standby := rfl

theorem exec_ethLinkLoss_of_up {p : Fin 5} {s : State} (hrun : s.running = true) (hon : (s.eth p).on = true)
    (hlink : s.get (Obj.ETH_LINK p) = 2) :
    exec (.ethLinkLoss p) s = .next (if p.val = 4 ∧ (s.ethLost p).standby = true then
      (s.ethLost p).mirrorLate.pairBit 10 true else s.ethLost p) := if_pos ⟨hrun, hon, hlink⟩

theorem exec_ethLinkUp_of_training {p : Fin 5} (sqi : Nat) {s : State} (hrun : s.running = true) (hon : (s.eth p).on = true)
    (hdom : s.domOn 8 = true) (hlink : s.get (Obj.ETH_LINK p) ≠ 2) :
    exec (.ethLinkUp p sqi) s = .next (
      let t := (s.set (Obj.ETH_LINK p) 2).set (Obj.ETH_SQI p) (if p.val = 3 then 0xFF else sqi)
      if p.val = 4 then t.pairBit 10 false else t) := if_pos ⟨hrun, hon, hdom, hlink⟩

/-- Settles O51: a frame by whether it is good, a time message or for a port with an address; a link by whether it is P's. -/
theorem ethernetRowsTakeEffect : Obligations.EthernetRowsTakeEffect := by
  unfold Obligations.EthernetRowsTakeEffect
  refine ⟨?bad, ?toApp, ?addressed, ?time, ?config, ?lossOfP, ?loss, ?up, ?upOfP⟩
  case bad => exact fun _ _ _ _ hrun hup hbad => exec_ethFrameRx_of_bad hrun hup hbad
  case toApp =>
    intro p data s hrun hup hmin hmax hkind hip
    rw [exec_ethFrameRx_of_not_time hrun hup hmin hmax hkind, if_pos hip]
  case addressed =>
    intro p data s hrun hup hmin hmax hkind hip
    rw [exec_ethFrameRx_of_not_time hrun hup hmin hmax hkind, if_neg hip]
    rfl
  case time =>
    exact fun _ _ _ hrun hup hmin hmax htype hport => exec_ethFrameRx_of_time hrun hup hmin hmax htype hport
  case config => exact fun _ hrun hsecond => exec_ethConfigApply_of_second hrun hsecond
  case lossOfP =>
    intro s hrun hon hlink hstandby
    have late : (s.ethLost 4).standby = true := hstandby
    rw [exec_ethLinkLoss_of_up (p := 4) hrun hon hlink, if_pos ⟨rfl, late⟩]
    exact congrArg _ (if_pos late).symm
  case loss =>
    intro p s hrun hon hlink hother
    have onTime : ¬ (p.val = 4 ∧ (s.ethLost p).standby = true) := by
      rwa [State.ethLost_standby, not_and_or, Bool.not_eq_true]
    rw [exec_ethLinkLoss_of_up hrun hon hlink, if_neg onTime]
    rfl
  case up =>
    intro p sqi s hrun hon hdom hlink hp
    rw [exec_ethLinkUp_of_training sqi hrun hon hdom hlink]
    exact congrArg _ (if_neg hp)
  case upOfP => exact fun sqi _ hrun hon hdom hlink => exec_ethLinkUp_of_training sqi hrun hon hdom hlink

end Sys2Proof.Machine
end

section
/-! Serving a request, whatever its body does (R81, R102–R108). -/

namespace Sys2Proof.Machine

/-! What is read after a write -/

theorem State.get_set_same (s : State) (key v : Nat) : (s.set key v).get key = v :=
  (Sparse.find_put objDefault s.obj key v key).trans (if_pos rfl)

theorem State.get_set_of_ne (s : State) {key key' : Nat} (v : Nat) (h : key' ≠ key) : (s.set key v).get key' = s.get key' :=
  (Sparse.find_put objDefault s.obj key v key').trans (if_neg h.symm)

theorem State.get_count_same (s : State) (key n : Nat) : (s.count key n).get key = satAdd 32 (s.get key) n :=
  s.get_set_same key _

theorem State.get_count_of_ne (s : State) {key key' : Nat} (n : Nat) (h : key' ≠ key) : (s.count key n).get key' = s.get key' :=
  s.get_set_of_ne _ h

/-! While nothing is served -/

/-- S takes up no request: the module does not run, or has served four in the tick (R102, R518). -/
def State.servesNone (s : State) : Prop := s.running = false ∨ 4 ≤ s.dict.served

theorem State.serves_of_servesNone {s : State} (h : s.servesNone) (q : Req) : s.serves q = false := by
  unfold State.serves
  rcases h with notRunning | four
  · simp [notRunning]
  · simp [Nat.not_lt.mpr four]

theorem State.serveForm_of_not_serves {s : State} {q : Req} (h : s.serves q = false) (svc : Nat) (tail : Bytes)
    (form : Bool) (body : State → Nat → Reply) : s.serveForm q svc tail form body = s := by
  simp [State.serveForm, h]

theorem State.refuseForm_of_servesNone {s : State} (h : s.servesNone) (m : MdpMsg) : s.refuseForm m = s := by
  simp [State.refuseForm, State.serves_of_servesNone h]

theorem State.serveFormless_of_servesNone {s : State} (h : s.servesNone) (fuel : Nat) : s.serveFormless fuel = s := by
  induction fuel with
  | zero => rfl
  | succ fuel ih =>
    unfold State.serveFormless
    split
    next => rw [State.refuseForm_of_servesNone h, ih, ite_self]
    next => rfl

theorem State.serve_of_servesNone {s : State} (h : s.servesNone) (q : Req) (svc : Nat) (tail : Bytes) (form : Bool)
    (body : State → Nat → Reply) : s.serve q svc tail form body = s := by
  rw [State.serve, State.serveFormless_of_servesNone h,
    State.serveForm_of_not_serves (State.serves_of_servesNone h q)]

/-! What serving keeps -/

/-- A relation between the state before and after that every part of serving keeps, but for what the body does. -/
structure KeptByServing (R : State → State → Prop) : Prop where
  refl (s : State) : R s s
  trans {s t u : State} : R s t → R t u → R s u
  takeUp {s : State} {q : Req} : s.serves q = true → R s (s.takeUp q)
  send (s : State) (o : Out) : R s (s.send o)
  putSession (s : State) (x : Session) : R s (s.putSession x)
  cached (s : State) : R s (s.count Obj.MDP_CACHED 1)
  stale (s : State) : R s (s.count Obj.MDP_STALE 1)

section
variable {R : State → State → Prop} (h : KeptByServing R)
include h

theorem KeptByServing.answer (s : State) (q : Req) (svc n : Nat) (st : Status) (b : Bytes) : R s (s.answer q svc n st b) :=
  h.send s _

theorem KeptByServing.remember (s : State) (q : Req) (r : Reply) : R s (s.remember q r) := by
  unfold State.remember
  split
  next => exact h.refl s
  next =>
    split
    next => exact h.refl s
    next => exact h.putSession s _

theorem KeptByServing.finish {s : State} (q : Req) (svc : Nat) {r : Reply} (hr : R s r.s) : R s (State.finish q svc r) := by
  refine h.trans hr (h.trans ?_ (h.remember _ q r))
  split
  next => exact h.refl r.s
  next => exact h.answer r.s q svc _ _ _

/-- The answer to a duplicate of an answered request. -/
theorem KeptByServing.sendCached (s : State) (c : Prop) [Decidable c] (o p : Out) :
    R s ((if c then s.send o else s.send p).count Obj.MDP_CACHED 1) := by
  split
  next => exact h.trans (h.send s o) (h.cached _)
  next => exact h.trans (h.send s p) (h.cached _)

theorem KeptByServing.serveForm {body : State → Nat → Reply} (hbody : ∀ s lvl, R s (body s lvl).s) (s : State) (q : Req)
    (svc : Nat) (tail : Bytes) (form : Bool) : R s (s.serveForm q svc tail form body) := by
  unfold State.serveForm
  split
  · exact h.refl s
  next hserves =>
  refine h.trans (h.takeUp (q := q) (by simpa using hserves)) ?_
  dsimp only
  split
  · exact h.answer _ q svc _ _ _
  split
  · split
    · exact h.answer _ q svc _ _ _
    · split
      · exact h.trans (hbody _ _) (h.answer _ q svc _ _ _)
      · exact h.answer _ q svc _ _ _
  split
  · exact h.answer _ q svc _ _ _
  next x _ =>
  refine h.trans (h.putSession _ { x with last := (s.takeUp q).k }) ?_
  split
  · split
    · exact h.sendCached _ _ _ _
    · exact h.putSession _ _
  split
  · exact h.trans (h.answer _ q svc _ _ _) (h.stale _)
  split
  · split
    · exact h.putSession _ _
    · exact h.answer _ q svc _ _ _
  split
  · exact h.finish q svc (h.refl _)
  split
  · exact h.finish q svc (hbody _ _)
  · exact h.finish q svc (h.refl _)
  split
  · exact h.trans (h.send _ _) (h.send _ _)
  · exact h.trans (h.trans (h.send _ _) (h.send _ _)) (h.putSession _ _)

theorem KeptByServing.refuseForm (s : State) (m : MdpMsg) : R s (s.refuseForm m) := by
  unfold State.refuseForm
  dsimp only
  split
  next => exact h.refl s
  next hserves =>
    split
    next => exact h.trans (h.takeUp (by simpa using hserves)) (h.answer _ _ _ _ _ _)
    next => exact h.serveForm (fun t _ => h.refl t) s _ _ _ _

theorem KeptByServing.serveFormless (fuel : Nat) (s : State) : R s (s.serveFormless fuel) := by
  induction fuel generalizing s with
  | zero => exact h.refl s
  | succ fuel ih =>
    unfold State.serveFormless
    split
    next m _ _ =>
      split
      next => exact h.refl s
      next => exact h.trans (h.refuseForm s m) (ih _)
    next => exact h.refl s

theorem KeptByServing.serve {body : State → Nat → Reply} (hbody : ∀ s lvl, R s (body s lvl).s) (s : State) (q : Req)
    (svc : Nat) (tail : Bytes) (form : Bool) : R s (s.serve q svc tail form body) :=
  h.trans (h.serveFormless 4 s) (h.serveForm hbody _ q svc tail form)

end
end Sys2Proof.Machine
end

section
/-! The requests of a session: what is answered without being executed (R81, R103–R109). -/

namespace Sys2Proof.Machine

/-! The equations of `serve` for a request that came directly from its client and whose turn has come -/

section
variable {s : State} {q : Req} (hserves : s.serves q = true) (hfront : s.frontFormed = true) (hversion : q.version = 1)
  (hdirect : q.forwarded = none) (svc : Nat) (tail : Bytes) (form : Bool) (body : State → Nat → Reply)
include hserves hfront hversion hdirect

theorem State.serve_of_noSession (hnone : s.findSession q = none) :
    s.serve q svc tail form body = (s.takeUp q).answer q svc q.session .noSession [] := by
  rw [State.serve, State.serveFormless_of_frontFormed hfront]
  simp [State.serveForm, hserves, hversion, hdirect, State.findSession_takeUp, hnone]

theorem State.serve_of_cached {x : Session} {c : Cached} (hx : s.findSession q = some x)
    (hc : x.cache.find? (fun c => c.txn == q.txn) = some c) {st : Nat} {b : Bytes} (hans : c.ans = some (st, b))
    (hhere : c.elsewhere = false) :
    s.serve q svc tail form body =
      ((s.servedBy q x).send (.mdp q.transport q.source q.target (svc + 128) q.session q.txn st b)).count Obj.MDP_CACHED 1 := by
  rw [State.serve, State.serveFormless_of_frontFormed hfront]
  simp [State.serveForm, hserves, hversion, hdirect, State.findSession_takeUp, hx, hc, hans, hhere, State.servedBy]

theorem State.serve_of_executing {x : Session} {c : Cached} (hx : s.findSession q = some x)
    (hc : x.cache.find? (fun c => c.txn == q.txn) = some c) (hans : c.ans = none) :
    s.serve q svc tail form body = (s.servedBy q x).putSession { x with last := s.k, cache := x.cache.map fun d =>
      if d.txn = q.txn then { d with dups := d.dups + 1 } else d } := by
  rw [State.serve, State.serveFormless_of_frontFormed hfront]
  simp [State.serveForm, hserves, hversion, hdirect, State.findSession_takeUp, hx, hc, hans, State.servedBy]

theorem State.serve_of_stale {x : Session} (hx : s.findSession q = some x)
    (hnew : x.cache.find? (fun c => c.txn == q.txn) = none) (hbehind : x.ahead q.txn = false) :
    s.serve q svc tail form body = ((s.servedBy q x).answer q svc q.session .stale []).count Obj.MDP_STALE 1 := by
  rw [State.serve, State.serveFormless_of_frontFormed hfront]
  have outside : (!x.ahead q.txn) = true := by rw [hbehind]; rfl
  simp only [State.serveForm, hserves, hversion, hdirect, State.findSession_takeUp, hx, hnew, State.servedBy,
    Bool.not_true, Bool.false_eq_true, if_false, ne_eq, not_true_eq_false]
  exact if_pos outside

end

/-! What a state that serves a request shows -/

theorem State.findSession_servedBy {s : State} {q : Req} {x : Session} (hx : s.findSession q = some x) :
    (s.servedBy q x).findSession q = some { x with last := s.k } :=
  State.findSession_putSession hx ⟨rfl, rfl, rfl⟩

/-- The commands of a session come as a request of their service, whose payload and body they give. -/
theorem exec_sessionRequest {i : Instr} {q : Req} {svc : Nat}
    (hi : ∃ b : Bytes, i = .close_ q b ∧ svc = 2 ∨ i = .keepalive q b ∧ svc = 5 ∨
      (∃ ix sub ty len, i = .write q ix sub ty len b ∧ svc = 4) ∨ (∃ ix sub off len, i = .read q ix sub off len ∧ svc = 3))
    (s : State) : ∃ tail form body, exec i s = .next (s.serve q svc tail form body) := by
  obtain ⟨b, ⟨rfl, rfl⟩ | ⟨rfl, rfl⟩ | ⟨ix, sub, ty, len, rfl, rfl⟩ | ⟨ix, sub, off, len, rfl, rfl⟩⟩ := hi
  case inl => exact ⟨_, _, _, rfl⟩
  case inr.inl => exact ⟨_, _, _, rfl⟩
  case inr.inr.inl =>
    change ∃ tail form body, execWrite q ix sub ty len b s = _
    unfold execWrite
    dsimp only
    (repeat' split) <;> exact ⟨_, _, _, rfl⟩
  case inr.inr.inr =>
    change ∃ tail form body, execRead q ix sub off len s = _
    unfold execRead
    dsimp only
    (repeat' split) <;> exact ⟨_, _, _, rfl⟩

/-- Settles O14: the cache answers before the body is looked at. -/
theorem duplicatesAreAnsweredFromTheCache : Obligations.DuplicatesAreAnsweredFromTheCache := by
  unfold Obligations.DuplicatesAreAnsweredFromTheCache
  intro q x c st body i svc s hserves hfront hversion hdirect hx hc hans hhere hi
  obtain ⟨tail, form, run, hexec⟩ := exec_sessionRequest hi s
  refine ⟨_, hexec, ?_⟩
  rw [State.serve_of_cached hserves hfront hversion hdirect svc tail form run hx hc hans hhere]
  exact ⟨rfl, State.get_count_same _ _ _, fun key hkey => State.get_count_of_ne _ _ hkey, State.findSession_servedBy hx, rfl⟩

/-- Settles O15: which session and which transaction is asked before the body is looked at. -/
theorem requestsOutsideASessionAreRefused : Obligations.RequestsOutsideASessionAreRefused := by
  unfold Obligations.RequestsOutsideASessionAreRefused
  intro q i svc s hserves hfront hversion hdirect hi
  obtain ⟨tail, form, run, hexec⟩ := exec_sessionRequest hi s
  rw [hexec]
  refine ⟨fun hnone => ⟨_, rfl, ?noSession⟩, fun x hx hnew hbehind => ⟨_, rfl, ?stale⟩⟩
  case noSession =>
    rw [State.serve_of_noSession hserves hfront hversion hdirect svc tail form run hnone]
    exact ⟨rfl, fun _ => rfl, rfl⟩
  case stale =>
    rw [State.serve_of_stale hserves hfront hversion hdirect svc tail form run hx hnew hbehind]
    exact ⟨rfl, State.get_count_same _ _ _, fun key hkey => State.get_count_of_ne _ _ hkey, State.findSession_servedBy hx, rfl⟩

end Sys2Proof.Machine
end

section
/-! How a store ends and is answered (R88–R91, R109). -/

namespace Sys2Proof.Machine

/-! Looking for a session -/

/-- A session is looked for in the dictionary server, in the table that the role of the module names. -/
theorem State.findSession_congr {s t : State} (hdict : t.dict = s.dict) (hpair : t.pair = s.pair) (q : Req) :
    t.findSession q = s.findSession q := by
  simp only [State.findSession, State.table, State.nodeServes, State.acting, hdict, hpair]
  rfl

/-- An entry of a cache that is changed without its transaction number is found as before. -/
theorem find?_txn_map (f : Cached → Cached) (hf : ∀ c, (f c).txn = c.txn) (txn : Nat) (l : List Cached) :
    (l.map f).find? (fun c => c.txn == txn) = (l.find? fun c => c.txn == txn).map f := by
  rw [List.find?_map]
  congr 1
  exact List.find?_congr fun c _ => by rw [Function.comp_apply, hf]

/-! The answers at the end -/

/-- The final answer of a request that WRITE has begun. -/
def finalAnswer (q : Req) (st : Status) : Out := .mdp q.transport q.source q.target 132 q.session q.txn st.code []

/-- The answer is sent `n` times. -/
theorem State.answers_foldl (s : State) (q : Req) (st : Status) (n : Nat) :
    (List.replicate n ()).foldl (fun s _ => s.answer q 4 q.session st []) s =
      { s with sent := s.sent ++ List.replicate n (finalAnswer q st) } := by
  induction n generalizing s with
  | zero => simp
  | succ n ih =>
    rw [List.replicate_succ, List.foldl_cons, ih, List.replicate_succ]
    simp only [State.answer, State.send, finalAnswer, List.append_assoc, List.singleton_append]

theorem State.answerLater_sent_of_none {s : State} {q : Req} (h : s.findSession q = none) (st : Status) :
    (s.answerLater q st).sent = s.sent ++ [finalAnswer q st] := by
  simp only [State.answerLater, h]
  rfl

/-- One answer for the request and one for each duplicate (R109). -/
theorem State.answerLater_sent_of_some {s : State} {q : Req} {x : Session} (h : s.findSession q = some x) (st : Status) :
    (s.answerLater q st).sent = s.sent ++
      List.replicate (((x.cache.find? fun c => c.txn == q.txn).map (·.dups)).getD 0 + 1) (finalAnswer q st) := by
  simp only [State.answerLater, h, State.answers_foldl]
  rfl

/-- Apart from what was sent, the answer at the end changes the dictionary server and the count of cached answers. -/
theorem State.answerLater_frame (s : State) (q : Req) (st : Status) :
    s.onlyServed (s.answerLater q st) ∧ ∀ key, key ≠ Obj.MDP_CACHED → (s.answerLater q st).get key = s.get key := by
  unfold State.answerLater
  split
  next => exact ⟨rfl, fun _ _ => rfl⟩
  next x _ =>
    simp only [State.answers_foldl]
    exact ⟨rfl, fun _ hkey => State.get_count_of_ne _ _ hkey⟩

theorem State.storeAnswer_frame (s : State) (r : StoreRun) (st : Status) :
    s.onlyServed (s.storeAnswer r st) ∧ ∀ key, key ≠ Obj.MDP_CACHED → (s.storeAnswer r st).get key = s.get key := by
  unfold State.storeAnswer
  split
  next q _ => exact s.answerLater_frame q st
  next => exact ⟨rfl, fun _ _ => rfl⟩

theorem State.storeAnswer_of_request {r : StoreRun} {q : Req} (h : r.req = some q) (s : State) (st : Status) :
    s.storeAnswer r st = s.answerLater q st := by simp only [State.storeAnswer, h]

theorem State.storeAnswer_of_none {r : StoreRun} (h : r.req = none) (s : State) (st : Status) :
    s.storeAnswer r st = s := by simp only [State.storeAnswer, h]

/-! The end of a store, before it is answered -/

/-- A store ends with a mismatch in step 3 + `i` (R90); a standby shows that its store has failed (R439). -/
def State.failStore (s : State) (i : Fin 2) : State :=
  let t := (State.set { s with store := { s.store with run := none } } Obj.STORE_STATUS 4).event 0 0x1022 (u8 (3 + i))
  if t.standby then (t.pairBit 8 true).event 0 0x7004 [] else t

/-- The running store ends, with a mismatch or without. -/
def State.endStore (s : State) (r : StoreRun) : Option (Fin 2) → State
  | none => s.completeStore r
  | some i => s.failStore i

/-- The status with which its request is answered. -/
def storeEndStatus (bad : Option (Fin 2)) : Status := if bad.isSome then .storeFailed else .ok

theorem exec_storeComplete_of_run {r : StoreRun} {s : State} (hrun : s.running = true) (hr : s.store.run = some r)
    (bad : Option (Fin 2)) :
    exec (.storeComplete bad) s = .next ((s.endStore r bad).storeAnswer r (storeEndStatus bad)) := by
  change execStoreComplete bad s = _
  simp only [execStoreComplete, hr, hrun, Bool.not_true, Bool.false_eq_true, if_false]
  cases bad <;> rfl

theorem State.failStore_of_not_standby {s : State} (h : s.standby = false) (i : Fin 2) : s.failStore i =
    (State.set { s with store := { s.store with run := none } } Obj.STORE_STATUS 4).event 0 0x1022 (u8 (3 + i)) :=
  if_neg (Bool.not_eq_true _ ▸ h)

/-- What every mismatch leaves: the area in force and its content stay, the event names the step. -/
theorem State.failStore_spec (s : State) (i : Fin 2) :
    (s.failStore i).store = { s.store with run := none } ∧ (s.failStore i).get Obj.STORE_STATUS = 4 ∧
      (∃ e ∈ (s.failStore i).recd.reported, e.src = 0 ∧ e.code = 0x1022 ∧ e.payload = u8 (3 + i)) ∧
      (s.failStore i).sent = s.sent ∧ (s.failStore i).dict = s.dict ∧ (s.failStore i).pair = s.pair := by
  unfold State.failStore
  dsimp only
  split
  next =>
    refine ⟨rfl, ?_, ⟨_, List.mem_append_left _ (List.mem_append_right _ (List.mem_singleton_self _)), rfl, rfl, rfl⟩,
      rfl, rfl, rfl⟩
    exact (State.get_set_of_ne _ _ (by decide)).trans (State.get_set_same _ _ _)
  next =>
    exact ⟨rfl, State.get_set_same _ _ _, ⟨_, List.mem_append_right _ (List.mem_singleton_self _), rfl, rfl, rfl⟩,
      rfl, rfl, rfl⟩

@[simp] theorem State.setArea_sent (s : State) (b : Bool) (x : SetArea) : (s.setArea b x).sent = s.sent := by cases b <;> rfl
@[simp] theorem State.setArea_dict (s : State) (b : Bool) (x : SetArea) : (s.setArea b x).dict = s.dict := by cases b <;> rfl
@[simp] theorem State.setArea_pair (s : State) (b : Bool) (x : SetArea) : (s.setArea b x).pair = s.pair := by cases b <;> rfl

theorem State.completeStore_spec (s : State) (r : StoreRun) :
    (s.completeStore r).get Obj.STORE_STATUS = 3 ∧ (s.completeStore r).sent = s.sent ∧ (s.completeStore r).dict = s.dict ∧
      (s.completeStore r).pair = s.pair := by
  simp only [State.completeStore, State.setAll, List.foldl_cons, List.foldl_nil]
  refine ⟨?_, State.setArea_sent s _ _, State.setArea_dict s _ _, State.setArea_pair s _ _⟩
  rw [State.get_set_of_ne _ _ (by decide), State.get_set_of_ne _ _ (by decide), State.get_set_of_ne _ _ (by decide),
    State.get_set_same]

theorem State.endStore_spec (s : State) (r : StoreRun) (bad : Option (Fin 2)) :
    (s.endStore r bad).get Obj.STORE_STATUS = (if bad.isSome then 4 else 3) ∧ (s.endStore r bad).sent = s.sent ∧
      ∀ q, (s.endStore r bad).findSession q = s.findSession q := by
  cases bad with
  | none =>
    obtain ⟨hget, hsent, hdict, hpair⟩ := s.completeStore_spec r
    exact ⟨hget, hsent, State.findSession_congr hdict hpair⟩
  | some i =>
    obtain ⟨-, hget, -, hsent, hdict, hpair⟩ := s.failStore_spec i
    exact ⟨hget, hsent, State.findSession_congr hdict hpair⟩

/-- The request of a store is answered at least once at its end, and nothing else is sent. -/
theorem State.endStore_answers (s : State) {r : StoreRun} {q : Req} (h : r.req = some q) (bad : Option (Fin 2)) :
    ∃ n, 1 ≤ n ∧ ((s.endStore r bad).storeAnswer r (storeEndStatus bad)).sent =
      s.sent ++ List.replicate n (finalAnswer q (storeEndStatus bad)) := by
  obtain ⟨-, hsent, -⟩ := s.endStore_spec r bad
  rw [State.storeAnswer_of_request h]
  cases hx : (s.endStore r bad).findSession q with
  | none => exact ⟨1, Nat.le_refl 1, by rw [State.answerLater_sent_of_none hx, hsent]; rfl⟩
  | some x => exact ⟨_, Nat.le_add_left 1 _, by rw [State.answerLater_sent_of_some hx, hsent]⟩

theorem finalAnswer_storeEnd (q : Req) (bad : Option (Fin 2)) : finalAnswer q (storeEndStatus bad) =
    .mdp q.transport q.source q.target 132 q.session q.txn
      (if bad.isSome then Status.storeFailed.code else Status.ok.code) [] := by
  cases bad <;> rfl

/-- Settles O16: what the mismatch leaves, which the answer keeps. -/
theorem failedStoresKeepTheOldArea : Obligations.FailedStoresKeepTheOldArea := by
  unfold Obligations.FailedStoresKeepTheOldArea
  intro r i s hrun hr
  refine ⟨_, exec_storeComplete_of_run hrun hr (some i), ?_⟩
  obtain ⟨hstore, hstatus, ⟨e, he, hevent⟩, -, -, -⟩ := s.failStore_spec i
  obtain ⟨served, values⟩ := (s.failStore i).storeAnswer_frame r .storeFailed
  have store := congrArg State.store served
  have recd := congrArg State.recd served
  refine ⟨store.trans hstore, (values _ (by decide)).trans hstatus, ⟨e, ?_, hevent⟩, ?_⟩
  · exact (congrArg RecSt.reported recd).symm ▸ he
  · intro q hq
    obtain ⟨n, hn, hsent⟩ := s.endStore_answers hq (some i)
    have answered : finalAnswer q .storeFailed ∈ List.replicate n (finalAnswer q .storeFailed) :=
      List.mem_replicate.mpr ⟨by omega, rfl⟩
    exact hsent.symm ▸ List.mem_append_right _ answered

/-! The reply of a request -/

/-- Remembering an answer changes the dictionary server alone. -/
theorem State.remember_changes_dict (s : State) (q : Req) (r : Reply) : ∃ d, s.remember q r = { s with dict := d } := by
  unfold State.remember
  split
  next => exact ⟨s.dict, rfl⟩
  next =>
    split
    next => exact ⟨s.dict, rfl⟩
    next => exact ⟨_, rfl⟩

theorem State.finish_of_later (q : Req) (svc : Nat) {r : Reply} (h : r.later = true) :
    ∃ d, State.finish q svc r = { r.s with dict := d } := by
  simp only [State.finish, h, if_true]
  exact r.s.remember_changes_dict q r

theorem State.finish_of_now (q : Req) (svc : Nat) {r : Reply} (h : r.later = false) :
    ∃ d, State.finish q svc r = { r.s with dict := d, sent := r.s.sent ++
      [.mdp q.transport q.source q.target (svc + 128) q.session q.txn r.st.code r.body] } := by
  simp only [State.finish, h, Bool.false_eq_true, if_false]
  exact (r.s.answer q svc q.session r.st r.body).remember_changes_dict q r

/-! The begin of a store (R88, R89) -/

@[simp] theorem State.slice_sent (s : State) (key : Nat) (b : Bytes) : (s.slice key b).sent = s.sent := by
  unfold State.slice; split <;> rfl
@[simp] theorem State.slice_store (s : State) (key : Nat) (b : Bytes) : (s.slice key b).store = s.store := by
  unfold State.slice; split <;> rfl

theorem State.beginStore_spec (s : State) (group : Nat) (req : Option Req) :
    (s.beginStore group req).sent = s.sent ∧ (s.beginStore group req).store.deferred = none ∧
      (s.beginStore group req).store.run.map (·.req) = some req := by
  refine ⟨?_, rfl, rfl⟩
  unfold State.beginStore
  exact State.setArea_sent s _ _

theorem State.askStore_of_not_low {s : State} (h : s.supplyLow = false) (group : Nat) (req : Option Req) :
    s.askStore group req = s.beginStore group req := if_neg (Bool.not_eq_true _ ▸ h)

/-- A deferred store keeps no request, for it is answered at once (R91). -/
theorem State.askStore_of_low {s : State} (h : s.supplyLow = true) (group : Nat) (req : Option Req) :
    s.askStore group req = State.set { s with store := { s.store with
      deferred := some { group := group, step := 0, began := s.k, vals := [], strs := [], req := none } } } Obj.STORE_STATUS 2 :=
  if_pos h

theorem exec_storeAll_of_not_low {q : Req} {x : Session} {s : State} (h : s.accepts q x Obj.STORE_ALL 3 (u16 1) = true)
    (hextra : s.storeExtra = {}) (hlow : s.supplyLow = false) :
    exec (.storeAll q) s = .next (State.finish q 4
      ⟨.ok, [], ((s.servedBy q x).slice Obj.STORE_ALL (u16 1)).beginStore 0 (some q), true⟩) := by
  change Host.Outcome.next (s.serveStore q Obj.STORE_ALL 0 (u16 1) 3) = _
  have low : ((s.servedBy q x).slice Obj.STORE_ALL (u16 1)).supplyLow = false := by
    rw [State.slice_supplyLow, State.servedBy_supplyLow, hlow]
  rw [State.serveStore_of_accepts h hextra, State.askStore_of_not_low low, hlow]
  rfl

theorem exec_storeAll_of_low {q : Req} {x : Session} {s : State} (h : s.accepts q x Obj.STORE_ALL 3 (u16 1) = true)
    (hextra : s.storeExtra = {}) (hlow : s.supplyLow = true) :
    exec (.storeAll q) s = .next (State.finish q 4
      ⟨.storeDeferred, [], ((s.servedBy q x).slice Obj.STORE_ALL (u16 1)).askStore 0 (some q), false⟩) := by
  change Host.Outcome.next (s.serveStore q Obj.STORE_ALL 0 (u16 1) 3) = _
  rw [State.serveStore_of_accepts h hextra, if_pos hlow]

theorem exec_storeGroup_of_not_low {q : Req} {x : Session} {g : Nat} {s : State}
    (h : s.accepts q x Obj.STORE_GROUP 2 (u8 g) = true) (hextra : s.storeExtra = {}) (hlow : s.supplyLow = false) :
    exec (.storeGroup q g) s = .next (State.finish q 4
      ⟨.ok, [], ((s.servedBy q x).slice Obj.STORE_GROUP (u8 g)).beginStore g (some q), true⟩) := by
  change Host.Outcome.next (s.serveStore q Obj.STORE_GROUP g (u8 g) 2) = _
  have low : ((s.servedBy q x).slice Obj.STORE_GROUP (u8 g)).supplyLow = false := by
    rw [State.slice_supplyLow, State.servedBy_supplyLow, hlow]
  rw [State.serveStore_of_accepts h hextra, State.askStore_of_not_low low, hlow]
  rfl

theorem exec_storeDeferredBegin_of_recovered {r : StoreRun} {s : State} (hrun : s.running = true)
    (hr : s.store.deferred = some r) (hlow : s.supplyLow = false) (hconf : s.conf Obj.SUPPLY_STATE = 0) :
    exec .storeDeferredBegin s = .next (s.beginStore r.group none) := by
  change execStoreDeferredBegin s = _
  simp only [execStoreDeferredBegin, hr]
  exact if_pos ⟨hrun, hlow, hconf⟩

/-- No store runs where a store command finds nothing to refuse it. -/
theorem State.run_of_storeExtra {s : State} (h : s.storeExtra = {}) : s.store.run = none := by
  have busy := congrArg Extra.busy h
  simp only [State.storeExtra, Bool.or_eq_false_iff] at busy
  exact Option.isNone_iff_eq_none.mp (by simpa using busy.1)

/-- Settles O17: whether the reply comes now or later, then what the store's begin and end send. -/
theorem storeAnswersComeWhenItEnds : Obligations.StoreAnswersComeWhenItEnds := by
  unfold Obligations.StoreAnswersComeWhenItEnds
  refine ⟨fun q x s h hextra => ?command, fun r s hrun hr hlow hconf => ?deferred, fun r bad s hrun hr => ?ended⟩
  case command =>
    cases hlow : s.supplyLow with
    | false =>
      obtain ⟨hsent, -, hreq⟩ := ((s.servedBy q x).slice Obj.STORE_ALL (u16 1)).beginStore_spec 0 (some q)
      obtain ⟨d, hd⟩ := State.finish_of_later q 4
        (r := ⟨.ok, [], ((s.servedBy q x).slice Obj.STORE_ALL (u16 1)).beginStore 0 (some q), true⟩) rfl
      refine ⟨_, exec_storeAll_of_not_low h hextra hlow, fun _ => ⟨?_, ?_⟩, nofun⟩
      · rw [hd]
        exact hsent.trans (State.slice_sent _ _ _)
      · rw [hd]
        exact hreq
    | true =>
      have low : ((s.servedBy q x).slice Obj.STORE_ALL (u16 1)).supplyLow = true := by
        rw [State.slice_supplyLow, State.servedBy_supplyLow, hlow]
      obtain ⟨d, hd⟩ := State.finish_of_now q 4
        (r := ⟨.storeDeferred, [], ((s.servedBy q x).slice Obj.STORE_ALL (u16 1)).askStore 0 (some q), false⟩) rfl
      refine ⟨_, exec_storeAll_of_low h hextra hlow, nofun, fun _ => ?_⟩
      rw [hd, State.askStore_of_low low]
      refine ⟨congrArg (· ++ _) (State.slice_sent _ _ _), ?_, rfl, State.get_set_same _ _ _⟩
      exact (congrArg StoreSt.run (State.slice_store _ _ _)).trans (State.run_of_storeExtra hextra)
  case deferred =>
    obtain ⟨hsent, hdeferred, hreq⟩ := s.beginStore_spec r.group none
    exact ⟨_, exec_storeDeferredBegin_of_recovered hrun hr hlow hconf, hsent, hdeferred, hreq⟩
  case ended =>
    obtain ⟨hstatus, hsent, -⟩ := s.endStore_spec r bad
    obtain ⟨-, values⟩ := (s.endStore r bad).storeAnswer_frame r (storeEndStatus bad)
    refine ⟨_, exec_storeComplete_of_run hrun hr bad, (values _ (by decide)).trans hstatus, fun hnone => ?_, fun q hq => ?_⟩
    · rw [State.storeAnswer_of_none hnone, hsent]
    · rw [← finalAnswer_storeEnd]
      exact s.endStore_answers hq bad

/-- Settles O18: a duplicate is counted where the request executes, and its end answers as many as were counted. -/
theorem duplicatesOfAStoreAreEachAnswered : Obligations.DuplicatesOfAStoreAreEachAnswered := by
  unfold Obligations.DuplicatesOfAStoreAreEachAnswered
  refine ⟨?counted, ?answered⟩
  case counted =>
    intro q x c ix sub ty len b s hserves hfront hversion hdirect hx hc hans
    obtain ⟨tail, form, run, hexec⟩ := exec_sessionRequest ⟨b, .inr (.inr (.inl ⟨ix, sub, ty, len, rfl, rfl⟩))⟩ s
    refine ⟨_, hexec, ?_⟩
    rw [State.serve_of_executing hserves hfront hversion hdirect 4 tail form run hx hc hans]
    refine ⟨rfl, rfl, _, State.findSession_putSession (State.findSession_servedBy hx) ⟨rfl, rfl, rfl⟩, ?_⟩
    have hcount := find?_txn_map (fun d => if d.txn = q.txn then { d with dups := d.dups + 1 } else d)
      (fun d => by split <;> rfl) q.txn x.cache
    have htxn : c.txn = q.txn := by simpa using List.find?_some hc
    rw [hcount, hc, Option.map_some, if_pos htxn]
  case answered =>
    intro q x c r bad s hrun hr hq hx hc
    obtain ⟨-, hsent, hfind⟩ := s.endStore_spec r bad
    refine ⟨_, exec_storeComplete_of_run hrun hr bad, ?_⟩
    rw [State.storeAnswer_of_request hq, State.answerLater_sent_of_some ((hfind q).trans hx), hsent, hc, finalAnswer_storeEnd]
    rfl

theorem State.acceptsSet_storeAll (s : State) (q : Req) (x : Session) :
    s.acceptsSet q x Obj.STORE_ALL 1 = s.accepts q x Obj.STORE_ALL 3 (u16 1) := rfl

theorem State.acceptsSet_storeGroup (s : State) (q : Req) (x : Session) (g : Nat) :
    s.acceptsSet q x Obj.STORE_GROUP g = s.accepts q x Obj.STORE_GROUP 2 (u8 g) := rfl

theorem exec_storeDefaults_of_accepts {q : Req} {x : Session} {s : State} (h : s.acceptsSet q x Obj.STORE_DEFAULTS 1 = true) :
    exec (.storeDefaults q) s = .next (s.wroteSet q x Obj.STORE_DEFAULTS 1 fun s => s.storeDefaults (some q)) :=
  congrArg _ (State.serveSet_of_accepts h rfl _ _)

theorem State.supplyLow_of_recovered {s : State} (h : s.get Obj.SUPPLY_STATE = 0) : s.supplyLow = false := by
  rw [State.supplyLow, h]
  rfl

/-- Settles O31: one row lemma for each clause. -/
theorem storeRowsTakeEffect : Obligations.StoreRowsTakeEffect := by
  unfold Obligations.StoreRowsTakeEffect
  refine ⟨?all, ?allDeferred, ?group, ?defaults, ?completed, ?failed, ?deferredBegin⟩
  case all => exact fun _ _ _ h hextra hlow => exec_storeAll_of_not_low h hextra hlow
  case allDeferred => exact fun _ _ _ h hextra hlow => exec_storeAll_of_low h hextra hlow
  case group => exact fun _ _ _ _ h hextra hlow => exec_storeGroup_of_not_low h hextra hlow
  case defaults => exact fun _ _ _ h => exec_storeDefaults_of_accepts h
  case completed => exact fun _ _ hrun hr => exec_storeComplete_of_run hrun hr none
  case failed =>
    intro r i s hrun hr hactive
    rw [exec_storeComplete_of_run hrun hr (some i), State.endStore, State.failStore_of_not_standby hactive]
    rfl
  case deferredBegin =>
    exact fun _ _ hrun hr hget hconf => exec_storeDeferredBegin_of_recovered hrun hr (State.supplyLow_of_recovered hget) hconf

end Sys2Proof.Machine
end

section
/-! READ and WRITE over every object: what each answers, and what a refused one leaves as it was (R75, R80, R103–R105, R114). -/

namespace Sys2Proof.Machine

theorem State.forwarded_of_admits {s : State} {q : Req} {x : Session} (h : s.admits q x = true) : q.forwarded = none := by
  simp only [State.admits, Bool.and_eq_true, Option.isNone_iff_eq_none] at h
  obtain ⟨⟨⟨⟨⟨⟨_, direct⟩, _⟩, _⟩, _⟩, _⟩, _⟩ := h
  exact direct

/-! A reply that leaves the serving state as it was -/

/-- An admitted request that is answered on the state that serves it changes the dictionary server and what was sent. -/
theorem State.finish_servedBy (s : State) (q : Req) (x : Session) (svc : Nat) (st : Status) (b : Bytes) :
    ∃ d, State.finish q svc ⟨st, b, s.servedBy q x, false⟩ =
      { s with dict := d, sent := s.sent ++ [.mdp q.transport q.source q.target (svc + 128) q.session q.txn st.code b] } :=
  State.finish_of_now q svc (r := ⟨st, b, s.servedBy q x, false⟩) rfl

/-! WRITE -/

theorem State.serveWrite_of_refused {s : State} {q : Req} {x : Session} {key ty : Nat} {b : Bytes} {st : Status}
    {extra : State → Extra} (h : s.admits q x = true)
    (hst : (s.servedBy q x).writeStatus x.level key ty b (extra (s.servedBy q x)) = st) (hbad : st ≠ .ok) (eff : State → State)
    (ref : State → Status → State) : s.serveWrite q key ty b extra eff ref =
      State.finish q 4 ⟨st, [], ref (s.servedBy q x) st, false⟩ := by
  rw [State.serveWrite, State.serve_of_admits h, State.forwarded_of_admits h]
  simp only [Option.isSome_none, Bool.false_and, Bool.false_eq_true, if_false, hst]

theorem State.serveStore_of_refused {s : State} {q : Req} {x : Session} {key ty : Nat} {b : Bytes} {st : Status}
    (h : s.admits q x = true) (hst : (s.servedBy q x).writeStatus x.level key ty b (s.servedBy q x).storeExtra = st)
    (hbad : st ≠ .ok) (group : Nat) : s.serveStore q key group b ty = State.finish q 4 ⟨st, [], s.servedBy q x, false⟩ := by
  rw [State.serveStore, State.serve_of_admits h, State.forwarded_of_admits h]
  simp only [Option.isSome_none, Bool.false_eq_true, if_false, hst]

/-- A WRITE whose object the application has not registered is served as a write of the dictionary (R104). -/
theorem exec_write_of_plain {ix sub : Nat} {s : State} (hsub : sub < 256) (hoem : s.oemIndex ix = false)
    (hall : ix * 256 + sub ≠ Obj.STORE_ALL) (hgroup : ix * 256 + sub ≠ Obj.STORE_GROUP)
    (hdefaults : ix * 256 + sub ≠ Obj.STORE_DEFAULTS) (q : Req) (ty : Nat) (b : Bytes) :
    exec (.write q ix sub ty b.length b) s = .next (s.serveWrite q (ix * 256 + sub) ty b
      (fun s => s.writeExtra (ix * 256 + sub) b) (fun s => s.applyWrite (some q) (ix * 256 + sub) b)
      fun s st => s.writeRefused (ix * 256 + sub) b st) := by
  change execWrite q ix sub ty b.length b s = _
  unfold execWrite
  dsimp only
  rw [if_neg (by simpa using hsub), hoem, if_neg Bool.false_ne_true, if_neg hall, if_neg hgroup, if_neg hdefaults]

/-- No more than the answer comes of a refusal that no chapter counts or explains. -/
theorem State.writeRefused_of_unexplained {s : State} {st : Status} (hrange : st ≠ .range) (hstate : st = .state → s.standby = true)
    (key : Nat) (b : Bytes) : s.writeRefused key b st = s := by
  have unexplained : st ≠ .state ∨ s.standby = true := not_or_of_imp hstate
  rw [State.writeRefused, if_neg hrange, if_pos unexplained, ite_self]

/-- A WRITE that one of the checks before the held state refuses, whatever the chapter adds to them. -/
theorem exec_write_of_refused {q : Req} {x : Session} {ix sub ty : Nat} {b : Bytes} {st : Status} {s : State}
    (h : s.admits q x = true) (hsub : sub < 256) (hoem : s.oemIndex ix = false)
    (hst : ∀ e : Extra, (e.range = true ∨ e = (s.servedBy q x).writeExtra (ix * 256 + sub) b) →
      (s.servedBy q x).writeStatus x.level (ix * 256 + sub) ty b e = st)
    (hok : st ≠ .ok) (hrange : st ≠ .range) (hstate : st = .state → s.standby = true) :
    exec (.write q ix sub ty b.length b) s = .next (State.finish q 4 ⟨st, [], s.servedBy q x, false⟩) := by
  change execWrite q ix sub ty b.length b s = _
  unfold execWrite
  dsimp only
  rw [if_neg (by simpa using hsub), hoem, if_neg Bool.false_ne_true]
  have store := hst (s.servedBy q x).storeExtra (.inl rfl)
  split
  next => rw [State.serveStore_of_refused h store hok]
  split
  next => rw [State.serveStore_of_refused h store hok]
  split
  next => rw [State.serveWrite_of_refused h (hst {} (.inl rfl)) hok]
  next =>
    rw [State.serveWrite_of_refused h (hst _ (.inr rfl)) hok,
      State.writeRefused_of_unexplained (s := s.servedBy q x) hrange hstate]

/-- The same, as the statements of refusals put it: the answer is sent and only the dictionary server differs. -/
theorem exec_write_frame_of_refused {q : Req} {x : Session} {ix sub ty : Nat} {b : Bytes} {st : Status} {s : State}
    (h : s.admits q x = true) (hsub : sub < 256) (hoem : s.oemIndex ix = false)
    (hst : ∀ e : Extra, (e.range = true ∨ e = (s.servedBy q x).writeExtra (ix * 256 + sub) b) →
      (s.servedBy q x).writeStatus x.level (ix * 256 + sub) ty b e = st)
    (hok : st ≠ .ok) (hrange : st ≠ .range) (hstate : st = .state → s.standby = true) :
    ∃ t, exec (.write q ix sub ty b.length b) s = .next t ∧
      t.sent = s.sent ++ [.mdp q.transport q.source q.target 132 q.session q.txn st.code []] ∧
      t = { s with dict := t.dict, sent := t.sent } := by
  obtain ⟨d, hd⟩ := s.finish_servedBy q x 4 st []
  refine ⟨_, exec_write_of_refused h hsub hoem hst hok hrange hstate, ?_⟩
  rw [hd]
  exact ⟨rfl, rfl⟩

/-! The checks of a write in their order (R105) -/

@[simp] theorem State.servedBy_presentRow (s : State) (q : Req) (x : Session) (key : Nat) :
    (s.servedBy q x).presentRow key = s.presentRow key := rfl

theorem State.servedBy_asSlot (s : State) (q : Req) (x : Session) (link : Nat → Nat) (fuel a : Nat) :
    (s.servedBy q x).asSlot link fuel a = s.asSlot link fuel a := by
  induction fuel generalizing a with
  | zero => rfl
  | succ fuel ih => simp only [State.asSlot, ih, State.servedBy_get]

/-- A domain is asked of the storage that an object shares, which the chain of the slots gives (R189). -/
theorem State.servedBy_domainOff (s : State) (q : Req) (x : Session) (key : Nat) :
    (s.servedBy q x).domainOff key = s.domainOff key := by
  refine congrArg (fun home => match objDomain home with | some d => !s.domOn d | none => false) ?_
  change @ite Nat _ _ _ _ = @ite Nat _ _ _ _
  simp only [State.servedBy_asSlot]

theorem State.servedBy_readOff (s : State) (q : Req) (x : Session) (r : ObjRow) (key : Nat) :
    (s.servedBy q x).readOff r key = s.readOff r key := by
  unfold State.readOff
  rw [State.servedBy_domainOff]
  rfl

section
variable {s : State} {key lvl ty : Nat} {b : Bytes} {r : ObjRow}

theorem State.writeStatus_of_absent (h : s.presentRow key = none) (e : Extra) :
    s.writeStatus lvl key ty b e = .noObject := by rw [State.writeStatus, h]

theorem State.writeStatus_of_readOnly (h : s.presentRow key = some r) (hro : r.acc = .ro) (e : Extra) :
    s.writeStatus lvl key ty b e = .access := by rw [State.writeStatus, h]; exact if_pos hro

theorem State.writeStatus_of_below (h : s.presentRow key = some r) (hrw : r.acc ≠ .ro) (hlvl : lvl < r.lvl) (e : Extra) :
    s.writeStatus lvl key ty b e = .level := by
  rw [State.writeStatus, h]
  dsimp only
  rw [if_neg hrw, if_pos hlvl]

theorem State.writeStatus_of_standby (h : s.presentRow key = some r) (hrw : r.acc ≠ .ro) (hlvl : r.lvl ≤ lvl)
    (hlen : r.ty.lengthOk b.length = true) (hval : r.ty.valueOk b = true) (hchk : r.chk.ok r.ty b = true)
    (hstandby : s.standby = true) (hlocal : moduleLocal key = false) {e : Extra} (he : e.range = true) :
    s.writeStatus lvl key r.ty.code b e = .state := by
  have sizeOk : r.chk.lengthOk b.length = true := by
    cases hc : r.chk with
    | block n => simpa [hc, Chk.ok, Chk.lengthOk] using hchk
    | _ => rfl
  rw [State.writeStatus, h]
  simp [hrw, hlvl, hlen, sizeOk, hval, hchk, he, hstandby, hlocal]

end

/-- Settles O11: the three checks come before all that the chapters add. -/
theorem refusedWritesChangeNoObject : Obligations.RefusedWritesChangeNoObject := by
  unfold Obligations.RefusedWritesChangeNoObject
  rintro q x ix sub ty b st s h hsub hoem (⟨habsent, rfl⟩ | ⟨r, hr, ⟨hro, rfl⟩ | ⟨hrw, hlvl, rfl⟩⟩)
  case inl =>
    exact exec_write_frame_of_refused h hsub hoem
      (fun e _ => State.writeStatus_of_absent ((s.servedBy_presentRow q x _).trans habsent) e) nofun nofun nofun
  case inr.inl =>
    exact exec_write_frame_of_refused h hsub hoem
      (fun e _ => State.writeStatus_of_readOnly ((s.servedBy_presentRow q x _).trans hr) hro e) nofun nofun nofun
  case inr.inr =>
    exact exec_write_frame_of_refused h hsub hoem
      (fun e _ => State.writeStatus_of_below ((s.servedBy_presentRow q x _).trans hr) hrw hlvl e) nofun nofun nofun

/-- Settles O12: with the form, the level and the value right, the role of the module decides. -/
theorem standbysRefuseWritesOfTheNode : Obligations.StandbysRefuseWritesOfTheNode := by
  unfold Obligations.StandbysRefuseWritesOfTheNode
  intro q x ix sub b r s h hsub hstandby hlocal hr hrw hlvl hlen hval hchk hoem hextra
  refine exec_write_frame_of_refused h hsub hoem (fun e he => ?_) nofun nofun fun _ => hstandby
  exact State.writeStatus_of_standby ((s.servedBy_presentRow q x _).trans hr) hrw hlvl hlen hval hchk
    ((s.servedBy_standby q x).trans hstandby) hlocal (he.elim id fun he => he ▸ hextra)

/-! An accepted WRITE -/

theorem exec_write_of_accepts {q : Req} {x : Session} {ix sub ty : Nat} {b : Bytes} {s : State}
    (h : s.accepts q x (ix * 256 + sub) ty b = true) (hsub : sub < 256) (hoem : s.oemIndex ix = false)
    (hall : ix * 256 + sub ≠ Obj.STORE_ALL) (hgroup : ix * 256 + sub ≠ Obj.STORE_GROUP)
    (hdefaults : ix * 256 + sub ≠ Obj.STORE_DEFAULTS) (hextra : (s.servedBy q x).writeExtra (ix * 256 + sub) b = {}) :
    exec (.write q ix sub ty b.length b) s =
      .next (s.wrote q x (ix * 256 + sub) b fun s => s.applyWrite (some q) (ix * 256 + sub) b) := by
  rw [exec_write_of_plain hsub hoem hall hgroup hdefaults, State.serveWrite_of_accepts h hextra]

theorem State.applyWrite_of_plain {s : State} {q : Option Req} {key : Nat} {b : Bytes} (hmode : isMode key = false)
    (hblob : isBlob key = false) (hchapter : s.chapterWrite q key b = none) : s.applyWrite q key b = s.set key (ofLe b) := by
  simp only [State.applyWrite, hmode, hchapter, hblob, Bool.false_eq_true, if_false]

/-- The slice of the mirror is all that a served write touches before its effect. -/
theorem State.slice_changes_pair (s : State) (key : Nat) (b : Bytes) : ∃ n l,
    s.slice key b = { s with pair := { s.pair with slice := n, writes := l } } := by
  unfold State.slice
  split
  · exact ⟨_, _, rfl⟩
  · exact ⟨s.pair.slice, s.pair.writes, rfl⟩

/-- Settles O13: where no chapter has an effect of its own, the value is held and no more. -/
theorem writtenValuesHold : Obligations.WrittenValuesHold := by
  unfold Obligations.WrittenValuesHold
  intro q x ix sub ty b s h hsub hoem hall hgroup hdefaults hmode hblob hextra hchapter
  refine ⟨_, exec_write_of_accepts h hsub hoem hall hgroup hdefaults hextra, ?_⟩
  rw [State.wrote, State.applyWrite_of_plain hmode hblob hchapter]
  obtain ⟨n, l, hslice⟩ := (s.servedBy q x).slice_changes_pair (ix * 256 + sub) b
  obtain ⟨d, hd⟩ := State.finish_of_now q 4
    (r := ⟨.ok, [], ((s.servedBy q x).slice (ix * 256 + sub) b).set (ix * 256 + sub) (ofLe b), false⟩) rfl
  rw [hd, hslice]
  exact ⟨State.get_set_same _ _ _, fun key hkey => State.get_set_of_ne _ _ hkey, rfl, rfl⟩

/-! READ -/

/-- What a READ of an object of the dictionary answers (R103–R105). -/
def State.readAnswer (s : State) (q : Req) (index sub offset maxLen : Nat) : Reply :=
  let key := index * 256 + sub
  match (if sub < 256 then s.presentRow key else none) with
  | none => ⟨.noObject, [], s, false⟩
  | some r =>
    if r.acc = .wo ∨ r.acc = .cmd then ⟨.access, [], s, false⟩
    else
      let blob := r.ty == .str || r.ty == .block
      let data := if blob then s.readBlob key else some (leBytes r.ty.size (s.readNum q key))
      let b := data.getD []
      if (blob = false ∧ offset ≠ 0) ∨ (data.isSome ∧ b.length < offset) then ⟨.range, [], s, false⟩
      else if s.readOff r key then ⟨.domainOff, [], s, false⟩
      else if data.isNone then ⟨.state, [], s, false⟩
      else ⟨.ok, readReply r.ty.code b.length ((b.drop offset).take (min maxLen 1256)), s, false⟩

theorem exec_read_of_plain {ix sub : Nat} {s : State} (hoem : s.oemIndex ix = false) (hwindow : ix * 256 + sub ≠ Obj.REC_WINDOW)
    (q : Req) (offset maxLen : Nat) : exec (.read q ix sub offset maxLen) s =
      .next (s.serve q 3 (readTail ix sub offset maxLen) true fun s _ => s.readAnswer q ix sub offset maxLen) := by
  change execRead q ix sub offset maxLen s = _
  unfold execRead
  dsimp only
  rw [if_neg fun h => hwindow h.1, hoem, if_neg fun h => Bool.false_ne_true h.1]
  rfl

theorem State.readAnswer_s (s : State) (q : Req) (ix sub offset maxLen : Nat) : (s.readAnswer q ix sub offset maxLen).s = s := by
  unfold State.readAnswer
  dsimp only
  split
  next => rfl
  next => (repeat' split) <;> rfl

section
variable {s : State} {ix sub : Nat} (hsub : sub < 256) (q : Req) (offset maxLen : Nat)
include hsub

theorem State.readAnswer_of_absent (h : s.presentRow (ix * 256 + sub) = none) :
    s.readAnswer q ix sub offset maxLen = ⟨.noObject, [], s, false⟩ := by
  simp only [State.readAnswer, if_pos hsub, h]

theorem State.readAnswer_of_number {r : ObjRow} (h : s.presentRow (ix * 256 + sub) = some r) (hwo : r.acc ≠ .wo)
    (hcmd : r.acc ≠ .cmd) (hstr : r.ty ≠ .str) (hblock : r.ty ≠ .block) (hon : s.readOff r (ix * 256 + sub) = false) :
    s.readAnswer q ix sub 0 maxLen = ⟨.ok, readReply r.ty.code r.ty.size
      ((leBytes r.ty.size (s.readNum q (ix * 256 + sub))).take (min maxLen 1256)), s, false⟩ := by
  simp [State.readAnswer, hsub, h, hwo, hcmd, hstr, hblock, hon, leBytes_length]

theorem State.readAnswer_of_blob {r : ObjRow} {b : Bytes} (h : s.presentRow (ix * 256 + sub) = some r) (hwo : r.acc ≠ .wo)
    (hcmd : r.acc ≠ .cmd) (hty : r.ty = .str ∨ r.ty = .block) (hon : s.readOff r (ix * 256 + sub) = false)
    (hb : s.readBlob (ix * 256 + sub) = some b) (hoff : offset ≤ b.length) :
    s.readAnswer q ix sub offset maxLen = ⟨.ok, readReply r.ty.code b.length
      ((b.drop offset).take (min maxLen 1256)), s, false⟩ := by
  have blob : (r.ty == .str || r.ty == .block) = true := by simpa using hty
  simp [State.readAnswer, hsub, h, hwo, hcmd, blob, hon, hb, Nat.not_lt.mpr hoff]

end

/-- Settles O30: one equation of the body for each clause, and the accepted write. -/
theorem readAndWriteRowsTakeEffect : Obligations.ReadAndWriteRowsTakeEffect := by
  unfold Obligations.ReadAndWriteRowsTakeEffect
  refine ⟨?number, ?blob, ?write⟩
  case number =>
    intro q x ix sub maxLen r s h hsub hwindow hoem hr hwo hcmd hstr hblock hon
    rw [exec_read_of_plain hoem hwindow, State.serve_of_admits h, State.readAnswer_of_number hsub q maxLen
      ((s.servedBy_presentRow q x _).trans hr) hwo hcmd hstr hblock ((s.servedBy_readOff q x r _).trans hon)]
  case blob =>
    intro q x ix sub offset maxLen b r s h hsub hwindow hoem hr hwo hcmd hty hon hb hoff
    rw [exec_read_of_plain hoem hwindow, State.serve_of_admits h, State.readAnswer_of_blob hsub q offset maxLen
      ((s.servedBy_presentRow q x _).trans hr) hwo hcmd hty ((s.servedBy_readOff q x r _).trans hon) hb hoff]
  case write =>
    exact fun _ _ _ _ _ _ _ h hsub hoem hall hgroup hdefaults hextra =>
      exec_write_of_accepts h hsub hoem hall hgroup hdefaults hextra

/-! The indexes of the application (R80) -/

theorem tableOf_oem {ix : Nat} (h : 0xC000 ≤ ix) : tableOf ix = none := by
  unfold tableOf
  repeat rw [if_neg (by omega)]

/-- The dictionary of the module itself has no object at an index that the application may register. -/
theorem State.presentRow_oem (s : State) {ix sub : Nat} (h : 0xC000 ≤ ix) (hsub : sub < 256) :
    s.presentRow (ix * 256 + sub) = none := by
  have index : (ix * 256 + sub) / 256 = ix := by omega
  rw [State.presentRow, index, if_neg (by omega), present, index, rowOf, index, tableOf_oem h]
  simp

theorem State.oemIndex_iff {s : State} {ix : Nat} (hlo : 0xC000 ≤ ix) (hhi : ix ≤ 0xEFFF) :
    s.oemIndex ix = true ↔ ix ∈ s.dict.oem := by
  simp [State.oemIndex, hlo, hhi]

/-- Settles O22: a registered index goes to the application before the dictionary is looked at, which has none there. -/
theorem registeredObjectsAreTheApplications : Obligations.RegisteredObjectsAreTheApplications := by
  unfold Obligations.RegisteredObjectsAreTheApplications
  intro q x ix sub s h hsub hlo hhi
  have window : ix * 256 + sub ≠ Obj.REC_WINDOW := by
    unfold Obj.REC_WINDOW
    omega
  have absent : s.presentRow (ix * 256 + sub) = none := s.presentRow_oem hlo hsub
  refine ⟨fun hreg => ?registered, fun hunreg => ?unregistered⟩
  case registered =>
    have oem : s.oemIndex ix = true := (State.oemIndex_iff hlo hhi).mpr hreg
    refine ⟨fun off len => ?_, fun ty b => ?_⟩
    · change execRead q ix sub off len s = _
      unfold execRead
      dsimp only
      rw [if_neg fun h => window h.1, if_pos ⟨oem, hsub⟩, State.serve_of_admits h, State.oemReply]
      rfl
    · change execWrite q ix sub ty b.length b s = _
      unfold execWrite
      dsimp only
      rw [if_neg (by simpa using hsub), if_pos oem, State.serve_of_admits h, State.oemReply, State.forwarded_of_admits h]
      cases hstandby : s.standby <;> simp [hstandby]
  case unregistered =>
    have oem : s.oemIndex ix = false := by
      rw [← Bool.not_eq_true, State.oemIndex_iff hlo hhi]
      exact hunreg
    refine ⟨fun off len => ?_, fun ty b => ?_⟩
    · rw [exec_read_of_plain oem window, State.serve_of_admits h,
        State.readAnswer_of_absent hsub q off len ((s.servedBy_presentRow q x _).trans absent)]
    · exact exec_write_of_refused h hsub oem
        (fun e _ => State.writeStatus_of_absent ((s.servedBy_presentRow q x _).trans absent) e) nofun nofun nofun

/-! What READ, KEEPALIVE and CLOSE leave as it was (R103) -/

/-- No object but the counters of the dictionary server changed, and nothing outside the dictionary server. -/
def State.onlyRead (s t : State) : Prop :=
  (∀ key, key ≠ Obj.MDP_CACHED → key ≠ Obj.MDP_STALE → t.get key = s.get key) ∧ s.onlyServed t

theorem State.onlyRead_trans {s t u : State} (hst : s.onlyRead t) (htu : t.onlyRead u) : s.onlyRead u := by
  obtain ⟨getT, frameT⟩ := hst
  obtain ⟨getU, frameU⟩ := htu
  refine ⟨fun key hc hs => (getU key hc hs).trans (getT key hc hs), ?_⟩
  unfold State.onlyServed at frameT frameU ⊢
  rw [frameU, frameT]

theorem keptByServing_onlyRead : KeptByServing State.onlyRead where
  refl _ := ⟨fun _ _ _ => rfl, rfl⟩
  trans := State.onlyRead_trans
  takeUp _ := ⟨fun _ _ _ => rfl, rfl⟩
  send _ _ := ⟨fun _ _ _ => rfl, rfl⟩
  putSession _ _ := ⟨fun _ _ _ => rfl, rfl⟩
  cached _ := ⟨fun _ hc _ => State.get_count_of_ne _ _ hc, rfl⟩
  stale _ := ⟨fun _ _ hs => State.get_count_of_ne _ _ hs, rfl⟩

/-- A READ, a KEEPALIVE or a CLOSE is served, and its body changes the dictionary server alone. -/
theorem exec_readRequest {q : Req} {i : Instr}
    (hi : ∃ b : Bytes, i = .close_ q b ∨ i = .keepalive q b ∨ ∃ ix sub off len, i = .read q ix sub off len) (s : State) :
    ∃ svc tail form body, (∀ (t : State) (lvl : Nat), ∃ d, (body t lvl : Reply).s = { t with dict := d }) ∧
      exec i s = .next (s.serve q svc tail form body) := by
  obtain ⟨b, rfl | rfl | ⟨ix, sub, off, len, rfl⟩⟩ := hi
  case inl =>
    refine ⟨_, _, _, _, fun t lvl => ?_, rfl⟩
    dsimp only
    split
    next => exact ⟨_, rfl⟩
    next => exact ⟨t.dict, rfl⟩
  case inr.inl => exact ⟨_, _, _, _, fun t _ => ⟨t.dict, rfl⟩, rfl⟩
  case inr.inr =>
    by_cases hwindow : ix * 256 + sub = Obj.REC_WINDOW ∧ sub < 256
    · refine ⟨_, _, _, _, fun t _ => ⟨t.dict, ?_⟩, if_pos hwindow⟩
      dsimp only
      split <;> rfl
    by_cases hoem : s.oemIndex ix = true ∧ sub < 256
    · refine ⟨_, _, _, _, fun t _ => ⟨t.dict, ?_⟩, (if_neg hwindow).trans (if_pos hoem)⟩
      unfold State.oemReply
      split <;> rfl
    exact ⟨_, _, _, fun t _ => t.readAnswer q ix sub off len, fun t _ => ⟨t.dict, t.readAnswer_s q ix sub off len⟩,
      (if_neg hwindow).trans (if_neg hoem)⟩

/-- Settles O21: every part of serving keeps it, and the bodies of the three change the dictionary server alone. -/
theorem readsChangeNoObject : Obligations.ReadsChangeNoObject := by
  unfold Obligations.ReadsChangeNoObject
  intro q i s t hi hexec
  obtain ⟨svc, tail, form, body, hbody, hserve⟩ := exec_readRequest hi s
  obtain rfl : s.serve q svc tail form body = t := Host.Outcome.next.inj (hserve.symm.trans hexec)
  refine keptByServing_onlyRead.serve (fun u lvl => ?_) s q svc tail form
  obtain ⟨d, hd⟩ := hbody u lvl
  rw [hd]
  exact ⟨fun _ _ _ => rfl, rfl⟩

end Sys2Proof.Machine
end

section
/-! Messages and their transports (R101, R102, R110–R114). -/

namespace Sys2Proof.Machine

/-! The layout of a message (R101) -/

/-- A field that stands where it was laid out reads back. -/
theorem field_leBytes (a c : Bytes) (n v : Nat) : field (a ++ leBytes n v ++ c) a.length n = v % 256 ^ n := by
  have cut : ((a ++ leBytes n v ++ c).drop a.length).take n = leBytes n v := by
    rw [List.append_assoc, List.drop_left]
    exact List.take_left' (leBytes_length n v)
  rw [field, cut, ofLe_leBytes]

theorem crc32c_lt (b : Bytes) : crc32c b < 256 ^ 4 := (BitVec.isLt _).trans_eq (by norm_num)

/-- The bytes of a request that its check code covers: the header of Table 13 and the payload. -/
def messageHead (q : Req) (svc : Nat) (tail : Bytes) : Bytes :=
  u8 (q.version + 16 * q.target) ++ u8 svc ++ u16 q.session ++ u16 q.txn ++ u16 tail.length ++ tail

theorem reqMessage_bytes (q : Req) (svc : Nat) (tail : Bytes) :
    (reqMessage q svc tail).bytes = messageHead q svc tail ++ u32 (crc32c (messageHead q svc tail)) := rfl

theorem messageHead_length (q : Req) (svc : Nat) (tail : Bytes) : (messageHead q svc tail).length = 8 + tail.length := by
  simp [messageHead, u8, u16, leBytes_length]
  omega

theorem reqMessage_length (q : Req) (svc : Nat) (tail : Bytes) : (reqMessage q svc tail).bytes.length = 12 + tail.length := by
  rw [reqMessage_bytes, List.length_append, messageHead_length, u32, leBytes_length]
  omega

theorem reqMessage_crc (q : Req) (svc : Nat) (tail : Bytes) :
    field (reqMessage q svc tail).bytes ((reqMessage q svc tail).bytes.length - 4) 4 =
      crc32c ((reqMessage q svc tail).bytes.take ((reqMessage q svc tail).bytes.length - 4)) := by
  have before : (reqMessage q svc tail).bytes.length - 4 = (messageHead q svc tail).length := by
    rw [reqMessage_length, messageHead_length]
    omega
  have last := field_leBytes (messageHead q svc tail) [] 4 (crc32c (messageHead q svc tail))
  rw [List.append_nil, Nat.mod_eq_of_lt (crc32c_lt _)] at last
  rw [before, reqMessage_bytes, List.take_left]
  exact last

section
variable (q : Req) (svc : Nat) (tail : Bytes)

theorem reqMessage_first : field (reqMessage q svc tail).bytes 0 1 = (q.version + 16 * q.target) % 256 := by
  simp [reqMessage_bytes, messageHead, field, u8, leBytes, ofLe]

theorem reqMessage_service : field (reqMessage q svc tail).bytes 1 1 = svc % 256 := by
  simp [reqMessage_bytes, messageHead, field, u8, leBytes, ofLe]

theorem reqMessage_session : field (reqMessage q svc tail).bytes 2 2 = q.session % 65536 := by
  simp [reqMessage_bytes, messageHead, field, u8, u16, leBytes, ofLe]
  omega

theorem reqMessage_txn : field (reqMessage q svc tail).bytes 4 2 = q.txn % 65536 := by
  simp [reqMessage_bytes, messageHead, field, u8, u16, leBytes, ofLe]
  omega

theorem reqMessage_tailLength : field (reqMessage q svc tail).bytes 6 2 = tail.length % 65536 := by
  simp [reqMessage_bytes, messageHead, field, u8, u16, leBytes, ofLe]
  omega

theorem reqMessage_tail : ((reqMessage q svc tail).bytes.drop 8).take tail.length = tail := by
  simp [reqMessage_bytes, messageHead, u8, u16, leBytes]

end

/-- The header of a request within its widths reads back as the request (R101). -/
theorem reqOf_reqMessage {q : Req} (hversion : q.version < 16) (htarget : q.target < 3) (hsession : q.session < 65536)
    (htxn : q.txn < 65536) (hdirect : q.forwarded = none) (hpartner : q.partner = none) (hoem : q.oem = (0, []))
    (svc : Nat) (tail : Bytes) : reqOf (reqMessage q svc tail) = q := by
  obtain ⟨transport, source, version, target, session, txn, forwarded, partner, oem⟩ := q
  dsimp only at hversion htarget hsession htxn hdirect hpartner hoem
  subst hdirect hpartner hoem
  rw [reqOf, reqMessage_first, reqMessage_session, reqMessage_txn]
  congr 1 <;> dsimp only <;> omega

/-- A request within its widths passes the checks of arrival (R102). -/
theorem mdpOk_reqMessage {q : Req} {svc : Nat} {tail : Bytes} (hversion : q.version < 16) (htarget : q.target < 3)
    (hsvc : svc < 128) (htail : tail.length ≤ 1264) : mdpOk (reqMessage q svc tail).bytes = true := by
  have first : field (reqMessage q svc tail).bytes 0 1 = q.version + 16 * q.target := by
    rw [reqMessage_first]
    omega
  have target : bits (q.version + 16 * q.target) 5 4 = q.target := by
    rw [bits, Nat.shiftRight_eq_div_pow]
    omega
  have service : field (reqMessage q svc tail).bytes 1 1 = svc := by
    rw [reqMessage_service]
    omega
  have length : field (reqMessage q svc tail).bytes 6 2 = tail.length := by
    rw [reqMessage_tailLength]
    omega
  rw [mdpOk, reqMessage_crc, first, target, service, length, reqMessage_length]
  simp
  omega

/-! The arrival of a message (R102) -/

theorem State.mdpArrive_of_room {s : State} {m : MdpMsg} (hok : mdpOk m.bytes = true) (hroom : s.dict.queue.length < 64) :
    s.mdpArrive m = { s with dict := { s.dict with queue := s.dict.queue ++ [m] } } := by
  simp [State.mdpArrive, hok, hroom]

theorem State.mdpArrive_of_bad {s : State} {m : MdpMsg} (h : mdpOk m.bytes = false ∨ 64 ≤ s.dict.queue.length) :
    s.mdpArrive m = s.count Obj.MDP_RX_BAD 1 := by
  rcases h with bad | full
  · simp [State.mdpArrive, bad]
  · simp [State.mdpArrive, Nat.not_lt.mpr full]

theorem exec_mdpMessageRx_of_receives {m : MdpMsg} {s : State} (h : s.receives m.transport = true) :
    exec (.mdpMessageRx m) s = .next (s.mdpArrive m) := if_pos h

/-- Settles O6: every field of the layout reads back, and so the checks of arrival pass. -/
theorem requestMessagesArriveWhole : Obligations.RequestMessagesArriveWhole := by
  unfold Obligations.RequestMessagesArriveWhole
  intro q svc tail s hversion htarget hsvc hsession htxn hdirect hpartner hoem htail hreceives hroom
  refine ⟨reqMessage_length q svc tail, reqOf_reqMessage hversion htarget hsession htxn hdirect hpartner hoem svc tail,
    ?_, ?_, reqMessage_tail q svc tail, ?_⟩
  · rw [reqMessage_service]
    omega
  · rw [reqMessage_tailLength]
    omega
  · rw [exec_mdpMessageRx_of_receives hreceives,
      State.mdpArrive_of_room (mdpOk_reqMessage hversion htarget hsvc htail) hroom]

/-! Segments on CAN (R110, R111) -/

/-- The next segment of the message of a client that waits for it. -/
def State.takeSegment (s : State) (c : Nat) (r : Reasm) (data : Bytes) : State :=
  let seg := field data 0 1
  if bits seg 5 0 ≠ r.next ∨ 20 < r.next ∨ (bit seg 6 = false ∧ data.length ≠ 64) then
    (s.dropReasm c).count Obj.MDP_RX_BAD 1
  else if bit seg 6 then s.reassembled c (r.bytes ++ data.drop 1)
  else
    let t := s.dropReasm c
    { t with dict := { t.dict with reasm := t.dict.reasm ++ [⟨c, r.next + 1, r.bytes ++ data.drop 1, t.k⟩] } }

section
variable {ctrl : Fin 8} {ident : Nat} {data : Bytes} {s : State} (hreceives : s.receives 0 = true)
  (hctrl : ctrl.val = s.dict.can) (hbase : bits ident 28 13 = bits s.dict.base 28 13)
  (hnode : bits ident 12 6 = s.dict.node) (hrequest : bit ident 5 = false)
include hreceives hctrl hbase hnode hrequest

theorem exec_mdpSegmentRx_of_classical :
    exec (.mdpSegmentRx ctrl ident false data) s = .next (s.count Obj.MDP_RX_BAD 1) := by
  change execMdpSegmentRx ctrl ident false data s = _
  simp [execMdpSegmentRx, hreceives, hctrl, hbase, hnode, hrequest]

theorem exec_mdpSegmentRx_of_first (hfirst : bit (field data 0 1) 7 = true) :
    exec (.mdpSegmentRx ctrl ident true data) s =
      .next ((s.discardReasm (bits ident 4 0)).takeSegment (bits ident 4 0) ⟨bits ident 4 0, 0, [], s.k⟩ data) := by
  change execMdpSegmentRx ctrl ident true data s = _
  simp only [execMdpSegmentRx, hreceives, hctrl, hbase, hnode, hrequest, hfirst, State.takeSegment]
  simp only [Bool.true_eq_false, Bool.false_eq_true, ne_eq, not_true_eq_false, or_self, if_false, if_true]
  (repeat' split) <;> rfl

theorem exec_mdpSegmentRx_of_next (hfirst : bit (field data 0 1) 7 = false) {r : Reasm}
    (hr : (s.dict.reasm.find? fun r => r.client == bits ident 4 0) = some r) :
    exec (.mdpSegmentRx ctrl ident true data) s = .next (s.takeSegment (bits ident 4 0) r data) := by
  change execMdpSegmentRx ctrl ident true data s = _
  simp only [execMdpSegmentRx, hreceives, hctrl, hbase, hnode, hrequest, hfirst, State.takeSegment]
  simp only [Bool.true_eq_false, Bool.false_eq_true, ne_eq, not_true_eq_false, or_self, if_false, hr]
  (repeat' split) <;> rfl

end

section
variable {s : State} {c : Nat} {r : Reasm} {data : Bytes}

theorem State.takeSegment_of_wrong (h : bits (field data 0 1) 5 0 ≠ r.next) :
    s.takeSegment c r data = (s.dropReasm c).count Obj.MDP_RX_BAD 1 := if_pos (.inl h)

theorem State.takeSegment_of_last (hnum : bits (field data 0 1) 5 0 = r.next) (hr : r.next ≤ 20)
    (hlast : bit (field data 0 1) 6 = true) : s.takeSegment c r data = s.reassembled c (r.bytes ++ data.drop 1) := by
  simp [State.takeSegment, hnum, hr, hlast]

theorem State.takeSegment_of_middle (hnum : bits (field data 0 1) 5 0 = r.next) (hr : r.next ≤ 20)
    (hlast : bit (field data 0 1) 6 = false) (hlen : data.length = 64) : s.takeSegment c r data = { s with dict :=
      { s.dict with reasm := (s.dict.reasm.filter fun r => r.client ≠ c) ++ [⟨c, r.next + 1, r.bytes ++ data.drop 1, s.k⟩] } } := by
  simp [State.takeSegment, hnum, hr, hlast, hlen, State.dropReasm]

/-- Discarding drops the message, where there is one to count. -/
theorem State.discardReasm_dict (s : State) (c : Nat) : (s.discardReasm c).dict = (s.dropReasm c).dict := by
  unfold State.discardReasm
  split
  next => rfl
  next none =>
    have others : s.dict.reasm.filter (fun r => r.client ≠ c) = s.dict.reasm :=
      List.filter_eq_self.mpr fun r hr => by simpa using fun hc => none (List.any_eq_true.mpr ⟨r, hr, by simpa using hc⟩)
    rw [State.dropReasm, others]

theorem State.discardReasm_k (s : State) (c : Nat) : (s.discardReasm c).k = s.k := by
  unfold State.discardReasm
  split <;> rfl

end

/-- The segment byte of a middle and of a last segment with a number. -/
theorem segByte_middle {n : Nat} (h : n ≤ 20) : bit n 7 = false ∧ bit n 6 = false ∧ bits n 5 0 = n := by
  interval_cases n <;> decide

theorem segByte_last {n : Nat} (h : n ≤ 20) :
    bit (n + 0x40) 7 = false ∧ bit (n + 0x40) 6 = true ∧ bits (n + 0x40) 5 0 = n := by
  interval_cases n <;> decide

theorem exec_mdpSegTimeout_of_late {c : Fin 32} {s : State} (hrun : s.running = true)
    (hlate : (s.dict.reasm.any fun r => r.client == c.val && decide (r.last + s.dict.segTimeout < s.k)) = true) :
    exec (.mdpSegTimeout c) s = .next ((s.dropReasm c).count Obj.MDP_RX_BAD 1) := by
  change execMdpSegTimeout c s = _
  have waits : (s.dict.reasm.any fun r => r.client == c.val) = true := by
    obtain ⟨r, hr, hc⟩ := List.any_eq_true.mp hlate
    exact List.any_eq_true.mpr ⟨r, hr, (Bool.and_eq_true_iff.mp hc).1⟩
  rw [execMdpSegTimeout, if_pos ⟨hrun, hlate⟩, State.discardReasm, if_pos waits]

/-- A session stays unless its transport goes, or it is on CAN and the node has moved. -/
theorem keep_iff_same (served can : Bool) {a b c a' b' c' : Nat} :
    (served && !((a' != a || b' != b || c' != c) && can)) = (served && (decide (a = a' ∧ b = b' ∧ c = c') || !can)) := by
  rw [Bool.eq_iff_iff]
  simp
  grind

/-- Settles O28: arrival, one equation for each kind of segment, and the settings taken into force. -/
theorem transportRowsTakeEffect : Obligations.TransportRowsTakeEffect := by
  unfold Obligations.TransportRowsTakeEffect
  refine ⟨?queued, ?refused, ?classical, ?first, ?single, ?middle, ?last, ?wrong, ?timeout, ?apply⟩
  case queued =>
    intro m s hreceives hok hroom
    rw [exec_mdpMessageRx_of_receives hreceives, State.mdpArrive_of_room hok hroom]
  case refused =>
    intro m s hreceives hbad
    rw [exec_mdpMessageRx_of_receives hreceives, State.mdpArrive_of_bad hbad]
  case classical =>
    exact fun c ident data s hreceives hctrl hbase hnode hrequest =>
      exec_mdpSegmentRx_of_classical hreceives hctrl hbase hnode hrequest
  case first =>
    intro c ident data s hreceives hctrl hbase hnode hrequest hseg hlen
    rw [exec_mdpSegmentRx_of_first hreceives hctrl hbase hnode hrequest (by rw [hseg]; decide),
      State.takeSegment_of_middle (by rw [hseg]; rfl) (Nat.zero_le _) (by rw [hseg]; decide) hlen,
      State.discardReasm_dict, State.dropReasm]
    simp only [State.discardReasm_k, List.filter_filter, Bool.and_self, List.nil_append, Nat.zero_add]
  case single =>
    intro c ident data s hreceives hctrl hbase hnode hrequest hseg
    rw [exec_mdpSegmentRx_of_first hreceives hctrl hbase hnode hrequest (by rw [hseg]; decide),
      State.takeSegment_of_last (by rw [hseg]; rfl) (Nat.zero_le _) (by rw [hseg]; decide)]
    rfl
  case middle =>
    intro c ident data r s hreceives hctrl hbase hnode hrequest hr hnext hseg hlen
    obtain ⟨notFirst, notLast, number⟩ := segByte_middle hnext
    rw [exec_mdpSegmentRx_of_next hreceives hctrl hbase hnode hrequest (hseg ▸ notFirst) hr,
      State.takeSegment_of_middle (hseg ▸ number) hnext (hseg ▸ notLast) hlen]
  case last =>
    intro c ident data r s hreceives hctrl hbase hnode hrequest hr hnext hseg
    obtain ⟨notFirst, last, number⟩ := segByte_last hnext
    rw [exec_mdpSegmentRx_of_next hreceives hctrl hbase hnode hrequest (hseg ▸ notFirst) hr,
      State.takeSegment_of_last (hseg ▸ number) hnext (hseg ▸ last)]
  case wrong =>
    intro c ident data r s hreceives hctrl hbase hnode hrequest hr hfirst hwrong
    rw [exec_mdpSegmentRx_of_next hreceives hctrl hbase hnode hrequest hfirst hr, State.takeSegment_of_wrong hwrong]
  case timeout => exact fun c s hrun hlate => exec_mdpSegTimeout_of_late hrun hlate
  case apply =>
    intro s hrun hk
    change execMdpTransportApply s = _
    rw [execMdpTransportApply, if_pos ⟨hrun, hk⟩]
    dsimp only
    simp only [keep_iff_same]
    rfl

end Sys2Proof.Machine
end

section
/-! Sessions and credentials (R81–R85, R114). -/

namespace Sys2Proof.Machine

/-! The numbers of sessions (R81) -/

theorem nextNum_bounds (n : Nat) : 1 ≤ nextNum n ∧ nextNum n ≤ 0xFFFE := by
  unfold nextNum
  split <;> omega

theorem freshNum_bounds (used : List Nat) (fuel n : Nat) : 1 ≤ freshNum used fuel n ∧ freshNum used fuel n ≤ 0xFFFE := by
  induction fuel generalizing n with
  | zero => exact nextNum_bounds n
  | succ fuel ih =>
    unfold freshNum
    split
    · exact ih _
    · exact nextNum_bounds n

/-- The search ends at a used number only where all that it passed are used. -/
theorem used_of_freshNum_mem {used : List Nat} {fuel n : Nat} (h : freshNum used fuel n ∈ used) :
    ∀ i < fuel, nextNum^[i + 1] n ∈ used := by
  induction fuel generalizing n with
  | zero => exact fun _ hi => absurd hi (Nat.not_lt_zero _)
  | succ fuel ih =>
    unfold freshNum at h
    split at h
    next hused =>
      intro i hi
      cases i with
      | zero => exact hused
      | succ i => exact ih h i (Nat.lt_of_succ_lt_succ hi)
    next hfree => exact absurd h hfree

/-- The numbers after one follow each other in the ring of 0001h to FFFEh. -/
theorem iterate_nextNum (n i : Nat) : nextNum^[i + 1] n = (nextNum n - 1 + i) % 0xFFFE + 1 := by
  obtain ⟨low, high⟩ := nextNum_bounds n
  induction i with
  | zero =>
    change nextNum n = _
    omega
  | succ i ih =>
    rw [Function.iterate_succ_apply', ih]
    generalize nextNum n = m at low high
    unfold nextNum
    split <;> omega

/-- With fewer numbers used than the search may pass, it finds one that is free: the numbers that it passes differ. -/
theorem freshNum_notMem {used : List Nat} {fuel : Nat} (hroom : used.length < fuel) (hring : fuel ≤ 0xFFFE) (n : Nat) :
    freshNum used fuel n ∉ used := by
  intro h
  have differ : ((List.range fuel).map fun i => nextNum^[i + 1] n).Nodup := by
    refine List.Nodup.map_on (fun i hi j hj heq => ?_) List.nodup_range
    rw [iterate_nextNum, iterate_nextNum] at heq
    have hi := List.mem_range.mp hi
    have hj := List.mem_range.mp hj
    omega
  have passed : (List.range fuel).map (fun i => nextNum^[i + 1] n) ⊆ used := by
    intro m hm
    obtain ⟨i, hi, rfl⟩ := List.mem_map.mp hm
    exact used_of_freshNum_mem h i (List.mem_range.mp hi)
  have fits := (List.subperm_of_subset differ passed).length_le
  rw [List.length_map, List.length_range] at fits
  omega

/-! The two tables (R114) -/

/-- The session that OPEN opens. -/
def State.opened (s : State) (q : Req) (lvl : Nat) : Session :=
  { num := (s.openSession q lvl).2, level := lvl, transport := q.transport, source := q.source, last := s.k }

theorem State.table_openSession (s : State) (q : Req) (lvl : Nat) :
    (s.openSession q lvl).1.table = s.table ++ [s.opened q lvl] := State.table_setTable _ _

section
variable {s : State}

theorem State.table_of_nodeServes (h : s.nodeServes = true) : s.table = s.dict.sessions := if_pos h

theorem State.table_of_not_nodeServes (h : s.nodeServes = false) : s.table = s.dict.local_ := if_neg (Bool.not_eq_true _ ▸ h)

theorem State.setTable_dict_of_nodeServes (h : s.nodeServes = true) (d : DictSt) (l : List Session) :
    (State.setTable { s with dict := d } l).dict = { d with sessions := l } := by
  have served : ({ s with dict := d } : State).nodeServes = true := h
  simp only [State.setTable, served, if_true]

theorem State.setTable_dict_of_not_nodeServes (h : s.nodeServes = false) (d : DictSt) (l : List Session) :
    (State.setTable { s with dict := d } l).dict = { d with local_ := l } := by
  have served : ({ s with dict := d } : State).nodeServes = false := h
  simp only [State.setTable, served, Bool.false_eq_true, if_false]

theorem State.openSession_dict_of_nodeServes (h : s.nodeServes = true) (q : Req) (lvl : Nat) : (s.openSession q lvl).1.dict =
    { s.dict with sessions := s.dict.sessions ++ [s.opened q lvl], lastNum := (s.openSession q lvl).2 } := by
  have numbered : (s.openSession q lvl).1 = State.setTable
      { s with dict := { s.dict with lastNum := (s.openSession q lvl).2 } } (s.table ++ [s.opened q lvl]) := by
    simp only [State.openSession, State.opened, h, if_true]
  rw [numbered, State.setTable_dict_of_nodeServes h, State.table_of_nodeServes h]

theorem State.openSession_dict_of_not_nodeServes (h : s.nodeServes = false) (q : Req) (lvl : Nat) :
    (s.openSession q lvl).1.dict =
      { s.dict with local_ := s.dict.local_ ++ [s.opened q lvl], localNum := (s.openSession q lvl).2 } := by
  have numbered : (s.openSession q lvl).1 = State.setTable
      { s with dict := { s.dict with localNum := (s.openSession q lvl).2 } } (s.table ++ [s.opened q lvl]) := by
    simp only [State.openSession, State.opened, h, Bool.false_eq_true, if_false]
  rw [numbered, State.setTable_dict_of_not_nodeServes h, State.table_of_not_nodeServes h]

end

/-- Settles O9: the search for a number passes 17 of them, and the table holds at most 16. -/
theorem openedSessionsGetAFreshNumber : Obligations.OpenedSessionsGetAFreshNumber := by
  unfold Obligations.OpenedSessionsGetAFreshNumber
  refine ⟨fun s q lvl hroom => ⟨freshNum_bounds _ _ _, fun y hy heq => ?fresh, ?behind, fun hnode => ?node,
    fun hnode => ?own⟩, fun s q lvl hnone hlast hlocal => ?first⟩
  case fresh =>
    have used : (s.openSession q lvl).2 ∈ s.table.map (·.num) := List.mem_map.mpr ⟨y, hy, heq⟩
    refine freshNum_notMem ?_ (by decide) _ used
    rw [List.length_map]
    omega
  case behind => exact ⟨s.opened q lvl, rfl, rfl, rfl, rfl, rfl, rfl, s.table_openSession q lvl⟩
  case node =>
    rw [State.openSession_dict_of_nodeServes hnode]
    exact ⟨rfl, rfl, rfl⟩
  case own =>
    rw [State.openSession_dict_of_not_nodeServes hnode]
    exact ⟨rfl, rfl, rfl⟩
  case first => simp [State.openSession, hnone, hlast, hlocal, freshNum, nextNum]

/-! OPEN (R81, R83) -/

/-- An OPEN that is taken up, by the status that its checks give. -/
def State.openAnswered (s : State) (q : Req) (level len : Nat) (code : Bytes) : State :=
  match s.openStatus q level len code with
  | .ok => (s.openSession q level).1.answer q 1 (s.openSession q level).2 .ok (u8 level)
  | .credential => (s.mismatch q).answer q 1 q.session .credential []
  | st => s.answer q 1 q.session st []

/-- An OPEN waits while the messages before it are answered and it may not be taken up. -/
theorem exec_open (q : Req) (level len : Nat) (code : Bytes) (s : State) : exec (.open_ q level len code) s =
    .next (if (s.serveFormless 4).serves q then ((s.serveFormless 4).takeUp q).openAnswered q level len code
      else s.serveFormless 4) := by
  change execOpen q level len code s = _
  unfold execOpen State.openAnswered
  dsimp only
  cases (s.serveFormless 4).serves q with
  | false => rfl
  | true =>
    generalize ((s.serveFormless 4).takeUp q).openStatus q level len code = st
    cases st <;> rfl

theorem exec_open_of_serves {q : Req} {s : State} (hserves : s.serves q = true) (hfront : s.frontFormed = true)
    (level len : Nat) (code : Bytes) :
    exec (.open_ q level len code) s = .next ((s.takeUp q).openAnswered q level len code) := by
  rw [exec_open, State.serveFormless_of_frontFormed hfront, if_pos hserves]

/-- A session is opened only where there is room for it. -/
theorem State.sessionRoom_of_openStatus {s : State} {q : Req} {level len : Nat} {code : Bytes}
    (h : s.openStatus q level len code = .ok) : s.sessionRoom = true := by
  by_contra full
  rw [Bool.not_eq_true] at full
  simp only [State.openStatus, full, Bool.not_false, if_true] at h
  split_ifs at h
  split at h <;> cases h

/-- As many sessions of the node, and of the module's own, as before. -/
def State.sameRoom (s t : State) : Prop :=
  t.dict.sessions.length = s.dict.sessions.length ∧ t.dict.local_.length = s.dict.local_.length

theorem State.sameRoom_setTable {s : State} {l : List Session} (h : l.length = s.table.length) : s.sameRoom (s.setTable l) := by
  unfold State.sameRoom
  cases hnode : s.nodeServes with
  | true =>
    rw [State.setTable_dict_of_nodeServes hnode s.dict]
    exact ⟨h.trans (congrArg _ (State.table_of_nodeServes hnode)), rfl⟩
  | false =>
    rw [State.setTable_dict_of_not_nodeServes hnode s.dict]
    exact ⟨rfl, h.trans (congrArg _ (State.table_of_not_nodeServes hnode))⟩

theorem keptByServing_sameRoom : KeptByServing State.sameRoom where
  refl _ := ⟨rfl, rfl⟩
  trans hst htu := ⟨htu.1.trans hst.1, htu.2.trans hst.2⟩
  takeUp _ := ⟨rfl, rfl⟩
  send _ _ := ⟨rfl, rfl⟩
  putSession _ _ := State.sameRoom_setTable (List.length_map ..)
  cached _ := ⟨rfl, rfl⟩
  stale _ := ⟨rfl, rfl⟩

/-- At most 16 sessions of the node, and at most 4 of the module's own (R81, R114). -/
def State.tablesBounded (s : State) : Prop := s.dict.sessions.length ≤ 16 ∧ s.dict.local_.length ≤ 4

theorem State.tablesBounded_of_sameRoom {s t : State} (h : s.tablesBounded) (hroom : s.sameRoom t) : t.tablesBounded :=
  ⟨hroom.1.trans_le h.1, hroom.2.trans_le h.2⟩

theorem State.tablesBounded_openSession {s : State} (h : s.tablesBounded) (hroom : s.sessionRoom = true) (q : Req) (lvl : Nat) :
    (s.openSession q lvl).1.tablesBounded := by
  obtain ⟨node, own⟩ := h
  unfold State.tablesBounded
  unfold State.sessionRoom at hroom
  cases hnode : s.nodeServes with
  | true =>
    rw [State.openSession_dict_of_nodeServes hnode]
    simp [State.table_of_nodeServes hnode, hnode] at hroom
    exact ⟨by simpa using hroom, own⟩
  | false =>
    rw [State.openSession_dict_of_not_nodeServes hnode]
    simp [State.table_of_not_nodeServes hnode, hnode] at hroom
    exact ⟨node, by simpa using hroom⟩

theorem State.tablesBounded_openAnswered {s : State} (h : s.tablesBounded) (q : Req) (level len : Nat) (code : Bytes) :
    (s.openAnswered q level len code).tablesBounded := by
  unfold State.openAnswered
  split
  next hok => exact State.tablesBounded_openSession h (State.sessionRoom_of_openStatus hok) q level
  next => exact h
  next => exact h

/-- Settles O10: OPEN adds a session only where there is room, and nothing else that it does adds one. -/
theorem openKeepsTheSessionTablesBounded : Obligations.OpenKeepsTheSessionTablesBounded := by
  unfold Obligations.OpenKeepsTheSessionTablesBounded
  intro q level len code s t hnode hown hexec
  have formless : (s.serveFormless 4).tablesBounded :=
    State.tablesBounded_of_sameRoom ⟨hnode, hown⟩ (keptByServing_sameRoom.serveFormless 4 s)
  rw [exec_open] at hexec
  obtain rfl := Host.Outcome.next.inj hexec
  split
  · exact State.tablesBounded_openAnswered (s := (s.serveFormless 4).takeUp q) formless q level len code
  · exact formless

/-! The rows of the sessions and credentials -/

theorem State.findSession_of_admits {s : State} {q : Req} {x : Session} (h : s.admits q x = true) :
    s.findSession q = some x := by
  simp only [State.admits, Bool.and_eq_true, decide_eq_true_eq] at h
  obtain ⟨⟨⟨⟨⟨_, found⟩, _⟩, _⟩, _⟩, _⟩ := h
  exact found

theorem exec_close_of_admits {q : Req} {x : Session} {s : State} (h : s.admits q x = true) : exec (.close_ q []) s =
    .next (State.finish q 2 ⟨.ok, [], (s.servedBy q x).closeSession { x with last := s.k }, false⟩) := by
  refine congrArg Host.Outcome.next ((State.serve_of_admits h 2 [] _).trans ?_)
  rw [State.findSession_servedBy (State.findSession_of_admits h)]

theorem exec_sessionTimeout_of_running {num : Nat} {s : State} (hrun : s.running = true) :
    exec (.sessionTimeout num) s = .next { s with dict := { s.dict with
      sessions := s.dict.sessions.filter fun x => !(x.num == num && decide (x.last + 4000 * s.conf Obj.SESS_TIMEOUT ≤ s.k))
      local_ := s.dict.local_.filter fun x => !(x.num == num && decide (x.last + 4000 * s.conf Obj.SESS_TIMEOUT ≤ s.k)) } } :=
  if_pos hrun

/-- The sessions that a timeout leaves: those of another number, or with a request since. -/
theorem mem_filter_live {l : List Session} {num k limit : Nat} {x : Session} :
    x ∈ l.filter (fun x => !(x.num == num && decide (x.last + limit ≤ k))) ↔
      x ∈ l ∧ (x.num ≠ num ∨ k < x.last + limit) := by
  simp [List.mem_filter]

/-- Settles O29: one equation for each row. -/
theorem sessionRowsTakeEffect : Obligations.SessionRowsTakeEffect := by
  unfold Obligations.SessionRowsTakeEffect
  refine ⟨?opened, ?full, ?mismatch, ?close, ?keepalive, ?timeout, ?lockout, ?lockoutEnd, ?credential, ?closeAll⟩
  case opened =>
    intro q level len code s hserves hfront hok
    rw [exec_open_of_serves hserves hfront, State.openAnswered, hok]
  case full =>
    intro q level len code s hserves hfront hfull
    rw [exec_open_of_serves hserves hfront, State.openAnswered, hfull]
  case mismatch =>
    intro q level len code s hserves hfront hwrong
    rw [exec_open_of_serves hserves hfront, State.openAnswered, hwrong]
  case close => exact fun q x s h => exec_close_of_admits h
  case keepalive => exact fun q x s h => congrArg Host.Outcome.next (State.serve_of_admits h 5 [] _)
  case timeout =>
    exact fun num s hrun => ⟨_, exec_sessionTimeout_of_running hrun, rfl, fun _ => mem_filter_live, fun _ => mem_filter_live⟩
  case lockout => exact fun s hrun hfails hfree => if_pos ⟨hrun, hfails, hfree⟩
  case lockoutEnd =>
    intro since s hsince hend
    change execLockoutEnd s = _
    rw [execLockoutEnd, hsince]
    exact if_pos hend
  case credential => exact fun q x which code s h => congrArg Host.Outcome.next (State.serveWrite_of_accepts h rfl _ _)
  case closeAll => exact fun q x s h => congrArg Host.Outcome.next (State.serveSet_of_accepts h rfl _ _)

end Sys2Proof.Machine
end

section
/-! What each update of the state leaves of the dictionary server: all of it, or, where it closes a session or clears a queue, the
count of the messages served in the tick (R102). One lemma for each update, in the order in which the model defines them. -/

namespace Sys2Proof.Machine

/-- An update that leaves the dictionary server as it was, whatever it runs over. -/
def KeepsDict {α : Type} (f : State → α → State) : Prop := ∀ s a, (f s a).dict = s.dict

@[simp] theorem keepsDict_iff {α : Type} (f : State → α → State) : KeepsDict f ↔ ∀ s a, (f s a).dict = s.dict := Iff.rfl

/-- An update that leaves the count of served messages as it was, whatever it runs over. -/
def KeepsServed {α : Type} (f : State → α → State) : Prop := ∀ s a, (f s a).dict.served = s.dict.served

@[simp] theorem keepsServed_iff {α : Type} (f : State → α → State) :
    KeepsServed f ↔ ∀ s a, (f s a).dict.served = s.dict.served := Iff.rfl

@[simp] theorem foldl_dict {α : Type} (f : State → α → State) (h : KeepsDict f) (l : List α) (s : State) :
    (l.foldl f s).dict = s.dict := by
  induction l generalizing s with
  | nil => rfl
  | cons a l ih => rw [List.foldl_cons, ih, h]

@[simp] theorem foldl_served {α : Type} (f : State → α → State) (h : KeepsServed f) (l : List α) (s : State) :
    (l.foldl f s).dict.served = s.dict.served := by
  induction l generalizing s with
  | nil => rfl
  | cons a l ih => rw [List.foldl_cons, ih, h]

/-- A next state, where there is one, has the dictionary server of the state before. -/
def KeepsDictIfSome (s : State) (o : Option State) : Prop := ∀ t, o = some t → t.dict = s.dict

@[simp] theorem keepsDictIfSome_none (s : State) : KeepsDictIfSome s none := fun _ h => (Option.some_ne_none _ h.symm).elim
@[simp] theorem keepsDictIfSome_some (s t : State) : KeepsDictIfSome s (some t) ↔ t.dict = s.dict :=
  ⟨fun h => h t rfl, fun h _ ht => Option.some.inj ht ▸ h⟩
@[simp] theorem keepsDictIfSome_ite (s : State) (c : Prop) [Decidable c] (o p : Option State) :
    KeepsDictIfSome s (if c then o else p) ↔ if c then KeepsDictIfSome s o else KeepsDictIfSome s p := by split <;> rfl

/-- A next state, where there is one, has served as many messages as the state before. -/
def KeepsServedIfSome (s : State) (o : Option State) : Prop := ∀ t, o = some t → t.dict.served = s.dict.served

theorem KeepsDictIfSome.served {s : State} {o : Option State} (h : KeepsDictIfSome s o) : KeepsServedIfSome s o :=
  fun t ht => congrArg DictSt.served (h t ht)

@[simp] theorem keepsServedIfSome_none (s : State) : KeepsServedIfSome s none :=
  fun _ h => (Option.some_ne_none _ h.symm).elim
@[simp] theorem keepsServedIfSome_some (s t : State) : KeepsServedIfSome s (some t) ↔ t.dict.served = s.dict.served :=
  ⟨fun h => h t rfl, fun h _ ht => Option.some.inj ht ▸ h⟩
@[simp] theorem keepsServedIfSome_ite (s : State) (c : Prop) [Decidable c] (o p : Option State) :
    KeepsServedIfSome s (if c then o else p) ↔ if c then KeepsServedIfSome s o else KeepsServedIfSome s p := by split <;> rfl

/-- Which of two states a condition picks decides whose dictionary server is read. -/
@[simp] theorem State.ite_dict (c : Prop) [Decidable c] (s t : State) :
    (if c then s else t).dict = if c then s.dict else t.dict := apply_ite State.dict c s t


/-! The values, the entries and the events -/

@[simp] theorem State.setAll_dict (s : State) (l : List (Nat × Nat)) : (s.setAll l).dict = s.dict := by simp [State.setAll]
@[simp] theorem State.draw_dict (s : State) : s.draw.2.dict = s.dict := rfl
@[simp] theorem State.countOut_dict (s : State) (key n : Nat) : (s.countOut key n).dict = s.dict := rfl
@[simp] theorem State.setNow_dict (s : State) (key v : Nat) : (s.setNow key v).dict = s.dict := rfl
@[simp] theorem State.modeEnter_dict (s : State) (key : Nat) : (s.modeEnter key).dict = s.dict := by simp [State.modeEnter]
@[simp] theorem State.modeCount_dict (s : State) (key : Nat) (a2 : RunKind) : (s.modeCount key a2).dict = s.dict := by
  unfold State.modeCount
  split <;> simp
@[simp] theorem State.writeMode_dict (s : State) (key v : Nat) : (s.writeMode key v).dict = s.dict := rfl
@[simp] theorem State.fallBack_dict (s : State) (key : Nat) : (s.fallBack key).dict = s.dict := by simp [State.fallBack]
@[simp] theorem State.assistFault_dict (s : State) (key : Nat) : (s.assistFault key).dict = s.dict := by
  simp [State.assistFault]

/-! The dictionary server -/

@[simp] theorem State.setTable_served (s : State) (l : List Session) : (s.setTable l).dict.served = s.dict.served := rfl
@[simp] theorem State.putSession_served (s : State) (x : Session) : (s.putSession x).dict.served = s.dict.served := rfl
@[simp] theorem State.openSession_served (s : State) (q : Req) (lvl : Nat) :
    (s.openSession q lvl).1.dict.served = s.dict.served := by
  unfold State.openSession
  split <;> simp
@[simp] theorem State.answerLater_served (s : State) (q : Req) (st : Status) :
    (s.answerLater q st).dict.served = s.dict.served := by
  unfold State.answerLater
  split <;> simp

/-! The recorder -/

@[simp] theorem State.endPhases_dict (s : State) : s.endPhases.dict = s.dict := rfl
@[simp] theorem State.enterQueue_dict (s : State) (e : Event) : (s.enterQueue e).dict = s.dict := rfl
@[simp] theorem State.meetQueue_dict (s : State) (e : Event) : (s.meetQueue e).dict = s.dict := by simp [State.meetQueue]
@[simp] theorem State.putFlood_dict (s : State) (f : Flood) : (s.putFlood f).dict = s.dict := rfl
@[simp] theorem State.floodNow_dict (s : State) (src code : Nat) : (s.floodNow src code).2.dict = s.dict := by
  unfold State.floodNow
  (repeat' split) <;> simp
@[simp] theorem State.enqueue_dict (s : State) (e : Event) : (s.enqueue e).dict = s.dict := by simp [State.enqueue]
@[simp] theorem State.enqueueAll_dict (s : State) : s.enqueueAll.dict = s.dict := by unfold State.enqueueAll; split <;> simp
@[simp] theorem State.putRecord_dict (s : State) (slot : Nat) (b : Bytes) : (s.putRecord slot b).dict = s.dict := rfl
@[simp] theorem State.putCirc_dict (s : State) (b : Bytes) : (s.putCirc b).dict = s.dict := rfl
@[simp] theorem State.writeRecord_dict (s : State) (r : Queued) : (s.writeRecord r).dict = s.dict := by
  simp -implicitDefEqProofs [State.writeRecord]
@[simp] theorem State.writeRecords_dict (s : State) : s.writeRecords.dict = s.dict := by simp [State.writeRecords]
@[simp] theorem State.timeMark_dict (s : State) : s.timeMark.dict = s.dict := rfl
@[simp] theorem State.setTimeState_dict (s : State) (v : Nat) : (s.setTimeState v).dict = s.dict := by simp [State.setTimeState]
@[simp] theorem State.scan_dict (s : State) (d0Lost : Bool) : (s.scan d0Lost).dict = s.dict := by
  unfold State.scan
  extract_lets _ _ _ _ _ newest
  generalize newest = found
  cases found
  · dsimp only
    split <;> rfl
  · rfl
@[simp] theorem State.appEvent_dict (s : State) (b : Bytes) : (s.appEvent b).dict = s.dict := rfl

/-! The loops -/

@[simp] theorem State.linkMembers_dict (s : State) : s.linkMembers.dict = s.dict := by simp [State.linkMembers]
@[simp] theorem State.setFl_dict (s : State) (n : Nat) (x : FlSt) : (s.setFl n x).dict = s.dict := rfl
@[simp] theorem State.setAsm_dict (s : State) (a : Nat) (x : AsSt) : (s.setAsm a x).dict = s.dict := rfl
@[simp] theorem State.touchUnit_dict (s : State) (u : Nat) : (s.touchUnit u).dict = s.dict := by simp [State.touchUnit]
@[simp] theorem State.publishSlot_dict (s : State) (n : Nat) : (s.publishSlot n).dict = s.dict := rfl
@[simp] theorem State.evalAssemblies_dict (s : State) : s.evalAssemblies.dict = s.dict := by simp [State.evalAssemblies]
@[simp] theorem State.publishSlots_dict (s : State) : s.publishSlots.dict = s.dict := by simp [State.publishSlots]
@[simp] theorem State.emitSlot_dict (s : State) (n u : Nat) : (s.emitSlot n u).dict = s.dict := by simp [State.emitSlot]
@[simp] theorem State.clearSlot_dict (s : State) (n : Nat) : (s.clearSlot n).dict = s.dict := by simp [State.clearSlot]
@[simp] theorem State.orOpen_dict (s : State) (now last : Option Nat) : (s.orOpen now last).2.dict = s.dict := by
  unfold State.orOpen
  split <;> simp
@[simp] theorem State.slotLaw_dict (s : State) (n us : Nat) : (s.slotLaw n us).dict = s.dict := by
  dsimp only [State.slotLaw]
  simp only [↓State.write_dict]
  split
  · simp only [↓State.clearSlot_dict, ↓State.setFl_dict, ↓State.orOpen_dict, ↓State.modeCount_dict, ↓State.modeEnter_dict]
  · simp only [↓State.ite_dict, ↓State.emitSlot_dict, ↓State.setFl_dict, ↓State.orOpen_dict, ↓State.modeCount_dict,
      ↓State.modeEnter_dict, ite_self]
  · simp only [↓State.emitSlot_dict, ↓State.setFl_dict, ↓State.orOpen_dict, ↓State.modeCount_dict, ↓State.modeEnter_dict]
@[simp] theorem State.inTime_dict (s : State) (u : Nat) : (s.inTime u).dict = s.dict := rfl
@[simp] theorem State.ranUnit_dict (s : State) (u : Nat) : (s.ranUnit u).dict = s.dict := rfl
@[simp] theorem State.slotStopped_dict (s : State) (n : Nat) : (s.slotStopped n).dict = s.dict := by simp [State.slotStopped]
@[simp] theorem State.faultSlot_dict (s : State) (n code : Nat) : (s.faultSlot n code).dict = s.dict := by
  simp [State.faultSlot]
@[simp] theorem State.dropTerm_dict (s : State) (n w : Nat) : (s.dropTerm n w).dict = s.dict := rfl
@[simp] theorem State.discardRuns_dict (s : State) (us : List Nat) : (s.discardRuns us).dict = s.dict := by
  simp [State.discardRuns]
@[simp] theorem State.closeWindow_dict (s : State) : s.closeWindow.dict = s.dict := rfl
@[simp] theorem State.enableHeld_dict (s : State) (key : Nat) : (s.enableHeld key).dict = s.dict := by simp [State.enableHeld]
@[simp] theorem State.enableUnit_dict (s : State) (u : Nat) : (s.enableUnit u).dict = s.dict := by simp [State.enableUnit]
@[simp] theorem State.stopSlot_dict (s : State) (wasOn : Bool) (n : Nat) : (s.stopSlot wasOn n).dict = s.dict := by
  simp [State.stopSlot]
@[simp] theorem State.publishUnits_dict (s : State) (us : List Nat) : (s.publishUnits us).dict = s.dict := by
  simp [State.publishUnits]
@[simp] theorem State.disableUnit_dict (s : State) (u : Nat) : (s.disableUnit u).dict = s.dict := by simp [State.disableUnit]
@[simp] theorem State.resetUnit_dict (s : State) (u : Nat) : (s.resetUnit u).dict = s.dict := by simp [State.resetUnit]
@[simp] theorem State.setMember_dict (s : State) (a i v : Nat) : (s.setMember a i v).dict = s.dict := by simp [State.setMember]

/-! The ledger -/

@[simp] theorem State.setPiece_dict (s : State) (i : Nat) (p : Piece) : (s.setPiece i p).dict = s.dict := rfl
@[simp] theorem State.freePiece_dict (s : State) (i : Nat) : (s.freePiece i).dict = s.dict := rfl
@[simp] theorem State.setOrigin_dict (s : State) (c : Nat) (o : Option Origin) : (s.setOrigin c o).dict = s.dict := rfl
@[simp] theorem State.onOrigin_dict (s : State) (c : Nat) (f : Origin → Origin) : (s.onOrigin c f).dict = s.dict := by
  unfold State.onOrigin
  split <;> simp
@[simp] theorem State.credit_dict (s : State) (p : Piece) (f : Origin → Rat → Origin) : (s.credit p f).dict = s.dict := by
  simp [State.credit]
@[simp] theorem State.addOut_dict (s : State) (key : Nat) (q : Rat) : (s.addOut key q).dict = s.dict := rfl
@[simp] theorem State.setYs_dict (s : State) (y : YieldSt) : (s.setYs y).dict = s.dict := rfl
@[simp] theorem State.sealPage_dict (s : State) : s.sealPage.dict = s.dict := rfl
@[simp] theorem State.showYs_dict (s : State) : s.showYs.dict = s.dict := by simp [State.showYs]
@[simp] theorem State.addYield_dict (s : State) (rec_ : Bytes) : (s.addYield rec_).dict = s.dict := by simp [State.addYield]
@[simp] theorem State.closeCrumb_dict (s : State) (c flags : Nat) : (s.closeCrumb c flags).dict = s.dict := by
  unfold State.closeCrumb
  split <;> simp
@[simp] theorem State.retirePiece_dict (s : State) (i extra : Nat) : (s.retirePiece i extra).dict = s.dict := by
  simp [State.retirePiece]
@[simp] theorem State.retireUnmeasured_dict (s : State) (i extra : Nat) : (s.retireUnmeasured i extra).dict = s.dict := by
  simp [State.retireUnmeasured]
@[simp] theorem State.freeAll_dict (s : State) : s.freeAll.dict = s.dict := by simp [State.freeAll]
@[simp] theorem State.closeAll_dict (s : State) : s.closeAll.dict = s.dict := by simp [State.closeAll]
@[simp] theorem State.mergeRecords_dict (s : State) (i j : Nat) (t : Rat) : (s.mergeRecords i j t).dict = s.dict := rfl
@[simp] theorem State.mergeTwo_dict (s : State) (i j : Nat) (t : Rat) : (s.mergeTwo i j t).dict = s.dict := rfl
@[simp] theorem State.traceShare_dict (s : State) (p : Piece) : (s.traceShare p).dict = s.dict := by simp [State.traceShare]
@[simp] theorem State.capacityMerge_dict (s : State) (model : List StageRun) : (s.capacityMerge model).dict = s.dict := by
  dsimp only [State.capacityMerge]
  (repeat' split) <;> simp
@[simp] theorem State.takeRecord_dict (s : State) (model : List StageRun) : (s.takeRecord model).1.dict = s.dict := by
  unfold State.takeRecord
  split <;> simp
@[simp] theorem State.touch_dict (s : State) (i : Nat) : (s.touch i).dict = s.dict := rfl
@[simp] theorem State.standAt_dict (s : State) (i : Nat) (p : Piece) (x : Nat) : (s.standAt i p x).dict = s.dict := rfl
theorem State.enterStage_dict (model : List StageRun) {next : State → Nat → Piece → Nat → State}
    (hnext : ∀ s j q x, (next s j q x).dict = s.dict) (tau : Rat) (s : State) (j : Nat) (q : Piece) (st : Nat) :
    (State.enterStage model next tau s j q st).dict = s.dict := by
  simp [State.enterStage, hnext]
theorem State.splitPiece_dict (model : List StageRun) {go : State → Nat → Piece → Nat → State}
    (hgo : ∀ s j q st, (go s j q st).dict = s.dict) (s : State) (i : Nat) (p : Piece) (g : StageRun) :
    (State.splitPiece model go s i p g).dict = s.dict := by
  dsimp only [State.splitPiece]
  rw [foldl_dict]
  · simp [hgo]
  · intro s o
    dsimp only
    split
    · rfl
    split
    · simp
    split <;> simp [hgo]
theorem State.moveOn_dict (model : List StageRun) {next : State → Nat → Piece → Nat → State}
    (hnext : ∀ s j q x, (next s j q x).dict = s.dict) (s : State) (i : Nat) (p : Piece) (x : Nat) :
    (State.moveOn model next s i p x).dict = s.dict := by
  have enters := State.enterStage_dict model hnext
  simp [State.moveOn, enters, State.splitPiece_dict model (enters _)]
@[simp] theorem State.place_dict (model : List StageRun) (fuel : Nat) (s : State) (i : Nat) (p : Piece) (x : Nat) :
    (State.place_ model fuel s i p x).dict = s.dict := by
  induction fuel generalizing s i p x with
  | zero => exact State.standAt_dict s i p x
  | succ fuel ih => exact State.moveOn_dict model ih s i p x
@[simp] theorem State.advancePiece_dict (model : List StageRun) (s : State) (i : Nat) :
    (s.advancePiece model i).dict = s.dict := by
  simp [State.advancePiece]
@[simp] theorem State.advanceAll_dict (s : State) (model : List StageRun) : (s.advanceAll model).dict = s.dict := by
  simp [State.advanceAll]
@[simp] theorem State.mergeAll_dict (s : State) (model : List StageRun) : (s.mergeAll model).dict = s.dict := by
  simp [State.mergeAll]
@[simp] theorem State.noteFix_dict (s : State) : s.noteFix.dict = s.dict := by unfold State.noteFix; split <;> simp
@[simp] theorem State.ringReuse_dict (s : State) : s.ringReuse.dict = s.dict := by unfold State.ringReuse; split <;> simp
@[simp] theorem State.createCrumb_dict (s : State) (model : List StageRun) : (s.createCrumb model).dict = s.dict := by
  dsimp only [State.createCrumb]
  (repeat' split) <;> simp
@[simp] theorem State.setSlots_dict (s : State) (m : Nat) (l : List Slot) : (s.setSlots m l).dict = s.dict := rfl
@[simp] theorem State.closeSlots_dict (s : State) : s.closeSlots.dict = s.dict := by
  unfold State.closeSlots
  rw [foldl_dict]
  intro s m
  dsimp only
  split
  · rfl
  · split <;> simp
@[simp] theorem State.attributeDue_dict (s : State) : s.attributeDue.dict = s.dict := by
  unfold State.attributeDue
  extract_lets p d now isDue t
  have t_dict : t.dict = s.dict := by
    refine foldl_dict _ (fun s m => ?_) _ _
    dsimp only
    split
    · exact State.setSlots_dict _ _ _
    · refine (foldl_dict _ (fun s sl => ?_) _ _).trans (State.setSlots_dict _ _ _)
      change (@ite State _ _ _ _).dict = _
      simp
  clear_value t
  split <;> exact t_dict
@[simp] theorem State.retireAndClose_dict (s : State) : s.retireAndClose.dict = s.dict := by simp [State.retireAndClose]
@[simp] theorem State.clearForecast_dict (s : State) (st : Nat) : (s.clearForecast st).dict = s.dict := rfl
@[simp] theorem State.dropBins_dict (s : State) (st : Nat) : (s.dropBins st).dict = s.dict := by simp [State.dropBins]
@[simp] theorem State.forecastAll_dict (s : State) (model : List StageRun) : (s.forecastAll model).dict = s.dict := by
  simp [State.forecastAll]
@[simp] theorem State.ledgerOut_dict (s : State) (model : List StageRun) : (s.ledgerOut model).dict = s.dict := by
  simp [State.ledgerOut]
@[simp] theorem State.restoreLedger_dict (s : State) : s.restoreLedger.dict = s.dict := by
  dsimp only [State.restoreLedger]
  (repeat' split) <;> simp
@[simp] theorem State.firstLedgerRun_dict (s : State) : s.firstLedgerRun.dict = s.dict := by simp [State.firstLedgerRun]
@[simp] theorem State.beginCkpt_dict (s : State) : s.beginCkpt.dict = s.dict := by simp [State.beginCkpt]
@[simp] theorem State.applyModel_dict (s : State) (model : List StageRun) : (s.applyModel model).dict = s.dict := rfl
@[simp] theorem State.renewRatio_dict (s : State) : s.renewRatio.dict = s.dict := by unfold State.renewRatio; split <;> simp
@[simp] theorem State.openRun_dict (s : State) : s.openRun.dict = s.dict := by simp [State.openRun]
@[simp] theorem State.ledgerStep_dict (s : State) : s.ledgerStep.dict = s.dict := by simp [State.ledgerStep]
@[simp] theorem State.inSlot_dict (s : State) (m k : Nat) (f : Slot → Slot) : (s.inSlot m k f).dict = s.dict := rfl
@[simp] theorem State.gapTick_dict (s : State) (m k : Nat) : (s.gapTick m k).dict = s.dict := rfl
@[simp] theorem State.invalidTick_dict (s : State) (k : Nat) : (s.invalidTick k).dict = s.dict := by simp [State.invalidTick]
@[simp] theorem State.sampleLedger_dict (s : State) : s.sampleLedger.dict = s.dict := by simp [State.sampleLedger]
@[simp] theorem State.clearLedger_dict (s : State) : s.clearLedger.dict = s.dict := by simp [State.clearLedger]
@[simp] theorem State.voidWindow_dict (s : State) : s.voidWindow.dict = s.dict := rfl
@[simp] theorem State.supLosesLedger_dict (s : State) : s.supLosesLedger.dict = s.dict := rfl
@[simp] theorem State.stopLedger_dict (s : State) (st : Nat) : (s.stopLedger st).dict = s.dict := by simp [State.stopLedger]
@[simp] theorem State.ledgerRestart_dict (s : State) : s.ledgerRestart.dict = s.dict := by simp [State.ledgerRestart]
@[simp] theorem State.enableLedger_dict (s : State) : s.enableLedger.dict = s.dict := by simp [State.enableLedger]
@[simp] theorem State.disableLedger_dict (s : State) : s.disableLedger.dict = s.dict := by simp [State.disableLedger]
@[simp] theorem State.sealOpen_dict (s : State) : s.sealOpen.dict = s.dict := by simp [State.sealOpen]
@[simp] theorem State.putMark_dict (s : State) (seq : Nat) : (s.putMark seq).dict = s.dict := by simp [State.putMark]
@[simp] theorem State.ratioWritten_dict (s : State) : s.ratioWritten.dict = s.dict := rfl

/-! The supervisor, the path element and the builder -/

@[simp] theorem State.slotDefaults_dict (s : State) (n : Nat) : (s.slotDefaults n).dict = s.dict := by simp [State.slotDefaults]
@[simp] theorem State.buildTemplate_dict (s : State) (num : Nat) (t : Tpl) : (s.buildTemplate num t).dict = s.dict := by
  unfold State.buildTemplate
  split <;> simp
@[simp] theorem State.templateStart_dict (s : State) : s.templateStart.dict = s.dict := by
  unfold State.templateStart
  rw [foldl_dict]
  intro s p
  dsimp only
  split <;> simp
@[simp] theorem State.removeTemplate_dict (s : State) (a : Nat) : (s.removeTemplate a).dict = s.dict := rfl
@[simp] theorem State.pathLeave_dict (s : State) (c next num : Nat) : (s.pathLeave c next num).dict = s.dict := by
  simp [State.pathLeave]
@[simp] theorem State.pathShow_dict (s : State) (a1 : Option PathRun) : (s.pathShow a1).dict = s.dict := by
  unfold State.pathShow
  split <;> simp
@[simp] theorem State.pathAngle_dict (s : State) (angle : Option Nat) : (s.pathAngle angle).dict = s.dict := by
  unfold State.pathAngle
  split <;> simp
@[simp] theorem State.pathStamp_dict (s : State) : s.pathStamp.dict = s.dict := by simp [State.pathStamp]
@[simp] theorem State.pathOff_dict (s : State) : s.pathOff.dict = s.dict := by simp [State.pathOff]
@[simp] theorem State.runPath_dict (s : State) (fix : Option Fix) : (s.runPath fix).dict = s.dict := by simp [State.runPath]
@[simp] theorem State.toSup_dict (s : State) (v : Nat) : (s.toSup v).dict = s.dict := rfl
@[simp] theorem State.setTarget_dict (s : State) (t v : Nat) : (s.setTarget t v).dict = s.dict := rfl
@[simp] theorem State.revert_dict (s : State) : s.revert.dict = s.dict := by unfold State.revert; split <;> simp
@[simp] theorem State.settleToBaseline_dict (s : State) : s.settleToBaseline.dict = s.dict := rfl
@[simp] theorem State.writeSymptoms_dict (s : State) (obj : Nat → Nat) (r : WindowResult) :
    (s.writeSymptoms obj r).dict = s.dict := by
  simp [State.writeSymptoms]
@[simp] theorem State.takeBaseline_dict (s : State) (r : WindowResult) : (s.takeBaseline r).dict = s.dict := by
  simp [State.takeBaseline]
@[simp] theorem State.makeMove_dict (s : State) : s.makeMove.dict = s.dict := by unfold State.makeMove; (repeat' split) <;> simp
@[simp] theorem State.judgeBaseline_dict (s : State) (r : WindowResult) : (s.judgeBaseline r).dict = s.dict := by
  simp -implicitDefEqProofs [State.judgeBaseline]
@[simp] theorem State.voidTrial_dict (s : State) : s.voidTrial.dict = s.dict := by simp [State.voidTrial]
@[simp] theorem State.judgeTrial_dict (s : State) (r : WindowResult) : (s.judgeTrial r).dict = s.dict := by
  unfold State.judgeTrial
  split <;> simp -implicitDefEqProofs
@[simp] theorem State.supMachine_dict (s : State) : s.supMachine.dict = s.dict := by
  unfold State.supMachine
  (repeat' split) <;> simp
@[simp] theorem State.supCollect_dict (s : State) : s.supCollect.dict = s.dict := by
  dsimp only [State.supCollect]
  (repeat' split) <;> simp -implicitDefEqProofs
@[simp] theorem State.supApply_dict (s : State) : s.supApply.dict = s.dict := by simp [State.supApply]
@[simp] theorem State.supActions_dict (s : State) : s.supActions.dict = s.dict := by
  dsimp only [State.supActions]
  (repeat' split) <;> simp
@[simp] theorem State.supOut_dict (s : State) : s.supOut.dict = s.dict := rfl
theorem State.withSup_dict (s : State) (x : SupSt) : State.dict { s with sup := x } = s.dict := rfl
@[simp] theorem State.supStep_dict (s : State) : s.supStep.dict = s.dict := by
  unfold State.supStep
  extract_lets mode entered kind counted rewrite_ stopped off offSup settled ledger settledSup judged applied chosen shown
  have counted_dict : counted.dict = s.dict := (State.modeCount_dict _ _ _).trans (State.modeEnter_dict _ _)
  have off_dict : off.dict = s.dict := by
    rw [State.toSup_dict, foldl_dict _ fun s t => State.write_dict _ _ _ _, counted_dict]
  have settled_dict : settled.dict = s.dict := by
    rw [State.supActions_dict, State.ite_dict, foldl_dict _ fun s t => State.write_dict _ _ _ _, ite_self, counted_dict]
  have applied_dict : applied.dict = s.dict := by
    rw [State.ite_dict, State.supApply_dict, State.withSup_dict, ite_self, settled_dict]
  clear_value applied off kind
  have chosen_dict : chosen.dict = s.dict := by
    dsimp only [chosen]
    split
    · rw [State.withSup_dict, off_dict]
    split
    · rw [State.toSup_dict, applied_dict]
    split
    · rw [State.toSup_dict, State.revert_dict, applied_dict]
    · cases kind <;> simp -implicitDefEqProofs [applied_dict]
  rw [State.supOut_dict, State.ite_dict, foldl_dict _ fun s t => State.invalidate_dict _ _, ite_self, chosen_dict]
@[simp] theorem State.voidIfDue_dict (s : State) : s.voidIfDue.dict = s.dict := by unfold State.voidIfDue; split <;> simp
@[simp] theorem State.settleIfDue_dict (s : State) : s.settleIfDue.dict = s.dict := by simp [State.settleIfDue]
@[simp] theorem State.restIfDue_dict (s : State) : s.restIfDue.dict = s.dict := by simp [State.restIfDue]
@[simp] theorem State.writeBase_dict (s : State) (t v : Nat) : (s.writeBase t v).dict = s.dict := rfl
@[simp] theorem State.adopt_dict (s : State) : s.adopt.dict = s.dict := by simp [State.adopt]
@[simp] theorem State.sampleTail_dict (s : State) : s.sampleTail.dict = s.dict := by unfold State.sampleTail; split <;> simp

/-! Satellite navigation -/

@[simp] theorem State.setAnt_dict (s : State) (a : Nat) (x : AntSt) : (s.setAnt a x).dict = s.dict := rfl
@[simp] theorem State.antTick_dict (s : State) (a : Nat) (x : Option AntSample) : (s.antTick a x).dict = s.dict := by
  dsimp only [State.antTick]
  (repeat' split) <;> simp
@[simp] theorem State.takeIntCfg_dict (s : State) : s.takeIntCfg.dict = s.dict := rfl
@[simp] theorem State.noteEpochTime_dict (s : State) : s.noteEpochTime.dict = s.dict := rfl
@[simp] theorem State.epochBoundary_dict (s : State) : s.epochBoundary.dict = s.dict := by simp [State.epochBoundary]
@[simp] theorem State.agcTick_dict (s : State) (a b raw : Nat) : (s.agcTick a b raw).dict = s.dict := by
  dsimp only [State.agcTick]
  (repeat' split) <;> simp
@[simp] theorem State.agcStop_dict (s : State) : s.agcStop.dict = s.dict := rfl
@[simp] theorem State.antennas_dict (s : State) (xs : List AntSample) : (s.antennas xs).dict = s.dict := by
  simp [State.antennas]
@[simp] theorem State.drawBytes_dict (n : Nat) (s : State) : (State.drawBytes n s).2.dict = s.dict := by
  induction n generalizing s with
  | zero => rfl
  | succ n ih => exact (ih _).trans rfl
@[simp] theorem State.slotBytes_dict (s : State) (slot : Nat) : (s.slotBytes slot).2.dict = s.dict := by
  unfold State.slotBytes
  split <;> simp
@[simp] theorem State.putGnssRecord_dict (s : State) (mk : Nat → Bytes) : (s.putGnssRecord mk).dict = s.dict := by
  simp [State.putGnssRecord]
@[simp] theorem State.writePos_dict (s : State) (r : PosResult) : (s.writePos r).dict = s.dict := by simp [State.writePos]
@[simp] theorem State.noBaseline_dict (s : State) : s.noBaseline.dict = s.dict := by simp [State.noBaseline]
@[simp] theorem State.movingBaseline_dict (s : State) (mb : List MbEst) (heading : Option Rat) (epoch : Nat) :
    (s.movingBaseline mb heading epoch).dict = s.dict := by
  unfold State.movingBaseline
  (repeat' split) <;> simp
@[simp] theorem State.isoOffsets_dict (s : State) (e : PosEst) : (s.isoOffsets e).dict = s.dict := by simp [State.isoOffsets]
@[simp] theorem State.intState_dict (s : State) (epoch : Nat) : (s.intState epoch).dict = s.dict := by simp [State.intState]
@[simp] theorem State.signalChecks_dict (s : State) (epoch : Nat) : (s.signalChecks epoch).1.dict = s.dict := rfl
@[simp] theorem State.integrity_dict (s : State) (outs : List CheckOut) (e : Option Int) (epoch : Nat) :
    (s.integrity outs e epoch).dict = s.dict := by
  simp [State.integrity]
@[simp] theorem State.posRun_dict (s : State) (e : PosEst) : (s.posRun e).dict = s.dict := by
  dsimp only [State.posRun]
  rw [State.ite_dict, State.runPath_dict, ite_self, State.isoOffsets_dict, State.movingBaseline_dict]
  split <;> simp -implicitDefEqProofs only [↓State.invalidate_dict, ↓State.write_dict, ↓State.writePos_dict,
    ↓State.integrity_dict, ↓State.signalChecks_dict, ↓State.modeCount_dict, ↓State.modeEnter_dict]
@[simp] theorem State.posStart_dict (s : State) : s.posStart.dict = s.dict := by simp [State.posStart]
@[simp] theorem State.steerStart_dict (s : State) : s.steerStart.dict = s.dict := rfl
theorem State.resumeUnit_dict (s : State) (u : Nat) (start : State → State) (h : ∀ s, (start s).dict = s.dict) :
    (s.resumeUnit u start).dict = s.dict := by
  simp [State.resumeUnit, h]
@[simp] theorem State.gnssEnable_dict (s : State) : s.gnssEnable.dict = s.dict := by
  unfold State.gnssEnable
  exact (State.resumeUnit_dict _ _ _ State.steerStart_dict).trans (State.resumeUnit_dict _ _ _ State.posStart_dict)
@[simp] theorem State.applyMasks_dict (s : State) : s.applyMasks.dict = s.dict := by simp [State.applyMasks]
@[simp] theorem State.takeCorrection_dict (s : State) (i : Nat) : (s.takeCorrection i).dict = s.dict := by
  dsimp only [State.takeCorrection]
  (repeat' split) <;> simp
@[simp] theorem State.gnssCapture_dict (s : State) : s.gnssCapture.dict = s.dict := by
  simp -implicitDefEqProofs [State.gnssCapture]
@[simp] theorem State.applyTm_dict (s : State) : s.applyTm.dict = s.dict := by simp [State.applyTm]

/-! Imaging -/

@[simp] theorem State.setStream_dict (s : State) (n : Nat) (x : StreamSt) : (s.setStream n x).dict = s.dict := rfl
@[simp] theorem State.streamState_dict (s : State) (n : Nat) : (s.streamState n).dict = s.dict := by simp [State.streamState]
@[simp] theorem State.streamStates_dict (s : State) : s.streamStates.dict = s.dict := by simp [State.streamStates]
@[simp] theorem State.closeFrame_dict (s : State) (n t how : Nat) : (s.closeFrame n t how).dict = s.dict := by
  unfold State.closeFrame
  extract_lets
  split <;> simp
@[simp] theorem State.commit_dict (s : State) (n : Nat) : (s.commit n).dict = s.dict := rfl
@[simp] theorem State.focusBegin_dict (s : State) (n : Nat) : (s.focusBegin n).dict = s.dict := rfl
@[simp] theorem State.streamOn_dict (s : State) (n : Nat) : (s.streamOn n).dict = s.dict := by simp [State.streamOn]
@[simp] theorem State.strEnable_dict (s : State) (n : Nat) : (s.strEnable n).dict = s.dict := by simp [State.strEnable]
@[simp] theorem State.strDisable_dict (s : State) (n : Nat) : (s.strDisable n).dict = s.dict := rfl
@[simp] theorem State.closePort_dict (s : State) (p t : Nat) : (s.closePort p t).dict = s.dict := by simp [State.closePort]
@[simp] theorem State.setTried_dict (s : State) (p : Nat) : (s.setTried p).dict = s.dict := rfl
@[simp] theorem State.portTries_dict (s : State) (p : Nat) : (s.portTries p).dict = s.dict := rfl
@[simp] theorem State.portRests_dict (s : State) (p : Nat) : (s.portRests p).dict = s.dict := rfl
@[simp] theorem State.portOn_dict (s : State) (p : Nat) : (s.portOn p).dict = s.dict := by simp [State.portOn]
@[simp] theorem State.imgJoin_dict (s : State) (was : Sparse Nat) : (s.imgJoin was).dict = s.dict := by simp [State.imgJoin]
@[simp] theorem State.imgDown_dict (s : State) : s.imgDown.dict = s.dict := by simp [State.imgDown]
@[simp] theorem State.imgStart_dict (s : State) : s.imgStart.dict = s.dict := by simp [State.imgStart]
@[simp] theorem State.applyCommit_dict (s : State) (n t : Nat) : (s.applyCommit n t).dict = s.dict := by
  unfold State.applyCommit
  extract_lets
  split <;> simp
@[simp] theorem State.camWrites_dict (s : State) (n : Nat) (acks : List Bool) : (s.camWrites n acks).dict = s.dict := by
  dsimp only [State.camWrites]
  (repeat' split) <;> simp
@[simp] theorem State.openFrame_dict (s : State) (n t csi : Nat) (acks : List Bool) :
    (s.openFrame n t csi acks).dict = s.dict := by
  simp [State.openFrame]
@[simp] theorem State.badHeader_dict (s : State) (p : Nat) : (s.badHeader p).dict = s.dict := by simp [State.badHeader]
@[simp] theorem State.takeLine_dict (s : State) (n : Nat) (l : CamLine) : (s.takeLine n l).dict = s.dict := by
  unfold State.takeLine
  extract_lets
  split <;> simp
@[simp] theorem State.askExposure_dict (s : State) (n : Nat) (b : Bytes) : (s.askExposure n b).dict = s.dict := rfl
@[simp] theorem State.focusTo_dict (s : State) (n p : Nat) : (s.focusTo n p).dict = s.dict := by simp [State.focusTo]
@[simp] theorem State.climb_dict (s : State) (n : Nat) (r : FocusRec) : (s.climb n r).dict = s.dict := by simp [State.climb]
@[simp] theorem State.climbUnapplied_dict (s : State) (n : Nat) (r : FocusRec) : (s.climbUnapplied n r).dict = s.dict := by
  simp [State.climbUnapplied]
@[simp] theorem State.focusStep_dict (s : State) (n : Nat) : (s.focusStep n).dict = s.dict := by
  dsimp only [State.focusStep]
  (repeat' split) <;> simp
@[simp] theorem State.takeUnused_dict (s : State) (n : Nat) : (s.takeUnused n).dict = s.dict := by simp [State.takeUnused]
@[simp] theorem State.takeHold_dict (s : State) (n : Nat) : (s.takeHold n).dict = s.dict := by simp [State.takeHold]
@[simp] theorem State.pendRequest_dict (s : State) (n : Nat) (r : Nat × Nat × Nat) : (s.pendRequest n r).dict = s.dict := by
  simp [State.pendRequest]
@[simp] theorem State.takeExposure_dict (s : State) (n : Nat) : (s.takeExposure n).dict = s.dict := by simp [State.takeExposure]
@[simp] theorem State.streamCapture_dict (s : State) (n : Nat) : (s.streamCapture n).dict = s.dict := by
  dsimp only [State.streamCapture]
  (repeat' split) <;> simp
@[simp] theorem State.imgCapture_dict (s : State) : s.imgCapture.dict = s.dict := by simp [State.imgCapture]
theorem State.imgWrite_keepsDict (s : State) (key v : Nat) (b : Bytes) : KeepsDictIfSome s (s.imgWrite key v b) := by
  simp [State.imgWrite]

/-! The CAN controllers -/

@[simp] theorem State.setCan_dict (s : State) (c : Nat) (x : CanSt) : (s.setCan c x).dict = s.dict := rfl
@[simp] theorem State.canRates_dict (s : State) (c : Nat) : (s.canRates c).dict = s.dict := rfl
@[simp] theorem State.rxOld_dict (s : State) (c i : Nat) : (s.rxOld c i).2.dict = s.dict := by
  unfold State.rxOld
  extract_lets
  split <;> simp
@[simp] theorem State.ringWrite_dict (s : State) (c : Nat) (f : CanFrame) (sof : Nat) (own : Bool) :
    (s.ringWrite c f sof own).dict = s.dict := by
  simp [State.ringWrite]
@[simp] theorem State.drain_dict (s : State) (c : Nat) : (s.drain c).dict = s.dict := by simp [State.drain]
@[simp] theorem State.receive_dict (s : State) (c : Nat) (f : CanFrame) (sof : Nat) (own dram : Bool) :
    (s.receive c f sof own dram).dict = s.dict := by
  simp [State.receive]
@[simp] theorem State.setIso_dict (s : State) (f : IsoSt → IsoSt) : (s.setIso f).dict = s.dict := rfl
@[simp] theorem State.isoResult_dict (s : State) (n v : Nat) : (s.isoResult n v).dict = s.dict := by simp [State.isoResult]
@[simp] theorem State.slotFrame_dict (s : State) (slot : Option Nat) (sent : Bool) : (s.slotFrame slot sent).dict = s.dict := by
  unfold State.slotFrame
  split <;> simp
@[simp] theorem State.feed_dict (s : State) (c : Nat) : (s.feed c).dict = s.dict := rfl
@[simp] theorem State.stateFrame_dict (s : State) (c : Nat) (f : CanFrame) : (s.stateFrame c f).dict = s.dict := by
  simp [State.stateFrame]
@[simp] theorem State.seqFrame_dict (s : State) (c : Nat) (f : CanFrame) (slot : optParam (Option Nat) none) :
    (s.seqFrame c f slot).dict = s.dict := by
  simp [State.seqFrame]
@[simp] theorem State.setBuf_dict (s : State) (c b : Nat) (f : TxBuf → TxBuf) : (s.setBuf c b f).dict = s.dict := by
  simp [State.setBuf]
@[simp] theorem State.endBuf_dict (s : State) (c b result stamp : Nat) : (s.endBuf c b result stamp).dict = s.dict := by
  simp [State.endBuf]
@[simp] theorem State.leaveBus_dict (s : State) (c : Nat) : (s.leaveBus c).dict = s.dict := by simp [State.leaveBus]
@[simp] theorem State.leaveIfDue_dict (s : State) (c : Nat) : (s.leaveIfDue c).dict = s.dict := by simp [State.leaveIfDue]
@[simp] theorem State.tdcMeasured_dict (s : State) (c : Nat) (f : CanFrame) (delay : Nat) :
    (s.tdcMeasured c f delay).dict = s.dict := by
  simp [State.tdcMeasured]
@[simp] theorem State.askRecover_dict (s : State) (c : Nat) : (s.askRecover c).dict = s.dict := rfl
@[simp] theorem State.canOn_dict (s : State) (c : Nat) : (s.canOn c).dict = s.dict := rfl
@[simp] theorem State.canOff_dict (s : State) (c : Nat) : (s.canOff c).dict = s.dict := rfl
@[simp] theorem State.canFollow_dict (s : State) (was : List (Nat × Bool)) : (s.canFollow was).dict = s.dict := by
  simp [State.canFollow]
@[simp] theorem State.drainMaybe_dict (s : State) (c : Nat) : (s.drainMaybe c).dict = s.dict := by simp [State.drainMaybe]
@[simp] theorem State.canBoundary_dict (s : State) (c : Nat) : (s.canBoundary c).dict = s.dict := by simp [State.canBoundary]
@[simp] theorem State.canDown_dict (s : State) (c : Nat) : (s.canDown c).dict = s.dict := by simp [State.canDown]
@[simp] theorem State.canCapture_dict (s : State) (c : Nat) : (s.canCapture c).dict = s.dict := by simp [State.canCapture]
theorem State.canWrite_keepsDict (s : State) (key v : Nat) : KeepsDictIfSome s (s.canWrite key v) := by
  simp [State.canWrite]

/-! ISO nodes and Ethernet -/

@[simp] theorem State.stage_dict (s : State) (x : Staged) : (s.stage x).dict = s.dict := rfl
@[simp] theorem State.stageUdp_dict (s : State) (ports dest : Nat) (data : Bytes) :
    (s.stageUdp ports dest data).dict = s.dict := by
  simp [State.stageUdp]
@[simp] theorem State.flushStaged_dict (s : State) : s.flushStaged.dict = s.dict := by
  unfold State.flushStaged
  rw [foldl_dict]
  intro s x
  dsimp only
  split <;> simp
@[simp] theorem State.buildHeartbeat_dict (s : State) : s.buildHeartbeat.dict = s.dict := by simp [State.buildHeartbeat]
@[simp] theorem State.applyHb_dict (s : State) : s.applyHb.dict = s.dict := by simp [State.applyHb]
@[simp] theorem State.buildTimeMessage_dict (s : State) : s.buildTimeMessage.dict = s.dict := by simp [State.buildTimeMessage]
@[simp] theorem State.isoStateFrame_dict (s : State) (f : CanFrame) : (s.isoStateFrame f).dict = s.dict := by
  unfold State.isoStateFrame
  split <;> simp
@[simp] theorem State.isoSeqFrame_dict (s : State) (f : CanFrame) (slot : optParam (Option Nat) none) :
    (s.isoSeqFrame f slot).dict = s.dict := by
  unfold State.isoSeqFrame
  split <;> simp
@[simp] theorem State.sendClaim_dict (s : State) (addr : Nat) : (s.sendClaim addr).dict = s.dict := by simp [State.sendClaim]
@[simp] theorem State.claim_dict (s : State) (addr : Nat) : (s.claim addr).dict = s.dict := by simp [State.claim]
@[simp] theorem State.addrLost_dict (s : State) (addr : Nat) : (s.addrLost addr).dict = s.dict := by simp [State.addrLost]
@[simp] theorem State.isoOff_dict (s : State) : s.isoOff.dict = s.dict := rfl
@[simp] theorem State.setTx_dict (s : State) (n : Nat) (x : Option TpTx) : (s.setTx n x).dict = s.dict := rfl
@[simp] theorem State.cm_dict (s : State) (ext : Bool) (dest : Nat) (b : Bytes) : (s.cm ext dest b).dict = s.dict := by
  simp [State.cm]
@[simp] theorem State.tpAbort_dict (s : State) (ext : Bool) (dest pgn reason : Nat) :
    (s.tpAbort ext dest pgn reason).dict = s.dict := by
  simp [State.tpAbort]
@[simp] theorem State.isoSend_dict (s : State) (n prio dest pgn : Nat) (data : Bytes) :
    (s.isoSend n prio dest pgn data).dict = s.dict := by
  simp [State.isoSend]
@[simp] theorem State.bamStep_dict (s : State) (n : Nat) : (s.bamStep n).dict = s.dict := by
  unfold State.bamStep
  (repeat' split) <;> simp
@[simp] theorem State.sendBlock_dict (s : State) (x : TpTx) (first n : Nat) : (s.sendBlock x first n).dict = s.dict := by
  simp [State.sendBlock]
@[simp] theorem State.tpCts_dict (s : State) (x : TpRx) : (s.tpCts x).1.dict = s.dict := by simp [State.tpCts]
@[simp] theorem State.isoRecord_dict (s : State) (x : TpRx) (t : Nat) : (s.isoRecord x t).dict = s.dict := by
  simp [State.isoRecord]
@[simp] theorem State.markIso_dict (s : State) : s.markIso.dict = s.dict := by simp [State.markIso]
@[simp] theorem State.tpData_dict (s : State) (x : TpRx) (rest : List TpRx) (data : Bytes) (t : Nat) :
    (s.tpData x rest data t).dict = s.dict := by
  simp [State.tpData]
@[simp] theorem State.tpOpen_dict (s : State) (x : TpRx) : (s.tpOpen x).dict = s.dict := by simp [State.tpOpen]
@[simp] theorem State.tpControl_dict (s : State) (ext : Bool) (src dest prio : Nat) (d : Bytes) :
    (s.tpControl ext src dest prio d).dict = s.dict := by
  unfold State.tpControl
  extract_lets
  split <;> simp
@[simp] theorem State.isoTakeover_dict (s : State) : s.isoTakeover.dict = s.dict := by simp [State.isoTakeover]
@[simp] theorem State.noteDtcs_dict (s : State) (l : List Nat) : (s.noteDtcs l).dict = s.dict := by
  simp -implicitDefEqProofs [State.noteDtcs]
@[simp] theorem State.sendDm1_dict (s : State) (b : Bytes) : (s.sendDm1 b).dict = s.dict := by simp [State.sendDm1]
@[simp] theorem State.dm1Run_dict (s : State) : s.dm1Run.dict = s.dict := by dsimp only [State.dm1Run]; (repeat' split) <;> simp
@[simp] theorem State.mdpArrive_served (s : State) (m : MdpMsg) : (s.mdpArrive m).dict.served = s.dict.served := by
  unfold State.mdpArrive
  split <;> simp
@[simp] theorem State.segmentAnswer_dict (s : State) (o : Out) : (s.segmentAnswer o).dict = s.dict := by
  unfold State.segmentAnswer
  split <;> simp
@[simp] theorem State.segmentAnswers_dict (s : State) : s.segmentAnswers.dict = s.dict := by simp [State.segmentAnswers]
@[simp] theorem State.countSent_dict (s : State) : s.countSent.dict = s.dict := by
  unfold State.countSent
  rw [foldl_dict]
  intro s o
  dsimp only
  split <;> simp
@[simp] theorem State.gptpForeign_dict (s : State) : s.gptpForeign.dict = s.dict := by simp [State.gptpForeign]
@[simp] theorem State.ethPower_dict (s : State) (p : Nat) (on : Bool) : (s.ethPower p on).dict = s.dict := by
  simp [State.ethPower]
@[simp] theorem State.ethApply_dict (rd : Nat → Nat) (s : State) (p : Nat) : (s.ethApply rd p).dict = s.dict := by
  simp [State.ethApply]
@[simp] theorem State.ethDown_dict (s : State) : s.ethDown.dict = s.dict := by simp [State.ethDown]
@[simp] theorem State.isoBoundary_dict (s : State) : s.isoBoundary.dict = s.dict := by simp [State.isoBoundary]
@[simp] theorem State.netCapture_dict (s : State) : s.netCapture.dict = s.dict := by simp [State.netCapture]
@[simp] theorem State.netStart_dict (s : State) : s.netStart.dict = s.dict := by simp [State.netStart]
theorem State.netWrite_keepsDict (s : State) (key v : Nat) : KeepsDictIfSome s (s.netWrite key v) := by
  simp [State.netWrite]

/-! Module time -/

@[simp] theorem State.landArea_dict (s : State) (key : Nat) (a : AppArea) : (s.landArea key a).dict = s.dict := by
  simp [State.landArea]
@[simp] theorem State.blockWrite_dict (s : State) (core : Fin 4) (offset : Nat) :
    (s.blockWrite core offset).dict = s.dict := rfl
@[simp] theorem State.blockArea_dict (s : State) (core : Fin 4) (key : Nat) : (s.blockArea core key).dict = s.dict := by
  simp [State.blockArea]
@[simp] theorem State.appWrite_dict (s : State) (core : Fin 4) (key : Nat) (a : AppArea) :
    (s.appWrite core key a).dict = s.dict := by
  simp [State.appWrite]
@[simp] theorem State.addOverruns_dict (s : State) (e n : Nat) : (s.addOverruns e n).dict = s.dict := rfl
@[simp] theorem State.engineDeadline_dict (s : State) (e : Nat) (late : Bool) : (s.engineDeadline e late).dict = s.dict := by
  unfold State.engineDeadline
  split <;> simp
@[simp] theorem State.supInit_dict (s : State) : s.supInit.dict = s.dict := by simp -implicitDefEqProofs [State.supInit]
@[simp] theorem State.pathInit_dict (s : State) : s.pathInit.dict = s.dict := rfl
@[simp] theorem State.faultUnit_dict (s : State) (u code : Nat) : (s.faultUnit u code).dict = s.dict := by
  simp [State.faultUnit]
@[simp] theorem State.restartEngine_dict (s : State) (e : Nat) : (s.restartEngine e).dict = s.dict := rfl
@[simp] theorem State.engineStart_dict (s : State) (e : Nat) : (s.engineStart e).dict = s.dict := by simp [State.engineStart]
@[simp] theorem State.holdover_dict (s : State) : s.holdover.dict = s.dict := by simp [State.holdover]
@[simp] theorem State.setOffset_dict (s : State) (e : Int) : (s.setOffset e).dict = s.dict := by simp [State.setOffset]
@[simp] theorem State.toOffset_dict (s : State) : s.toOffset.dict = s.dict := by simp [State.toOffset]
@[simp] theorem State.track_dict (s : State) (e : Int) : (s.track e).dict = s.dict := by simp [State.track]
@[simp] theorem State.measured_dict (s : State) (e : Int) : (s.measured e).dict = s.dict := rfl
@[simp] theorem State.steer_dict (s : State) (e : Int) : (s.steer e).dict = s.dict := by simp [State.steer]
@[simp] theorem State.unsteered_dict (s : State) (excluded : Bool) : (s.unsteered excluded).dict = s.dict := by
  simp [State.unsteered]
@[simp] theorem State.followTimeState_dict (s : State) (v : Nat) : (s.followTimeState v).dict = s.dict := by
  simp [State.followTimeState]
@[simp] theorem State.timeTick_dict (s : State) : s.timeTick.dict = s.dict := by simp [State.timeTick]
@[simp] theorem State.gptpPortsWritten_dict (s : State) (v : Nat) : (s.gptpPortsWritten v).dict = s.dict := rfl
@[simp] theorem State.gptpApply_dict (s : State) : s.gptpApply.dict = s.dict := rfl

/-! Sensing -/

@[simp] theorem State.setLs_dict (s : State) (n : Nat) (x : LsSt) : (s.setLs n x).dict = s.dict := rfl
@[simp] theorem State.setUi_dict (s : State) (n : Nat) (x : UiSt) : (s.setUi n x).dict = s.dict := rfl
@[simp] theorem State.setSs_dict (s : State) (n : Nat) (x : SsSt) : (s.setSs n x).dict = s.dict := rfl
@[simp] theorem State.lsTake_dict (s : State) (n : Nat) (r : LsSt × List LsEvent) : (s.lsTake n r).dict = s.dict := rfl
@[simp] theorem State.lsRestart_dict (s : State) (n : Nat) : (s.lsRestart n).dict = s.dict := by simp [State.lsRestart]
@[simp] theorem State.lsRestartDue_dict (s : State) (n : Nat) : (s.lsRestartDue n).dict = s.dict := by
  unfold State.lsRestartDue
  split <;> simp
@[simp] theorem State.lateTick_dict (s : State) : s.lateTick.dict = s.dict := by simp [State.lateTick]
@[simp] theorem State.lsLate_dict (s : State) (n : Nat) : (s.lsLate n).dict = s.dict := by simp [State.lsLate]
@[simp] theorem State.lsCapture_dict (s : State) (inp : List LsSample) (n : Nat) : (s.lsCapture inp n).dict = s.dict := by
  unfold State.lsCapture
  (repeat' split) <;> simp
@[simp] theorem State.uiWrite_dict (s : State) (n eng st : Nat) : (s.uiWrite n eng st).dict = s.dict := rfl
@[simp] theorem State.uiCountBad_dict (s : State) (n : Nat) : (s.uiCountBad n).dict = s.dict := by simp [State.uiCountBad]
@[simp] theorem State.uiRewrite_dict (s : State) (n eng st : Nat) : (s.uiRewrite n eng st).dict = s.dict := by
  simp [State.uiRewrite]
@[simp] theorem State.uiLate_dict (s : State) (n : Nat) : (s.uiLate n).dict = s.dict := by simp [State.uiLate]
@[simp] theorem State.uiQuadMissing_dict (s : State) (n : Nat) : (s.uiQuadMissing n).dict = s.dict := by
  simp [State.uiQuadMissing]
@[simp] theorem State.uiAnalogueIn_dict (s : State) (n : Nat) (a : UiSample) : (s.uiAnalogueIn n a).dict = s.dict := by
  simp [State.uiAnalogueIn]
@[simp] theorem State.uiDigitalIn_dict (s : State) (n : Nat) (a : UiSample) : (s.uiDigitalIn n a).dict = s.dict := by
  simp [State.uiDigitalIn]
@[simp] theorem State.uiFrequencyIn_dict (s : State) (n : Nat) (a : UiSample) : (s.uiFrequencyIn n a).dict = s.dict := by
  simp [State.uiFrequencyIn]
@[simp] theorem State.uiQuadIn_dict (s : State) (n : Nat) (a b : UiSample) : (s.uiQuadIn n a b).dict = s.dict := by
  simp [State.uiQuadIn]
theorem State.uiWindow_keepsDict (s : State) (inp : List UiSample) (n : Nat) : KeepsDictIfSome s (s.uiWindow inp n) := by
  unfold State.uiWindow
  extract_lets at_ m
  split
  · split
    · simp
    · split <;> simp
  · split <;> simp
@[simp] theorem State.uiEntry_dict (s : State) (inp : List UiSample) (n : Nat) (restarts : Bool) :
    (s.uiEntry inp n restarts).dict = s.dict := by
  unfold State.uiEntry
  split
  · simp
  split
  next t ht => rw [State.uiCountBad_dict, s.uiWindow_keepsDict inp n t ht]
  next => simp
@[simp] theorem State.uiCapture_dict (s : State) (inp : List UiSample) (n : Nat) : (s.uiCapture inp n).dict = s.dict := by
  simp [State.uiCapture]
@[simp] theorem State.uiRestart_dict (s : State) (n : Nat) : (s.uiRestart n).dict = s.dict := rfl
@[simp] theorem State.uiMode_dict (s : State) (n m : Nat) : (s.uiMode n m).dict = s.dict := by simp [State.uiMode]
@[simp] theorem State.uiSetCount_dict (s : State) (n : Nat) (v : Int) : (s.uiSetCount n v).dict = s.dict := rfl
@[simp] theorem State.ssCapture_dict (s : State) (inp : List SsSample) (n : Nat) : (s.ssCapture inp n).dict = s.dict := by
  unfold State.ssCapture
  (repeat' split) <;> simp
@[simp] theorem State.ssRearm_dict (s : State) (n : Nat) : (s.ssRearm n).dict = s.dict := rfl
@[simp] theorem State.xvCapture_dict (s : State) (n : Nat) : (s.xvCapture n).dict = s.dict := by simp [State.xvCapture]
@[simp] theorem State.senseCapture_dict (s : State) (inp : TickIn) : (s.senseCapture inp).dict = s.dict := by
  simp [State.senseCapture]
@[simp] theorem State.senseStart_dict (s : State) : s.senseStart.dict = s.dict := by simp [State.senseStart]
@[simp] theorem State.senseDown_dict (s : State) : s.senseDown.dict = s.dict := by simp [State.senseDown]
theorem State.senseWrite_keepsDict (s : State) (key v : Nat) : KeepsDictIfSome s (s.senseWrite key v) := by
  simp [State.senseWrite]

/-! The switches -/

@[simp] theorem State.setCh_dict (s : State) (n : Nat) (x : ChSt) : (s.setCh n x).dict = s.dict := rfl
@[simp] theorem State.setBank_dict (s : State) (b : Nat) (x : BankSt) : (s.setBank b x).dict = s.dict := rfl
@[simp] theorem State.putOn_dict (s : State) (n : Nat) (on : Bool) : (s.putOn n on).dict = s.dict := rfl
@[simp] theorem State.chBit_dict (s : State) (n i : Nat) (b : Bool) : (s.chBit n i b).dict = s.dict := rfl
@[simp] theorem State.bankBit_dict (s : State) (b i : Nat) (v : Bool) : (s.bankBit b i v).dict = s.dict := rfl
@[simp] theorem State.wireUpdate_dict (s : State) (n : Nat) : (s.wireUpdate n).dict = s.dict := rfl
@[simp] theorem State.chMeasured_dict (s : State) (n : Nat) (a : ChSample) : (s.chMeasured n a).dict = s.dict := rfl
@[simp] theorem State.chFields_dict (s : State) (n : Nat) (limit : Bool) : (s.chFields n limit).dict = s.dict := rfl
@[simp] theorem State.chCapture_dict (inp : List ChSample) (s : State) (n : Nat) : (s.chCapture inp n).dict = s.dict := by
  unfold State.chCapture
  split <;> simp
@[simp] theorem State.chUnseen_dict (s : State) (n : Nat) : (s.chUnseen n).dict = s.dict := by simp [State.chUnseen]
@[simp] theorem State.bankSag_dict (inp : TickIn) (s : State) (b : Nat) : (s.bankSag inp b).dict = s.dict := by
  simp [State.bankSag]
@[simp] theorem State.bankCapture_dict (inp : TickIn) (s : State) (b : Nat) : (State.bankCapture inp s b).dict = s.dict := by
  dsimp only [State.bankCapture]
  generalize (inp.bank.find? fun a => a.b == b) = sample
  cases sample
  · simp only [↓State.clearInput_dict, ↓State.lateTick_dict, ↓State.setBank_dict]
  · simp only [↓State.capture_dict, ↓State.setAll_dict, ↓State.setBank_dict]
@[simp] theorem State.bankEntry_dict (inp : TickIn) (s : State) (b : Nat) : (s.bankEntry inp b).dict = s.dict := by
  simp [State.bankEntry]
@[simp] theorem State.swCapture_dict (s : State) (inp : TickIn) : (s.swCapture inp).dict = s.dict := by simp [State.swCapture]
@[simp] theorem State.shedBit_dict (s : State) (n : Nat) (v : Bool) : (s.shedBit n v).dict = s.dict := rfl
@[simp] theorem State.enterCh_dict (s : State) (n st : Nat) : (s.enterCh n st).dict = s.dict := by simp [State.enterCh]
@[simp] theorem State.shedNoted_dict (s : State) (b : Nat) : (s.shedNoted b).dict = s.dict := rfl
@[simp] theorem State.switchOn_dict (s : State) (n : Nat) : (s.switchOn n).dict = s.dict := by simp [State.switchOn]
@[simp] theorem State.zeroRules_dict (s : State) (n : Nat) : (s.zeroRules n).dict = s.dict := by simp [State.zeroRules]
@[simp] theorem State.tripRecord_dict (s : State) (n cause : Nat) : (s.tripRecord n cause).dict = s.dict := rfl
@[simp] theorem State.trip_dict (s : State) (n cause : Nat) : (s.trip n cause).dict = s.dict := by simp [State.trip]
@[simp] theorem State.holdTrip_dict (s : State) (n : Nat) : (s.holdTrip n).dict = s.dict := by
  unfold State.holdTrip
  split <;> simp
@[simp] theorem State.rearmDo_dict (s : State) (n : Nat) : (s.rearmDo n).dict = s.dict := by simp [State.rearmDo]
@[simp] theorem State.chTrips_dict (s : State) (n : Nat) (d : Nat × Bool) : (s.chTrips n d).dict = s.dict := by
  unfold State.chTrips
  (repeat' split) <;> simp
@[simp] theorem State.shed_dict (s : State) (n : Nat) : (s.shed n).dict = s.dict := by simp [State.shed]
@[simp] theorem State.bankShed_dict (s : State) (b : Nat) : (s.bankShed b).dict = s.dict := by
  unfold State.bankShed
  split <;> simp
@[simp] theorem State.chByDemand_dict (s : State) (n : Nat) : (s.chByDemand n).dict = s.dict := by simp [State.chByDemand]
@[simp] theorem State.olOn_dict (s : State) (n : Nat) : (s.olOn n).dict = s.dict := by simp [State.olOn]
@[simp] theorem State.olLearn_dict (s : State) (n : Nat) : (s.olLearn n).dict = s.dict := by
  unfold State.olLearn
  split <;> simp
@[simp] theorem State.olOff_dict (s : State) (n : Nat) : (s.olOff n).dict = s.dict := by simp [State.olOff]
@[simp] theorem State.fuseRun_dict (s : State) (b : Nat) : (s.fuseRun b).1.dict = s.dict := by
  dsimp only [State.fuseRun]
  (repeat' split) <;> simp
@[simp] theorem State.assistedTrip_dict (s : State) (b : Nat) : (s.assistedTrip b).dict = s.dict := by simp [State.assistedTrip]
@[simp] theorem State.chTake_dict (s : State) (n : Nat) : (s.chTake n).dict = s.dict := rfl
@[simp] theorem State.bankEval_dict (s : State) (b : Nat) : (s.bankEval b).dict = s.dict := by simp [State.bankEval]
@[simp] theorem State.swEnd_dict (s : State) : s.swEnd.dict = s.dict := by simp [State.swEnd]
@[simp] theorem State.chNotes_dict (s : State) (held : Bool) (n : Nat) : (s.chNotes held n).dict = s.dict := rfl
@[simp] theorem State.chApply_dict (k : Nat) (s : State) (n : Nat) : (s.chApply k n).dict = s.dict := by simp [State.chApply]
@[simp] theorem State.swBoundary_dict (s : State) (k : Nat) : (s.swBoundary k).dict = s.dict := by simp [State.swBoundary]
@[simp] theorem State.swOff_dict (s : State) : s.swOff.dict = s.dict := by simp [State.swOff]
@[simp] theorem State.chStart_dict (s : State) (n : Nat) : (s.chStart n).dict = s.dict := by simp [State.chStart]
@[simp] theorem State.swStart_dict (s : State) : s.swStart.dict = s.dict := by simp [State.swStart]
@[simp] theorem State.swStartHeld_dict (s : State) : s.swStartHeld.dict = s.dict := by simp [State.swStartHeld]
@[simp] theorem State.swHold_dict (s : State) : s.swHold.dict = s.dict := by simp [State.swHold]
@[simp] theorem State.rearmCh_dict (s : State) (n : Nat) : (s.rearmCh n).dict = s.dict := rfl
@[simp] theorem State.energy_dict (s : State) (n : Nat) (i : Rat) : (s.energy n i).2.dict = s.dict := by
  unfold State.energy
  split <;> simp
@[simp] theorem State.pwmBegin_dict (s : State) (n duty : Nat) : (s.pwmBegin n duty).dict = s.dict := by simp [State.pwmBegin]
@[simp] theorem State.pwmRefuse_dict (s : State) (n e : Nat) : (s.pwmRefuse n e).dict = s.dict := by simp [State.pwmRefuse]
@[simp] theorem State.learnCh_dict (s : State) (n : Nat) : (s.learnCh n).dict = s.dict := rfl
theorem State.swWrite_keepsDict (s : State) (key v : Nat) : KeepsDictIfSome s (s.swWrite key v) := by
  simp [State.swWrite]

/-! The valve drives -/

@[simp] theorem State.setVd_dict (s : State) (n : Nat) (x : VdSt) : (s.setVd n x).dict = s.dict := rfl
@[simp] theorem State.groupOn_dict (s : State) (g : Nat) : (s.groupOn g).dict = s.dict := by simp [State.groupOn]
@[simp] theorem State.beginBoost_dict (s : State) (n t : Nat) : (s.beginBoost n t).dict = s.dict := by simp [State.beginBoost]
@[simp] theorem State.releaseBoost_dict (s : State) (n t : Nat) : (s.releaseBoost n t).dict = s.dict := by
  simp [State.releaseBoost]
@[simp] theorem State.toHold_dict (s : State) (n t : Nat) : (s.toHold n t).dict = s.dict := by simp [State.toHold]
@[simp] theorem State.toTransition_dict (s : State) (n : Nat) : (s.toTransition n).dict = s.dict := rfl
@[simp] theorem State.afterPeak_dict (s : State) (n t : Nat) (bare : Bool) : (s.afterPeak n t bare).dict = s.dict := by
  simp [State.afterPeak]
@[simp] theorem State.afterBoost_dict (s : State) (n t : Nat) : (s.afterBoost n t).dict = s.dict := by simp [State.afterBoost]
@[simp] theorem State.startProfile_dict (s : State) (n t : Nat) (len : Option Nat) :
    (s.startProfile n t len).dict = s.dict := by
  simp [State.startProfile]
@[simp] theorem State.stageOff_dict (s : State) (n t : Nat) : (s.stageOff n t).dict = s.dict := by simp [State.stageOff]
@[simp] theorem State.vdOff_dict (s : State) (n t : Nat) : (s.vdOff n t).dict = s.dict := by simp [State.vdOff]
@[simp] theorem State.vdFault_dict (s : State) (n f t : Nat) : (s.vdFault n f t).dict = s.dict := by simp [State.vdFault]
@[simp] theorem State.vdFaultEvent_dict (s : State) (n f : Nat) : (s.vdFaultEvent n f).dict = s.dict := rfl
@[simp] theorem State.vdCommandOff_dict (s : State) (n t : Nat) : (s.vdCommandOff n t).dict = s.dict := by
  simp [State.vdCommandOff]
@[simp] theorem State.vdTake_dict (s : State) (t n : Nat) : (s.vdTake t n).dict = s.dict := by
  unfold State.vdTake
  extract_lets x y u
  split
  · simp
  split
  · simp [u]
  split
  · split <;> simp [u]
  · rw [State.ite_dict, State.ite_dict, State.vdCommandOff_dict, State.toTransition_dict, ite_self, ite_self,
      State.setVd_dict, State.setVd_dict]
@[simp] theorem State.groupBoundary_dict (s : State) (g : Nat) : (s.groupBoundary g).dict = s.dict := rfl
@[simp] theorem State.boostSettle_dict (t : Nat) (s : State) (g : Nat) : (s.boostSettle t g).dict = s.dict := by
  simp [State.boostSettle]
@[simp] theorem State.vdClear_dict (s : State) (n : Nat) : (s.vdClear n).dict = s.dict := rfl
@[simp] theorem State.vdDisabled_dict (s : State) (n : Nat) : (s.vdDisabled n).dict = s.dict := by simp [State.vdDisabled]
@[simp] theorem State.vdRearmed_dict (s : State) (n : Nat) : (s.vdRearmed n).dict = s.dict := by simp [State.vdRearmed]
@[simp] theorem State.hgRearmed_dict (s : State) (g : Nat) : (s.hgRearmed g).dict = s.dict := by simp [State.hgRearmed]
@[simp] theorem State.vdNotes_dict (s : State) (n : Nat) : (s.vdNotes n).dict = s.dict := rfl
@[simp] theorem State.vdApply_dict (s : State) (t : Nat) : (s.vdApply t).dict = s.dict := by simp [State.vdApply]
@[simp] theorem State.rearmsPast_dict (s : State) : s.rearmsPast.dict = s.dict := by simp [State.rearmsPast]
@[simp] theorem State.vdEnd_dict (s : State) (t : Nat) : (s.vdEnd t).dict = s.dict := by simp [State.vdEnd]
@[simp] theorem State.feedMissed_dict (s : State) : s.feedMissed.dict = s.dict := rfl
@[simp] theorem State.bstCapture_dict (s : State) (b : Option BstSample) : (s.bstCapture b).dict = s.dict := by
  unfold State.bstCapture
  split <;> simp -implicitDefEqProofs
@[simp] theorem State.coilLimits_dict (s : State) (n : Nat) : (s.coilLimits n).dict = s.dict := by simp [State.coilLimits]
@[simp] theorem State.coilUpdate_dict (s : State) (n : Nat) (r : Option Nat) : (s.coilUpdate n r).dict = s.dict := by
  simp [State.coilUpdate]
@[simp] theorem State.oddEntry_dict (s : State) (n : Nat) : (s.oddEntry n).dict = s.dict := by
  simp -implicitDefEqProofs [State.oddEntry]
@[simp] theorem State.vdCapture_dict (inp : List VdSample) (s : State) (n : Nat) : (s.vdCapture inp n).dict = s.dict := by
  unfold State.vdCapture
  (repeat' split) <;> simp
@[simp] theorem State.valveCapture_dict (s : State) (inp : TickIn) : (s.valveCapture inp).dict = s.dict := by
  dsimp only [State.valveCapture]
  split
  · rw [foldl_dict _ fun s n => s.vdCapture_dict inp.vd n, foldl_dict, State.bstCapture_dict]
    intro s g
    dsimp only
    split <;> simp
  · simp
@[simp] theorem State.coilStart_dict (s : State) (t0 n : Nat) : (s.coilStart t0 n).dict = s.dict := rfl
@[simp] theorem State.valveStart_dict (s : State) : s.valveStart.dict = s.dict := by simp [State.valveStart]
@[simp] theorem State.valveStartHeld_dict (s : State) : s.valveStartHeld.dict = s.dict := by simp [State.valveStartHeld]
@[simp] theorem State.valveOff_dict (s : State) : s.valveOff.dict = s.dict := by simp [State.valveOff]
@[simp] theorem State.vdRetrigger_dict (s : State) (n : Nat) : (s.vdRetrigger n).dict = s.dict := rfl
@[simp] theorem State.groupFault_dict (s : State) (g : Nat) (f : Nat → Nat) : (s.groupFault g f).dict = s.dict := by
  simp [State.groupFault]
@[simp] theorem State.vdRearm_dict (s : State) (n : Nat) : (s.vdRearm n).dict = s.dict := rfl
@[simp] theorem State.hgRearm_dict (s : State) (g : Nat) : (s.hgRearm g).dict = s.dict := rfl
theorem State.valveWrite_keepsDict (s : State) (key v : Nat) : KeepsDictIfSome s (s.valveWrite key v) := by
  simp [State.valveWrite]

/-! Power domains and the supply -/

@[simp] theorem State.bias_dict (s : State) (d st : Nat) : (s.bias d st).dict = s.dict := by simp [State.bias]
@[simp] theorem State.wakeRecord_dict (s : State) (d goal : Nat) : (s.wakeRecord d goal).dict = s.dict := by
  simp [State.wakeRecord]
@[simp] theorem State.domDown_dict (s : State) (d : Nat) : (s.domDown d).dict = s.dict := by simp [State.domDown]
@[simp] theorem State.enginesStart_dict (s : State) (l : List Nat) : (s.enginesStart l).dict = s.dict := by
  simp [State.enginesStart]
@[simp] theorem State.retLost_dict (s : State) (d : Nat) (lost : List Nat) : (s.retLost d lost).dict = s.dict := by
  simp [State.retLost]
@[simp] theorem State.domUp_dict (s : State) (d : Nat) : (s.domUp d).dict = s.dict := by simp [State.domUp]
@[simp] theorem State.domReach_dict (s : State) (d st us : Nat) : (s.domReach d st us).dict = s.dict := by simp [State.domReach]
@[simp] theorem State.powerStart_dict (s : State) : s.powerStart.dict = s.dict := by
  refine foldl_dict _ (fun s d => ?_) _ _
  dsimp only
  split
  · split
    · rw [State.wakeRecord_dict, State.set_dict, State.draw_dict, State.bias_dict, State.setAll_dict]
    · rw [State.set_dict, State.draw_dict, State.bias_dict, State.setAll_dict]
  · rw [State.bias_dict, State.setAll_dict]
@[simp] theorem State.supplyCapture_dict (s : State) (inp : TickIn) : (s.supplyCapture inp).dict = s.dict := by
  unfold State.supplyCapture
  split <;> simp -implicitDefEqProofs
@[simp] theorem State.thermCapture_dict (s : State) (b : Option (Nat × Nat)) : (s.thermCapture b).dict = s.dict := by
  unfold State.thermCapture
  split <;> simp -implicitDefEqProofs
theorem State.powerWrite_keepsDict (s : State) (key : Nat) : KeepsDictIfSome s (s.powerWrite key) := by
  simp [State.powerWrite]

/-! Updates -/

@[simp] theorem State.showUpd_dict (s : State) : s.showUpd.dict = s.dict := by simp [State.showUpd]
@[simp] theorem State.putUpd_dict (s : State) (r : UpdRec) : (s.putUpd r).dict = s.dict := by simp [State.putUpd]
@[simp] theorem State.putSel_dict (s : State) (b : Bool) : (s.putSel b).dict = s.dict := rfl
@[simp] theorem State.readRegion_dict (s : State) : s.readRegion.dict = s.dict := rfl
@[simp] theorem State.rejectUpd_dict (s : State) (code : Nat) : (s.rejectUpd code).dict = s.dict := by
  simp -implicitDefEqProofs [State.rejectUpd]
@[simp] theorem State.checkManifest_dict (s : State) : s.checkManifest.dict = s.dict := by
  dsimp only [State.checkManifest]
  (repeat' split) <;> simp -implicitDefEqProofs
@[simp] theorem State.groupFail_dict (s : State) (m : Manifest) (g way : Nat) : (s.groupFail m g way).dict = s.dict := rfl
@[simp] theorem State.hashGroup_dict (s : State) (i : Nat) : (s.hashGroup i).dict = s.dict := by
  unfold State.hashGroup
  split <;> simp
@[simp] theorem State.allHeld_dict (s : State) : s.allHeld.dict = s.dict := by unfold State.allHeld; split <;> simp
@[simp] theorem State.takeWafer_dict (s : State) (b : Bytes) : (s.takeWafer b).dict = s.dict := by
  simp -implicitDefEqProofs [State.takeWafer]
@[simp] theorem State.activate_dict (s : State) (v : Nat) : (s.activate v).dict = s.dict := by simp [State.activate]
@[simp] theorem State.countParked_dict (s : State) : s.countParked.dict = s.dict := rfl
@[simp] theorem State.resetNext_dict (s : State) (cause detail : Nat) : (s.resetNext cause detail).dict = s.dict := by
  unfold State.resetNext
  split <;> simp
@[simp] theorem State.cancelUpd_dict (s : State) : s.cancelUpd.dict = s.dict := by simp [State.cancelUpd]
@[simp] theorem State.confirm_dict (s : State) : s.confirm.dict = s.dict := by simp -implicitDefEqProofs [State.confirm]
@[simp] theorem State.zeroHeader_dict (s : State) (area : Bool) : (s.zeroHeader area).dict = s.dict := by
  simp [State.zeroHeader]
@[simp] theorem State.fallback_dict (s : State) (cause : Nat) : (s.fallback cause).dict = s.dict := by simp [State.fallback]
@[simp] theorem State.putKey_dict (s : State) (i : Nat) (key : Bytes) : (s.putKey i key).dict = s.dict := rfl
theorem State.updWrite_keepsDict (s : State) (key : Nat) (b : Bytes) : KeepsDictIfSome s (s.updWrite key b) := by
  simp [State.updWrite]

/-! The lease of a pair -/

@[simp] theorem State.setPath_dict (s : State) (i : Nat) (x : PathSt) : (s.setPath i x).dict = s.dict := by simp [State.setPath]
@[simp] theorem State.pairBit_dict (s : State) (i : Nat) (b : Bool) : (s.pairBit i b).dict = s.dict := rfl
@[simp] theorem State.fill_dict (s : State) : s.fill.dict = s.dict := rfl
@[simp] theorem State.seePartner_dict (s : State) (i : Nat) (w : PartnerWord) : (s.seePartner i w).dict = s.dict := by
  simp [State.seePartner]
@[simp] theorem State.takeToken_served (s : State) : s.takeToken.dict.served = s.dict.served := rfl
@[simp] theorem State.ledgerAnew_dict (s : State) : s.ledgerAnew.dict = s.dict := rfl
@[simp] theorem State.unitsStart_dict (s : State) : s.unitsStart.dict = s.dict := by simp [State.unitsStart]
@[simp] theorem State.holdBegin_dict (s : State) : s.holdBegin.dict = s.dict := by simp [State.holdBegin]
@[simp] theorem State.holdDone_dict (s : State) : s.holdDone.dict = s.dict := by simp [State.holdDone]
@[simp] theorem State.beginSwap_dict (s : State) : s.beginSwap.dict = s.dict := rfl
@[simp] theorem State.rxTestBegin_dict (s : State) (v : Nat) : (s.rxTestBegin v).dict = s.dict := rfl
@[simp] theorem State.timeDiff_dict (s : State) : s.timeDiff.dict = s.dict := by unfold State.timeDiff; split <;> simp
@[simp] theorem State.countSwap_dict (s : State) : s.countSwap.dict = s.dict := by unfold State.countSwap; split <;> simp
@[simp] theorem State.pairTick_dict (s : State) (served : Bool) : (s.pairTick served).dict = s.dict := by simp [State.pairTick]
theorem State.pairWrite_keepsDict (s : State) (key v : Nat) : KeepsDictIfSome s (s.pairWrite key v) := by
  simp [State.pairWrite]

/-! Writes and the store -/

@[simp] theorem State.dropReasm_served (s : State) (c : Nat) : (s.dropReasm c).dict.served = s.dict.served := rfl
@[simp] theorem State.discardReasm_served (s : State) (c : Nat) : (s.discardReasm c).dict.served = s.dict.served := by
  unfold State.discardReasm
  split <;> simp
@[simp] theorem State.reassembled_served (s : State) (c : Nat) (b : Bytes) :
    (s.reassembled c b).dict.served = s.dict.served := by
  simp [State.reassembled]
@[simp] theorem State.closeOthers_served (s : State) (q : Req) : (s.closeOthers q).dict.served = s.dict.served := rfl
@[simp] theorem State.putCred_served (s : State) (lvl : Nat) (code : Bytes) :
    (s.putCred lvl code).dict.served = s.dict.served := by
  dsimp only [State.putCred]
  (repeat' split) <;> simp
@[simp] theorem State.beginStore_dict (s : State) (group : Nat) (req : Option Req) :
    (s.beginStore group req).dict = s.dict := by
  simp [State.beginStore]
@[simp] theorem State.askStore_dict (s : State) (group : Nat) (req : Option Req) : (s.askStore group req).dict = s.dict := by
  simp [State.askStore]
@[simp] theorem State.storeAnswer_served (s : State) (r : StoreRun) (st : Status) :
    (s.storeAnswer r st).dict.served = s.dict.served := by
  unfold State.storeAnswer
  split <;> simp
@[simp] theorem State.completeStore_dict (s : State) (r : StoreRun) : (s.completeStore r).dict = s.dict := by
  simp [State.completeStore]
theorem State.ledgerWrite_keepsDict (s : State) (key v : Nat) : KeepsDictIfSome s (s.ledgerWrite key v) := by
  simp [State.ledgerWrite]
theorem State.unitWrite_keepsDict (s : State) (u sub v : Nat) : KeepsDictIfSome s (s.unitWrite u sub v) := by
  simp [State.unitWrite]
theorem State.functionWrite_keepsDict (s : State) (key v : Nat) : KeepsDictIfSome s (s.functionWrite key v) := by
  unfold State.functionWrite
  split
  · cases templateOf (s.get Obj.TPL_NUMBER) <;> simp
  · simp
theorem State.chapterWrite_keepsServed (s : State) (q : Option Req) (key : Nat) (b : Bytes) :
    KeepsServedIfSome s (s.chapterWrite q key b) := by
  unfold State.chapterWrite
  generalize unitOf key = unit
  cases q <;> cases unit <;> simp [(s.powerWrite_keepsDict _).served, (s.updWrite_keepsDict _ _).served,
    (s.pairWrite_keepsDict _ _).served, (s.swWrite_keepsDict _ _).served, (s.valveWrite_keepsDict _ _).served,
    (s.senseWrite_keepsDict _ _).served, (s.ledgerWrite_keepsDict _ _).served, (s.unitWrite_keepsDict _ _ _).served,
    (s.functionWrite_keepsDict _ _).served, (s.imgWrite_keepsDict _ _ _).served, (s.canWrite_keepsDict _ _).served,
    (s.netWrite_keepsDict _ _).served]
@[simp] theorem State.applyWrite_served (s : State) (q : Option Req) (key : Nat) (b : Bytes) :
    (s.applyWrite q key b).dict.served = s.dict.served := by
  unfold State.applyWrite
  split
  · rfl
  split
  next t ht => exact s.chapterWrite_keepsServed q key b t ht
  next => split <;> rfl
@[simp] theorem State.writeRefused_dict (s : State) (key : Nat) (b : Bytes) (st : Status) :
    (s.writeRefused key b st).dict = s.dict := by
  unfold State.writeRefused
  (repeat' split) <;> simp
@[simp] theorem State.storeDefaults_served (s : State) (q : Option Req) : (s.storeDefaults q).dict.served = s.dict.served := by
  simp [State.storeDefaults]
@[simp] theorem State.applyMirrored_served (s : State) (key : Nat) (b : Bytes) :
    (s.applyMirrored key b).dict.served = s.dict.served := by
  unfold State.applyMirrored
  split <;> simp
@[simp] theorem State.registerOem_served (s : State) (l : Option (List Nat)) :
    (s.registerOem l).dict.served = s.dict.served := by
  unfold State.registerOem
  split <;> simp

/-! The pair -/

@[simp] theorem State.sendRefill_dict (s : State) : s.sendRefill.1.dict = s.dict := by unfold State.sendRefill; split <;> simp
@[simp] theorem State.sendMirror_dict (s : State) : s.sendMirror.dict = s.dict := by
  unfold State.sendMirror
  split
  · have kept : s.sendRefill.1.dict = s.dict := State.sendRefill_dict s
    dsimp only
    split
    next h => rw [h] at kept; exact kept
    next h => rw [h] at kept; exact kept
  · rfl
@[simp] theorem State.putVal_dict (s : State) (v : MirrorVal) : (s.putVal v).dict = s.dict := rfl
@[simp] theorem State.ready_dict (s : State) : s.ready.dict = s.dict := by unfold State.ready; split <;> simp
@[simp] theorem State.replayMirror_served (s : State) (m : Mirror) : (s.replayMirror m).dict.served = s.dict.served := by
  unfold State.replayMirror
  (repeat' split) <;> simp
@[simp] theorem State.replayList_served (s : State) (l : List Mirror) : (s.replayList l).dict.served = s.dict.served := by
  unfold State.replayList
  rw [foldl_served]
  intro s m
  dsimp only
  split <;> simp
@[simp] theorem State.replayAll_served (s : State) : s.replayAll.dict.served = s.dict.served := by
  unfold State.replayAll
  split <;> simp
@[simp] theorem State.mirrorCh_dict (s : State) (c : MirrorCh) : (s.mirrorCh c).dict = s.dict := by simp [State.mirrorCh]
@[simp] theorem State.mirrorBank_dict (s : State) (b : MirrorBank) : (s.mirrorBank b).dict = s.dict := by
  simp [State.mirrorBank]
@[simp] theorem State.mirrorVd_dict (s : State) (v : MirrorVd) : (s.mirrorVd v).dict = s.dict := by simp [State.mirrorVd]
@[simp] theorem State.takeSlices_served (s : State) (m : Mirror) : (s.takeSlices m).dict.served = s.dict.served := by
  simp [State.takeSlices]
@[simp] theorem State.seeHeader_dict (s : State) (m : Mirror) : (s.seeHeader m).dict = s.dict := by simp [State.seeHeader]
@[simp] theorem State.takeMirror_served (s : State) (m : Mirror) (align : Int) :
    (s.takeMirror m align).dict.served = s.dict.served := by
  unfold State.takeMirror
  split <;> simp -implicitDefEqProofs
@[simp] theorem State.mirrorLate_dict (s : State) : s.mirrorLate.dict = s.dict := by
  simp -implicitDefEqProofs [State.mirrorLate]
@[simp] theorem State.takePages_dict (s : State) : s.takePages.dict = s.dict := by simp [State.takePages]
@[simp] theorem State.takeRefill_served (s : State) (r : Refill) : (s.takeRefill r).dict.served = s.dict.served := by
  simp [State.takeRefill]
@[simp] theorem State.gapSamples_dict (s : State) : s.gapSamples.dict = s.dict := by unfold State.gapSamples; split <;> simp
@[simp] theorem State.becomeActive_served (s : State) : s.becomeActive.dict.served = s.dict.served := by
  simp [State.becomeActive]
@[simp] theorem State.unitsIncomplete_dict (s : State) : s.unitsIncomplete.dict = s.dict := by simp [State.unitsIncomplete]
@[simp] theorem State.announce_dict (s : State) : s.announce.dict = s.dict := by simp [State.announce]

/-! Reset and the start -/

@[simp] theorem State.resetAt_dict (s : State) (cause detail : Nat) : (s.resetAt cause detail).dict = s.dict := by
  unfold State.resetAt
  split <;> simp
@[simp] theorem State.supplyRecord_dict (s : State) (mv : Nat) : (s.supplyRecord mv).dict = s.dict := by
  simp [State.supplyRecord]
@[simp] theorem State.storeInHoldup_dict (s : State) (reached : Nat) : (s.storeInHoldup reached).dict = s.dict := by
  unfold State.storeInHoldup
  split <;> simp
@[simp] theorem State.restart_served (s : State) (cause : Nat) (hold : Bool) : (s.restart cause hold).dict.served = 0 := rfl
@[simp] theorem State.enterReset_served (s : State) (d : ResetDue) : (s.enterReset d).dict.served = 0 := by
  simp [State.enterReset]
@[simp] theorem State.updateStart_dict (s : State) : s.updateStart.1.dict = s.dict := by
  simp -implicitDefEqProofs [State.updateStart, apply_ite Prod.fst]
theorem State.imageCheck_keepsDict (s : State) (a b : Bool) : KeepsDictIfSome s (s.imageCheck a b) := by
  simp -implicitDefEqProofs [State.imageCheck]
@[simp] theorem State.putInForce_dict (s : State) (b : Option Bool) : (s.putInForce b).dict = s.dict := by
  unfold State.putInForce
  split <;> simp
@[simp] theorem State.noteArea_dict (s : State) (b : Bool) : (s.noteArea b).dict = s.dict := by simp [State.noteArea]
@[simp] theorem State.chooseArea_dict (s : State) : s.chooseArea.dict = s.dict := by simp [State.chooseArea]
theorem State.migrate_keepsDict (s : State) (ok : Bool) : KeepsDictIfSome s (s.migrate ok) := by
  dsimp only [State.migrate]
  split
  · exact keepsDictIfSome_none s
  rw [keepsDictIfSome_some]
  simp -implicitDefEqProofs only [↓State.ite_dict, ↓State.putUpd_dict, ↓State.event_dict, ↓State.putInForce_dict,
    ↓State.setArea_dict, ite_self]
  rw [foldl_dict _ fun s p => s.event_dict _ _ _, State.zeroHeader_dict]
@[simp] theorem State.settingsStart_dict (s : State) (ok : Bool) : (s.settingsStart ok).1.dict = s.dict := by
  unfold State.settingsStart
  split
  · split
    next t ht => exact State.migrate_keepsDict s ok t ht
    next => simp
  · simp
@[simp] theorem State.partnerCheck_dict (s : State) (rel : Option Nat) : (s.partnerCheck rel).dict = s.dict := by
  unfold State.partnerCheck
  split <;> simp
@[simp] theorem State.recorderStart_dict (s : State) (holdupOk : Bool) : (s.recorderStart holdupOk).dict = s.dict := by
  simp [State.recorderStart]
@[simp] theorem State.releaseBegin_dict (s : State) (inp : StartIn) : (s.releaseBegin inp).dict = s.dict := rfl
@[simp] theorem State.loadSettings_dict (s : State) : s.loadSettings.dict = s.dict := by simp [State.loadSettings]
@[simp] theorem State.startUnit_dict (s : State) (u : Nat) : (s.startUnit u).dict = s.dict := by
  unfold State.startUnit
  (repeat' split) <;> simp
@[simp] theorem State.startEnables_dict (s : State) : s.startEnables.dict = s.dict := by simp [State.startEnables]
@[simp] theorem State.pairStart_dict (s : State) : s.pairStart.dict = s.dict := by simp [State.pairStart]
@[simp] theorem State.canPathStart_dict (s : State) : s.canPathStart.dict = s.dict := by
  unfold State.canPathStart
  (repeat' split) <;> simp
@[simp] theorem State.settingsInForce_served (s : State) : s.settingsInForce.dict.served = s.dict.served := rfl
@[simp] theorem State.fallbackDone_dict (s : State) : s.fallbackDone.dict = s.dict := by
  simp -implicitDefEqProofs [State.fallbackDone]
@[simp] theorem State.tickMissed_dict (s : State) : s.tickMissed.dict = s.dict := by
  simp -implicitDefEqProofs [State.tickMissed]
@[simp] theorem State.opSecond_dict (s : State) : s.opSecond.dict = s.dict := by simp [State.opSecond]
@[simp] theorem State.secondTick_dict (s : State) : s.secondTick.dict = s.dict := by simp [State.secondTick]
@[simp] theorem State.firstClock_dict (s : State) : s.firstClock.dict = s.dict := rfl
@[simp] theorem State.firstTargets_dict (s : State) : s.firstTargets.dict = s.dict := by
  simp -implicitDefEqProofs [State.firstTargets]
@[simp] theorem State.firstTick_served (s : State) (ms : Nat) : (s.firstTick ms).dict.served = s.dict.served := by
  simp -implicitDefEqProofs [State.firstTick]

/-! The tick -/

@[simp] theorem State.beginTick_served (s : State) : s.beginTick.dict.served = 0 := rfl
@[simp] theorem State.watch_dict (s : State) (served : Bool) : (s.watch served).dict = s.dict := rfl
@[simp] theorem State.boundary_served (s : State) (inp : TickIn) : (s.boundary inp).dict.served = 0 := by
  simp [State.boundary]
@[simp] theorem State.partnerEntry_dict (s : State) : s.partnerEntry.dict = s.dict := by
  unfold State.partnerEntry
  split <;> simp
@[simp] theorem State.captures_dict (s : State) (inp : TickIn) : (s.captures inp).dict = s.dict := by simp [State.captures]
@[simp] theorem State.uncapture_dict (s : State) (e : Nat) : (s.uncapture e).dict = s.dict := by simp [State.uncapture]
@[simp] theorem State.lateEntry_dict (s : State) (e : Nat) : (s.lateEntry e).dict = s.dict := by simp [State.lateEntry]
@[simp] theorem State.appWrites_dict (s : State) (l : List AppWrite) : (s.appWrites l).dict = s.dict := by
  simp [State.appWrites]
@[simp] theorem State.idleBegin_dict (s : State) (inp : TickIn) : (s.idleBegin inp).dict = s.dict := by simp [State.idleBegin]
@[simp] theorem State.idleTick_dict (s : State) (inp : TickIn) : (s.idleTick inp).dict = s.dict := by simp [State.idleTick]

end Sys2Proof.Machine
end

section
/-! The commands that carry no request leave the count of the messages served in the tick (R102): one lemma for each. -/

namespace Sys2Proof.Machine

/-- A next state, where a command answers one, has served as many messages as the state before. -/
def KeepsServedIfNext (s : State) (o : Host.Outcome State Fault Refusal) : Prop :=
  ∀ t, o = .next t → t.dict.served = s.dict.served

@[simp] theorem keepsServedIfNext_next (s t : State) : KeepsServedIfNext s (.next t) ↔ t.dict.served = s.dict.served :=
  ⟨fun h => h t rfl, fun h _ ht => Host.Outcome.next.inj ht ▸ h⟩
@[simp] theorem keepsServedIfNext_fault (s : State) (f : Fault) : KeepsServedIfNext s (.fault f) := fun _ h => nomatch h
@[simp] theorem keepsServedIfNext_ite (s : State) (c : Prop) [Decidable c] (o p : Host.Outcome State Fault Refusal) :
    KeepsServedIfNext s (if c then o else p) ↔ if c then KeepsServedIfNext s o else KeepsServedIfNext s p := by split <;> rfl

/-! The recorder -/

theorem execFloodWindowEnd_keepsServed (src code : Nat) (s : State) : KeepsServedIfNext s (execFloodWindowEnd src code s) := by
  unfold execFloodWindowEnd
  split <;> simp
theorem execTimeMark_keepsServed (s : State) : KeepsServedIfNext s (execTimeMark s) := by simp [execTimeMark]
theorem execStartupPhaseEnd_keepsServed (s : State) : KeepsServedIfNext s (execStartupPhaseEnd s) := by
  simp [execStartupPhaseEnd]
theorem execRecoveryPhaseEnd_keepsServed (s : State) : KeepsServedIfNext s (execRecoveryPhaseEnd s) := by
  simp [execRecoveryPhaseEnd]

/-! The loops -/

theorem execSlotRun_keepsServed (n : Fin 48) (us : Nat) (s : State) : KeepsServedIfNext s (execSlotRun n us s) := by
  simp [execSlotRun]
theorem execPvTimeoutFault_keepsServed (n : Fin 48) (s : State) : KeepsServedIfNext s (execPvTimeoutFault n s) := by
  simp [execPvTimeoutFault]
theorem execFfTermDrop_keepsServed (n : Fin 48) (term : Fin 2) (s : State) : KeepsServedIfNext s (execFfTermDrop n term s) := by
  simp [execFfTermDrop]

/-! The ledger -/

theorem execLedgerRun_keepsServed (fails : List Nat) (s : State) : KeepsServedIfNext s (execLedgerRun fails s) := by
  simp [execLedgerRun]
theorem execCheckpointComplete_keepsServed (s : State) : KeepsServedIfNext s (execCheckpointComplete s) := by
  unfold execCheckpointComplete
  (repeat' split) <;> simp
theorem execCrbReducedEnd_keepsServed (s : State) : KeepsServedIfNext s (execCrbReducedEnd s) := by
  unfold execCrbReducedEnd
  split <;> simp

/-! The supervisor, the path element and the builder -/

theorem execSupervisorStep_keepsServed (s : State) : KeepsServedIfNext s (execSupervisorStep s) := by simp [execSupervisorStep]
theorem execWindowVoid_keepsServed (s : State) : KeepsServedIfNext s (execWindowVoid s) := by simp [execWindowVoid]
theorem execSettleEnd_keepsServed (s : State) : KeepsServedIfNext s (execSettleEnd s) := by simp [execSettleEnd]
theorem execRestEnd_keepsServed (s : State) : KeepsServedIfNext s (execRestEnd s) := by simp [execRestEnd]

/-! Satellite navigation -/

theorem execAntShort_keepsServed (a : Fin 2) (s : State) : KeepsServedIfNext s (execAntShort a s) := by simp [execAntShort]
theorem execAntRetry_keepsServed (a : Fin 2) (s : State) : KeepsServedIfNext s (execAntRetry a s) := by
  unfold execAntRetry
  split <;> simp
theorem execAntOpen_keepsServed (a : Fin 2) (s : State) : KeepsServedIfNext s (execAntOpen a s) := by simp [execAntOpen]
theorem execMeasurementEpoch_keepsServed (meas : List RawMeas) (unserved : Nat) (s : State) :
    KeepsServedIfNext s (execMeasurementEpoch meas unserved s) := by
  simp [execMeasurementEpoch]
theorem execNavRecordWrite_keepsServed (u : NavUnit) (s : State) : KeepsServedIfNext s (execNavRecordWrite u s) := by
  simp [execNavRecordWrite]
theorem execIntegrityClear_keepsServed (s : State) : KeepsServedIfNext s (execIntegrityClear s) := by
  unfold execIntegrityClear
  split <;> simp
theorem execPositionSolutionRun_keepsServed (est : PosEst) (s : State) :
    KeepsServedIfNext s (execPositionSolutionRun est s) := by
  simp [execPositionSolutionRun]
theorem execSignalMaskApply_keepsServed (s : State) : KeepsServedIfNext s (execSignalMaskApply s) := by
  simp [execSignalMaskApply]
theorem execPosRateApply_keepsServed (s : State) : KeepsServedIfNext s (execPosRateApply s) := by simp [execPosRateApply]
theorem execTpulse_keepsServed (s : State) : KeepsServedIfNext s (execTpulse s) := by simp [execTpulse]

/-! Imaging -/

theorem execPortTrained_keepsServed (p : Fin 2) (s : State) : KeepsServedIfNext s (execPortTrained p s) := by
  simp [execPortTrained]
theorem execLinkDrop_keepsServed (p : Fin 2) (ns : Nat) (s : State) : KeepsServedIfNext s (execLinkDrop p ns s) := by
  simp [execLinkDrop]
theorem execPortRetry_keepsServed (p : Fin 2) (s : State) : KeepsServedIfNext s (execPortRetry p s) := by simp [execPortRetry]
theorem execFrameStart_keepsServed (n : Fin 8) (ns : Nat) (number : Option Nat) (acks : List Bool) (s : State) :
    KeepsServedIfNext s (execFrameStart n ns number acks s) := by
  unfold execFrameStart
  split <;> simp
theorem execLinePacket_keepsServed (n : Fin 8) (l : CamLine) (s : State) : KeepsServedIfNext s (execLinePacket n l s) := by
  simp [execLinePacket]
theorem execFrameEnd_keepsServed (n : Fin 8) (ns : Option Nat) (s : State) : KeepsServedIfNext s (execFrameEnd n ns s) := by
  unfold execFrameEnd
  split <;> simp
theorem execFrameTimeout_keepsServed (n : Fin 8) (s : State) : KeepsServedIfNext s (execFrameTimeout n s) := by
  simp [execFrameTimeout]
theorem execCommitComplete_keepsServed (n : Fin 8) (s : State) : KeepsServedIfNext s (execCommitComplete n s) := by
  unfold execCommitComplete
  extract_lets
  split <;> simp
theorem execFocusRun_keepsServed (n : Fin 8) (s : State) : KeepsServedIfNext s (execFocusRun n s) := by simp [execFocusRun]

/-! The CAN controllers -/

theorem execTxLoad_keepsServed (c : Fin 8) (b : Fin 3) (s : State) : KeepsServedIfNext s (execTxLoad c b s) := by
  unfold execTxLoad
  split <;> simp
theorem execTxCancel_keepsServed (c : Fin 8) (b : Fin 3) (s : State) : KeepsServedIfNext s (execTxCancel c b s) := by
  unfold execTxCancel
  split <;> simp
theorem execArbitration_keepsServed (c : Fin 8) (s : State) : KeepsServedIfNext s (execArbitration c s) := by
  unfold execArbitration
  split <;> simp
theorem execTxAttemptFail_keepsServed (c : Fin 8) (err : Option (Nat × Bool × Option (Fin 256))) (s : State) :
    KeepsServedIfNext s (execTxAttemptFail c err s) := by
  dsimp only [execTxAttemptFail]
  (repeat' split) <;> simp
theorem execCanFrameSent_keepsServed (c : Fin 8) (sof : Nat × Bool) (delay : Fin 256) (s : State) :
    KeepsServedIfNext s (execCanFrameSent c sof delay s) := by
  dsimp only [execCanFrameSent]
  (repeat' split) <;> simp
theorem execCanFrameRx_keepsServed (c : Fin 8) (f : CanFrame) (sof : Nat) (dram : Bool) (s : State) :
    KeepsServedIfNext s (execCanFrameRx c f sof dram s) := by
  simp [execCanFrameRx]
theorem execCanBusError_keepsServed (c : Fin 8) (lec : Nat) (eight : Bool) (s : State) :
    KeepsServedIfNext s (execCanBusError c lec eight s) := by
  simp [execCanBusError]
theorem execBusOff_keepsServed (c : Fin 8) (s : State) : KeepsServedIfNext s (execBusOff c s) := by simp [execBusOff]
theorem execBusOffRecoveryEnd_keepsServed (c : Fin 8) (s : State) : KeepsServedIfNext s (execBusOffRecoveryEnd c s) := by
  simp [execBusOffRecoveryEnd]
theorem execCanBusJoin_keepsServed (c : Fin 8) (s : State) : KeepsServedIfNext s (execCanBusJoin c s) := by
  simp [execCanBusJoin]

/-! ISO nodes and Ethernet -/

theorem execHeartbeat_keepsServed (s : State) : KeepsServedIfNext s (execHeartbeat s) := by simp [execHeartbeat]
theorem execTimeMessage_keepsServed (s : State) : KeepsServedIfNext s (execTimeMessage s) := by simp [execTimeMessage]
theorem execAddressClaimStart_keepsServed (s : State) : KeepsServedIfNext s (execAddressClaimStart s) := by
  simp [execAddressClaimStart]
theorem execCompetingClaimRx_keepsServed (addr : Fin 256) (name : Nat) (s : State) :
    KeepsServedIfNext s (execCompetingClaimRx addr name s) := by
  dsimp only [execCompetingClaimRx]
  (repeat' split) <;> simp
theorem execClaimRequestRx_keepsServed (s : State) : KeepsServedIfNext s (execClaimRequestRx s) := by simp [execClaimRequestRx]
theorem execAddressHeld_keepsServed (s : State) : KeepsServedIfNext s (execAddressHeld s) := by simp [execAddressHeld]
theorem execIsoSendSlot_keepsServed (n : Fin 8) (data : Bytes) (s : State) :
    KeepsServedIfNext s (execIsoSendSlot n data s) := by
  simp [execIsoSendSlot]
theorem execTpRx_keepsServed (f : CanFrame) (time : Nat) (s : State) : KeepsServedIfNext s (execTpRx f time s) := by
  dsimp only [execTpRx]
  (repeat' split) <;> simp
theorem execIsoTpTimeout_keepsServed (send : Bool) (n : Fin 8) (s : State) :
    KeepsServedIfNext s (execIsoTpTimeout send n s) := by
  unfold execIsoTpTimeout
  (repeat' split) <;> simp
theorem execDm1Send_keepsServed (s : State) : KeepsServedIfNext s (execDm1Send s) := by simp [execDm1Send]
theorem execEthFrameRx_keepsServed (p : Fin 4) (fcsOk : Bool) (data : Bytes) (s : State) :
    KeepsServedIfNext s (execEthFrameRx p fcsOk data s) := by
  dsimp only [execEthFrameRx]
  (repeat' split) <;> simp
theorem execEthConfigApply_keepsServed (s : State) : KeepsServedIfNext s (execEthConfigApply s) := by simp [execEthConfigApply]

/-! Module time -/

theorem execAppWriteStall_keepsServed (w : AppWrite) (s : State) : KeepsServedIfNext s (execAppWriteStall w s) := by
  simp [execAppWriteStall]
theorem execStalledWriteLand_keepsServed (s : State) : KeepsServedIfNext s (execStalledWriteLand s) := by
  simp [execStalledWriteLand]
theorem execAppWriteBlocked_keepsServed (core : Fin 4) (offset : Nat) (s : State) :
    KeepsServedIfNext s (execAppWriteBlocked core offset s) := by
  simp [execAppWriteBlocked]
theorem execComputeDeadline_keepsServed (done : List Nat) (s : State) : KeepsServedIfNext s (execComputeDeadline done s) := by
  simp [execComputeDeadline]
theorem execUnitOverrunFault_keepsServed (unit : Nat) (s : State) : KeepsServedIfNext s (execUnitOverrunFault unit s) := by
  simp [execUnitOverrunFault]
theorem execEngineOverrunFault_keepsServed (eng : Fin 6) (s : State) : KeepsServedIfNext s (execEngineOverrunFault eng s) := by
  simp [execEngineOverrunFault]
theorem execSupervisorDeadlineFault_keepsServed (offset : Nat) (s : State) :
    KeepsServedIfNext s (execSupervisorDeadlineFault offset s) := by
  simp [execSupervisorDeadlineFault]
theorem execEngineRestartStart_keepsServed (eng : Fin 6) (s : State) : KeepsServedIfNext s (execEngineRestartStart eng s) := by
  simp [execEngineRestartStart]
theorem execTimeSteeringRun_keepsServed (s : State) : KeepsServedIfNext s (execTimeSteeringRun s) := by
  unfold execTimeSteeringRun
  (repeat' split) <;> simp
theorem execLockCountComplete_keepsServed (s : State) : KeepsServedIfNext s (execLockCountComplete s) := by
  unfold execLockCountComplete
  split <;> simp
theorem execHoldoverTimeout_keepsServed (s : State) : KeepsServedIfNext s (execHoldoverTimeout s) := by
  simp [execHoldoverTimeout]
theorem execHoldoverEnd_keepsServed (s : State) : KeepsServedIfNext s (execHoldoverEnd s) := by
  unfold execHoldoverEnd
  split <;> simp
theorem execStepWindowClose_keepsServed (s : State) : KeepsServedIfNext s (execStepWindowClose s) := by
  unfold execStepWindowClose
  split <;> simp
theorem execGptpSync_keepsServed (port : Fin 3) (sub : Nat) (s : State) : KeepsServedIfNext s (execGptpSync port sub s) := by
  simp [execGptpSync]
theorem execGptpAnnounce_keepsServed (port : Fin 3) (s : State) : KeepsServedIfNext s (execGptpAnnounce port s) := by
  simp [execGptpAnnounce]
theorem execGptpForeignRx_keepsServed (port : Fin 3) (s : State) : KeepsServedIfNext s (execGptpForeignRx port s) := by
  simp [execGptpForeignRx]
theorem execGptpConfigApply_keepsServed (s : State) : KeepsServedIfNext s (execGptpConfigApply s) := by
  simp [execGptpConfigApply]

/-! Sensing -/

theorem execImpactStart_keepsServed (n : Fin 16) (us : Nat) (samples : List Int) (last : Int) (s : State) :
    KeepsServedIfNext s (execImpactStart n us samples last s) := by
  simp [execImpactStart]
theorem execImpactEnd_keepsServed (n : Fin 16) (us : Nat) (samples : List Int) (last : Int) (s : State) :
    KeepsServedIfNext s (execImpactEnd n us samples last s) := by
  simp [execImpactEnd]
theorem execImpactMaxLen_keepsServed (n : Fin 16) (us : Nat) (samples : List Int) (s : State) :
    KeepsServedIfNext s (execImpactMaxLen n us samples s) := by
  simp [execImpactMaxLen]
theorem execLsDetectorRestart_keepsServed (n : Fin 16) (s : State) : KeepsServedIfNext s (execLsDetectorRestart n s) := by
  simp [execLsDetectorRestart]
theorem execUiSettleEnd_keepsServed (n : Fin 48) (s : State) : KeepsServedIfNext s (execUiSettleEnd n s) := by
  unfold execUiSettleEnd
  extract_lets
  split <;> simp
theorem execShuntDisconnect_keepsServed (n : Fin 48) (s : State) : KeepsServedIfNext s (execShuntDisconnect n s) := by
  simp [execShuntDisconnect]
theorem execShuntReconnect_keepsServed (n : Fin 48) (s : State) : KeepsServedIfNext s (execShuntReconnect n s) := by
  unfold execShuntReconnect
  extract_lets
  split <;> simp
theorem execUiDebounceChange_keepsServed (n : Fin 48) (s : State) : KeepsServedIfNext s (execUiDebounceChange n s) := by
  simp [execUiDebounceChange]
theorem execSsLimitTrip_keepsServed (n : Fin 4) (s : State) : KeepsServedIfNext s (execSsLimitTrip n s) := by
  simp [execSsLimitTrip]
theorem execSsRetry_keepsServed (n : Fin 4) (s : State) : KeepsServedIfNext s (execSsRetry n s) := by simp [execSsRetry]

/-! The switches -/

theorem execCurrentLimitTurnoff_keepsServed (n : Fin 128) (us : Nat) (s : State) :
    KeepsServedIfNext s (execCurrentLimitTurnoff n us s) := by
  simp [execCurrentLimitTurnoff]
theorem execThermalLatchSet_keepsServed (n : Fin 128) (temp : Rat) (s : State) :
    KeepsServedIfNext s (execThermalLatchSet n temp s) := by
  simp [execThermalLatchSet]
theorem execThermalLatchClear_keepsServed (n : Fin 128) (temp : Rat) (s : State) :
    KeepsServedIfNext s (execThermalLatchClear n temp s) := by
  simp [execThermalLatchClear]
theorem execChannelRestart_keepsServed (n : Fin 128) (s : State) : KeepsServedIfNext s (execChannelRestart n s) := by
  simp [execChannelRestart]
theorem execRetryRestore_keepsServed (n : Fin 128) (s : State) : KeepsServedIfNext s (execRetryRestore n s) := by
  simp [execRetryRestore]
theorem execAssistedFuseTrip_keepsServed (b : Fin 8) (s : State) : KeepsServedIfNext s (execAssistedFuseTrip b s) := by
  simp [execAssistedFuseTrip]
theorem execPwmPeriodStart_keepsServed (n : Fin 128) (s : State) : KeepsServedIfNext s (execPwmPeriodStart n s) := by
  simp [execPwmPeriodStart]
theorem execSwitchOffEdge_keepsServed (n : Fin 128) (current ton : Nat) (s : State) :
    KeepsServedIfNext s (execSwitchOffEdge n current ton s) := by
  simp [execSwitchOffEdge]
theorem execOlLearnComplete_keepsServed (n : Fin 128) (s : State) : KeepsServedIfNext s (execOlLearnComplete n s) := by
  unfold execOlLearnComplete
  extract_lets
  split <;> simp
theorem execBankUndervoltage_keepsServed (b : Fin 8) (s : State) : KeepsServedIfNext s (execBankUndervoltage b s) := by
  simp [execBankUndervoltage]
theorem execChannelRestore_keepsServed (b : Fin 8) (n : Fin 128) (s : State) :
    KeepsServedIfNext s (execChannelRestore b n s) := by
  simp [execChannelRestore]
theorem execDipShed_keepsServed (s : State) : KeepsServedIfNext s (execDipShed s) := by
  unfold execDipShed
  split <;> simp

/-! The valve drives -/

theorem execValveEvent_keepsServed (n : Fin 48) (s : State) : KeepsServedIfNext s (execValveEvent n s) := by
  dsimp only [execValveEvent]
  (repeat' split) <;> simp
theorem execBoostEnd_keepsServed (n : Fin 48) (us : Nat) (current : Rat) (s : State) :
    KeepsServedIfNext s (execBoostEnd n us current s) := by
  simp [execBoostEnd]
theorem execPeakEnd_keepsServed (n : Fin 48) (us : Nat) (s : State) : KeepsServedIfNext s (execPeakEnd n us s) := by
  simp [execPeakEnd]
theorem execTransitionEnd_keepsServed (n : Fin 48) (us : Nat) (current : Rat) (s : State) :
    KeepsServedIfNext s (execTransitionEnd n us current s) := by
  simp [execTransitionEnd]
theorem execInjectorEventEnd_keepsServed (n : Fin 48) (us : Nat) (s : State) :
    KeepsServedIfNext s (execInjectorEventEnd n us s) := by
  unfold execInjectorEventEnd
  extract_lets
  split <;> simp
theorem execSwitchOffComplete_keepsServed (n : Fin 48) (current : Rat) (s : State) :
    KeepsServedIfNext s (execSwitchOffComplete n current s) := by
  simp [execSwitchOffComplete]
theorem execPairMinOffEnd_keepsServed (n : Fin 48) (us : Nat) (s : State) : KeepsServedIfNext s (execPairMinOffEnd n us s) := by
  dsimp only [execPairMinOffEnd]
  (repeat' split) <;> simp
theorem execStageOvercurrent_keepsServed (n : Fin 48) (current : Rat) (s : State) :
    KeepsServedIfNext s (execStageOvercurrent n current s) := by
  simp [execStageOvercurrent]
theorem execGroupOvercurrent_keepsServed (g : Fin 12) (us : Nat × Rat) (s : State) :
    KeepsServedIfNext s (execGroupOvercurrent g us s) := by
  simp [execGroupOvercurrent]
theorem execLowPinCheck_keepsServed (n : Fin 48) (s : State) : KeepsServedIfNext s (execLowPinCheck n s) := by
  simp [execLowPinCheck]
theorem execHoldOpenCoil_keepsServed (n : Fin 48) (s : State) : KeepsServedIfNext s (execHoldOpenCoil n s) := by
  simp [execHoldOpenCoil]
theorem execBoostStartFail_keepsServed (s : State) : KeepsServedIfNext s (execBoostStartFail s) := by
  unfold execBoostStartFail
  split <;> simp
theorem execBoostRetry_keepsServed (s : State) : KeepsServedIfNext s (execBoostRetry s) := by
  unfold execBoostRetry
  split <;> simp

/-! Power domains and the supply -/

theorem execDomainTransitionBegin_keepsServed (d : Fin 15) (s : State) :
    KeepsServedIfNext s (execDomainTransitionBegin d s) := by
  simp [execDomainTransitionBegin]
theorem execDomainTransitionEnd_keepsServed (d : Fin 15) (us : Nat) (lost : List Nat) (s : State) :
    KeepsServedIfNext s (execDomainTransitionEnd d us lost s) := by
  simp [execDomainTransitionEnd]
theorem execAccessWake_keepsServed (client : Fin 10) (d : Fin 15) (s : State) :
    KeepsServedIfNext s (execAccessWake client d s) := by
  simp [execAccessWake]
theorem execAccessVoteExpiry_keepsServed (client : Fin 10) (d : Fin 15) (s : State) :
    KeepsServedIfNext s (execAccessVoteExpiry client d s) := by
  simp [execAccessVoteExpiry]
theorem execWakeChange_keepsServed (level : Bool) (s : State) : KeepsServedIfNext s (execWakeChange level s) := by
  simp [execWakeChange]
theorem execWakeHoldExpiry_keepsServed (s : State) : KeepsServedIfNext s (execWakeHoldExpiry s) := by
  unfold execWakeHoldExpiry
  split <;> simp
theorem execDipBegin_keepsServed (s : State) : KeepsServedIfNext s (execDipBegin s) := by simp [execDipBegin]
theorem execDipShedding_keepsServed (s : State) : KeepsServedIfNext s (execDipShedding s) := by
  unfold execDipShedding
  split <;> simp
theorem execDipEnd_keepsServed (s : State) : KeepsServedIfNext s (execDipEnd s) := by
  unfold execDipEnd
  split <;> simp -implicitDefEqProofs
theorem execFeedLow_keepsServed (feed : Fin 2) (s : State) : KeepsServedIfNext s (execFeedLow feed s) := by simp [execFeedLow]

/-! Updates -/

theorem execVerification_keepsServed (fwSigOk : Bool) (readback : List Bool) (s : State) :
    KeepsServedIfNext s (execVerification fwSigOk readback s) := by
  unfold execVerification
  split <;> simp
theorem execVerificationComplete_keepsServed (s : State) : KeepsServedIfNext s (execVerificationComplete s) := by
  dsimp only [execVerificationComplete]
  (repeat' split) <;> simp -implicitDefEqProofs
theorem execActivationInterlock_keepsServed (s : State) : KeepsServedIfNext s (execActivationInterlock s) := by
  simp -implicitDefEqProofs [execActivationInterlock]
theorem execAutoConfirm_keepsServed (s : State) : KeepsServedIfNext s (execAutoConfirm s) := by simp [execAutoConfirm]
theorem execProofSecond_keepsServed (s : State) : KeepsServedIfNext s (execProofSecond s) := by simp [execProofSecond]

/-! The lease of a pair -/

theorem execLeaseWordSend_keepsServed (s : State) : KeepsServedIfNext s (execLeaseWordSend s) := by simp [execLeaseWordSend]
theorem execLeaseWordRx_keepsServed (receiver : Bool) (word : Nat) (s : State) :
    KeepsServedIfNext s (execLeaseWordRx receiver word s) := by
  unfold execLeaseWordRx
  split <;> simp
theorem execLeaseFrameSend_keepsServed (s : State) : KeepsServedIfNext s (execLeaseFrameSend s) := by simp [execLeaseFrameSend]
theorem execLeaseFrameRx_keepsServed (ctrl : Fin 8) (ident : Nat) (data : Bytes) (s : State) :
    KeepsServedIfNext s (execLeaseFrameRx ctrl ident data s) := by
  unfold execLeaseFrameRx
  split <;> simp
theorem execPairJoinTimeout_keepsServed (s : State) : KeepsServedIfNext s (execPairJoinTimeout s) := by
  simp [execPairJoinTimeout]
theorem execPairHoldBegin_keepsServed (s : State) : KeepsServedIfNext s (execPairHoldBegin s) := by simp [execPairHoldBegin]
theorem execPairHoldEnd_keepsServed (s : State) : KeepsServedIfNext s (execPairHoldEnd s) := by
  unfold execPairHoldEnd
  split <;> simp
theorem execPlannedRelease_keepsServed (s : State) : KeepsServedIfNext s (execPlannedRelease s) := by
  unfold execPlannedRelease
  split <;> simp
theorem execPeriodicSwap_keepsServed (s : State) : KeepsServedIfNext s (execPeriodicSwap s) := by simp [execPeriodicSwap]
theorem execSwapOverdue_keepsServed (s : State) : KeepsServedIfNext s (execSwapOverdue s) := by simp [execSwapOverdue]
theorem execHealthSwap_keepsServed (s : State) : KeepsServedIfNext s (execHealthSwap s) := by simp [execHealthSwap]
theorem execPartnerAbsent_keepsServed (s : State) : KeepsServedIfNext s (execPartnerAbsent s) := by simp [execPartnerAbsent]
theorem execPairPathFault_keepsServed (path : Fin 3) (s : State) : KeepsServedIfNext s (execPairPathFault path s) := by
  simp [execPairPathFault]
theorem execPairPathFaultClear_keepsServed (path : Fin 3) (s : State) :
    KeepsServedIfNext s (execPairPathFaultClear path s) := by
  unfold execPairPathFaultClear
  extract_lets
  split <;> simp
theorem execTwoActives_keepsServed (serial : Bytes) (s : State) : KeepsServedIfNext s (execTwoActives serial s) := by
  simp [execTwoActives]
theorem execRxTestEnd_keepsServed (s : State) : KeepsServedIfNext s (execRxTestEnd s) := by
  unfold execRxTestEnd
  split <;> simp
theorem execTimeDisagreement_keepsServed (s : State) : KeepsServedIfNext s (execTimeDisagreement s) := by
  unfold execTimeDisagreement
  split <;> simp

/-! Messages, credentials and the store -/

theorem execMdpMessageRx_keepsServed (m : MdpMsg) (s : State) : KeepsServedIfNext s (execMdpMessageRx m s) := by
  simp [execMdpMessageRx]
theorem execMdpSegmentRx_keepsServed (ctrl : Fin 8) (ident : Nat) (fd : Bool) (data : Bytes) (s : State) :
    KeepsServedIfNext s (execMdpSegmentRx ctrl ident fd data s) := by
  dsimp only [execMdpSegmentRx]
  (repeat' split) <;> simp
theorem execMdpSegTimeout_keepsServed (client : Fin 32) (s : State) : KeepsServedIfNext s (execMdpSegTimeout client s) := by
  simp [execMdpSegTimeout]
theorem execMdpTransportApply_keepsServed (s : State) : KeepsServedIfNext s (execMdpTransportApply s) := by
  simp [execMdpTransportApply]
theorem execSessionTimeout_keepsServed (num : Nat) (s : State) : KeepsServedIfNext s (execSessionTimeout num s) := by
  simp [execSessionTimeout]
theorem execCredentialLockout_keepsServed (s : State) : KeepsServedIfNext s (execCredentialLockout s) := by
  simp [execCredentialLockout]
theorem execLockoutEnd_keepsServed (s : State) : KeepsServedIfNext s (execLockoutEnd s) := by
  unfold execLockoutEnd
  split <;> simp
theorem execStoreComplete_keepsServed (bad : Option (Fin 2)) (s : State) : KeepsServedIfNext s (execStoreComplete bad s) := by
  dsimp only [execStoreComplete]
  (repeat' split) <;> simp
theorem execStoreDeferredBegin_keepsServed (s : State) : KeepsServedIfNext s (execStoreDeferredBegin s) := by
  unfold execStoreDeferredBegin
  split <;> simp
theorem execAssistedFallback_keepsServed (key : Nat) (s : State) : KeepsServedIfNext s (execAssistedFallback key s) := by
  simp [execAssistedFallback]
theorem execAssistedFault_keepsServed (key : Nat) (s : State) : KeepsServedIfNext s (execAssistedFault key s) := by
  simp [execAssistedFault]

/-! The pair -/

theorem execMirrorComplete_keepsServed (m : Mirror) (align : Int) (s : State) :
    KeepsServedIfNext s (execMirrorComplete m align s) := by
  simp [execMirrorComplete]
theorem execMirrorLate_keepsServed (s : State) : KeepsServedIfNext s (execMirrorLate s) := by simp [execMirrorLate]
theorem execRefillComplete_keepsServed (r : Refill) (whole : Bool) (s : State) :
    KeepsServedIfNext s (execRefillComplete r whole s) := by
  simp [execRefillComplete]
theorem execTakeover_keepsServed (s : State) : KeepsServedIfNext s (execTakeover s) := by simp [execTakeover]
theorem execEthLinkLoss_keepsServed (p : Fin 5) (s : State) : KeepsServedIfNext s (execEthLinkLoss p s) := by
  simp -implicitDefEqProofs [execEthLinkLoss]
theorem execEthLinkUp_keepsServed (p : Fin 5) (sqi : Nat) (s : State) : KeepsServedIfNext s (execEthLinkUp p sqi s) := by
  simp [execEthLinkUp]

/-! Reset and the start -/

theorem execPowerLoss_keepsServed (s : State) : KeepsServedIfNext s (execPowerLoss s) := by simp [execPowerLoss]
theorem execSupervisorMismatch_keepsServed (addr : Nat) (s : State) : KeepsServedIfNext s (execSupervisorMismatch addr s) := by
  simp [execSupervisorMismatch]
theorem execWatchdogExpiry_keepsServed (s : State) : KeepsServedIfNext s (execWatchdogExpiry s) := by simp [execWatchdogExpiry]
theorem execMemoryError_keepsServed (addr : Nat) (s : State) : KeepsServedIfNext s (execMemoryError addr s) := by
  simp [execMemoryError]
theorem execSupplyReset_keepsServed (mv reached : Nat) (s : State) : KeepsServedIfNext s (execSupplyReset mv reached s) := by
  simp [execSupplyReset]

/-! The tick -/

theorem execCaptureLate_keepsServed (inputs : List Nat) (s : State) : KeepsServedIfNext s (execCaptureLate inputs s) := by
  simp [execCaptureLate]
theorem execFirstTick_keepsServed (ms : Nat) (inp : TickIn) (s : State) : KeepsServedIfNext s (execFirstTick ms inp s) := by
  simp [execFirstTick]

end Sys2Proof.Machine
end

section
/-! Four messages in a tick (R102): the requests that are served, and the count over every command. -/

namespace Sys2Proof.Machine

/-! The commands that carry a request -/

/-- What a command with a request does: it is served, with a body that serves no message itself, or it is an OPEN, or it is
no request of the dictionary and waits. -/
inductive ServedAs (s : State) : Host.Outcome State Fault Refusal → Prop
  | serve (q : Req) (svc : Nat) (tail : Bytes) (form : Bool) {body : State → Nat → Reply}
      (hbody : ∀ t lvl, (body t lvl).s.dict.served = t.dict.served) : ServedAs s (.next (s.serve q svc tail form body))
  | open_ (q : Req) (level len : Nat) (code : Bytes) : ServedAs s (execOpen q level len code s)
  | waits : ServedAs s (.next s)

@[simp] theorem State.slice_dict (s : State) (key : Nat) (b : Bytes) : (s.slice key b).dict = s.dict := by
  unfold State.slice
  split <;> rfl

section
variable {s : State} {q : Req} {key : Nat} {extra : State → Extra} {eff : State → State} {ref : State → Status → State}

theorem ServedAs.writeWith {ty : Nat} {b : Bytes} (heff : ∀ t, (eff t).dict.served = t.dict.served)
    (href : ∀ t st, (ref t st).dict.served = t.dict.served) : ServedAs s (.next (s.serveWrite q key ty b extra eff ref)) := by
  refine .serve q 4 _ true fun t lvl => ?_
  split
  · rw [heff, State.slice_dict]
  · exact href t _

theorem ServedAs.write {ty : Nat} {b : Bytes} (heff : ∀ t, (eff t).dict.served = t.dict.served) :
    ServedAs s (.next (s.serveWrite q key ty b extra eff)) := .writeWith heff fun _ _ => rfl

theorem ServedAs.setWith {v : Nat} (heff : ∀ t, (eff t).dict.served = t.dict.served)
    (href : ∀ t st, (ref t st).dict.served = t.dict.served) : ServedAs s (.next (s.serveSet q key v extra eff ref)) :=
  .writeWith heff href

theorem ServedAs.set {v : Nat} (heff : ∀ t, (eff t).dict.served = t.dict.served) :
    ServedAs s (.next (s.serveSet q key v extra eff)) := .write heff

theorem ServedAs.store (q : Req) (key group : Nat) (b : Bytes) (ty : Nat) :
    ServedAs s (.next (s.serveStore q key group b ty)) := by
  refine .serve q 4 _ true fun t lvl => ?_
  dsimp only
  split
  · split <;> rw [State.askStore_dict, State.slice_dict]
  · rfl

end

theorem execClose_servedAs (q : Req) (extra : Bytes) (s : State) : ServedAs s (execClose q extra s) := by
  refine .serve q 2 extra _ fun t _ => ?_
  dsimp only
  split <;> rfl

theorem State.oemReply_s (s : State) (q : Req) (write : Bool) : (s.oemReply q write).s = s := by
  unfold State.oemReply
  split
  · rfl
  · split <;> rfl

theorem execRecWindow_servedAs (q : Req) (offset maxLen : Nat) (s : State) : ServedAs s (execRecWindow q offset maxLen s) := by
  refine .serve q 3 _ true fun t _ => ?_
  dsimp only
  split <;> rfl

theorem execRead_servedAs (q : Req) (ix sub offset maxLen : Nat) (s : State) :
    ServedAs s (execRead q ix sub offset maxLen s) := by
  unfold execRead
  dsimp only
  split
  · exact execRecWindow_servedAs q offset maxLen s
  split
  · exact .serve q 3 _ true fun t _ => congrArg (State.dict · |>.served) (t.oemReply_s q false)
  · exact .serve q 3 _ true (body := fun t _ => t.readAnswer q ix sub offset maxLen) fun t _ =>
      congrArg (State.dict · |>.served) (t.readAnswer_s q ix sub offset maxLen)

theorem execWrite_servedAs (q : Req) (ix sub ty len : Nat) (b : Bytes) (s : State) :
    ServedAs s (execWrite q ix sub ty len b s) := by
  unfold execWrite
  dsimp only
  split
  · exact .serve q 4 _ false fun _ _ => rfl
  split
  · exact .serve q 4 _ true fun t _ => congrArg (State.dict · |>.served) (t.oemReply_s q true)
  split
  · exact .store q _ 0 b ty
  split
  · exact .store q _ (ofLe b) b ty
  split
  · exact .write fun t => t.storeDefaults_served _
  · exact .writeWith (fun t => t.applyWrite_served _ _ _) fun t st => congrArg DictSt.served (t.writeRefused_dict _ b st)

theorem execModeWrite_servedAs (q : Req) (key v : Nat) (s : State) : ServedAs s (execModeWrite q key v s) := by
  unfold execModeWrite
  split
  · exact .set fun _ => rfl
  · exact .waits

/-- Every command that carries a request is one of these. -/
theorem exec_servedAs {i : Instr} {q : Req} (h : i.request? = some q) (s : State) : ServedAs s (exec i s) := by
  cases i
  case open_ q level len code => exact .open_ q level len code
  case close_ q extra => exact execClose_servedAs q extra s
  case read q index sub offset maxLen => exact execRead_servedAs q index sub offset maxLen s
  case write q index sub type_ len value => exact execWrite_servedAs q index sub type_ len value s
  case keepalive q extra => exact .serve q 5 extra _ fun _ _ => rfl
  case storeAll q => exact .store q Obj.STORE_ALL 0 (u16 1) 3
  case storeGroup q group => exact .store q Obj.STORE_GROUP group (u8 group) 2
  case modeWrite q key value => exact execModeWrite_servedAs q key value s
  case crbEnable => exact .setWith (by simp) fun t st => by cases st <;> simp
  case unitEnable => exact .setWith (by simp) fun t st => by (repeat' split) <;> rfl
  case tplBuild => exact .setWith (fun t => by split <;> simp) fun t st => by cases st <;> simp
  case canEnable => exact .setWith (by simp) fun t st => by simp
  case recWindow q offset maxLen => exact execRecWindow_servedAs q offset maxLen s
  case updWafer => exact .writeWith (by simp) fun t st => by simp
  case tickEngineRestart | sessCloseAll | storeDefaults | crbDisable | crbClear | ysSeal | ysSetMark | unitDisable |
      unitReset | templateRemove | tgtBaseWrite | supLockWrite | supEnableOff | supAdopt | uiModeWrite | uiCountSet |
      ssRearm | chRearm | bankRearm | chOlLearn | vdRetrigger | vdRearm | hgRearm | gnssEnable | portEnable | strEnable |
      strDisable | shCommit | canDisable | canRecover | pairSwapNow | pairRxTest | domRetAck | recClearCirc |
      recClearKept | updActivate | updActivateRemove | updCancel | updConfirm | updReject | updKeyClear | rstCommand =>
    exact .set (by simp)
  case credentialWrite | expRequest | recAppEvent | updKeyWrite => exact .write (by simp)
  all_goals exact absurd h nofun

/-- Settles O5: whatever the request, nothing is taken up. -/
theorem requestsWaitWhileNothingIsServed : Obligations.RequestsWaitWhileNothingIsServed := by
  unfold Obligations.RequestsWaitWhileNothingIsServed
  intro i q s hreq hnone
  have none : s.servesNone := hnone
  generalize hexec : exec i s = o
  have served : ServedAs s o := hexec ▸ exec_servedAs hreq s
  cases served with
  | serve q svc tail form _ => rw [State.serve_of_servesNone none]
  | open_ q level len code =>
    change exec (.open_ q level len code) s = _
    rw [exec_open, State.serveFormless_of_servesNone none, State.serves_of_servesNone none q]
    rfl
  | waits => rfl

end Sys2Proof.Machine
end

section
/-! Four messages in a tick (R102): the count over every command. -/

namespace Sys2Proof.Machine

/-- At most four messages have been served in the tick (R102). -/
def State.servedBounded (s : State) : Prop := s.dict.served ≤ 4

/-- A next state, where a command answers one, keeps within the four messages. -/
def KeepsBoundIfNext (s : State) (o : Host.Outcome State Fault Refusal) : Prop :=
  s.servedBounded → ∀ t, o = .next t → t.servedBounded

theorem KeepsServedIfNext.bounded {s : State} {o : Host.Outcome State Fault Refusal} (h : KeepsServedIfNext s o) :
    KeepsBoundIfNext s o := fun hs t ht => (h t ht).trans_le hs

theorem keepsBoundIfNext_next {s t : State} (h : s.servedBounded → t.servedBounded) : KeepsBoundIfNext s (.next t) :=
  fun hs _ ht => Host.Outcome.next.inj ht ▸ h hs

/-! Requests: a message is taken up only while fewer than four were served -/

theorem State.takeUp_servedBounded {s : State} {q : Req} (h : s.serves q = true) : (s.takeUp q).servedBounded := by
  simp only [State.serves, Bool.and_eq_true, decide_eq_true_eq] at h
  obtain ⟨⟨⟨_, fewer⟩, _⟩, _⟩ := h
  exact fewer

theorem keptByServing_servedBounded : KeptByServing fun s t => s.servedBounded → t.servedBounded where
  refl _ := id
  trans hst htu := htu ∘ hst
  takeUp hserves _ := State.takeUp_servedBounded hserves
  send _ _ := id
  putSession _ _ := id
  cached _ := id
  stale _ := id

theorem State.openAnswered_served (s : State) (q : Req) (level len : Nat) (code : Bytes) :
    (s.openAnswered q level len code).dict.served = s.dict.served := by
  unfold State.openAnswered
  split
  · exact s.openSession_served q level
  · rfl
  · rfl

theorem execOpen_bounded (q : Req) (level len : Nat) (code : Bytes) (s : State) :
    KeepsBoundIfNext s (execOpen q level len code s) := by
  change KeepsBoundIfNext s (exec (.open_ q level len code) s)
  rw [exec_open]
  refine keepsBoundIfNext_next fun hs => ?_
  split
  next hserves => exact (State.openAnswered_served _ q level len code).trans_le (State.takeUp_servedBounded hserves)
  next => exact keptByServing_servedBounded.serveFormless 4 s hs

theorem ServedAs.bounded {s : State} {o : Host.Outcome State Fault Refusal} (h : ServedAs s o) : KeepsBoundIfNext s o := by
  cases h with
  | serve q svc tail form hbody =>
    exact keepsBoundIfNext_next (keptByServing_servedBounded.serve (fun t lvl ht => (hbody t lvl).trans_le ht) s q svc tail form)
  | open_ q level len code => exact execOpen_bounded q level len code s
  | waits => exact keepsBoundIfNext_next id

/-! The tick and the reset, which begin the count anew -/

theorem State.endTick_servedBounded {s : State} (h : s.servedBounded) : s.endTick.servedBounded := by
  unfold State.servedBounded State.endTick
  dsimp only
  rw [State.writeRecords_dict, State.enqueueAll_dict, State.endPhases_dict, State.countSent_dict, State.segmentAnswers_dict,
    State.sendMirror_dict]
  refine keptByServing_servedBounded.serveFormless 4 _ ?_
  unfold State.servedBounded
  rw [State.countParked_dict, State.vdEnd_dict, State.swEnd_dict, State.publishSlots_dict, State.evalAssemblies_dict]
  split
  · rw [State.sampleTail_dict, State.sampleLedger_dict]
    exact h
  · rw [State.replayAll_served]
    exact h

theorem execTickBoundary_bounded (inp : TickIn) (s : State) : KeepsBoundIfNext s (execTickBoundary inp s) := by
  unfold execTickBoundary
  dsimp only
  split
  · exact keepsBoundIfNext_next fun hs => (congrArg DictSt.served (s.idleTick_dict inp)).trans_le hs
  split
  · exact keepsBoundIfNext_next fun hs =>
      (congrArg DictSt.served (s.endTick.idleBegin_dict inp)).trans_le (State.endTick_servedBounded hs)
  · refine keepsBoundIfNext_next fun _ => ?_
    unfold State.servedBounded
    simp

theorem execResetEntry_bounded (s : State) : KeepsBoundIfNext s (execResetEntry s) := by
  unfold execResetEntry
  split
  next d _ =>
    split
    · exact keepsBoundIfNext_next fun _ => (s.enterReset_served d).trans_le (Nat.zero_le 4)
    · exact keepsBoundIfNext_next id
  next => exact keepsBoundIfNext_next id

theorem execResetRelease_keepsServed (inp : StartIn) (s : State) : KeepsServedIfNext s (execResetRelease inp s) := by
  unfold execResetRelease
  split
  next =>
    have begun : (s.releaseBegin inp).updateStart.1.dict = s.dict := by simp
    generalize (s.releaseBegin inp).updateStart = started at begun
    obtain ⟨u, go⟩ := started
    dsimp only at begun ⊢
    split
    · split
      next => simp [begun]
      next v image => simp [u.imageCheck_keepsDict _ _ v image, begun]
    · simp [begun]
  next => simp

/-- Every command, in the order in which `exec` dispatches them. -/
theorem exec_bounded (i : Instr) (s : State) : KeepsBoundIfNext s (exec i s) :=
  match i with
  | .tickBoundary inp => execTickBoundary_bounded inp s
  | .captureLate inputs => (execCaptureLate_keepsServed inputs s).bounded
  | .computeDeadline done => (execComputeDeadline_keepsServed done s).bounded
  | .unitOverrunFault unit => (execUnitOverrunFault_keepsServed unit s).bounded
  | .engineOverrunFault eng => (execEngineOverrunFault_keepsServed eng s).bounded
  | .supervisorDeadlineFault offset => (execSupervisorDeadlineFault_keepsServed offset s).bounded
  | .appWriteStall w => (execAppWriteStall_keepsServed w s).bounded
  | .stalledWriteLand => (execStalledWriteLand_keepsServed s).bounded
  | .appWriteBlocked core offset => (execAppWriteBlocked_keepsServed core offset s).bounded
  | .engineRestartStart eng => (execEngineRestartStart_keepsServed eng s).bounded
  | .timeSteeringRun => (execTimeSteeringRun_keepsServed s).bounded
  | .lockCountComplete => (execLockCountComplete_keepsServed s).bounded
  | .holdoverTimeout => (execHoldoverTimeout_keepsServed s).bounded
  | .holdoverEnd => (execHoldoverEnd_keepsServed s).bounded
  | .stepWindowClose => (execStepWindowClose_keepsServed s).bounded
  | .gptpSync port sub => (execGptpSync_keepsServed port sub s).bounded
  | .gptpAnnounce port => (execGptpAnnounce_keepsServed port s).bounded
  | .gptpForeignRx port => (execGptpForeignRx_keepsServed port s).bounded
  | .gptpConfigApply => (execGptpConfigApply_keepsServed s).bounded
  | .mdpMessageRx m => (execMdpMessageRx_keepsServed m s).bounded
  | .mdpSegmentRx ctrl ident fd data => (execMdpSegmentRx_keepsServed ctrl ident fd data s).bounded
  | .mdpSegTimeout client => (execMdpSegTimeout_keepsServed client s).bounded
  | .sessionTimeout num => (execSessionTimeout_keepsServed num s).bounded
  | .credentialLockout => (execCredentialLockout_keepsServed s).bounded
  | .lockoutEnd => (execLockoutEnd_keepsServed s).bounded
  | .mdpTransportApply => (execMdpTransportApply_keepsServed s).bounded
  | .storeComplete bad => (execStoreComplete_keepsServed bad s).bounded
  | .storeDeferredBegin => (execStoreDeferredBegin_keepsServed s).bounded
  | .assistedFallback key => (execAssistedFallback_keepsServed key s).bounded
  | .assistedFault key => (execAssistedFault_keepsServed key s).bounded
  | .ledgerRun fails => (execLedgerRun_keepsServed fails s).bounded
  | .checkpointComplete => (execCheckpointComplete_keepsServed s).bounded
  | .crbReducedEnd => (execCrbReducedEnd_keepsServed s).bounded
  | .slotRun n us => (execSlotRun_keepsServed n us s).bounded
  | .ffTermDrop n term => (execFfTermDrop_keepsServed n term s).bounded
  | .pvTimeoutFault n => (execPvTimeoutFault_keepsServed n s).bounded
  | .supervisorStep => (execSupervisorStep_keepsServed s).bounded
  | .windowVoid => (execWindowVoid_keepsServed s).bounded
  | .settleEnd => (execSettleEnd_keepsServed s).bounded
  | .restEnd => (execRestEnd_keepsServed s).bounded
  | .impactStart n us samples last => (execImpactStart_keepsServed n us samples last s).bounded
  | .impactEnd n us samples last => (execImpactEnd_keepsServed n us samples last s).bounded
  | .impactMaxLen n us samples => (execImpactMaxLen_keepsServed n us samples s).bounded
  | .lsDetectorRestart n => (execLsDetectorRestart_keepsServed n s).bounded
  | .uiSettleEnd n => (execUiSettleEnd_keepsServed n s).bounded
  | .shuntDisconnect n => (execShuntDisconnect_keepsServed n s).bounded
  | .shuntReconnect n => (execShuntReconnect_keepsServed n s).bounded
  | .uiDebounceChange n => (execUiDebounceChange_keepsServed n s).bounded
  | .ssLimitTrip n => (execSsLimitTrip_keepsServed n s).bounded
  | .ssRetry n => (execSsRetry_keepsServed n s).bounded
  | .currentLimitTurnoff n us => (execCurrentLimitTurnoff_keepsServed n us s).bounded
  | .thermalLatchSet n temp => (execThermalLatchSet_keepsServed n temp s).bounded
  | .thermalLatchClear n temp => (execThermalLatchClear_keepsServed n temp s).bounded
  | .channelRestart n => (execChannelRestart_keepsServed n s).bounded
  | .retryRestore n => (execRetryRestore_keepsServed n s).bounded
  | .assistedFuseTrip b => (execAssistedFuseTrip_keepsServed b s).bounded
  | .pwmPeriodStart n => (execPwmPeriodStart_keepsServed n s).bounded
  | .switchOffEdge n current ton => (execSwitchOffEdge_keepsServed n current ton s).bounded
  | .olLearnComplete n => (execOlLearnComplete_keepsServed n s).bounded
  | .bankUndervoltage b => (execBankUndervoltage_keepsServed b s).bounded
  | .channelRestore b n => (execChannelRestore_keepsServed b n s).bounded
  | .dipShed => (execDipShed_keepsServed s).bounded
  | .valveEvent n => (execValveEvent_keepsServed n s).bounded
  | .boostEnd n us current => (execBoostEnd_keepsServed n us current s).bounded
  | .peakEnd n us => (execPeakEnd_keepsServed n us s).bounded
  | .transitionEnd n us current => (execTransitionEnd_keepsServed n us current s).bounded
  | .injectorEventEnd n us => (execInjectorEventEnd_keepsServed n us s).bounded
  | .switchOffComplete n current => (execSwitchOffComplete_keepsServed n current s).bounded
  | .pairMinOffEnd n us => (execPairMinOffEnd_keepsServed n us s).bounded
  | .stageOvercurrent n current => (execStageOvercurrent_keepsServed n current s).bounded
  | .groupOvercurrent g us => (execGroupOvercurrent_keepsServed g us s).bounded
  | .lowPinCheck n => (execLowPinCheck_keepsServed n s).bounded
  | .holdOpenCoil n => (execHoldOpenCoil_keepsServed n s).bounded
  | .boostStartFail => (execBoostStartFail_keepsServed s).bounded
  | .boostRetry => (execBoostRetry_keepsServed s).bounded
  | .antShort a => (execAntShort_keepsServed a s).bounded
  | .antRetry a => (execAntRetry_keepsServed a s).bounded
  | .antOpen a => (execAntOpen_keepsServed a s).bounded
  | .measurementEpoch meas unserved => (execMeasurementEpoch_keepsServed meas unserved s).bounded
  | .navRecordWrite u => (execNavRecordWrite_keepsServed u s).bounded
  | .positionSolutionRun est => (execPositionSolutionRun_keepsServed est s).bounded
  | .integrityClear => (execIntegrityClear_keepsServed s).bounded
  | .tpulse => (execTpulse_keepsServed s).bounded
  | .timeMessage => (execTimeMessage_keepsServed s).bounded
  | .signalMaskApply => (execSignalMaskApply_keepsServed s).bounded
  | .posRateApply => (execPosRateApply_keepsServed s).bounded
  | .portTrained p => (execPortTrained_keepsServed p s).bounded
  | .linkDrop p ns => (execLinkDrop_keepsServed p ns s).bounded
  | .portRetry p => (execPortRetry_keepsServed p s).bounded
  | .frameStart n ns number acks => (execFrameStart_keepsServed n ns number acks s).bounded
  | .linePacket n l => (execLinePacket_keepsServed n l s).bounded
  | .frameEnd n ns => (execFrameEnd_keepsServed n ns s).bounded
  | .frameTimeout n => (execFrameTimeout_keepsServed n s).bounded
  | .commitComplete n => (execCommitComplete_keepsServed n s).bounded
  | .focusRun n => (execFocusRun_keepsServed n s).bounded
  | .canBusJoin c => (execCanBusJoin_keepsServed c s).bounded
  | .canFrameRx c f sof dram => (execCanFrameRx_keepsServed c f sof dram s).bounded
  | .txLoad c b => (execTxLoad_keepsServed c b s).bounded
  | .txCancel c b => (execTxCancel_keepsServed c b s).bounded
  | .arbitration c => (execArbitration_keepsServed c s).bounded
  | .txAttemptFail c err => (execTxAttemptFail_keepsServed c err s).bounded
  | .canFrameSent c sof delay => (execCanFrameSent_keepsServed c sof delay s).bounded
  | .busOff c => (execBusOff_keepsServed c s).bounded
  | .busOffRecoveryEnd c => (execBusOffRecoveryEnd_keepsServed c s).bounded
  | .heartbeat => (execHeartbeat_keepsServed s).bounded
  | .addressClaimStart => (execAddressClaimStart_keepsServed s).bounded
  | .competingClaimRx addr name => (execCompetingClaimRx_keepsServed addr name s).bounded
  | .claimRequestRx => (execClaimRequestRx_keepsServed s).bounded
  | .addressHeld => (execAddressHeld_keepsServed s).bounded
  | .isoSendSlot n data => (execIsoSendSlot_keepsServed n data s).bounded
  | .tpRx f time => (execTpRx_keepsServed f time s).bounded
  | .dm1Send => (execDm1Send_keepsServed s).bounded
  | .ethFrameRx p fcsOk data => (execEthFrameRx_keepsServed p fcsOk data s).bounded
  | .ethConfigApply => (execEthConfigApply_keepsServed s).bounded
  | .pairJoinTimeout => (execPairJoinTimeout_keepsServed s).bounded
  | .leaseWordSend => (execLeaseWordSend_keepsServed s).bounded
  | .leaseWordRx receiver word => (execLeaseWordRx_keepsServed receiver word s).bounded
  | .leaseFrameSend => (execLeaseFrameSend_keepsServed s).bounded
  | .leaseFrameRx ctrl ident data => (execLeaseFrameRx_keepsServed ctrl ident data s).bounded
  | .pairHoldBegin => (execPairHoldBegin_keepsServed s).bounded
  | .takeover => (execTakeover_keepsServed s).bounded
  | .pairHoldEnd => (execPairHoldEnd_keepsServed s).bounded
  | .mirrorComplete m align => (execMirrorComplete_keepsServed m align s).bounded
  | .mirrorLate => (execMirrorLate_keepsServed s).bounded
  | .refillComplete r checkOk => (execRefillComplete_keepsServed r checkOk s).bounded
  | .plannedRelease => (execPlannedRelease_keepsServed s).bounded
  | .periodicSwap => (execPeriodicSwap_keepsServed s).bounded
  | .swapOverdue => (execSwapOverdue_keepsServed s).bounded
  | .healthSwap => (execHealthSwap_keepsServed s).bounded
  | .partnerAbsent => (execPartnerAbsent_keepsServed s).bounded
  | .pairPathFault path => (execPairPathFault_keepsServed path s).bounded
  | .pairPathFaultClear path => (execPairPathFaultClear_keepsServed path s).bounded
  | .twoActives serial => (execTwoActives_keepsServed serial s).bounded
  | .rxTestEnd => (execRxTestEnd_keepsServed s).bounded
  | .timeDisagreement => (execTimeDisagreement_keepsServed s).bounded
  | .domainTransitionBegin d => (execDomainTransitionBegin_keepsServed d s).bounded
  | .domainTransitionEnd d us lost => (execDomainTransitionEnd_keepsServed d us lost s).bounded
  | .accessWake client d => (execAccessWake_keepsServed client d s).bounded
  | .accessVoteExpiry client d => (execAccessVoteExpiry_keepsServed client d s).bounded
  | .wakeChange level => (execWakeChange_keepsServed level s).bounded
  | .wakeHoldExpiry => (execWakeHoldExpiry_keepsServed s).bounded
  | .dipBegin => (execDipBegin_keepsServed s).bounded
  | .dipShedding => (execDipShedding_keepsServed s).bounded
  | .dipEnd => (execDipEnd_keepsServed s).bounded
  | .supplyReset mv reached => (execSupplyReset_keepsServed mv reached s).bounded
  | .feedLow feed => (execFeedLow_keepsServed feed s).bounded
  | .floodWindowEnd src code => (execFloodWindowEnd_keepsServed src code s).bounded
  | .timeMark => (execTimeMark_keepsServed s).bounded
  | .startupPhaseEnd => (execStartupPhaseEnd_keepsServed s).bounded
  | .recoveryPhaseEnd => (execRecoveryPhaseEnd_keepsServed s).bounded
  | .verification fwSigOk readback => (execVerification_keepsServed fwSigOk readback s).bounded
  | .verificationComplete => (execVerificationComplete_keepsServed s).bounded
  | .activationInterlock => (execActivationInterlock_keepsServed s).bounded
  | .autoConfirm => (execAutoConfirm_keepsServed s).bounded
  | .proofSecond => (execProofSecond_keepsServed s).bounded
  | .powerLoss => (execPowerLoss_keepsServed s).bounded
  | .supervisorMismatch addr => (execSupervisorMismatch_keepsServed addr s).bounded
  | .watchdogExpiry => (execWatchdogExpiry_keepsServed s).bounded
  | .memoryError addr => (execMemoryError_keepsServed addr s).bounded
  | .resetEntry => execResetEntry_bounded s
  | .resetRelease inp => (execResetRelease_keepsServed inp s).bounded
  | .firstTick ms inp => (execFirstTick_keepsServed ms inp s).bounded
  | .ethLinkLoss p => (execEthLinkLoss_keepsServed p s).bounded
  | .ethLinkUp p sqi => (execEthLinkUp_keepsServed p sqi s).bounded
  | .canBusError c lec eight => (execCanBusError_keepsServed c lec eight s).bounded
  | .isoTpTimeout send n => (execIsoTpTimeout_keepsServed send n s).bounded
  | .tickEngineRestart _ _ | .open_ _ _ _ _ | .close_ _ _ | .read _ _ _ _ _ | .write _ _ _ _ _ _ | .keepalive _ _
  | .credentialWrite _ _ _ | .sessCloseAll _ | .storeAll _ | .storeGroup _ _ | .storeDefaults _ | .modeWrite _ _ _
  | .crbEnable _ | .crbDisable _ _ | .crbClear _ _ | .ysSeal _ _ | .ysSetMark _ _ | .unitEnable _ _ | .unitDisable _ _
  | .unitReset _ _ | .tplBuild _ | .templateRemove _ _ | .tgtBaseWrite _ _ _ | .supLockWrite _ _ | .supEnableOff _
  | .supAdopt _ | .uiModeWrite _ _ _ | .uiCountSet _ _ _ | .ssRearm _ _ | .chRearm _ _ | .bankRearm _ _ | .chOlLearn _ _
  | .vdRetrigger _ _ | .vdRearm _ _ | .hgRearm _ _ | .gnssEnable _ | .portEnable _ _ | .strEnable _ _ | .strDisable _ _
  | .shCommit _ _ | .expRequest _ _ _ | .canEnable _ _ | .canDisable _ _ | .canRecover _ _ | .pairSwapNow _ | .pairRxTest _ _
  | .domRetAck _ _ | .recClearCirc _ | .recClearKept _ | .recAppEvent _ _ | .recWindow _ _ _ | .updWafer _ _
  | .updActivate _ _ | .updActivateRemove _ | .updCancel _ | .updConfirm _ | .updReject _ | .updKeyWrite _ _ _
  | .updKeyClear _ _ | .rstCommand _ => (exec_servedAs rfl s).bounded

/-- Settles O3: the queue takes no part in the count, and every command keeps it within four. -/
theorem atMostFourMessagesServedInATick : Obligations.AtMostFourMessagesServedInATick := by
  unfold Obligations.AtMostFourMessagesServedInATick
  intro s t hs hstep
  unfold step at hstep
  split at hstep
  next =>
    obtain rfl := Host.Outcome.next.inj hstep
    exact hs
  next c rest _ => exact exec_bounded c { s with pending := rest } hs t hstep

end Sys2Proof.Machine
end

section
/-! The rows of the crumb ledger and its yield store (R122–R126, R140, R151, R152, R158). -/

namespace Sys2Proof.Machine

/-- An accepted CRB_ENABLE: what the row adds to the dictionary's checks, that the stage graph passes its own, is met. -/
theorem exec_crbEnable_of_graphOk {q : Req} {x : Session} {s : State} (h : s.acceptsSet q x Obj.CRB_ENABLE 1 = true)
    (hgraph : graphErr s.get = 0) :
    exec (.crbEnable q) s = .next (s.wroteSet q x Obj.CRB_ENABLE 1 fun s => s.enableLedger) := by
  have graphOk : ({ state := graphErr (s.servedBy q x).get == 0 } : Extra) = {} := by
    rw [show (s.servedBy q x).get = s.get from funext (s.servedBy_get q x), hgraph]
    rfl
  exact congrArg _ (State.serveSet_of_accepts h graphOk _ _)

/-- An accepted YS_SET_MARK: what the row adds to the dictionary's checks, the range of the mark (R152), is met. -/
theorem exec_ysSetMark_of_markOk {q : Req} {x : Session} {seq : Nat} {s : State}
    (h : s.acceptsSet q x Obj.YS_SET_MARK seq = true) (hmark : s.led.ys.markOk seq = true) :
    exec (.ysSetMark q seq) s = .next (s.wroteSet q x Obj.YS_SET_MARK seq fun s => s.putMark seq) := by
  have inRange : ({ range := (s.servedBy q x).led.ys.markOk seq } : Extra) = {} := by
    rw [State.servedBy_led, hmark]
  exact congrArg _ (State.serveSet_of_accepts h inRange _ _)

theorem exec_ledgerRun_of_due (fails : List Nat) {s : State} (hdue : s.ledgerDue = true) (hacting : s.acting = true) :
    exec (.ledgerRun fails) s = .next (
      let t := (s.setYs { s.led.ys with fails := fails }).ledgerStep
      (t.setYs { t.led.ys with fails := [] }).ranUnit ledgerUnit) := by
  change execLedgerRun fails s = _
  rw [execLedgerRun, if_pos ⟨hdue, hacting⟩]

theorem exec_checkpointComplete_of_ckRun {b : Bool} {s : State} (hrun : s.running = true) (hck : s.led.ckRun = some b) :
    exec .checkpointComplete s = .next { s with led := { s.led with
      ckRun := none
      ckA := if b then s.led.ckA else s.led.ckA.map Ckpt.seal
      ckB := if b then s.led.ckB.map Ckpt.seal else s.led.ckB } } := by
  change execCheckpointComplete s = _
  rw [execCheckpointComplete, if_pos hrun, hck]
  cases b <;> rfl

theorem exec_crbReducedEnd_of_due {until_ : Nat} {s : State} (hrun : s.running = true)
    (huntil : s.led.reducedUntil = some until_) (hdue : until_ ≤ s.k) :
    exec .crbReducedEnd s = .next { s.write Obj.CRB_REDUCED 0 true with led := { s.led with reducedUntil := none } } := by
  change execCrbReducedEnd s = _
  rw [execCrbReducedEnd, huntil]
  exact if_pos ⟨hrun, hdue⟩

/-- Settles O33: one row lemma for each clause; the three requests to which the chapter adds no check are accepted writes. -/
theorem ledgerRowsTakeEffect : Obligations.LedgerRowsTakeEffect := by
  unfold Obligations.LedgerRowsTakeEffect
  refine ⟨?enable, ?disable, ?clear, ?sealPage, ?run, ?checkpoint, ?reducedEnd, ?setMark⟩
  case enable => exact fun _ _ _ h hgraph => exec_crbEnable_of_graphOk h hgraph
  case disable | clear | sealPage => exact fun _ _ _ _ h => congrArg Host.Outcome.next (State.serveSet_of_accepts h rfl _ _)
  case run => exact fun fails _ hdue hacting => exec_ledgerRun_of_due fails hdue hacting
  case checkpoint => exact fun _ _ hrun hck => exec_checkpointComplete_of_ckRun hrun hck
  case reducedEnd => exact fun _ _ hrun huntil hdue => exec_crbReducedEnd_of_due hrun huntil hdue
  case setMark => exact fun _ _ _ _ h hmark => exec_ysSetMark_of_markOk h hmark

end Sys2Proof.Machine
end

section
/-! The rows of the loop slots, of units and of templates (R163, R167, R175, R176, R179–R181, R192, R195, R196, R198). -/

namespace Sys2Proof.Machine

/-! A run of a slot whose turn it is: a policy stops it, its measurement times out, or its law runs -/

theorem exec_slotRun_of_stops {n : Fin 48} (us : Nat) {s : State} (hturn : s.slotTurn n = true)
    (hstops : s.slotStops n = true) : exec (.slotRun n us) s = .next ((s.slotStopped n).ranUnit n) := by
  change execSlotRun n us s = _
  rw [execSlotRun, if_pos hturn, if_pos hstops]

theorem exec_slotRun_of_not_stops {n : Fin 48} (us : Nat) {s : State} (hturn : s.slotTurn n = true)
    (hstops : s.slotStops n = false) :
    exec (.slotRun n us) s = .next ((if s.pvTimedOut n then s.faultSlot n 4 else s.slotLaw n us).ranUnit n) := by
  change execSlotRun n us s = _
  rw [execSlotRun, if_pos hturn, if_neg (Bool.eq_false_iff.mp hstops)]

theorem exec_slotRun_of_measured {n : Fin 48} (us : Nat) {s : State} (hturn : s.slotTurn n = true)
    (hstops : s.slotStops n = false) (hpv : s.pvTimedOut n = false) :
    exec (.slotRun n us) s = .next ((s.slotLaw n us).ranUnit n) := by
  rw [exec_slotRun_of_not_stops us hturn hstops, if_neg (Bool.eq_false_iff.mp hpv)]

theorem exec_slotRun_of_timedOut {n : Fin 48} (us : Nat) {s : State} (hturn : s.slotTurn n = true)
    (hstops : s.slotStops n = false) (hpv : s.pvTimedOut n = true) :
    exec (.slotRun n us) s = .next ((s.faultSlot n 4).ranUnit n) := by
  rw [exec_slotRun_of_not_stops us hturn hstops, if_pos hpv]

theorem exec_pvTimeoutFault_of_timedOut {n : Fin 48} {s : State} (hturn : s.slotTurn n = true)
    (hstops : s.slotStops n = false) (hpv : s.pvTimedOut n = true) :
    exec (.pvTimeoutFault n) s = .next ((s.faultSlot n 4).ranUnit n) :=
  if_pos ⟨hturn, hstops, hpv⟩

theorem exec_ffTermDrop_of_drops {n : Fin 48} {term : Fin 2} {s : State} (hturn : s.slotTurn n = true)
    (hstops : s.slotStops n = false) (hpv : s.pvTimedOut n = false) (hdrops : s.ffDrops n term = true) :
    exec (.ffTermDrop n term) s = .next (s.dropTerm n term) :=
  if_pos ⟨hturn, hstops, hpv, hdrops⟩

/-! Requests to a unit: what each row adds to the dictionary's checks is met -/

/-- A unit without a parent whose checks pass may be enabled (R176, R190). -/
theorem exec_unitEnable_of_unitCheck {q : Req} {x : Session} {u : Nat} {s : State}
    (h : s.acceptsSet q x (enableKey u) 1 = true) (hparent : s.parent u = none)
    (hcheck : (s.servedBy q x).unitCheck u = none) :
    exec (.unitEnable q u) s = .next (s.wroteSet q x (enableKey u) 1 fun s => s.enableUnit u) := by
  have mayEnable : ({ state := ((s.servedBy q x).parent u).isNone && ((s.servedBy q x).unitCheck u).isNone } : Extra) = {} := by
    rw [State.servedBy_parent, hparent, hcheck]
    rfl
  exact congrArg _ (State.serveSet_of_accepts h mayEnable _ _)

/-- A unit without a parent may be disabled (R181, R190). -/
theorem exec_unitDisable_of_outermost {q : Req} {x : Session} {u : Nat} {s : State}
    (h : s.acceptsSet q x (enableKey u) 0 = true) (hparent : s.parent u = none) :
    exec (.unitDisable q u) s = .next (s.wroteSet q x (enableKey u) 0 fun s => s.disableUnit u) := by
  have mayDisable : ({ state := ((s.servedBy q x).parent u).isNone } : Extra) = {} := by
    rw [State.servedBy_parent, hparent]
    rfl
  exact congrArg _ (State.serveSet_of_accepts h mayDisable _ _)

/-- A unit with no slot below it on a faulted engine may be reset (R192). -/
theorem exec_unitReset_of_enginesSound {q : Req} {x : Session} {u : Nat} {s : State}
    (h : s.acceptsSet q x (unitKey u 0x1D) 1 = true)
    (hsound : ((s.servedBy q x).below 257 u).any
      (fun v => decide (v < 48) && bit (s.get Obj.TICK_ENGINE_FAULT) (engineOf v)) = false) :
    exec (.unitReset q u) s = .next (s.wroteSet q x (unitKey u 0x1D) 1 fun s => s.resetUnit u) := by
  have mayReset : (!((s.servedBy q x).below 257 u).any
      fun v => decide (v < 48) && bit ((s.servedBy q x).get Obj.TICK_ENGINE_FAULT) (engineOf v)) = true := by
    rw [State.servedBy_get, hsound]
    rfl
  exact congrArg _ (State.serveSet_of_accepts h (congrArg (fun b => ({ state := b } : Extra)) mayReset) _ _)

/-! Templates -/

/-- Two effects that agree on the state that serves an accepted write leave the same. -/
theorem State.wroteSet_congr {s : State} {q : Req} {x : Session} {key v : Nat} {eff eff' : State → State}
    (h : eff ((s.servedBy q x).slice key (valBytes key v)) = eff' ((s.servedBy q x).slice key (valBytes key v))) :
    s.wroteSet q x key v eff = s.wroteSet q x key v eff' :=
  congrArg (fun t => State.finish q 4 ⟨.ok, [], t, false⟩) h

/-- A build whose result code is 00h is of the template that TPL_NUMBER names as the request is taken up, for serving leaves
that object as it was (R195, R196). -/
theorem exec_tplBuild_of_template {q : Req} {x : Session} {t : Tpl} {s : State}
    (h : s.acceptsSet q x Obj.TPL_BUILD 1 = true) (hcode : (s.servedBy q x).tplCode = 0)
    (ht : templateOf (s.get Obj.TPL_NUMBER) = some t) :
    exec (.tplBuild q) s = .next (s.wroteSet q x Obj.TPL_BUILD 1 fun s =>
      (s.buildTemplate (s.get Obj.TPL_NUMBER) t).set Obj.TPL_RESULT 0) := by
  have mayBuild : ({ state := (s.servedBy q x).tplCode == 0 } : Extra) = {} := by
    rw [hcode]
    rfl
  refine congrArg _ ((State.serveSet_of_accepts h mayBuild _ _).trans (State.wroteSet_congr ?sameTemplate))
  case sameTemplate => simp only [State.slice_get, State.servedBy_get, ht]

theorem exec_templateRemove_of_extra {q : Req} {x : Session} {a : Fin 256} {s : State}
    (h : s.acceptsSet q x (Obj.TP_NUMBER a) 0 = true) (hextra : (s.servedBy q x).templateExtra a 0 = {}) :
    exec (.templateRemove q a) s = .next (s.wroteSet q x (Obj.TP_NUMBER a) 0 fun s => s.removeTemplate a) :=
  congrArg _ (State.serveSet_of_accepts h hextra _ _)

/-- Settles O34: one row lemma for each clause. -/
theorem loopRowsTakeEffect : Obligations.LoopRowsTakeEffect := by
  unfold Obligations.LoopRowsTakeEffect
  refine ⟨?law, ?stopped, ?timedOut, ?fault, ?drop, ?enable, ?disable, ?reset, ?build, ?remove⟩
  case law => exact fun _ us _ hturn hstops hpv => exec_slotRun_of_measured us hturn hstops hpv
  case stopped => exact fun _ us _ hturn hstops => exec_slotRun_of_stops us hturn hstops
  case timedOut => exact fun _ us _ hturn hstops hpv => exec_slotRun_of_timedOut us hturn hstops hpv
  case fault => exact fun _ _ hturn hstops hpv => exec_pvTimeoutFault_of_timedOut hturn hstops hpv
  case drop => exact fun _ _ _ hturn hstops hpv hdrops => exec_ffTermDrop_of_drops hturn hstops hpv hdrops
  case enable => exact fun _ _ _ _ h hparent hcheck => exec_unitEnable_of_unitCheck h hparent hcheck
  case disable => exact fun _ _ _ _ h hparent => exec_unitDisable_of_outermost h hparent
  case reset => exact fun _ _ _ _ h hsound => exec_unitReset_of_enginesSound h hsound
  case build => exact fun _ _ _ _ h hcode ht => exec_tplBuild_of_template h hcode ht
  case remove => exact fun _ _ _ _ h hextra => exec_templateRemove_of_extra h hextra

end Sys2Proof.Machine
end

section
/-! The rows of the setting supervisor (R207, R208, R211, R214, R217). -/

namespace Sys2Proof.Machine

/-! What each timed row does at its instant -/

theorem State.voidIfDue_of_overdue {w : Window} {s : State} (hw : s.sup.window = some w)
    (hdue : w.open_ + s.conf Obj.SUP_WINDOW_MAX ≤ s.k) (hopen : w.complete = false) : s.voidIfDue = s.voidWindow := by
  unfold State.voidIfDue
  rw [hw]
  exact if_pos ⟨hdue, by rw [hopen]; rfl⟩

theorem State.settleIfDue_of_due {s : State} (hsettle : s.supState = 3) (hdue : s.sup.since + s.conf Obj.SUP_SETTLE ≤ s.k) :
    s.settleIfDue = s.toSup (if s.sup.toBaseline then 2 else 4) :=
  if_pos ⟨hsettle, hdue⟩

theorem State.restIfDue_of_due {s : State} (hrest : s.supState = 6) (hdue : s.sup.since + s.conf Obj.SUP_RETRY ≤ s.k) :
    s.restIfDue = { s with sup := { s.sup with tried := 0 } }.toSup 2 :=
  if_pos ⟨hrest, hdue⟩

/-! The rows of a module that runs and acts -/

theorem exec_supervisorStep_of_due {s : State} (hdue : s.supDue = true) :
    exec .supervisorStep s = .next (s.supStep.ranUnit supUnit) :=
  if_pos hdue

section acting
variable {s : State} (hrun : s.running = true) (hact : s.acting = true)
include hrun hact

theorem exec_windowVoid_of_acting : exec .windowVoid s = .next s.voidIfDue := if_pos ⟨hrun, hact⟩
theorem exec_settleEnd_of_acting : exec .settleEnd s = .next s.settleIfDue := if_pos ⟨hrun, hact⟩
theorem exec_restEnd_of_acting : exec .restEnd s = .next s.restIfDue := if_pos ⟨hrun, hact⟩

end acting

/-- An accepted TGT_BASE_WRITE: what the row adds to the dictionary's checks, the limits of the target (R217), is met. -/
theorem exec_tgtBaseWrite_of_targetOk {q : Req} {x : Session} {i : Fin 5} {v : Nat} {s : State}
    (h : s.acceptsSet q x (Obj.TGT_BASE i) v = true)
    (hlimits : targetOk (s.get (Obj.TGT_MIN i)) v (s.get (Obj.TGT_MAX i)) = true) :
    exec (.tgtBaseWrite q i v) s = .next (s.wroteSet q x (Obj.TGT_BASE i) v fun s => s.writeBase i v) := by
  have withinLimits : targetOk ((s.servedBy q x).get (Obj.TGT_MIN i)) v ((s.servedBy q x).get (Obj.TGT_MAX i)) = true := by
    rwa [State.servedBy_get, State.servedBy_get]
  exact congrArg _ (State.serveSet_of_accepts h (congrArg (fun b => ({ range := b } : Extra)) withinLimits) _ _)

/-- Settles O35: the timed rows by what is due, and the three requests to which the chapter adds no check are accepted
writes. -/
theorem supervisorRowsTakeEffect : Obligations.SupervisorRowsTakeEffect := by
  unfold Obligations.SupervisorRowsTakeEffect
  refine ⟨?step, ?windowVoid, ?settleEnd, ?restEnd, ?base, ?lock, ?enableOff, ?adopt⟩
  case step => exact fun _ hdue => exec_supervisorStep_of_due hdue
  case windowVoid =>
    intro w s hrun hact hw hdue hopen
    rw [exec_windowVoid_of_acting hrun hact, State.voidIfDue_of_overdue hw hdue hopen]
  case settleEnd =>
    intro s hrun hact hsettle hdue
    rw [exec_settleEnd_of_acting hrun hact, State.settleIfDue_of_due hsettle hdue]
  case restEnd =>
    intro s hrun hact hrest hdue
    rw [exec_restEnd_of_acting hrun hact, State.restIfDue_of_due hrest hdue]
  case base => exact fun _ _ _ _ _ h hlimits => exec_tgtBaseWrite_of_targetOk h hlimits
  case lock => exact fun _ _ _ _ h => congrArg Host.Outcome.next (State.serveSet_of_accepts h rfl _ _)
  case enableOff | adopt => exact fun _ _ _ h => congrArg Host.Outcome.next (State.serveSet_of_accepts h rfl _ _)

end Sys2Proof.Machine
end

section
/-! The rows of the loss-sensor inputs (R222–R225). -/

namespace Sys2Proof.Machine

/-! The samples that bring an input to an event of its detector -/

theorem exec_impactStart_of_reaches {n : Fin 16} {us : Nat} {samples : List Int} {last : Int} {s : State}
    (h : s.lsReaches n us (samples ++ [last]) .started = true) :
    exec (.impactStart n us samples last) s = .next (s.lsTake n (s.lsRun n (samples ++ [last]))) :=
  if_pos h

theorem exec_impactEnd_of_reaches {n : Fin 16} {us : Nat} {samples : List Int} {last : Int} {s : State}
    (h : s.lsReaches n us (samples ++ [last]) .ended = true) :
    exec (.impactEnd n us samples last) s = .next (s.lsTake n (s.lsRun n (samples ++ [last]))) :=
  if_pos h

theorem exec_impactMaxLen_of_reaches {n : Fin 16} {us : Nat} {samples : List Int} {s : State}
    (h : s.lsReaches n us samples .forced = true) :
    exec (.impactMaxLen n us samples) s = .next (s.lsTake n (s.lsRun n samples)) :=
  if_pos h

/-! The restart of a detector, with an impact in progress and without -/

theorem State.lsRestart_of_impact {s : State} {n : Nat} (himpact : (s.ls n).impact.isSome = true) :
    s.lsRestart n = (s.count (Obj.LS_DISCARDED n) 1).setLs n { s.ls n with
      hp := (0, 0), lp := (0, 0), env := 0, impact := none, restart := none, restarted := true } := by
  rw [State.lsRestart, if_pos himpact]

theorem State.lsRestart_of_no_impact {s : State} {n : Nat} (himpact : (s.ls n).impact = none) :
    s.lsRestart n = s.setLs n { s.ls n with
      hp := (0, 0), lp := (0, 0), env := 0, impact := none, restart := none, restarted := true } := by
  have notInProgress : ¬ (s.ls n).impact.isSome = true := by simp [himpact]
  rw [State.lsRestart, if_neg notInProgress]

theorem State.lsRestartDue_of_passed {s : State} {n since : Nat} (hrestart : (s.ls n).restart = some since)
    (hpassed : since < s.k) : s.lsRestartDue n = s.lsRestart n := by
  rw [State.lsRestartDue, hrestart]
  exact if_pos hpassed

theorem exec_lsDetectorRestart_of_passed {n : Fin 16} {since : Nat} {s : State} (hrun : s.running = true)
    (hrestart : (s.ls n).restart = some since) (hpassed : since < s.k) :
    exec (.lsDetectorRestart n) s = .next (s.lsRestart n) := by
  rw [← State.lsRestartDue_of_passed hrestart hpassed]
  exact if_pos hrun

/-- Settles O36: the detector's events by what the samples reach, the restart by whether an impact is in progress. -/
theorem lossSensorRowsTakeEffect : Obligations.LossSensorRowsTakeEffect := by
  unfold Obligations.LossSensorRowsTakeEffect
  refine ⟨?started, ?ended, ?forced, ?restartInImpact, ?restart⟩
  case started => exact fun _ _ _ _ _ h => exec_impactStart_of_reaches h
  case ended => exact fun _ _ _ _ _ h => exec_impactEnd_of_reaches h
  case forced => exact fun _ _ _ _ h => exec_impactMaxLen_of_reaches h
  case restartInImpact =>
    intro n since s hrun hrestart hpassed himpact
    rw [exec_lsDetectorRestart_of_passed hrun hrestart hpassed, State.lsRestart_of_impact himpact]
  case restart =>
    intro n since s hrun hrestart hpassed himpact
    rw [exec_lsDetectorRestart_of_passed hrun hrestart hpassed, State.lsRestart_of_no_impact himpact]

end Sys2Proof.Machine
end

section
/-! The rows of the universal inputs (R229, R232, R233, R235). -/

namespace Sys2Proof.Machine

/-! Requests to an input: what each row adds to the dictionary's checks is met -/

theorem exec_uiModeWrite_of_extra {q : Req} {x : Session} {n : Fin 48} {m : Nat} {s : State}
    (h : s.acceptsSet q x (Obj.UI_MODE n) m = true) (hextra : (s.servedBy q x).uiModeExtra n m = {}) :
    exec (.uiModeWrite q n m) s = .next (s.wroteSet q x (Obj.UI_MODE n) m fun s => s.uiMode n m) :=
  congrArg _ (State.serveSet_of_accepts h hextra _ _)

/-- The position of an even input in mode 07h may be set (R235). -/
theorem exec_uiCountSet_of_quadrature {q : Req} {x : Session} {n : Fin 48} {v : Int} {s : State}
    (h : s.acceptsSet q x (Obj.UI_COUNT_SET n) (encInt 32 v) = true) (hmode : s.get (Obj.UI_MODE n) = 7)
    (heven : n.val % 2 = 0) :
    exec (.uiCountSet q n v) s = .next (s.wroteSet q x (Obj.UI_COUNT_SET n) (encInt 32 v)
      fun s => s.uiSetCount n (decInt 32 (encInt 32 v))) := by
  have maySet : ({ held := (s.servedBy q x).get (Obj.UI_MODE n) == 7 && n.val % 2 == 0 } : Extra) = {} := by
    rw [State.servedBy_get, hmode, heven]
    rfl
  exact congrArg _ (State.serveSet_of_accepts h maySet _ _)

/-! The rows at an instant: the end of the settling and of a shunt's rest -/

theorem exec_uiSettleEnd_of_due {n : Fin 48} {since : Nat} {s : State} (hrun : s.running = true)
    (hsettle : (s.ui n).settle = some since) (hdue : since + 16 ≤ s.k) :
    exec (.uiSettleEnd n) s = .next (s.setUi n { s.ui n with settle := none }) := by
  change execUiSettleEnd n s = _
  rw [execUiSettleEnd, hsettle]
  exact if_pos ⟨hrun, hdue⟩

theorem exec_shuntReconnect_of_due {n : Fin 48} {since : Nat} {s : State} (hrun : s.running = true)
    (hshunt : (s.ui n).shunt = some since) (hdue : since + 4000 ≤ s.k) :
    exec (.shuntReconnect n) s = .next (s.setUi n { s.ui n with shunt := none, overC := 0 }) := by
  change execShuntReconnect n s = _
  rw [execShuntReconnect, hshunt]
  exact if_pos ⟨hrun, hdue⟩

/-! The rows that write the entry of the tick again, which a late one is not -/

/-- A current input whose shunt is disconnected in this tick, its filter cleared (R232). -/
def State.shuntOpened (s : State) (n : Nat) : State :=
  s.setUi n { s.ui n with shunt := some s.k, overC := 0, y := none }

/-- The status of an entry whose shunt is disconnected: bit 3, and bit 1 where the raw current lies above 21 mA (R232). -/
def State.shuntStatus (s : State) (n : Nat) : Nat :=
  setBit (s.get (Obj.UI_STATUS n) &&& 0xFFC) 3 true ||| 2 * boolNat (decide (21 < f32rat (s.ui n).raw))

theorem exec_shuntDisconnect_of_over {n : Fin 48} {s : State} (hrun : s.running = true) (hon : s.uiOn n = true)
    (hmode : s.conf (Obj.UI_MODE n) = 3) (hover : 2 ≤ (s.ui n).overC) (hshunt : (s.ui n).shunt = none) :
    exec (.shuntDisconnect n) s = .next (
      if s.uiLateNow n then s.shuntOpened n else (s.shuntOpened n).uiRewrite n (s.ui n).raw (s.shuntStatus n)) :=
  if_pos ⟨hrun, hon, hmode, hover, hshunt⟩

theorem exec_uiDebounceChange_of_differs {n : Fin 48} {s : State} (hrun : s.running = true) (hon : s.uiOn n = true)
    (hmode : s.conf (Obj.UI_MODE n) = 5) (htimely : s.uiLateNow n = false)
    (hdiff : s.conf (Obj.UI_DEBOUNCE n) + 1 ≤ (s.ui n).diff) :
    exec (.uiDebounceChange n) s = .next ((s.setUi n { s.ui n with diff := 0 }).uiRewrite n
      (if (s.ui n).level then 0x3F800000 else 0) (s.get (Obj.UI_STATUS n) &&& 0xFFC)) :=
  if_pos ⟨hrun, hon, hmode, htimely, hdiff⟩

/-- Settles O37: one row lemma for each clause; the shunt's disconnection by whether the entry of the tick is late. -/
theorem universalInputRowsTakeEffect : Obligations.UniversalInputRowsTakeEffect := by
  unfold Obligations.UniversalInputRowsTakeEffect
  refine ⟨?mode, ?settleEnd, ?disconnectTimely, ?disconnectLate, ?reconnect, ?debounce, ?countSet⟩
  case mode => exact fun _ _ _ _ _ h hextra => exec_uiModeWrite_of_extra h hextra
  case settleEnd => exact fun _ _ _ hrun hsettle hdue => exec_uiSettleEnd_of_due hrun hsettle hdue
  case disconnectTimely =>
    intro n s hrun hon hmode hover hshunt htimely
    rw [exec_shuntDisconnect_of_over hrun hon hmode hover hshunt, if_neg (Bool.eq_false_iff.mp htimely)]
    rfl
  case disconnectLate =>
    intro n s hrun hon hmode hover hshunt hlate
    rw [exec_shuntDisconnect_of_over hrun hon hmode hover hshunt, if_pos hlate]
    rfl
  case reconnect => exact fun _ _ _ hrun hshunt hdue => exec_shuntReconnect_of_due hrun hshunt hdue
  case debounce => exact fun _ _ hrun hon hmode htimely hdiff => exec_uiDebounceChange_of_differs hrun hon hmode htimely hdiff
  case countSet => exact fun _ _ _ _ _ h hmode heven => exec_uiCountSet_of_quadrature h hmode heven

end Sys2Proof.Machine
end

section
/-! The rows of the sensor supplies (R238). -/

namespace Sys2Proof.Machine

/-- A trip that is counted leaves the retries that are left. -/
theorem State.get_ssLeft_of_counted (s : State) (n : Nat) (x : SsSt) (trips : Nat) :
    ((s.setSs n x).count (Obj.SS_TRIPS n) trips).get (Obj.SS_LEFT n) = s.get (Obj.SS_LEFT n) := by
  have otherKey : Obj.SS_LEFT n ≠ Obj.SS_TRIPS n := by simp
  exact State.get_count_of_ne _ _ otherKey

theorem exec_ssLimitTrip_of_limited {n : Fin 4} {s : State} (hrun : s.running = true) (hstate : s.get (Obj.SS_STATE n) = 2)
    (hlimit : 40 ≤ (s.ss n).limit) :
    exec (.ssLimitTrip n) s = .next (((s.setSs n { s.ss n with limit := 0, since := s.k }).count (Obj.SS_TRIPS n) 1).set
      (Obj.SS_STATE n) (if s.get (Obj.SS_LEFT n) = 0 then 4 else 3)) := by
  change execSsLimitTrip n s = _
  simp only [execSsLimitTrip, State.get_ssLeft_of_counted]
  exact if_pos ⟨hrun, hstate, hlimit⟩

theorem exec_ssRetry_of_due {n : Fin 4} {s : State} (hrun : s.running = true) (hstate : s.get (Obj.SS_STATE n) = 3)
    (hdue : (s.ss n).since + s.conf (Obj.SS_RETRY n) ≤ s.k) :
    exec (.ssRetry n) s = .next ((s.set (Obj.SS_STATE n) 1).set (Obj.SS_LEFT n) (s.get (Obj.SS_LEFT n) - 1)) :=
  if_pos ⟨hrun, hstate, hdue⟩

/-- A supply in 04h may be rearmed (R238). -/
theorem exec_ssRearm_of_latched {q : Req} {x : Session} {n : Fin 4} {s : State}
    (h : s.acceptsSet q x (Obj.SS_REARM n) 1 = true) (hstate : s.get (Obj.SS_STATE n) = 4) :
    exec (.ssRearm q n) s = .next (s.wroteSet q x (Obj.SS_REARM n) 1 fun s => s.ssRearm n) := by
  have mayRearm : ({ state := (s.servedBy q x).get (Obj.SS_STATE n) == 4 } : Extra) = {} := by
    rw [State.servedBy_get, hstate]
    rfl
  exact congrArg _ (State.serveSet_of_accepts h mayRearm _ _)

/-- Settles O38: one row lemma for each clause. -/
theorem sensorSupplyRowsTakeEffect : Obligations.SensorSupplyRowsTakeEffect := by
  unfold Obligations.SensorSupplyRowsTakeEffect
  refine ⟨?trip, ?retry, ?rearm⟩
  case trip => exact fun _ _ hrun hstate hlimit => exec_ssLimitTrip_of_limited hrun hstate hlimit
  case retry => exact fun _ _ hrun hstate hdue => exec_ssRetry_of_due hrun hstate hdue
  case rearm => exact fun _ _ _ _ h hstate => exec_ssRearm_of_latched h hstate

end Sys2Proof.Machine
end

section
/-! The protections in hardware of the load switches (R257, R258). -/

namespace Sys2Proof.Machine

theorem exec_currentLimitTurnoff_of_limited {n : Fin 128} {us : Nat} {s : State} (hon : s.conducts n = true)
    (hlong : 200 ≤ us) (htimely : us ≤ 204) :
    exec (.currentLimitTurnoff n us) s = .next (s.setCh n { s.ch n with on := false, offCl := true, edge := true }) :=
  if_pos ⟨hon, hlong, htimely⟩

theorem exec_thermalLatchSet_of_hot {n : Fin 128} {temp : Rat} {s : State} (hlow : 170 ≤ temp) (hhigh : temp ≤ 180)
    (hclear : (s.ch n).latch = false) :
    exec (.thermalLatchSet n temp) s = .next (s.setCh n { s.ch n with
      latch := true, on := false, offTh := (s.ch n).offTh || s.conducts n, edge := (s.ch n).edge || s.conducts n }) :=
  if_pos ⟨hlow, hhigh, hclear⟩

theorem exec_thermalLatchClear_of_cool {n : Fin 128} {temp : Rat} {s : State} (hcool : temp < 150)
    (hset : (s.ch n).latch = true) :
    exec (.thermalLatchClear n temp) s = .next (s.setCh n { s.ch n with latch := false }) :=
  if_pos ⟨hcool, hset⟩

/-- Settles O39: one row lemma for each clause. -/
theorem layerTwoRowsTakeEffect : Obligations.LayerTwoRowsTakeEffect := by
  unfold Obligations.LayerTwoRowsTakeEffect
  refine ⟨?turnoff, ?latchSet, ?latchClear⟩
  case turnoff => exact fun _ _ _ hon hlong htimely => exec_currentLimitTurnoff_of_limited hon hlong htimely
  case latchSet => exact fun _ _ _ hlow hhigh hclear => exec_thermalLatchSet_of_hot hlow hhigh hclear
  case latchClear => exact fun _ _ _ hcool hset => exec_thermalLatchClear_of_cool hcool hset

end Sys2Proof.Machine
end

section
/-! The PWM period start and the off edge of the load switches (R252, R253, R273, R275, R276, R288). -/

namespace Sys2Proof.Machine

/-! PWM_PERIOD_START: what a hold goes on with, and what a module that acts begins with -/

/-- A channel keeps the duty applied last: a pair hold is in force, or the boundary applied nothing (R288, R429). -/
def State.keepsDuty (s : State) : Bool := s.pair.hold.isSome || s.unapplied s.k

theorem State.keepsDuty_of_held_or_unapplied {s : State} (h : s.pair.hold.isSome = true ∨ s.unapplied s.k = true) :
    s.keepsDuty = true := Bool.or_eq_true_iff.mpr h

theorem State.not_keepsDuty_of_applied {s : State} (hhold : s.pair.hold = none) (happlied : s.unapplied s.k = false) :
    s.keepsDuty = false := by
  rw [State.keepsDuty, hhold, happlied]
  rfl

/-- The period that a channel in 01h begins with the demand taken: where its off edges have no freewheel, their clamp energy
decides (R275). -/
def State.pwmByDemand (s : State) (n : Nat) : State :=
  if f32lt 0 (s.ch n).taken ∧ f32lt (s.ch n).taken 0x42C80000 ∧ s.confFlag (Obj.CH_FREEWHEEL n) = false then
    if chRepetitive n < f32rat (s.energy n (s.offCurrent n)).1
    then (s.energy n (s.offCurrent n)).2.pwmRefuse n (s.energy n (s.offCurrent n)).1
    else (s.energy n (s.offCurrent n)).2.pwmBegin n (s.ch n).taken
  else s.pwmBegin n (s.ch n).taken

theorem State.pwmByDemand_of_freewheel {s : State} {n : Nat} (hwheel : s.confFlag (Obj.CH_FREEWHEEL n) = true) :
    s.pwmByDemand n = s.pwmBegin n (s.ch n).taken := by
  have notClamped : ¬ s.confFlag (Obj.CH_FREEWHEEL n) = false := by simp [hwheel]
  exact if_neg fun ⟨_, _, h⟩ => notClamped h

theorem State.pwmByDemand_of_clamp {s : State} {n : Nat} (hwheel : s.confFlag (Obj.CH_FREEWHEEL n) = false)
    (hsome : f32lt 0 (s.ch n).taken = true) (hpart : f32lt (s.ch n).taken 0x42C80000 = true) :
    s.pwmByDemand n = if chRepetitive n < f32rat (s.energy n (s.offCurrent n)).1
      then (s.energy n (s.offCurrent n)).2.pwmRefuse n (s.energy n (s.offCurrent n)).1
      else (s.energy n (s.offCurrent n)).2.pwmBegin n (s.ch n).taken :=
  if_pos ⟨hsome, hpart, hwheel⟩

theorem exec_pwmPeriodStart_of_keepsDuty {n : Fin 128} {s : State} (hdue : s.pwmDue n = true) (hkeeps : s.keepsDuty = true)
    (hduty : f32lt 0 (s.ch n).duty = true) : exec (.pwmPeriodStart n) s = .next (s.pwmBegin n (s.ch n).duty) :=
  if_pos ⟨hdue, hkeeps, hduty⟩

theorem exec_pwmPeriodStart_of_acts {n : Fin 128} {s : State} (hdue : s.pwmDue n = true) (hacts : s.swActs = true)
    (happlies : s.keepsDuty = false) (hwas : (s.ch n).was = 1) :
    exec (.pwmPeriodStart n) s = .next (s.pwmByDemand n) := by
  have notKept : ¬ (s.pwmDue n = true ∧ s.keepsDuty = true ∧ f32lt 0 (s.ch n).duty = true) := by simp [happlies]
  refine (if_neg notKept).trans ((if_pos ⟨hdue, hacts, happlies, hwas⟩).trans ?_)
  simp only [State.pwmByDemand, apply_ite Host.Outcome.next]

/-! SWITCH_OFF_EDGE -/

/-- A status bit that is made `b`, and reported where `b` holds. -/
theorem State.chBit_reported (s : State) (n i : Nat) (b : Bool) (src code : Nat) (p : Bytes) :
    (if b then (s.chBit n i b).event src code p else s.chBit n i b) =
      if b then (s.chBit n i true).event src code p else s.chBit n i false := by
  cases b <;> rfl

theorem exec_switchOffEdge_of_edge {n : Fin 128} (current ton : Nat) {s : State}
    (hedge : (s.ch n).edge = true ∨ s.pwmEnds n = true) :
    exec (.switchOffEdge n current ton) s = .next (
      let i := f32rat current * 250 / ton
      let t := s.setCh n { s.ch n with
        on := (s.ch n).on && !s.pwmEnds n, edge := false, onCurrent := if ton = 0 then (s.ch n).onCurrent else some (ratF32 i) }
      let e := t.energy n (if ton = 0 then t.offCurrent n else i)
      let u := e.2.set (Obj.CH_E_OFF n) e.1
      let high := !u.confFlag (Obj.CH_FREEWHEEL n) && decide (chSingle n < f32rat e.1)
      if high then (u.chBit n 12 true).event 8 0x3002 (u8 n ++ u32 e.1) else u.chBit n 12 false) :=
  (if_pos (Bool.or_eq_true_iff.mpr hedge)).trans (congrArg Host.Outcome.next (State.chBit_reported _ _ _ _ _ _ _))

/-- Settles O40: the period start by whether the channel keeps its duty, and by its freewheel; the off edge by its row lemma. -/
theorem switchEdgeRowsTakeEffect : Obligations.SwitchEdgeRowsTakeEffect := by
  unfold Obligations.SwitchEdgeRowsTakeEffect
  refine ⟨?freewheel, ?clamp, ?kept, ?offEdge⟩
  case freewheel =>
    intro n s hdue hacts hhold happlied hwas hwheel
    rw [exec_pwmPeriodStart_of_acts hdue hacts (State.not_keepsDuty_of_applied hhold happlied) hwas,
      State.pwmByDemand_of_freewheel hwheel]
  case clamp =>
    intro n s hdue hacts hhold happlied hwas hwheel hsome hpart
    rw [exec_pwmPeriodStart_of_acts hdue hacts (State.not_keepsDuty_of_applied hhold happlied) hwas,
      State.pwmByDemand_of_clamp hwheel hsome hpart]
  case kept =>
    exact fun _ _ hdue hkeeps hduty =>
      exec_pwmPeriodStart_of_keepsDuty hdue (State.keepsDuty_of_held_or_unapplied hkeeps) hduty
  case offEdge => exact fun _ current ton _ hedge => exec_switchOffEdge_of_edge current ton hedge

end Sys2Proof.Machine
end

section
/-! The rows of the wire fuse of the load switches (R265, R268, R269, R270, R278). -/

namespace Sys2Proof.Machine

/-! Restart and retries -/

theorem exec_channelRestart_of_permitted {n : Fin 128} {s : State} (hacts : s.swActs = true)
    (hwaits : s.get (Obj.CH_FUSE_STATE n) = 2 ∨ s.get (Obj.CH_FUSE_STATE n) = 3 ∨ s.get (Obj.CH_FUSE_STATE n) = 4)
    (hsettled : (s.ch n).changed = false) (henabled : s.confFlag (Obj.CH_ENABLE n) = true) (hasked : s.chAsked n = true)
    (hdelay : (s.ch n).since + s.conf (Obj.CH_RETRY_DELAY n) ≤ s.k) (hleft : 0 < s.get (Obj.CH_RETRY_LEFT n))
    (hlatch : s.latchShown n = false) (hpermits : s.permits n = true) :
    exec (.channelRestart n) s =
      .next ((s.set (Obj.CH_RETRY_LEFT n) (s.get (Obj.CH_RETRY_LEFT n) - 1)).switchOn n) :=
  if_pos ⟨hacts, hwaits, hsettled, henabled, hasked, hdelay, hleft, hlatch, hpermits⟩

theorem exec_retryRestore_of_untripped {n : Fin 128} {s : State} (hacts : s.swActs = true)
    (hon : s.get (Obj.CH_FUSE_STATE n) = 1) (hlong : s.conf (Obj.CH_RETRY_RESET n) ≤ (s.ch n).onTicks)
    (hseen : s.tripSeen n = false) :
    exec (.retryRestore n) s = .next (s.set (Obj.CH_RETRY_LEFT n) (s.conf (Obj.CH_RETRIES n))) :=
  if_pos ⟨hacts, hon, hlong, hseen⟩

/-! Requests to a channel or a bank -/

theorem exec_chRearm_of_accepts {q : Req} {x : Session} {n : Fin 128} {s : State}
    (h : s.acceptsSet q x (Obj.CH_REARM n) 1 = true) :
    exec (.chRearm q n) s = .next (s.wroteSet q x (Obj.CH_REARM n) 1 fun s => s.rearmCh n) :=
  congrArg _ (State.serveSet_of_accepts h rfl _ _)

theorem exec_bankRearm_of_accepts {q : Req} {x : Session} {b : Fin 8} {s : State}
    (h : s.acceptsSet q x (Obj.BANK_REARM b) 1 = true) :
    exec (.bankRearm q b) s = .next (s.wroteSet q x (Obj.BANK_REARM b) 1 fun s => (bankChannels b).foldl State.rearmCh s) :=
  congrArg _ (State.serveSet_of_accepts h rfl _ _)

/-- A channel whose CH_FINE is true may learn (R278). -/
theorem exec_chOlLearn_of_fine {q : Req} {x : Session} {n : Fin 128} {s : State}
    (h : s.acceptsSet q x (Obj.CH_OL_LEARN n) 1 = true) (hfine : s.flag (Obj.CH_FINE n) = true) :
    exec (.chOlLearn q n) s = .next (s.wroteSet q x (Obj.CH_OL_LEARN n) 1 fun s => s.learnCh n) := by
  have mayLearn : ({ held := (s.servedBy q x).flag (Obj.CH_FINE n) } : Extra) = {} := by
    rw [State.servedBy_flag, hfine]
  exact congrArg _ (State.serveSet_of_accepts h mayLearn _ _)

/-! The trip of a bank whose fuse decision faulted, and the end of learning -/

theorem State.assistedTrip_of_due {s : State} {b : Nat} (hdue : s.fuseTripDue b = true) :
    s.assistedTrip b = (bankChannels b).foldl (fun s n =>
      if s.get (Obj.CH_FUSE_STATE n) = 1 ∧ (s.ch n).changed = false ∧ (s.ch n).seenCl = false ∧ (s.ch n).seenTh = false
      then s.trip n 5 else s) (s.setBank b { s.bank b with faultAt := none }) :=
  if_pos hdue

theorem exec_olLearnComplete_of_full {n : Fin 128} {k sum : Nat} {s : State} (hrun : s.running = true)
    (hlearn : (s.ch n).learn = some (k, sum)) (hfull : 400 ≤ k) :
    exec (.olLearnComplete n) s = .next (((s.setCh n { s.ch n with learn := none }).set (Obj.CH_OL_EXPECT n)
      (ratF32 (sum / 50 / k))).chBit n 15 false) := by
  change execOlLearnComplete n s = _
  simp only [execOlLearnComplete, hlearn]
  exact if_pos ⟨hrun, hfull⟩

/-- Settles O41: the timed rows by what is due; the three requests are accepted writes, whose effects on a channel are
`rearmCh` and `learnCh`. -/
theorem wireFuseRowsTakeEffect : Obligations.WireFuseRowsTakeEffect := by
  unfold Obligations.WireFuseRowsTakeEffect
  refine ⟨?restart, ?retries, ?chRearm, ?bankRearm, ?fuseTrip, ?learn, ?learned⟩
  case restart =>
    exact fun _ _ hacts hwaits hsettled henabled hasked hdelay hleft hlatch hpermits =>
      exec_channelRestart_of_permitted hacts hwaits hsettled henabled hasked hdelay hleft hlatch hpermits
  case retries => exact fun _ _ hacts hon hlong hseen => exec_retryRestore_of_untripped hacts hon hlong hseen
  case chRearm => exact fun _ _ _ _ h => exec_chRearm_of_accepts h
  case bankRearm => exact fun _ _ _ _ h => exec_bankRearm_of_accepts h
  case fuseTrip => exact fun _ _ hdue => congrArg Host.Outcome.next (State.assistedTrip_of_due hdue)
  case learn => exact fun _ _ _ _ h hfine => exec_chOlLearn_of_fine h hfine
  case learned => exact fun _ _ _ _ hrun hlearn hfull => exec_olLearnComplete_of_full hrun hlearn hfull

end Sys2Proof.Machine
end

section
/-! The rows of the switch banks (R281, R284, R286). -/

namespace Sys2Proof.Machine

theorem exec_bankUndervoltage_of_four {b : Fin 8} {s : State} (hacts : s.swActs = true) (hunder : 4 ≤ (s.bank b).underC) :
    exec (.bankUndervoltage b) s = .next (s.bankBit b 3 true) :=
  if_pos ⟨hacts, hunder⟩

theorem exec_channelRestore_of_restorable {b : Fin 8} {n : Fin 128} {s : State} (hacts : s.swActs = true)
    (hnext : s.restorable b = some n.val) :
    exec (.channelRestore b n) s = .next ((s.setBank b { s.bank b with restoreAt := some s.k }).zeroRules n) :=
  if_pos ⟨hacts, hnext⟩

/-- The channels that a dip sheds in a bank: in 01h, of priority 4 to 7, and taken by no trip in this tick (R271, R286). -/
def State.dipSheds (s : State) (b : Nat) : List Nat :=
  (bankChannels b).filter fun n => s.get (Obj.CH_FUSE_STATE n) == 1 && !(s.ch n).changed &&
    decide (4 ≤ s.conf (Obj.CH_PRIORITY n)) && !s.tripSeen n

/-- A bank sheds for a dip: its channels are shed and noted, and bit 5 of BANK_STATUS is set (R286). -/
def State.dipShedBank (s : State) (b : Nat) : State :=
  let t := (s.dipSheds b).foldl State.shed s
  (t.setBank b { t.bank b with dipShed := (t.bank b).dipShed ++ s.dipSheds b }).bankBit b 5 true

theorem exec_dipShed_of_reported {since : Nat} {s : State} (hacts : s.swActs = true)
    (hreported : s.sw.dipReported = some since) (hpassed : since < s.k) :
    exec .dipShed s = .next ((List.range 8).foldl State.dipShedBank s) := by
  change execDipShed s = _
  rw [execDipShed, hreported]
  exact if_pos ⟨hacts, hpassed⟩

/-- Settles O42: one row lemma for each clause. -/
theorem bankRowsTakeEffect : Obligations.BankRowsTakeEffect := by
  unfold Obligations.BankRowsTakeEffect
  refine ⟨?undervoltage, ?restore, ?dipShed⟩
  case undervoltage => exact fun _ _ hacts hunder => exec_bankUndervoltage_of_four hacts hunder
  case restore => exact fun _ _ _ hacts hnext => exec_channelRestore_of_restorable hacts hnext
  case dipShed => exact fun _ _ hacts hreported hpassed => exec_dipShed_of_reported hacts hreported hpassed

end Sys2Proof.Machine
end

section
/-! The rows of the valve profiles (R303–R305, R307–R309). -/

namespace Sys2Proof.Machine

@[simp] theorem State.vd_setVd_same (s : State) (n : Nat) (x : VdSt) : (s.setVd n x).vd n = x := by
  simp [State.vd, State.setVd]

/-! VALVE_EVENT: what the event that waits does to its channel -/

/-- The event that waits at `t` reaches its channel now: the drive is live and in no hold, the instant and the group's turn
have come, and no open coil was found at that instant (R307, R309, R313). -/
def State.takesEvent (s : State) (n t : Nat) : Prop :=
  s.vdLive = true ∧ s.pair.hold = none ∧ t < 250 * (s.k + 1) ∧ s.eventTurn n = true ∧
    ¬ (s.openCoil n = true ∧ t = 250 * s.k)

/-- The event no longer waits. -/
def State.eventTaken (s : State) (n : Nat) : State := s.setVd n { s.vd n with event := none }

/-- An event at `t` comes sooner than VD_MIN_OFF after the switch-off (R308). -/
def State.offTooShort (s : State) (n t : Nat) : Bool :=
  match (s.vd n).offAt with
  | some off => decide (t < off + s.conf (Obj.VD_MIN_OFF n))
  | none => false

/-- The event is held in 07h until VD_MIN_OFF has elapsed (R308). -/
def State.holdEvent (s : State) (n : Nat) (len : Option Nat) : State :=
  s.setVd n { s.vd n with st := 7, held := up32 (s.vd n).held, heldLen := len }

/-- An event at `t` reaches the even channel of a pair (R308). -/
def State.pairEvent (s : State) (n t : Nat) (len : Option Nat) : State :=
  if 1 ≤ (s.vd n).st ∧ (s.vd n).st ≤ 5 then (s.vdOff n t).holdEvent n len
  else if (s.vd n).st = 7 ∨ s.offTooShort n t = true then (s.holdEvent n len).groupOn (n / 4)
  else s.startProfile n t len

/-- A channel whose boost still waits or runs, retriggered at `t`: only the end of an injector event moves (R307). -/
def VdSt.retriggered (x : VdSt) (t : Nat) (len : Option Nat) : VdSt :=
  { x with retrigs := up32 x.retrigs, inj := match len with | some l => some (t, l) | none => x.inj }

/-- An event at `t` reaches a channel that is no pair (R307). -/
def State.singleEvent (s : State) (n t : Nat) (len : Option Nat) : State :=
  if (s.vd n).st = 0 then s.startProfile n t len
  else if (s.vd n).st ≤ 2 then s.setVd n ((s.vd n).retriggered t len)
  else (s.setVd n { s.vd n with retrigs := up32 (s.vd n).retrigs }).startProfile n t len

@[simp] theorem State.vd_eventTaken (s : State) (n : Nat) : (s.eventTaken n).vd n = { s.vd n with event := none } :=
  State.vd_setVd_same _ _ _

theorem State.st_eventTaken (s : State) (n : Nat) : ((s.eventTaken n).vd n).st = (s.vd n).st := by rw [State.vd_eventTaken]

/-- What an event does to a channel in 00h to 07h depends on whether the channel is a pair. -/
theorem exec_valveEvent_of_takes {n : Fin 48} {t : Nat} {len : Option Nat} {s : State}
    (hevent : (s.vd n).event = some (t, len)) (htakes : s.takesEvent n t) (hsound : (s.vd n).st < 8) :
    exec (.valveEvent n) s = .next (
      if s.paralleled n then (s.eventTaken n).pairEvent n (max t (250 * s.k)) len
      else (s.eventTaken n).singleEvent n (max t (250 * s.k)) len) := by
  have notOddMember : ¬ ((s.eventTaken n).vd n).st = 0xA := by rw [State.st_eventTaken]; omega
  have notFaulted : ¬ ((s.eventTaken n).vd n).st = 8 := by rw [State.st_eventTaken]; omega
  change execValveEvent n s = _
  simp only [State.pairEvent, State.singleEvent, apply_ite Host.Outcome.next]
  rw [execValveEvent, hevent]
  exact (if_pos htakes).trans ((if_neg notOddMember).trans (if_neg notFaulted))

/-! The cases of an event -/

section eventCases
variable {s : State} {n t : Nat} {len : Option Nat}

theorem State.offTooShort_of_lt {off : Nat} (hoff : (s.vd n).offAt = some off) (hsoon : t < off + s.conf (Obj.VD_MIN_OFF n)) :
    s.offTooShort n t = true := by
  rw [State.offTooShort, hoff]
  exact decide_eq_true hsoon

theorem State.offTooShort_of_rested (hrested : ∀ off, (s.vd n).offAt = some off → off + s.conf (Obj.VD_MIN_OFF n) ≤ t) :
    s.offTooShort n t = false := by
  rw [State.offTooShort]
  split
  case h_1 off hoff => exact decide_eq_false (Nat.not_lt.mpr (hrested off hoff))
  case h_2 => rfl

theorem State.offTooShort_eventTaken : (s.eventTaken n).offTooShort n t = s.offTooShort n t := by
  rw [State.offTooShort, State.vd_eventTaken]
  rfl

theorem State.pairEvent_of_conducting (hlow : 1 ≤ (s.vd n).st) (hhigh : (s.vd n).st ≤ 5) :
    (s.eventTaken n).pairEvent n t len = ((s.eventTaken n).vdOff n t).holdEvent n len := by
  rw [State.pairEvent, State.st_eventTaken]
  exact if_pos ⟨hlow, hhigh⟩

theorem State.pairEvent_of_waits (hwaits : (s.vd n).st = 7 ∨ (s.vd n).st = 0 ∧ s.offTooShort n t = true) :
    (s.eventTaken n).pairEvent n t len = ((s.eventTaken n).holdEvent n len).groupOn (n / 4) := by
  have notConducting : ¬ (1 ≤ (s.vd n).st ∧ (s.vd n).st ≤ 5) := by omega
  rw [State.pairEvent, State.st_eventTaken, State.offTooShort_eventTaken, if_neg notConducting]
  exact if_pos (hwaits.imp_right And.right)

theorem State.pairEvent_of_rested (hoff : (s.vd n).st = 0) (hrested : s.offTooShort n t = false) :
    (s.eventTaken n).pairEvent n t len = (s.eventTaken n).startProfile n t len := by
  simp [State.pairEvent, State.offTooShort_eventTaken, hoff, hrested]

theorem State.singleEvent_of_off (hoff : (s.vd n).st = 0) :
    (s.eventTaken n).singleEvent n t len = (s.eventTaken n).startProfile n t len := by
  rw [State.singleEvent, State.st_eventTaken]
  exact if_pos hoff

theorem State.singleEvent_of_boosting (hboost : (s.vd n).st = 1 ∨ (s.vd n).st = 2) :
    (s.eventTaken n).singleEvent n t len =
      (s.eventTaken n).setVd n (VdSt.retriggered { s.vd n with event := none } t len) := by
  have notOff : ¬ (s.vd n).st = 0 := by omega
  have atMostBoost : (s.vd n).st ≤ 2 := by omega
  rw [State.singleEvent, State.st_eventTaken, if_neg notOff, if_pos atMostBoost, State.vd_eventTaken]

theorem State.singleEvent_of_pastBoost (hpast : 3 ≤ (s.vd n).st) :
    (s.eventTaken n).singleEvent n t len = ((s.eventTaken n).setVd n { s.vd n with
      event := none, retrigs := up32 (s.vd n).retrigs }).startProfile n t len := by
  have notOff : ¬ (s.vd n).st = 0 := by omega
  have notBoosting : ¬ (s.vd n).st ≤ 2 := by omega
  rw [State.singleEvent, State.st_eventTaken, if_neg notOff, if_neg notBoosting, State.vd_eventTaken]

end eventCases

/-! The ends of the phases -/

theorem exec_boostEnd_of_due {n : Fin 48} {us : Nat} {current : Rat} {s : State} (hlive : s.vdLive = true) (hus : us < 250)
    (hst : (s.vd n).st = 2) (hbegun : (s.vd n).boostAt ≤ 250 * s.k + us)
    (hdue : s.confRat (Obj.VD_I_PEAK n) ≤ current ∨
      (s.vd n).boostAt + s.conf (Obj.VD_BOOST_TIME n) ≤ 250 * s.k + us) :
    exec (.boostEnd n us current) s = .next (
      let at_ := 250 * s.k + us
      let u := s.setVd n { s.vd n with
        boostUs := at_ - (s.vd n).boostAt
        flags := if current < s.confRat (Obj.VD_I_PEAK n) then (s.vd n).flags ||| 2 else (s.vd n).flags }
      if current < s.confRat (Obj.VD_I_PEAK n) / 10 then u.vdFault n 1 at_ else (u.afterBoost n at_).releaseBoost n at_) :=
  have due : s.vdLive = true ∧ us < 250 ∧ (s.vd n).st = 2 ∧ (s.vd n).boostAt ≤ 250 * s.k + us ∧
      (s.confRat (Obj.VD_I_PEAK n) ≤ current ∨ (s.vd n).boostAt + s.conf (Obj.VD_BOOST_TIME n) ≤ 250 * s.k + us) :=
    ⟨hlive, hus, hst, hbegun, hdue⟩
  (if_pos due).trans (apply_ite Host.Outcome.next _ _ _).symm

theorem exec_injectorEventEnd_of_due {n : Fin 48} {us from_ len : Nat} {s : State} (hinj : (s.vd n).inj = some (from_, len))
    (hlive : s.vdLive = true) (hus : us < 250) (hdue : from_ + len ≤ 250 * s.k + us) :
    exec (.injectorEventEnd n us) s = .next (s.vdOff n (250 * s.k + us)) := by
  change execInjectorEventEnd n us s = _
  rw [execInjectorEventEnd, hinj]
  exact if_pos ⟨hlive, hus, hdue⟩

theorem exec_pairMinOffEnd_of_due {n : Fin 48} {us off : Nat} {s : State} (hoff : (s.vd n).offAt = some off)
    (hlive : s.vdLive = true) (hhold : s.pair.hold = none) (hus : us < 250) (hst : (s.vd n).st = 7)
    (hdue : off + s.conf (Obj.VD_MIN_OFF n) ≤ 250 * s.k + us) :
    exec (.pairMinOffEnd n us) s = .next ((s.setVd n { s.vd n with heldLen := none, st := 0 }).startProfile n
      (250 * s.k + us) (s.vd n).heldLen) := by
  change execPairMinOffEnd n us s = _
  simp only [execPairMinOffEnd, hoff]
  exact if_pos ⟨hlive, hhold, hus, hst, hdue⟩

/-- An accepted VD_RETRIGGER: what the row adds to the dictionary's checks is met. -/
theorem exec_vdRetrigger_of_extra {q : Req} {x : Session} {n : Fin 48} {s : State}
    (h : s.acceptsSet q x (Obj.VD_RETRIGGER n) 1 = true) (hextra : (s.servedBy q x).retriggerExtra n = {}) :
    exec (.vdRetrigger q n) s = .next (s.wroteSet q x (Obj.VD_RETRIGGER n) 1 fun s => s.vdRetrigger n) :=
  congrArg _ (State.serveSet_of_accepts h hextra _ _)

/-- Settles O43: an event by the kind of its channel and the state it finds it in, the ends of the phases each by its row. -/
theorem valveEventRowsTakeEffect : Obligations.ValveEventRowsTakeEffect := by
  unfold Obligations.ValveEventRowsTakeEffect
  refine ⟨?off, ?boosting, ?pastBoost, ?pairConducting, ?pairWaits, ?pairRested, ?boostEnd, ?peakEnd, ?transitionEnd,
    ?injectorEnd, ?offComplete, ?minOffEnd, ?retrigger⟩
  case off =>
    intro n t len s hevent hlive hhold hnow hturn hclosed hsingle hoff
    rw [exec_valveEvent_of_takes hevent ⟨hlive, hhold, hnow, hturn, hclosed⟩ (by omega),
      if_neg (Bool.eq_false_iff.mp hsingle), State.singleEvent_of_off hoff]
    rfl
  case boosting =>
    intro n t len s hevent hlive hhold hnow hturn hclosed hsingle hboost
    rw [exec_valveEvent_of_takes hevent ⟨hlive, hhold, hnow, hturn, hclosed⟩ (by omega),
      if_neg (Bool.eq_false_iff.mp hsingle), State.singleEvent_of_boosting hboost]
    rfl
  case pastBoost =>
    intro n t len s hevent hlive hhold hnow hturn hclosed hsingle hlow hhigh
    rw [exec_valveEvent_of_takes hevent ⟨hlive, hhold, hnow, hturn, hclosed⟩ (by omega),
      if_neg (Bool.eq_false_iff.mp hsingle), State.singleEvent_of_pastBoost hlow]
    rfl
  case pairConducting =>
    intro n t len s hevent hlive hhold hnow hturn hclosed hpair hlow hhigh
    rw [exec_valveEvent_of_takes hevent ⟨hlive, hhold, hnow, hturn, hclosed⟩ (by omega), if_pos hpair,
      State.pairEvent_of_conducting hlow hhigh]
    rfl
  case pairWaits =>
    intro n t len s hevent hlive hhold hnow hturn hclosed hpair hwaits
    have hwaits : (s.vd n).st = 7 ∨ (s.vd n).st = 0 ∧ s.offTooShort n (max t (250 * s.k)) = true :=
      hwaits.imp_right fun ⟨hoff, _, hoffAt, hsoon⟩ => ⟨hoff, State.offTooShort_of_lt hoffAt hsoon⟩
    rw [exec_valveEvent_of_takes hevent ⟨hlive, hhold, hnow, hturn, hclosed⟩ (by omega), if_pos hpair,
      State.pairEvent_of_waits hwaits, State.holdEvent, State.vd_eventTaken]
    rfl
  case pairRested =>
    intro n t len s hevent hlive hhold hnow hturn hclosed hpair hoff hrested
    rw [exec_valveEvent_of_takes hevent ⟨hlive, hhold, hnow, hturn, hclosed⟩ (by omega), if_pos hpair,
      State.pairEvent_of_rested hoff (State.offTooShort_of_rested hrested)]
    rfl
  case boostEnd => exact fun _ _ _ _ hlive hus hst hbegun hdue => exec_boostEnd_of_due hlive hus hst hbegun hdue
  case peakEnd => exact fun _ _ _ hlive hus hst hdue => if_pos ⟨hlive, hus, hst, hdue⟩
  case transitionEnd => exact fun _ _ _ _ hlive hus hst hreached => if_pos ⟨hlive, hus, hst, hreached⟩
  case injectorEnd => exact fun _ _ _ _ _ hinj hlive hus hdue => exec_injectorEventEnd_of_due hinj hlive hus hdue
  case offComplete => exact fun _ _ _ hst hlow => if_pos ⟨hst, hlow⟩
  case minOffEnd =>
    exact fun _ _ _ _ hoff hlive hhold hus hst hdue => exec_pairMinOffEnd_of_due hoff hlive hhold hus hst hdue
  case retrigger => exact fun _ _ _ _ h hextra => exec_vdRetrigger_of_extra h hextra

end Sys2Proof.Machine
end

section
/-! The rows of the valve faults, their rearms and the boost converter's start (R294, R317–R321). -/

namespace Sys2Proof.Machine

/-! The protections that fault a channel or its group -/

/-- The channel that governs the stage takes the fault (R318): of a pair the even one, for either of its stages, which is the
model's reading of R323 (log entry 79). -/
theorem exec_stageOvercurrent_of_above {n : Fin 48} {current : Rat} {s : State} (hlive : s.vdLive = true)
    (hover : 12 < current) (hsound : (s.vd (s.governorOf n)).st ≠ 8) :
    exec (.stageOvercurrent n current) s = .next (s.vdFault (s.governorOf n) 3 (250 * s.k)) :=
  if_pos ⟨hlive, hover, hsound⟩

theorem exec_groupOvercurrent_of_limited {g : Fin 12} {us : Nat × Rat} {s : State} (hlive : s.vdLive = true)
    (hlong : 100 ≤ us.1) (hlow : 34 ≤ us.2) (hhigh : us.2 ≤ 46) (hon : s.groupConducts g = true) :
    exec (.groupOvercurrent g us) s =
      .next ((s.groupFault g fun _ => 5).setAll [(Obj.HG_FAULT g, 5), (Obj.HG_STATE g, 3)]) :=
  if_pos ⟨hlive, hlong, hlow, hhigh, hon⟩

/-- The check of the low pin has something to decide: the drive is live, the channel off, its pin low for 40 windows with no
sag, and the group switch conducts (R319, R320). -/
def State.lowPinFound (s : State) (n : Nat) : Prop :=
  s.vdLive = true ∧ ((s.vd n).st = 0 ∨ (s.vd n).st = 7) ∧ 40 ≤ (s.vd n).pinC ∧ s.valve.suspend = 0 ∧
    s.groupConducts (n / 4) = true

theorem exec_lowPinCheck_of_shorted {n : Fin 48} {s : State} (hfound : s.lowPinFound n)
    (hshort : s.regulatedSum (n / 4) + 3 / 10 < f32rat (s.get (Obj.HG_CURRENT (n / 4)))) :
    exec (.lowPinCheck n) s = .next (((s.groupFault (n / 4) fun m => if m = n.val then 2 else 6).set
      (Obj.HG_FAULT (n / 4)) 2).vdFaultEvent n 2) :=
  (if_pos hfound).trans (if_pos hshort)

theorem exec_lowPinCheck_of_open {n : Fin 48} {s : State} (hfound : s.lowPinFound n)
    (hopen : f32rat (s.get (Obj.HG_CURRENT (n / 4))) ≤ s.regulatedSum (n / 4) + 3 / 10) (hnew : (s.vd n).openOff = false) :
    exec (.lowPinCheck n) s = .next ((s.setVd n { s.vd n with openOff := true }).event 9 0x4003 (u8 n)) :=
  (if_pos hfound).trans ((if_neg (not_lt.mpr hopen)).trans (if_neg (Bool.eq_false_iff.mp hnew)))

theorem State.openCoil_of_held {n : Nat} {s : State} (hlive : s.vdLive = true) (hhold : s.pair.hold = none)
    (hlast : (s.vd n).last = 5) (hlow : 4 ≤ (s.vd n).st) (hhigh : (s.vd n).st ≤ 6) (hopen : 4 ≤ (s.vd n).openC)
    (hsteady : s.valve.suspend = 0) : s.openCoil n = true := by
  simp [State.openCoil, hlive, hhold, hlast, hlow, hhigh, hopen, hsteady]

theorem exec_holdOpenCoil_of_openCoil {n : Fin 48} {s : State} (hopen : s.openCoil n = true) :
    exec (.holdOpenCoil n) s = .next (s.vdFault n 1 (250 * s.k)) :=
  if_pos hopen

/-! Rearms -/

/-- A coil at or below VD_T_DERATE may be rearmed (R317). -/
theorem exec_vdRearm_of_cool {q : Req} {x : Session} {n : Fin 48} {s : State}
    (h : s.acceptsSet q x (Obj.VD_REARM n) 1 = true) (hcool : (s.servedBy q x).vdCool n = true) :
    exec (.vdRearm q n) s = .next (s.wroteSet q x (Obj.VD_REARM n) 1 fun s => s.vdRearm n) := by
  have mayRearm : ({ state := (s.servedBy q x).vdCool n } : Extra) = {} := by rw [hcool]
  exact congrArg _ (State.serveSet_of_accepts h mayRearm _ _)

theorem exec_hgRearm_of_accepts {q : Req} {x : Session} {g : Fin 12} {s : State}
    (h : s.acceptsSet q x (Obj.HG_REARM g) 1 = true) :
    exec (.hgRearm q g) s = .next (s.wroteSet q x (Obj.HG_REARM g) 1 fun s => s.hgRearm g) :=
  congrArg _ (State.serveSet_of_accepts h rfl _ _)

/-! The start of the boost converter (R294) -/

theorem exec_boostStartFail_of_due {since : Nat} {s : State} (hstart : s.valve.bstStart = some since)
    (hon : s.domOn 12 = true) (hruns : s.valve.bst = 1) (hdue : since + 800 ≤ s.k) :
    exec .boostStartFail s = .next (State.event { s with valve := { s.valve with
      bst := 3, bstStart := none, bstFail := some s.k } } 9 0x4002 (u32 (s.get (Obj.BST_V_RAIL 0)))) := by
  change execBoostStartFail s = _
  simp only [execBoostStartFail, hstart]
  exact if_pos ⟨hon, hruns, hdue⟩

theorem exec_boostRetry_of_due {since : Nat} {s : State} (hfail : s.valve.bstFail = some since)
    (hon : s.domOn 12 = true) (hfailed : s.valve.bst = 3) (hdue : since + 4000 ≤ s.k)
    (hfeed : 6 ≤ f32rat (s.get (Obj.BST_V_FEED 0))) :
    exec .boostRetry s = .next { s with valve := { s.valve with bst := 1, bstStart := some s.k, bstFail := none } } := by
  change execBoostRetry s = _
  rw [execBoostRetry, hfail]
  exact if_pos ⟨hon, hfailed, hdue, hfeed⟩

/-- Settles O44: one row lemma for each clause; the low pin by whether the group draws more than its members regulate. -/
theorem valveFaultRowsTakeEffect : Obligations.ValveFaultRowsTakeEffect := by
  unfold Obligations.ValveFaultRowsTakeEffect
  refine ⟨?stage, ?group, ?lowPinShort, ?lowPinOpen, ?openCoil, ?vdRearm, ?hgRearm, ?startFail, ?retry⟩
  case stage => exact fun _ _ _ hlive hover hsound => exec_stageOvercurrent_of_above hlive hover hsound
  case group =>
    exact fun _ _ _ hlive hlong hlow hhigh hon => exec_groupOvercurrent_of_limited hlive hlong hlow hhigh hon
  case lowPinShort =>
    exact fun _ _ hlive hoff hpin hsteady hon hshort =>
      exec_lowPinCheck_of_shorted ⟨hlive, hoff, hpin, hsteady, hon⟩ hshort
  case lowPinOpen =>
    exact fun _ _ hlive hoff hpin hsteady hon hopen hnew =>
      exec_lowPinCheck_of_open ⟨hlive, hoff, hpin, hsteady, hon⟩ hopen hnew
  case openCoil =>
    exact fun _ _ hlive hhold hlast hlow hhigh hopen hsteady =>
      exec_holdOpenCoil_of_openCoil (State.openCoil_of_held hlive hhold hlast hlow hhigh hopen hsteady)
  case vdRearm => exact fun _ _ _ _ h hcool => exec_vdRearm_of_cool h hcool
  case hgRearm => exact fun _ _ _ _ h => exec_hgRearm_of_accepts h
  case startFail => exact fun _ _ hstart hon hruns hdue => exec_boostStartFail_of_due hstart hon hruns hdue
  case retry => exact fun _ _ hfail hon hfailed hdue hfeed => exec_boostRetry_of_due hfail hon hfailed hdue hfeed

end Sys2Proof.Machine
end

section
/-! The rows of the satellite navigation receiver and of the time output (R328, R331, R333, R336, R337, R341, R348–R352, R558). -/

namespace Sys2Proof.Machine

/-! The antenna supplies (R328) -/

theorem exec_antShort_of_limited {a : Fin 2} {s : State} (hgnss : s.gnssOn = true) (hon : (s.ant a).on = true)
    (hlong : 40 ≤ (s.ant a).limit) :
    exec (.antShort a) s = .next (((s.setAnt a { on := false, offAt := some s.k }).set (Obj.ANT_STATE a) 3).count
      (Obj.ANT_SHORTS a) 1) :=
  if_pos ⟨hgnss, hon, hlong⟩

theorem exec_antRetry_of_due {a : Fin 2} {since : Nat} {s : State} (hoff : (s.ant a).offAt = some since)
    (hgnss : s.gnssOn = true) (hdue : since + 4000 ≤ s.k) :
    exec (.antRetry a) s = .next ((s.setAnt a { on := true }).set (Obj.ANT_STATE a) 1) := by
  change execAntRetry a s = _
  rw [execAntRetry, hoff]
  exact if_pos ⟨hgnss, hdue⟩

theorem exec_antOpen_of_low {a : Fin 2} {s : State} (hgnss : s.gnssOn = true) (hon : (s.ant a).on = true)
    (hlong : 400 ≤ (s.ant a).low) : exec (.antOpen a) s = .next (s.set (Obj.ANT_STATE a) 2) :=
  if_pos ⟨hgnss, hon, hlong⟩

/-! Measurements and records (R331, R333, R336, R337) -/

/-- The measurements that an epoch delivers: those of the first 320 channels served, in the order of their numbers (R331). -/
def State.epochMeas (s : State) (meas : List RawMeas) : List RawMeas :=
  ((s.channels meas).take 320).mergeSort fun a b => decide (a.chan ≤ b.chan)

/-- The latest epoch is taken: its channels are counted, and what no channel was left for (R331, R333). -/
def State.takeEpoch (s : State) (meas : List RawMeas) (unserved : Nat) : State :=
  let t := (s.set Obj.SIG_CHANNELS (s.epochMeas meas).length).set Obj.SIG_UNSERVED
    (if (s.channels meas).length < 320 then 0 else min 0xFFFF (unserved + ((s.channels meas).length - 320)))
  { t with gnss := { s.gnss with meas := s.epochMeas meas, epoch := some (s.k - 1) } }

/-- A raw record of each measurement of the latest epoch, where GQ_RAW is set (R336). -/
def State.putRawRecords (s : State) : State :=
  if s.confFlag Obj.GQ_RAW then s.gnss.meas.foldl (fun t m => t.putGnssRecord (t.rawRecord m (t.k - 1))) s else s

theorem exec_measurementEpoch_of_new (meas : List RawMeas) (unserved : Nat) {s : State} (hgnss : s.gnssOn = true)
    (hafter : s.afterEpoch = true) (hnew : s.gnss.epoch ≠ some (s.k - 1)) :
    exec (.measurementEpoch meas unserved) s = .next (s.takeEpoch meas unserved).putRawRecords :=
  if_pos ⟨hgnss, hafter, hnew⟩

/-- A signal is recorded from GNSS-A, or from GNSS-B where GNSS-A does not track it (R337). -/
theorem exec_navRecordWrite_of_tracked {u : NavUnit} {s : State} (hgnss : s.gnssOn = true) (hsome : 1 ≤ u.count)
    (hfits : u.count ≤ navFull u) (hchan : u.chan < 320) (hasked : s.confFlag Obj.GQ_NAV = true)
    (htracked : bit (s.sigMask u.ant) u.sig = true) (honce : u.ant = 0 ∨ bit s.gnss.maskA u.sig = false) :
    exec (.navRecordWrite u) s = .next (s.putGnssRecord (s.navRecord u)) := by
  have notOnBoth : u.ant = 0 ∨ (!bit s.gnss.maskA u.sig) = true := honce.imp_right (congrArg not)
  exact if_pos ⟨hgnss, hsome, hfits, hchan, hasked, htracked, notOnBoth⟩

/-! The position solution and its integrity (R341, R350, R351) -/

theorem exec_positionSolutionRun_of_due (est : PosEst) {s : State} (hdue : s.posDue = true) :
    exec (.positionSolutionRun est) s = .next ((s.posRun est).ranUnit posUnit) :=
  if_pos hdue

/-- The exclusions and alarms whose check failed within INT_CLEAR ticks of the epoch; the others have ended (R350, R351). -/
def State.dropCleared (s : State) (ep : Nat) : State :=
  { s with gnss := { s.gnss with
      excl := s.gnss.excl.filter fun e => decide (ep < e.last + s.intConf Obj.INT_CLEAR)
      alarms := s.gnss.alarms.filter fun a => decide (ep < a.2 + s.intConf Obj.INT_CLEAR) } }

theorem exec_integrityClear_of_epoch {ep : Nat} {s : State} (hgnss : s.gnssOn = true) (hepoch : s.gnss.epoch = some ep) :
    exec .integrityClear s = .next ((s.dropCleared ep).intState ep) := by
  change execIntegrityClear s = _
  rw [execIntegrityClear, hepoch]
  exact if_pos hgnss

/-! The time output (R348, R349, R352) -/

theorem exec_tpulse_of_due {s : State} (hrun : s.running = true) (hacts : s.acting = true)
    (henabled : s.gnss.tm.getD 0 0 ≠ 0) (hdue : s.k % s.gnss.tm.getD 1 4000 = 0)
    (hstate : bit (s.gnss.tm.getD 3 0) (s.get Obj.TIME_STATE) = true) (honce : s.gnss.pulseAt ≠ some s.k) :
    exec .tpulse s = .next { (s.count Obj.TP_COUNT 1).send (.pulse (s.gnss.tm.getD 2 0)) with
      gnss := { s.gnss with pulseAt := some s.k } } :=
  if_pos ⟨hrun, hacts, henabled, hdue, hstate, honce⟩

theorem exec_timeMessage_of_due {s : State} (hrun : s.running = true) (hacts : s.acting = true)
    (hdue : s.k % s.gnss.tm.getD 1 4000 = 0) (honce : s.gnss.messageAt ≠ some s.k) :
    exec .timeMessage s = .next s.buildTimeMessage :=
  if_pos ⟨hrun, hacts, hdue, honce⟩

/-! What the settings put into force (R331, R333, R558) -/

theorem exec_gnssEnable_of_accepts {q : Req} {x : Session} {s : State} (h : s.acceptsSet q x Obj.GNSS_ENABLE 1 = true) :
    exec (.gnssEnable q) s = .next (s.wroteSet q x Obj.GNSS_ENABLE 1 fun s => s.gnssEnable) :=
  congrArg _ (State.serveSet_of_accepts h rfl _ _)

theorem exec_signalMaskApply_of_second {s : State} (hrun : s.running = true) (hsecond : s.k % 4000 = 0) :
    exec .signalMaskApply s = .next s.applyMasks :=
  if_pos ⟨hrun, hsecond⟩

theorem exec_posRateApply_of_second {s : State} (hrun : s.running = true) (hsecond : s.k % 4000 = 0) :
    exec .posRateApply s = .next { s with gnss := { s.gnss with rate := s.conf Obj.POS_RATE } } :=
  if_pos ⟨hrun, hsecond⟩

/-- Settles O45: one row lemma for each clause; a measurement epoch as `takeEpoch`, then `putRawRecords`. -/
theorem navigationRowsTakeEffect : Obligations.NavigationRowsTakeEffect := by
  unfold Obligations.NavigationRowsTakeEffect
  refine ⟨?short, ?retry, ?opened, ?epoch, ?nav, ?position, ?clear, ?pulse, ?message, ?enable, ?masks, ?rate⟩
  case short => exact fun _ _ hgnss hon hlong => exec_antShort_of_limited hgnss hon hlong
  case retry => exact fun _ _ _ hoff hgnss hdue => exec_antRetry_of_due hoff hgnss hdue
  case opened => exact fun _ _ hgnss hon hlong => exec_antOpen_of_low hgnss hon hlong
  case epoch => exact fun meas unserved _ hgnss hafter hnew => exec_measurementEpoch_of_new meas unserved hgnss hafter hnew
  case nav =>
    exact fun _ _ hgnss hsome hfits hchan hasked htracked honce =>
      exec_navRecordWrite_of_tracked hgnss hsome hfits hchan hasked htracked honce
  case position => exact fun est _ hdue => exec_positionSolutionRun_of_due est hdue
  case clear => exact fun _ _ hgnss hepoch => exec_integrityClear_of_epoch hgnss hepoch
  case pulse =>
    exact fun _ hrun hacts henabled hdue hstate honce => exec_tpulse_of_due hrun hacts henabled hdue hstate honce
  case message => exact fun _ hrun hacts hdue honce => exec_timeMessage_of_due hrun hacts hdue honce
  case enable => exact fun _ _ _ h => exec_gnssEnable_of_accepts h
  case masks => exact fun _ hrun hsecond => exec_signalMaskApply_of_second hrun hsecond
  case rate => exact fun _ hrun hsecond => exec_posRateApply_of_second hrun hsecond

end Sys2Proof.Machine
end

section
/-! The rows of the camera ports and frames (R356, R357, R359–R361). -/

namespace Sys2Proof.Machine

/-! The ports -/

theorem exec_portTrained_of_trying {p : Fin 2} {s : State} (hrun : s.running = true) (hdom : s.domOn 7 = true)
    (hstate : s.get (Obj.PORT_STATE p) = 1 ∨ s.get (Obj.PORT_STATE p) = 3) (htrying : s.img.trying.contains p.val = true) :
    exec (.portTrained p) s = .next ((s.set (Obj.PORT_STATE p) 2).portRests p).streamStates :=
  if_pos ⟨hrun, hdom, hstate, htrying⟩

theorem exec_linkDrop_of_up {p : Fin 2} (ns : Nat) {s : State} (hrun : s.running = true)
    (hstate : s.get (Obj.PORT_STATE p) = 2) :
    exec (.linkDrop p ns) s = .next (((((s.closePort p (s.k * 250000 + ns)).set (Obj.PORT_STATE p) 3).count
      (Obj.PORT_LOSSES p) 1).setTried p).portRests p).streamStates := if_pos ⟨hrun, hstate⟩

theorem exec_portRetry_of_due {p : Fin 2} {s : State} (hrun : s.running = true) (hstate : s.get (Obj.PORT_STATE p) = 3)
    (hdue : Sparse.find (fun _ => 0) s.img.tried p + 4000 ≤ s.k) : exec (.portRetry p) s = .next (s.portTries p) :=
  if_pos ⟨hrun, hstate, hdue⟩

/-! Frame starts: the frame that is open closes first, then its stream has had a frame before or not -/

section
variable {n : Fin 8} {ns : Nat} (number : Nat) (acks : List Bool) {s : State} (hruns : s.streamRuns n = true)
include hruns

theorem exec_frameStart_of_first (hfirst : ((s.closeFrame n (s.k * 250000 + ns) 4).stream n).lastStart = none) :
    exec (.frameStart n ns (some number) acks) s =
      .next ((s.closeFrame n (s.k * 250000 + ns) 4).openFrame n (s.k * 250000 + ns) number acks) := by
  change execFrameStart n ns (some number) acks s = _
  rw [execFrameStart, if_pos hruns]
  dsimp only
  rw [hfirst]
  rfl

variable {last : Nat} (hlast : ((s.closeFrame n (s.k * 250000 + ns) 4).stream n).lastStart = some last)
include hlast

theorem exec_frameStart_of_inTime (hperiod : 900000000 ≤ ((s.k * 250000 + ns - last : Nat) : Rat) *
      (s.closeFrame n (s.k * 250000 + ns) 4).confRat (Obj.STR_FPS_MAX n)) :
    exec (.frameStart n ns (some number) acks) s =
      .next ((s.closeFrame n (s.k * 250000 + ns) 4).openFrame n (s.k * 250000 + ns) number acks) := by
  change execFrameStart n ns (some number) acks s = _
  rw [execFrameStart, if_pos hruns]
  dsimp only
  rw [hlast]
  exact congrArg _ (if_neg fun early => not_lt.mpr hperiod (of_decide_eq_true early))

theorem exec_frameStart_of_early (hperiod : ((s.k * 250000 + ns - last : Nat) : Rat) *
      (s.closeFrame n (s.k * 250000 + ns) 4).confRat (Obj.STR_FPS_MAX n) < 900000000) :
    exec (.frameStart n ns (some number) acks) s =
      .next ((s.closeFrame n (s.k * 250000 + ns) 4).count (Obj.STR_DROPPED n) 1) := by
  change execFrameStart n ns (some number) acks s = _
  rw [execFrameStart, if_pos hruns]
  dsimp only
  rw [hlast]
  exact congrArg _ (if_pos (decide_eq_true hperiod))

end

/-! Lines and frame ends -/

/-- A stream that runs is enabled and its port is up. -/
theorem State.port_of_streamRuns {s : State} {n : Nat} (hruns : s.streamRuns n = true) :
    s.running = true ∧ s.domOn 7 = true ∧ s.get (Obj.PORT_STATE (n / 4)) = 2 := by
  simp only [State.streamRuns, Bool.and_eq_true, beq_iff_eq] at hruns
  obtain ⟨⟨⟨hrun, _⟩, hport⟩, hdom⟩ := hruns
  exact ⟨hrun, hdom, hport⟩

theorem exec_linePacket_of_good {n : Fin 8} {l : CamLine} {s : State} (hruns : s.streamRuns n = true)
    (hecc : l.ecc = false) (hcrc : l.crc = false) (hown : l.dt = s.conf (Obj.STR_DT n))
    (hraw : l.dt = 0x2A ∨ l.dt = 0x2B ∨ l.dt = 0x2C) : exec (.linePacket n l) s = .next (s.takeLine n l) := by
  have ofStream : ¬ (l.dt ≠ 0x2A ∧ l.dt ≠ 0x2B ∧ l.dt ≠ 0x2C ∨ l.dt ≠ s.conf (Obj.STR_DT n)) := by
    rintro (⟨h2A, h2B, h2C⟩ | hother)
    · exact hraw.elim h2A fun h => h.elim h2B h2C
    · exact hother hown
  change execLinePacket n l s = _
  rw [execLinePacket, if_pos (State.port_of_streamRuns hruns), hecc, hcrc]
  exact (if_neg ofStream).trans (if_pos hruns)

theorem exec_linePacket_of_ecc {n : Fin 8} {l : CamLine} {s : State} (hrun : s.running = true) (hdom : s.domOn 7 = true)
    (hport : s.get (Obj.PORT_STATE (n / 4)) = 2) (hecc : l.ecc = true) :
    exec (.linePacket n l) s = .next (s.count (Obj.PORT_ECC_ERR (n / 4)) 1) := by
  have portUp : s.running = true ∧ s.domOn 7 = true ∧ s.get (Obj.PORT_STATE (n / 4)) = 2 := ⟨hrun, hdom, hport⟩
  have counted : s.badHeader (n / 4) = s.count (Obj.PORT_ECC_ERR (n / 4)) 1 := if_pos portUp
  change execLinePacket n l s = _
  rw [execLinePacket, if_pos portUp, if_pos hecc, counted]

theorem exec_frameEnd_of_runs {n : Fin 8} (ns : Nat) {s : State} (hruns : s.streamRuns n = true) :
    exec (.frameEnd n (some ns)) s = .next (s.closeFrame n (s.k * 250000 + ns) 0) := if_pos hruns

theorem exec_frameTimeout_of_due {n : Fin 8} {s : State} (hruns : s.streamRuns n = true)
    (hopen : (s.stream n).frame.isSome = true) (hdue : (s.stream n).lineAt + s.conf (Obj.STR_TIMEOUT n) ≤ s.k) :
    exec (.frameTimeout n) s = .next (s.closeFrame n (s.k * 250000) 8) := if_pos ⟨hruns, hopen, hdue⟩

/-- Settles O46: one row lemma for each clause; a bad header is the same of a start and of an end. -/
theorem cameraRowsTakeEffect : Obligations.CameraRowsTakeEffect := by
  unfold Obligations.CameraRowsTakeEffect
  refine ⟨?enable, ?trained, ?drop, ?retry, ?first, ?inTime, ?early, ?badHeader, ?line, ?eccLine, ?frameEnd, ?timeout⟩
  case enable => exact fun _ _ _ _ h => congrArg Host.Outcome.next (State.serveSet_of_accepts h rfl _ _)
  case trained => exact fun _ _ hrun hdom hstate htrying => exec_portTrained_of_trying hrun hdom hstate htrying
  case drop => exact fun _ ns _ hrun hstate => exec_linkDrop_of_up ns hrun hstate
  case retry => exact fun _ _ hrun hstate hdue => exec_portRetry_of_due hrun hstate hdue
  case first => exact fun _ _ number acks _ hruns hfirst => exec_frameStart_of_first number acks hruns hfirst
  case inTime =>
    exact fun _ _ number acks _ _ hruns hlast hperiod => exec_frameStart_of_inTime number acks hruns hlast hperiod
  case early => exact fun _ _ number acks _ _ hruns hlast hperiod => exec_frameStart_of_early number acks hruns hlast hperiod
  case badHeader => exact fun _ _ _ _ => ⟨rfl, rfl⟩
  case line => exact fun _ _ _ hruns hecc hcrc hown hraw => exec_linePacket_of_good hruns hecc hcrc hown hraw
  case eccLine => exact fun _ _ _ hrun hdom hport hecc => exec_linePacket_of_ecc hrun hdom hport hecc
  case frameEnd => exact fun _ ns _ hruns => exec_frameEnd_of_runs ns hruns
  case timeout => exact fun _ _ hruns hopen hdue => exec_frameTimeout_of_due hruns hopen hdue

end Sys2Proof.Machine
end

section
/-! The rows of the streams, commits, exposure and focus (R361, R363, R366–R370, R376). -/

namespace Sys2Proof.Machine

/-- What STR_ENABLE adds to the dictionary's checks, that the stream passes its own (R361, R363), is met. -/
theorem exec_strEnable_of_streamOk {q : Req} {x : Session} {n : Fin 8} {s : State}
    (h : s.acceptsSet q x (Obj.STR_ENABLE n) 1 = true) (hok : (s.servedBy q x).streamOk n = true) :
    exec (.strEnable q n) s = .next (s.wroteSet q x (Obj.STR_ENABLE n) 1 fun s => s.strEnable n) :=
  congrArg _ (State.serveSet_of_accepts h (congrArg (fun b => ({ state := b } : Extra)) hok) _ _)

/-- What SH_COMMIT adds, that the shadow set passes its checks and its stream is enabled (R366, R367), is met. -/
theorem exec_shCommit_of_commitOk {q : Req} {x : Session} {n : Fin 8} {s : State}
    (h : s.acceptsSet q x (Obj.SH_COMMIT n) 1 = true) (hok : (s.servedBy q x).commitOk n = true)
    (hon : s.flag (Obj.STR_ENABLE n) = true) :
    exec (.shCommit q n) s = .next (s.wroteSet q x (Obj.SH_COMMIT n) 1 fun s => s.commit n) := by
  have mayCommit :
      ({ range := (s.servedBy q x).commitOk n, held := (s.servedBy q x).flag (Obj.STR_ENABLE n) } : Extra) = {} := by
    rw [hok, State.servedBy_flag, hon]
  exact congrArg _ (State.serveSet_of_accepts h mayCommit _ _)

theorem exec_commitComplete_of_served {n : Fin 8} {c : ShadowSet} {since : Nat} {s : State} (hrun : s.running = true)
    (hserved : (s.stream n).served = some (c, since)) (hpast : since < s.k) :
    exec (.commitComplete n) s = .next ((s.setStream n { s.stream n with
      served := none, waiting := some (c, (since + 1) * 250000) }).set (Obj.SH_PENDING n) c.num) := by
  change execCommitComplete n s = _
  rw [execCommitComplete, hserved]
  exact if_pos ⟨hrun, hpast⟩

/-- What EXP_REQUEST adds, the limits of its block (R370), is met. -/
theorem exec_expRequest_of_expOk {q : Req} {x : Session} {n : Fin 8} {b : Bytes} {s : State}
    (h : s.accepts q x (Obj.EXP_REQUEST n) (tyOf (Obj.EXP_REQUEST n)) b = true) (hok : expOk b = true) :
    exec (.expRequest q n b) s = .next (s.wrote q x (Obj.EXP_REQUEST n) b fun s => s.askExposure n b) :=
  congrArg _ (State.serveWrite_of_accepts h (congrArg (fun b => ({ range := b } : Extra)) hok) _ _)

theorem exec_focusRun_of_due {n : Fin 8} {s : State} (hrun : s.running = true) (hdom : s.domOn 7 = true)
    (hon : s.confFlag (Obj.FOC_ENABLE n) = true) (hphase : s.k % 40 = s.conf (Obj.FOC_PHASE n))
    (hran : s.tick.ran.contains (focusUnit n) = false) :
    exec (.focusRun n) s = .next ((s.focusStep n).ranUnit (focusUnit n)) :=
  have notRun : (!s.tick.ran.contains (focusUnit n)) = true := by rw [hran, Bool.not_false]
  if_pos ⟨hrun, hdom, hon, hphase, notRun⟩

/-- Settles O47: one row lemma for each clause; STR_DISABLE is an accepted write to which the chapter adds no check. -/
theorem streamRowsTakeEffect : Obligations.StreamRowsTakeEffect := by
  unfold Obligations.StreamRowsTakeEffect
  refine ⟨?enable, ?disable, ?commit, ?complete, ?exposure, ?focus⟩
  case enable => exact fun _ _ _ _ h hok => exec_strEnable_of_streamOk h hok
  case disable => exact fun _ _ _ _ h => congrArg Host.Outcome.next (State.serveSet_of_accepts h rfl _ _)
  case commit => exact fun _ _ _ _ h hok hon => exec_shCommit_of_commitOk h hok hon
  case complete => exact fun _ _ _ _ hrun hserved hpast => exec_commitComplete_of_served hrun hserved hpast
  case exposure => exact fun _ _ _ _ _ h hok => exec_expRequest_of_expOk h hok
  case focus => exact fun _ _ hrun hdom hon hphase hran => exec_focusRun_of_due hrun hdom hon hphase hran

end Sys2Proof.Machine
end

section
/-! The CAN controllers: what is read of a controller after it was changed, and of a frame that is received (R394). -/

namespace Sys2Proof.Machine

@[simp] theorem State.can_setCan (s : State) (c : Nat) (x : CanSt) : (s.setCan c x).can c = x := Sparse.find_put_self _ _ _ _

theorem State.buf_setCan (s : State) (c b : Nat) (x : CanSt) : (s.setCan c x).buf c b = x.bufs.getD b {} := by
  rw [State.buf, State.can_setCan]

/-! The error state follows the counters and leaves all else (R405) -/

@[simp] theorem CanSt.settle_wait (x : CanSt) : x.settle.wait = x.wait := by unfold CanSt.settle; split <;> rfl
@[simp] theorem CanSt.settle_ring (x : CanSt) : x.settle.ring = x.ring := by unfold CanSt.settle; split <;> rfl
@[simp] theorem CanSt.settle_next (x : CanSt) : x.settle.next = x.next := by unfold CanSt.settle; split <;> rfl
@[simp] theorem CanSt.settle_bufs (x : CanSt) : x.settle.bufs = x.bufs := by unfold CanSt.settle; split <;> rfl

/-! A frame received: it goes to the ring behind those that wait, or waits itself, or is lost (R394; that a frame received
with DRAM serving drains those before it is log entry 101) -/

section
variable (s : State) (c : Nat) (f : CanFrame) (sof : Nat) (own : Bool)

theorem State.receive_of_dram : s.receive c f sof own true = ((s.can c).wait ++ [(f, sof, own)]).foldl
    (fun u p => u.ringWrite c p.1 p.2.1 p.2.2) (s.setCan c { s.can c with wait := [] }) := by
  rw [List.foldl_append]
  rfl

theorem State.receive_of_room {s : State} (hroom : (s.can c).wait.length < 16) :
    s.receive c f sof own false = s.setCan c { s.can c with wait := (s.can c).wait ++ [(f, sof, own)] } := if_pos hroom

theorem State.receive_of_full {s : State} (hfull : 16 ≤ (s.can c).wait.length) :
    s.receive c f sof own false = s.count (Obj.CAN_RX_LOST c) 1 := if_neg (Nat.not_lt.mpr hfull)

end

/-! CAN_FRAME_RX -/

/-- The receive error counter after a good frame: from above 127 it falls to 119 to 127 (ISO 11898-1, log entry 28). -/
def CanSt.recAfterFrame (x : CanSt) : Nat := if 127 < x.rec_ then 119 + Config.recAfter.val else x.rec_ - 1

theorem exec_canFrameRx_of_taken {c : Fin 8} {f : CanFrame} (sof : Nat) (dram : Bool) {s : State} (hbus : s.onBus c = true)
    (hoff : (s.can c).isOff = false) (hfd : f.fd = false ∨ s.flag (Obj.CAN_FD c) = true) :
    exec (.canFrameRx c f sof dram) s = .next ((s.setCan c
      (CanSt.settle { s.can c with rec_ := (s.can c).recAfterFrame })).receive c f sof false dram) := by
  have notOff : (!(s.can c).isOff) = true := by rw [hoff, Bool.not_false]
  have noFormError : ¬ (f.fd = true ∧ (!s.flag (Obj.CAN_FD c)) = true) := by
    rintro ⟨isFd, notAllowed⟩
    rcases hfd with classical | allowed
    · exact Bool.false_ne_true (classical.symm.trans isFd)
    · rw [allowed] at notAllowed
      exact Bool.false_ne_true notAllowed
  change execCanFrameRx c f sof dram s = _
  rw [execCanFrameRx, if_pos ⟨hbus, notOff⟩, if_neg noFormError]
  rfl

/-- Settles O19: the frame, once taken, is received with DRAM or without. -/
theorem seventeenthWaitingFrameIsLost : Obligations.SeventeenthWaitingFrameIsLost := by
  unfold Obligations.SeventeenthWaitingFrameIsLost
  intro c f sof s hbus hoff hfd
  refine ⟨?waits, (s.can c).recAfterFrame, ?written⟩
  case waits =>
    refine ⟨_, exec_canFrameRx_of_taken sof false hbus hoff hfd, ?_⟩
    rcases Nat.lt_or_ge (s.can c).wait.length 16 with room | full
    · rw [State.receive_of_room c f sof false (by simpa using room)]
      refine ⟨by simp, by simp, fun _ => ⟨by simp, fun _ => rfl⟩, fun full => absurd room (Nat.not_lt.mpr full)⟩
    · rw [State.receive_of_full c f sof false (by simpa using full)]
      refine ⟨?ring, ?next, fun room => absurd room (Nat.not_lt.mpr full), fun _ => ⟨?wait, ?counted, ?others⟩⟩
      case ring => exact (congrArg CanSt.ring (State.can_setCan s c _)).trans (CanSt.settle_ring _)
      case next => exact (congrArg CanSt.next (State.can_setCan s c _)).trans (CanSt.settle_next _)
      case wait => exact (congrArg CanSt.wait (State.can_setCan s c _)).trans (CanSt.settle_wait _)
      case counted => exact State.get_count_same _ _ _
      case others => exact fun key hkey => State.get_count_of_ne _ _ hkey
  case written =>
    rw [exec_canFrameRx_of_taken sof true hbus hoff hfd, State.receive_of_dram, State.can_setCan, CanSt.settle_wait]

end Sys2Proof.Machine
end

section
/-! Which transmit buffer an arbitration picks (R400). -/

namespace Sys2Proof.Machine

/-- In a list of rising numbers, a smaller one does not stand behind a larger one. -/
theorem idxOf_le_of_rising {l : List Nat} (hl : l.Pairwise (· < ·)) {a b : Nat} (ha : a ∈ l) (hb : b ∈ l) (hba : b ≤ a) :
    l.idxOf b ≤ l.idxOf a := by
  by_contra behind
  have ahead := List.pairwise_iff_getElem.mp hl _ _ (List.idxOf_lt_length_of_mem ha) (List.idxOf_lt_length_of_mem hb)
    (Nat.lt_of_not_le behind)
  rw [List.getElem_idxOf, List.getElem_idxOf] at ahead
  exact Nat.not_lt.mpr hba ahead

theorem head?_of_least {l : List Nat} (hl : l.Pairwise (· < ·)) {b : Nat} (hb : b ∈ l) (hleast : ∀ a ∈ l, b ≤ a) :
    l.head? = some b := by
  cases l with
  | nil => exact absurd hb List.not_mem_nil
  | cons x l =>
    rcases List.mem_cons.mp hb with rfl | later
    · rfl
    · exact absurd (List.rel_of_pairwise_cons hl later) (Nat.not_lt.mpr (hleast x List.mem_cons_self))

/-- The buffers of a controller that are pending, in rising order. -/
def CanSt.ready (x : CanSt) : List Nat := [0, 1, 2].filter fun b => (x.bufs.getD b {}).st == 1

/-- The rank of a buffer's frame on the bus, lower ranks first. -/
def CanSt.rank (x : CanSt) (b : Nat) : Nat := ((x.bufs.getD b {}).frame.map frameRank).getD 0

theorem CanSt.ready_rising (x : CanSt) : x.ready.Pairwise (· < ·) := List.Pairwise.filter _ (by decide)

theorem CanSt.mem_ready {x : CanSt} {b : Nat} : b ∈ x.ready ↔ b < 3 ∧ (x.bufs.getD b {}).st = 1 := by
  rw [CanSt.ready, List.mem_filter, beq_iff_eq]
  exact and_congr_left fun _ => List.mem_range (n := 3)

theorem State.chosen_of_number {s : State} {c : Nat} (horder : s.conf (Obj.CAN_TX_ORDER c) = 1) :
    s.chosen c = (s.can c).ready.head? := if_pos horder

theorem State.chosen_of_rank {s : State} {c : Nat} (horder : s.conf (Obj.CAN_TX_ORDER c) ≠ 1) :
    s.chosen c = (s.can c).ready.argmin (s.can c).rank := by
  rw [State.chosen]
  refine (if_neg horder).trans (congrArg (fun step => (s.can c).ready.foldl step none) ?_)
  funext least b
  cases least <;> rfl

theorem exec_arbitration_of_chosen {c : Fin 8} {b : Nat} {s : State} (hbus : s.onBus c = true)
    (hoff : (s.can c).isOff = false) (hleave : (s.can c).leave = false) (hfree : (s.can c).sending = none)
    (hchosen : s.chosen c = some b) : exec (.arbitration c) s = .next (s.setBuf c b fun t => { t with st := 2 }) := by
  have notOff : (!(s.can c).isOff) = true := by rw [hoff, Bool.not_false]
  have stays : (!(s.can c).leave) = true := by rw [hleave, Bool.not_false]
  change execArbitration c s = _
  rw [execArbitration, if_pos ⟨hbus, notOff, stays, hfree⟩, hchosen]

/-- Settles O20: by number the head of the pending buffers, by rank the first of the least. -/
theorem arbitrationPicksOneBuffer : Obligations.ArbitrationPicksOneBuffer := by
  unfold Obligations.ArbitrationPicksOneBuffer
  intro c b s hbus hoff hleave hfree hb hpending hwins
  refine exec_arbitration_of_chosen hbus hoff hleave hfree ?_
  have isReady : b ∈ (s.can c).ready := CanSt.mem_ready.mpr ⟨hb, hpending⟩
  have wins (a : Nat) (ha : a ∈ (s.can c).ready) := hwins a (CanSt.mem_ready.mp ha).1 (CanSt.mem_ready.mp ha).2
  by_cases horder : s.conf (Obj.CAN_TX_ORDER c) = 1
  case pos =>
    rw [State.chosen_of_number horder]
    exact head?_of_least (s.can c).ready_rising isReady fun a ha => (wins a ha).1 horder
  case neg =>
    have least (a : Nat) (ha : a ∈ (s.can c).ready) :
        (s.can c).rank b < (s.can c).rank a ∨ (s.can c).rank b = (s.can c).rank a ∧ b ≤ a := (wins a ha).2 horder
    rw [State.chosen_of_rank horder, List.argmin_eq_some_iff]
    refine ⟨isReady, fun a ha => (least a ha).elim Nat.le_of_lt fun tie => tie.1.le, fun a ha hrank => ?_⟩
    rcases least a ha with less | ⟨_, hba⟩
    · exact absurd less (Nat.not_lt.mpr hrank)
    · exact idxOf_le_of_rising (s.can c).ready_rising ha isReady hba

end Sys2Proof.Machine
end

section
/-! The rows of the CAN controllers (R382, R383, R386, R389, R394, R405, R407). -/

namespace Sys2Proof.Machine

/-! Requests: what each row adds to the dictionary's checks is met -/

/-- A controller that is on already stays on; one that is off is turned on. -/
theorem exec_canEnable_of_off {q : Req} {x : Session} {c : Fin 8} {s : State}
    (h : s.acceptsSet q x (Obj.CAN_ENABLE c) 1 = true) (hcfg : s.canCfg c = 0) (hoff : s.flag (Obj.CAN_ENABLE c) = false) :
    exec (.canEnable q c) s = .next (s.wroteSet q x (Obj.CAN_ENABLE c) 1 fun s => s.canOn c) := by
  have timingOk : ({ state := (s.servedBy q x).canCfg c == 0 } : Extra) = {} := by
    rw [State.servedBy_canCfg, hcfg]
    rfl
  refine congrArg _ ((State.serveSet_of_accepts h timingOk _ _).trans (State.wroteSet_congr ?turnedOn))
  case turnedOn => rw [State.slice_flag, State.servedBy_flag, hoff, if_neg Bool.false_ne_true]

theorem exec_canRecover_of_waiting {q : Req} {x : Session} {c : Fin 8} {s : State}
    (h : s.acceptsSet q x (Obj.CAN_RECOVER c) 1 = true) (hwaits : s.get (Obj.CAN_ERR_STATE c) = 2) :
    exec (.canRecover q c) s = .next (s.wroteSet q x (Obj.CAN_RECOVER c) 1 fun s => s.askRecover c) := by
  have mayRecover : ({ state := (s.servedBy q x).get (Obj.CAN_ERR_STATE c) == 2 } : Extra) = {} := by
    rw [State.servedBy_get, hwaits]
    rfl
  exact congrArg _ (State.serveSet_of_accepts h mayRecover _ _)

/-! The bus -/

theorem exec_canBusJoin_of_joining {c : Fin 8} {s : State} (hrun : s.running = true) (hdom : s.domOn (canDom c) = true)
    (hjoin : (s.can c).join = 2) : exec (.canBusJoin c) s = .next (s.setCan c { s.can c with join := 3 }) :=
  if_pos ⟨hrun, hdom, hjoin⟩

theorem exec_busOffRecoveryEnd_of_recovering {c : Fin 8} {s : State} (hbus : s.onBus c = true) (herr : (s.can c).err = 3) :
    exec (.busOffRecoveryEnd c) s = .next (s.setCan c { s.can c with err := 0, tec := 0, rec_ := 0 }) :=
  if_pos ⟨hbus, herr⟩

section
variable {c : Fin 8} {s : State} (hbus : s.onBus c = true) (hoff : (s.can c).isOff = false)
include hbus hoff

/-- A controller on the bus that is not bus-off. -/
theorem State.takesPart : s.onBus c = true ∧ (!(s.can c).isOff) = true := ⟨hbus, by rw [hoff, Bool.not_false]⟩

theorem exec_canFrameRx_of_formError {f : CanFrame} (sof : Nat) (dram : Bool) (hfd : f.fd = true)
    (hclassical : s.flag (Obj.CAN_FD c) = false) :
    exec (.canFrameRx c f sof dram) s = .next (s.setCan c (CanSt.settle { s.can c with
      lec := 2, rec_ := min 255 ((s.can c).rec_ + 1) })) := by
  have notAllowed : (!s.flag (Obj.CAN_FD c)) = true := by rw [hclassical, Bool.not_false]
  change execCanFrameRx c f sof dram s = _
  rw [execCanFrameRx, if_pos (State.takesPart hbus hoff), if_pos ⟨hfd, notAllowed⟩]

theorem exec_canBusError_of_onBus (lec : Nat) (eight : Bool) :
    exec (.canBusError c lec eight) s = .next (s.setCan c (CanSt.settle { s.can c with
      lec := lec, rec_ := min 255 ((s.can c).rec_ + (if eight then 8 else 1)) })) := if_pos (State.takesPart hbus hoff)

theorem exec_busOff_of_tec (htec : 256 ≤ (s.can c).tec) :
    exec (.busOff c) s = .next (((s.setCan c { s.can c with
      err := if s.conf (Obj.CAN_BUSOFF_RECOVERY c) = 1 then 2 else 3
      bufs := (s.can c).bufs.map fun t => if t.st = 2 then { t with st := 1 } else t }).count (Obj.CAN_BUSOFFS c) 1).event
      0xD 0x6000 (u8 c)) :=
  have ⟨onBus, notOff⟩ := State.takesPart hbus hoff
  if_pos ⟨onBus, notOff, htec⟩

end

/-- Settles O48: one row lemma for each clause; a good frame by how high the receive error counter stands. -/
theorem canControllerRowsTakeEffect : Obligations.CanControllerRowsTakeEffect := by
  unfold Obligations.CanControllerRowsTakeEffect
  refine ⟨?enable, ?disable, ?join, ?lowers, ?falls, ?formError, ?busError, ?busOff, ?recovered, ?recover⟩
  case enable => exact fun _ _ _ _ h hcfg hoff => exec_canEnable_of_off h hcfg hoff
  case disable => exact fun _ _ _ _ h => congrArg Host.Outcome.next (State.serveSet_of_accepts h rfl _ _)
  case join => exact fun _ _ hrun hdom hjoin => exec_canBusJoin_of_joining hrun hdom hjoin
  case lowers =>
    intro c f sof dram s hbus hoff hfd hrec
    rw [exec_canFrameRx_of_taken sof dram hbus hoff hfd, CanSt.recAfterFrame, if_neg (Nat.not_lt.mpr hrec)]
  case falls =>
    intro c f sof dram s hbus hoff hfd hrec
    rw [exec_canFrameRx_of_taken sof dram hbus hoff hfd, CanSt.recAfterFrame, if_pos hrec]
  case formError =>
    exact fun _ _ sof dram _ hbus hoff hfd hclassical => exec_canFrameRx_of_formError hbus hoff sof dram hfd hclassical
  case busError => exact fun _ lec eight _ hbus hoff => exec_canBusError_of_onBus hbus hoff lec eight
  case busOff => exact fun _ _ hbus hoff htec => exec_busOff_of_tec hbus hoff htec
  case recovered => exact fun _ _ hbus herr => exec_busOffRecoveryEnd_of_recovering hbus herr
  case recover => exact fun _ _ _ _ h hwaits => exec_canRecover_of_waiting h hwaits

end Sys2Proof.Machine
end

section
/-! The rows of the transmit buffers (R389, R399–R403). -/

namespace Sys2Proof.Machine

/-! TX_LOAD and TX_CANCEL: a new entry of the application -/

section
variable {c : Fin 8} {b : Fin 3} {a : AppArea} {s : State} (hentry : s.txEntry c b = some a) (hrun : s.running = true)
  (hjoined : 2 ≤ (s.can c).join)
include hentry hrun hjoined

theorem exec_txLoad_of_empty (hload : a.at_ 9 1 = 1) (hempty : (s.buf c b).st = 0) (hframe : s.frameOk c a = true)
    (hown : s.moduleOwned c b = false) (hrole : s.standby = false) :
    exec (.txLoad c b) s = .next ((s.setBuf c b fun t => { t with seen := some a.stamp }).setBuf c b fun t => { t with
      st := 1, frame := some a.frame, single := bit (a.at_ 10 1) 5, stamp := a.stamp, cancel := none }) := by
  have isLoad : a.at_ 9 1 ≠ 2 := by rw [hload]; decide
  have notOccupied : ¬ (a.at_ 9 1 = 1 ∧ (s.buf c b).st ≠ 0) := fun h => h.2 hempty
  have valid : ¬ (a.at_ 9 1 ≠ 1 ∨ (!s.frameOk c a) = true) := by
    rw [hframe]
    exact fun h => h.elim (fun hne => hne hload) Bool.false_ne_true
  change execTxLoad c b s = _
  rw [execTxLoad, hentry]
  exact (if_pos ⟨hrun, hjoined, isLoad⟩).trans ((if_neg notOccupied).trans ((if_neg valid).trans
    ((if_neg (Bool.eq_false_iff.mp hown)).trans (if_neg (Bool.eq_false_iff.mp hrole)))))

theorem exec_txCancel_of_pending (hcancel : a.at_ 9 1 = 2) (hst : (s.buf c b).st = 1) :
    exec (.txCancel c b) s =
      .next ((s.setBuf c b fun t => { t with seen := some a.stamp }).endBuf c b 2 a.stamp) := by
  have notEmpty : (s.buf c b).st ≠ 0 := by rw [hst]; decide
  change execTxCancel c b s = _
  rw [execTxCancel, hentry]
  exact (if_pos ⟨hrun, hjoined, hcancel⟩).trans ((if_neg notEmpty).trans (if_pos hst))

theorem exec_txCancel_of_onBus (hcancel : a.at_ 9 1 = 2) (hst : (s.buf c b).st = 2) :
    exec (.txCancel c b) s =
      .next ((s.setBuf c b fun t => { t with seen := some a.stamp }).setBuf c b fun t => { t with
        cancel := some a.stamp }) := by
  have notEmpty : (s.buf c b).st ≠ 0 := by rw [hst]; decide
  have notPending : (s.buf c b).st ≠ 1 := by rw [hst]; decide
  change execTxCancel c b s = _
  rw [execTxCancel, hentry]
  exact (if_pos ⟨hrun, hjoined, hcancel⟩).trans ((if_neg notEmpty).trans (if_neg notPending))

end

/-! TX_ATTEMPT_FAIL -/

/-- The controller after an attempt that an error has ended: the code, and the counter unless exempt (R405, log entry 28). -/
def CanSt.txError (x : CanSt) (lec : Nat) (exempt : Bool) : CanSt :=
  CanSt.settle { x with lec := lec, tec := if exempt then x.tec else min 256 (x.tec + 8) }

@[simp] theorem CanSt.txError_bufs (x : CanSt) (lec : Nat) (exempt : Bool) : (x.txError lec exempt).bufs = x.bufs :=
  CanSt.settle_bufs _

/-- What a failed attempt does with its buffer: it ends it where a cancel waits or the shot was single, and else lets it
wait (R401, R402). -/
def State.attemptOver (s : State) (c b : Nat) (t : TxBuf) : State :=
  match t.cancel with
  | some stamp => s.endBuf c b 2 stamp
  | none => if t.single then s.endBuf c b 6 t.stamp else s.setBuf c b fun t => { t with st := 1 }

theorem State.attemptOver_of_cancel (s : State) (c b : Nat) {t : TxBuf} {stamp : Nat} (hcancel : t.cancel = some stamp) :
    s.attemptOver c b t = s.endBuf c b 2 stamp := by
  rw [State.attemptOver, hcancel]

theorem State.attemptOver_of_single (s : State) (c b : Nat) {t : TxBuf} (hcancel : t.cancel = none)
    (hsingle : t.single = true) : s.attemptOver c b t = s.endBuf c b 6 t.stamp := by
  rw [State.attemptOver, hcancel]
  exact if_pos hsingle

theorem State.attemptOver_of_again (s : State) (c b : Nat) {t : TxBuf} (hcancel : t.cancel = none)
    (hsingle : t.single = false) : s.attemptOver c b t = s.setBuf c b fun t => { t with st := 1 } := by
  rw [State.attemptOver, hcancel]
  exact if_neg (Bool.eq_false_iff.mp hsingle)

theorem State.buf_txError (s : State) (c b lec : Nat) (exempt : Bool) :
    (s.setCan c ((s.can c).txError lec exempt)).buf c b = s.buf c b := by
  rw [State.buf_setCan, CanSt.txError_bufs, State.buf]

section
variable {c : Fin 8} {b : Nat} {s : State} (hsending : (s.can c).sending = some b) (hbus : s.onBus c = true)
include hsending hbus

theorem exec_txAttemptFail_of_lost :
    exec (.txAttemptFail c none) s =
      .next (((s.setCan c (s.can c)).attemptOver c b (s.buf c b)).leaveIfDue c) := by
  have sameBuf : (s.setCan c (s.can c)).buf c b = s.buf c b := State.buf_setCan s c b _
  change execTxAttemptFail c none s = _
  rw [execTxAttemptFail, hsending]
  dsimp only
  rw [if_pos hbus, sameBuf]
  rfl

theorem exec_txAttemptFail_of_error (lec : Nat) (exempt : Bool) :
    exec (.txAttemptFail c (some (lec, exempt, none))) s =
      .next (((s.setCan c ((s.can c).txError lec exempt)).attemptOver c b (s.buf c b)).leaveIfDue c) := by
  have sameBuf := s.buf_txError c b lec exempt
  change execTxAttemptFail c (some (lec, exempt, none)) s = _
  rw [execTxAttemptFail, hsending]
  dsimp only
  rw [if_pos hbus, ← CanSt.txError, sameBuf]
  rfl

theorem exec_txAttemptFail_of_dataError (lec : Nat) (exempt : Bool) (delay : Fin 256) {f : CanFrame}
    (hframe : (s.buf c b).frame = some f) :
    exec (.txAttemptFail c (some (lec, exempt, some delay))) s =
      .next ((((s.setCan c ((s.can c).txError lec exempt)).tdcMeasured c f delay).attemptOver c b (s.buf c b)).leaveIfDue
        c) := by
  have sameBuf := s.buf_txError c b lec exempt
  change execTxAttemptFail c (some (lec, exempt, some delay)) s = _
  rw [execTxAttemptFail, hsending]
  dsimp only
  rw [if_pos hbus, ← CanSt.txError, sameBuf, hframe]
  rfl

end

/-! CAN_FRAME_SENT -/

/-- What a sent frame does with its buffer: it ends it with 03h where a cancel came, and else with 01h (R402). -/
def State.sendingOver (s : State) (c b : Nat) (t : TxBuf) : State :=
  match t.cancel with
  | some stamp => s.endBuf c b 3 stamp
  | none => s.endBuf c b 1 t.stamp

theorem exec_canFrameSent_of_sending {c : Fin 8} {b : Nat} {f : CanFrame} {s : State} (sof : Nat) (dram : Bool)
    (delay : Fin 256) (hsending : (s.can c).sending = some b) (hbus : s.onBus c = true)
    (hframe : (s.buf c b).frame = some f) :
    exec (.canFrameSent c (sof, dram) delay) s = .next (
      let f := (s.can c).onWire f
      let counted := ((s.setCan c (CanSt.settle { s.can c with tec := (s.can c).tec - 1 })).receive c f sof true dram).count
        (Obj.CAN_TX_FRAMES c) 1
      let sent := ((counted.tdcMeasured c f delay).send (.can c f)).setBuf c b fun x => { x with sof := sofStamp sof }
      (sent.sendingOver c b (s.buf c b)).leaveIfDue c) := by
  change execCanFrameSent c (sof, dram) delay s = _
  rw [execCanFrameSent, hsending]
  dsimp only
  rw [if_pos hbus, hframe]
  rfl

/-- Settles O49: one row lemma for each clause; a failed attempt by what it does with its buffer. -/
theorem transmitRowsTakeEffect : Obligations.TransmitRowsTakeEffect := by
  unfold Obligations.TransmitRowsTakeEffect
  refine ⟨?load, ?cancel, ?cancelOnBus, ?arbitration, ?again, ?single, ?error, ?dataError, ?cancelled, ?sent⟩
  case load =>
    exact fun _ _ _ _ hentry hrun hjoined hload hempty hframe hown hrole =>
      exec_txLoad_of_empty hentry hrun hjoined hload hempty hframe hown hrole
  case cancel =>
    exact fun _ _ _ _ hentry hrun hjoined hcancel hst => exec_txCancel_of_pending hentry hrun hjoined hcancel hst
  case cancelOnBus =>
    exact fun _ _ _ _ hentry hrun hjoined hcancel hst => exec_txCancel_of_onBus hentry hrun hjoined hcancel hst
  case arbitration =>
    exact fun _ _ _ hbus hoff hleave hfree hchosen => exec_arbitration_of_chosen hbus hoff hleave hfree hchosen
  case again =>
    intro c b s hsending hbus hcancel hsingle
    rw [exec_txAttemptFail_of_lost hsending hbus, State.attemptOver_of_again _ c b hcancel hsingle]
  case single =>
    intro c b s hsending hbus hcancel hsingle
    rw [exec_txAttemptFail_of_lost hsending hbus, State.attemptOver_of_single _ c b hcancel hsingle]
  case error =>
    intro c b lec exempt s hsending hbus hcancel hsingle
    rw [exec_txAttemptFail_of_error hsending hbus, State.attemptOver_of_again _ c b hcancel hsingle, CanSt.txError]
  case dataError =>
    intro c b lec exempt delay f s hsending hbus hcancel hsingle hframe
    rw [exec_txAttemptFail_of_dataError hsending hbus lec exempt delay hframe,
      State.attemptOver_of_again _ c b hcancel hsingle, CanSt.txError]
  case cancelled =>
    intro c b stamp s hsending hbus hcancel
    rw [exec_txAttemptFail_of_lost hsending hbus, State.attemptOver_of_cancel _ c b hcancel]
  case sent =>
    exact fun _ _ sof dram delay _ _ hsending hbus hframe =>
      exec_canFrameSent_of_sending sof dram delay hsending hbus hframe

end Sys2Proof.Machine
end

section
/-! The rows of the heartbeat and the ISO 11783 node (R409, R412–R415). -/

namespace Sys2Proof.Machine

theorem exec_heartbeat_of_due {s : State} (hrun : s.running = true) (hact : s.acting = true)
    (htick : s.k % s.net.hb.getD 0 400 = s.net.hb.getD 1 0) (honce : s.net.hbAt ≠ some s.k) :
    exec .heartbeat s = .next s.buildHeartbeat := if_pos ⟨hrun, hact, htick, honce⟩

/-! The address of the node -/

/-- The addresses that other nodes have claimed, with one more of 0 to 253. -/
def IsoSt.noteTaken (i : IsoSt) (addr : Fin 256) : IsoSt :=
  { i with taken := if addr.val ≤ 253 ∧ addr.val ∉ i.taken then addr.val :: i.taken else i.taken }

/-- A node that has lost its address claims a free one, where its NAME lets it choose and there is one, or cannot claim
(R412). -/
def State.claimAnew (s : State) (name : Nat) : State :=
  match (if bit name 63 then s.freeAddr else none) with
  | some a => s.claim a
  | none => ((s.sendClaim 254).set Obj.ISO_STATE 3).set Obj.ISO_ADDR 0xFE

theorem State.next_claimAnew (s : State) (name : Nat) : (.next (s.claimAnew name) : Host.Outcome State Fault Refusal) =
    match (if bit name 63 then s.freeAddr else none) with
    | some a => .next (s.claim a)
    | none => .next (((s.sendClaim 254).set Obj.ISO_STATE 3).set Obj.ISO_ADDR 0xFE) := by
  unfold State.claimAnew
  split <;> rfl

section
variable {s : State} (hup : s.isoUp = true)
include hup

theorem exec_addressClaimStart_of_named (hname : s.conf Obj.ISO_NAME ≠ 0) (hstate : s.get Obj.ISO_STATE = 0) :
    exec .addressClaimStart s = .next (s.claim (s.conf Obj.ISO_ADDR_PREF)) := if_pos ⟨hup, hname, hstate⟩

theorem exec_competingClaimRx_of_defended {addr : Fin 256} {name : Nat}
    (hstate : s.get Obj.ISO_STATE = 1 ∨ s.get Obj.ISO_STATE = 2) (haddr : s.net.iso.addr = addr.val)
    (hname : s.conf Obj.ISO_NAME < name) : exec (.competingClaimRx addr name) s = .next (s.sendClaim addr) :=
  (if_pos hup).trans (if_pos ⟨⟨hstate, haddr⟩, hname⟩)

theorem exec_competingClaimRx_of_other {addr : Fin 256} (name : Nat) (haddr : s.net.iso.addr ≠ addr.val) :
    exec (.competingClaimRx addr name) s = .next (s.setIso fun i => i.noteTaken addr) :=
  (if_pos hup).trans ((if_neg fun h => haddr h.1.2).trans (if_neg fun h => haddr h.1.2))

theorem exec_competingClaimRx_of_lost {addr : Fin 256} {name : Nat}
    (hstate : s.get Obj.ISO_STATE = 1 ∨ s.get Obj.ISO_STATE = 2) (haddr : s.net.iso.addr = addr.val)
    (hname : name < s.conf Obj.ISO_NAME) :
    exec (.competingClaimRx addr name) s =
      .next (((s.setIso fun i => i.noteTaken addr).addrLost addr).claimAnew (s.conf Obj.ISO_NAME)) := by
  have notHigher : ¬ (((s.get Obj.ISO_STATE = 1 ∨ s.get Obj.ISO_STATE = 2) ∧ s.net.iso.addr = addr.val) ∧
      s.conf Obj.ISO_NAME < name) := fun h => Nat.lt_asymm hname h.2
  change execCompetingClaimRx addr name s = _
  rw [execCompetingClaimRx, if_pos hup]
  exact (if_neg notHigher).trans ((if_pos ⟨⟨hstate, haddr⟩, hname⟩).trans (State.next_claimAnew _ _).symm)

theorem exec_claimRequestRx_of_claiming (hstate : s.get Obj.ISO_STATE ≠ 0) :
    exec .claimRequestRx s = .next (s.sendClaim (if s.get Obj.ISO_STATE = 3 then 254 else s.net.iso.addr)) :=
  if_pos ⟨hup, hstate⟩

theorem exec_addressHeld_of_due (hstate : s.get Obj.ISO_STATE = 1) (hdue : s.net.iso.claimAt + 1000 ≤ s.k) :
    exec .addressHeld s = .next ((s.set Obj.ISO_STATE 2).set Obj.ISO_ADDR s.net.iso.addr) := if_pos ⟨hup, hstate, hdue⟩

end

/-! Send slots: a new entry of an acting module, whose fields are within their limits or not (R413) -/

/-- The entry of a send slot is refused: no address is held, or a field is beyond its limits. -/
def State.isoEntryBad (s : State) (a : AppArea) : Bool :=
  decide (s.get Obj.ISO_STATE ≠ 2) || (a.at_ 10 1 == 0xFF && decide (1785 < a.at_ 16 4)) ||
    decide (117440505 < a.at_ 16 4) || decide (a.at_ 20 8 < oemBase ∨ oemBase + oemSize < a.at_ 20 8 + a.at_ 16 4) ||
    decide (8 ≤ a.at_ 9 1) || decide (a.at_ 11 1 ≠ 0) || decide (2 ^ 18 ≤ a.at_ 12 4) || decide (a.at_ 28 4 ≠ 0)

theorem State.isoEntryBad_of_noAddress {s : State} (a : AppArea) (hstate : s.get Obj.ISO_STATE ≠ 2) :
    s.isoEntryBad a = true := by
  simp [State.isoEntryBad, hstate]

theorem State.isoEntryBad_of_withinLimits {s : State} {a : AppArea} (hstate : s.get Obj.ISO_STATE = 2)
    (hbroadcast : a.at_ 10 1 ≠ 0xFF ∨ a.at_ 16 4 ≤ 1785) (hlen : a.at_ 16 4 ≤ 117440505) (hbase : oemBase ≤ a.at_ 20 8)
    (hend : a.at_ 20 8 + a.at_ 16 4 ≤ oemBase + oemSize) (hprio : a.at_ 9 1 < 8) (hzero : a.at_ 11 1 = 0)
    (hpgn : a.at_ 12 4 < 2 ^ 18) (hzero' : a.at_ 28 4 = 0) : s.isoEntryBad a = false := by
  have notTooLong : (a.at_ 10 1 == 0xFF && decide (1785 < a.at_ 16 4)) = false := by
    rcases hbroadcast with toOne | short
    · rw [beq_eq_false_iff_ne.mpr toOne, Bool.false_and]
    · rw [decide_eq_false (Nat.not_lt.mpr short), Bool.and_false]
  have inMemory : ¬ (a.at_ 20 8 < oemBase ∨ oemBase + oemSize < a.at_ 20 8 + a.at_ 16 4) :=
    fun h => h.elim (Nat.not_lt.mpr hbase) (Nat.not_lt.mpr hend)
  rw [State.isoEntryBad, notTooLong, decide_eq_false (not_not.mpr hstate), decide_eq_false (Nat.not_lt.mpr hlen),
    decide_eq_false inMemory, decide_eq_false (Nat.not_le.mpr hprio), decide_eq_false (not_not.mpr hzero),
    decide_eq_false (Nat.not_le.mpr hpgn), decide_eq_false (not_not.mpr hzero')]
  rfl

theorem exec_isoSendSlot_of_new {n : Fin 8} (data : Bytes) {a : AppArea} {s : State} (hrun : s.running = true)
    (hact : s.acting = true) (harea : s.area0 (Obj.ISO_TX_OFFSET + n) = a) (hvalid : a.valid = true)
    (hnew : Sparse.find (fun _ => 0) s.net.iso.seen n ≠ a.stamp + 1)
    (hfree : Sparse.find (fun _ => 0) s.net.iso.results n ≠ 1) :
    exec (.isoSendSlot n data) s = .next (
      let t := s.setIso fun i => { i with seen := Sparse.put (fun _ => 0) i.seen n (a.stamp + 1) }
      if s.isoEntryBad a then t.isoResult n 5
      else t.isoSend n (a.at_ 9 1) (a.at_ 10 1) (a.at_ 12 4) (padTo (a.at_ 16 4) data)) := by
  have fresh : ((s.area0 (Obj.ISO_TX_OFFSET + n)).valid &&
      decide (Sparse.find (fun _ => 0) s.net.iso.seen n ≠ (s.area0 (Obj.ISO_TX_OFFSET + n)).stamp + 1) &&
      decide (Sparse.find (fun _ => 0) s.net.iso.results n ≠ 1)) = true := by
    rw [harea, hvalid, decide_eq_true hnew, decide_eq_true hfree]
    rfl
  subst harea
  exact if_pos ⟨hrun, hact, fresh⟩

/-! The transport protocols (R413) -/

/-- A frame of a transport protocol is for the node: an extended data frame of 8 bytes, to all nodes or to its address. -/
def State.tpForNode (s : State) (f : CanFrame) : Prop :=
  s.isoUp = true ∧ f.ext = true ∧ f.remote = false ∧ f.data.length = 8 ∧
    (f.ident / 256 % 256 = 0xFF ∨ (s.get Obj.ISO_STATE = 2 ∧ f.ident / 256 % 256 = s.get Obj.ISO_ADDR))

/-- The open sessions that a data frame belongs to: of its source, protocol and kind of destination. -/
def inTpSession (f : CanFrame) (y : TpRx) : Bool :=
  y.src == f.ident % 256 && y.ext == (f.ident / 2 ^ 16 % 256 == 0xC7) && y.bam == (f.ident / 256 % 256 == 0xFF)

section
variable {f : CanFrame} (time : Nat) {s : State} (hfor : s.tpForNode f)
include hfor

theorem State.tpForNode.guard : s.isoUp = true ∧ f.ext = true ∧ (!f.remote) = true ∧ f.data.length = 8 ∧
    (f.ident / 256 % 256 = 0xFF ∨ (s.get Obj.ISO_STATE = 2 ∧ f.ident / 256 % 256 = s.get Obj.ISO_ADDR)) := by
  obtain ⟨hup, hext, hremote, hlen, hdest⟩ := hfor
  exact ⟨hup, hext, by rw [hremote, Bool.not_false], hlen, hdest⟩

theorem exec_tpRx_of_control (hpf : f.ident / 2 ^ 16 % 256 = 0xEC ∨ f.ident / 2 ^ 16 % 256 = 0xC8) :
    exec (.tpRx f time) s = .next (s.tpControl (f.ident / 2 ^ 16 % 256 == 0xC8) (f.ident % 256) (f.ident / 256 % 256)
      (f.ident / 2 ^ 26 % 8) f.data) := by
  change execTpRx f time s = _
  rw [execTpRx]
  dsimp only
  rw [if_pos hfor.guard]
  rcases hpf with basic | extended
  · rw [if_pos basic, basic]
    rfl
  · have notBasic : f.ident / 2 ^ 16 % 256 ≠ 0xEC := by rw [extended]; decide
    rw [if_neg notBasic, if_pos extended, extended]
    rfl

theorem exec_tpRx_of_data {y : TpRx} (hpf : f.ident / 2 ^ 16 % 256 = 0xEB ∨ f.ident / 2 ^ 16 % 256 = 0xC7)
    (hopen : s.net.iso.rx.find? (inTpSession f) = some y) :
    exec (.tpRx f time) s = .next (s.tpData y (s.net.iso.rx.filter fun y => !inTpSession f y) f.data time) := by
  have notControl : f.ident / 2 ^ 16 % 256 ≠ 0xEC ∧ f.ident / 2 ^ 16 % 256 ≠ 0xC8 := by
    rcases hpf with hpf | hpf <;> rw [hpf] <;> decide
  change execTpRx f time s = _
  rw [execTpRx]
  refine (if_pos hfor.guard).trans ((if_neg notControl.1).trans ((if_neg notControl.2).trans ((if_pos hpf).trans ?_)))
  change (match s.net.iso.rx.find? (inTpSession f) with | some x => _ | none => _) = _
  rw [hopen]
  rfl

end

theorem exec_isoTpTimeout_of_send {n : Fin 8} {y : TpTx} {s : State} (hup : s.isoUp = true) (htx : s.tpTx n = some y)
    (hpeer : y.bamAt = none) (hdue : y.due ≤ s.k) :
    exec (.isoTpTimeout true n) s = .next ((s.setTx n none).isoResult n 4) := by
  change execIsoTpTimeout true n s = _
  rw [execIsoTpTimeout, if_pos hup, htx]
  exact (if_pos rfl).trans (if_pos ⟨hpeer, hdue⟩)

theorem exec_isoTpTimeout_of_receive {n : Fin 8} {y : TpRx} {s : State} (hup : s.isoUp = true)
    (hrx : s.net.iso.rx[n.val]? = some y) (hdue : y.due ≤ s.k) :
    exec (.isoTpTimeout false n) s = .next (
      let t := s.setIso fun i => { i with rx := i.rx.eraseIdx n.val }
      if y.bam then t.count Obj.ISO_ABORTS 1 else t.tpAbort y.ext y.src y.pgn 3) := by
  change execIsoTpTimeout false n s = _
  rw [execIsoTpTimeout, if_pos hup, hrx]
  exact (if_neg Bool.false_ne_true).trans (if_neg (Nat.not_lt.mpr hdue))

/-! DM1 (R415): once in a second at its phase, and once more where the active set has changed -/

/-- The second of DM1 that a tick lies in, from its phase. -/
def State.dm1Second (s : State) : Nat := (s.k + 4000 - s.conf Obj.DM1_PHASE) / 4000

section
variable {s : State} (hrun : s.running = true) (hact : s.acting = true)
include hrun hact

theorem exec_dm1Send_of_phase (hphase : s.k % 4000 = s.conf Obj.DM1_PHASE) (honce : s.net.iso.dm1At ≠ some s.dm1Second) :
    exec .dm1Send s = .next (s.dm1Run.setIso fun i => { i with dm1At := some s.dm1Second }) :=
  (if_pos ⟨hrun, hact⟩).trans (if_pos ⟨hphase, honce⟩)

theorem exec_dm1Send_of_change (hsends : s.dm1Sends = true) (hphase : s.k % 4000 ≠ s.conf Obj.DM1_PHASE)
    (hran : s.net.iso.dm1At = some s.dm1Second) (honce : s.net.iso.dm1Extra ≠ some s.dm1Second)
    (hmode : s.get (Obj.DM1_MODE + 1) = 0 ∨ s.get (Obj.DM1_MODE + 1) = 2)
    (hchange : ((List.range 32).any fun d => s.activeDtcs.contains d != s.flag (Obj.DTC_ACTIVE d)) = true) :
    exec .dm1Send s = .next (((s.noteDtcs s.activeDtcs).sendDm1 ((s.noteDtcs s.activeDtcs).dm1Bytes s.activeDtcs)).setIso
      fun i => { i with dm1Extra := some s.dm1Second }) :=
  (if_pos ⟨hrun, hact⟩).trans ((if_neg fun h => hphase h.1).trans (if_pos ⟨hsends, hran, honce, hmode, hchange⟩))

end

/-- Settles O50: one row lemma for each clause; a send slot by whether its entry is refused. -/
theorem isoNodeRowsTakeEffect : Obligations.IsoNodeRowsTakeEffect := by
  unfold Obligations.IsoNodeRowsTakeEffect
  refine ⟨?heartbeat, ?claim, ?defend, ?other, ?lost, ?request, ?held, ?noAddress, ?send, ?control, ?data, ?sendTimeout,
    ?receiveTimeout, ?dm1, ?dm1Change⟩
  case heartbeat => exact fun _ hrun hact htick honce => exec_heartbeat_of_due hrun hact htick honce
  case claim => exact fun _ hup hname hstate => exec_addressClaimStart_of_named hup hname hstate
  case defend => exact fun _ _ _ hup hstate haddr hname => exec_competingClaimRx_of_defended hup hstate haddr hname
  case other => exact fun _ name _ hup haddr => exec_competingClaimRx_of_other hup name haddr
  case lost => exact fun _ _ _ hup hstate haddr hname => exec_competingClaimRx_of_lost hup hstate haddr hname
  case request => exact fun _ hup hstate => exec_claimRequestRx_of_claiming hup hstate
  case held => exact fun _ hup hstate hdue => exec_addressHeld_of_due hup hstate hdue
  case noAddress =>
    intro n data s hrun hact hvalid hnew hfree hstate
    rw [exec_isoSendSlot_of_new data hrun hact rfl hvalid hnew hfree, if_pos (State.isoEntryBad_of_noAddress _ hstate)]
  case send =>
    intro n data a s hrun hact harea hvalid hnew hfree hstate hbroadcast hlen hbase hend hprio hzero hpgn hzero'
    have good : s.isoEntryBad a = false :=
      State.isoEntryBad_of_withinLimits hstate hbroadcast hlen hbase hend hprio hzero hpgn hzero'
    rw [exec_isoSendSlot_of_new data hrun hact harea hvalid hnew hfree, good, if_neg Bool.false_ne_true]
  case control =>
    exact fun _ time _ hup hext hremote hlen hdest hpf => exec_tpRx_of_control time ⟨hup, hext, hremote, hlen, hdest⟩ hpf
  case data =>
    exact fun _ time _ _ hup hext hremote hlen hdest hpf hopen =>
      exec_tpRx_of_data time ⟨hup, hext, hremote, hlen, hdest⟩ hpf hopen
  case sendTimeout => exact fun _ _ _ hup htx hpeer hdue => exec_isoTpTimeout_of_send hup htx hpeer hdue
  case receiveTimeout => exact fun _ _ _ hup hrx hdue => exec_isoTpTimeout_of_receive hup hrx hdue
  case dm1 => exact fun _ hrun hact hphase honce => exec_dm1Send_of_phase hrun hact hphase honce
  case dm1Change =>
    exact fun _ hrun hact hsends hphase hran honce hmode hchange =>
      exec_dm1Send_of_change hrun hact hsends hphase hran honce hmode hchange

end Sys2Proof.Machine
end

section
/-! The words and the frames that the modules of a pair send each other (R427, R428). -/

namespace Sys2Proof.Machine

theorem crc16_lt (b : Bytes) : crc16 b < 2 ^ 16 := BitVec.isLt _

theorem boolNat_le_one (b : Bool) : boolNat b ≤ 1 := by cases b <;> decide

theorem bits_eq (v high low : Nat) : bits v high low = v / 2 ^ low % 2 ^ (high + 1 - low) := by
  rw [bits, Nat.shiftRight_eq_div_pow]

theorem bit_eq_of_boolNat {v i : Nat} {b : Bool} (h : v / 2 ^ i % 2 = boolNat b) : bit v i = b := by
  rw [bit, Nat.testBit_eq_decide_div_mod_eq, h]
  cases b <;> rfl

/-- The fields of a word lie within their widths (R427). -/
structure PartnerWord.Fits (w : PartnerWord) : Prop where
  id : w.id < 2
  role : w.role < 4
  value : w.value < 2 ^ 32

/-! The word -/

/-- The word without its check: marker and fields (R427, Table 3). -/
def PartnerWord.low (w : PartnerWord) : Nat :=
  9 + w.id * 2 ^ 4 + w.role * 2 ^ 5 + boolNat w.holdover * 2 ^ 7 + w.value * 2 ^ 8 + boolNat w.handover * 2 ^ 40 +
    boolNat w.health * 2 ^ 41

theorem PartnerWord.word_eq (w : PartnerWord) : w.word = w.low + crc16 (leBytes 6 w.low) * 2 ^ 48 := rfl

section
variable {w : PartnerWord} (h : w.Fits)
include h

theorem PartnerWord.low_lt : w.low < 2 ^ 48 := by
  obtain ⟨hid, hrole, hvalue⟩ := h
  have holdover := boolNat_le_one w.holdover
  have handover := boolNat_le_one w.handover
  have health := boolNat_le_one w.health
  unfold PartnerWord.low
  omega

theorem PartnerWord.word_lt : w.word < 2 ^ 64 := by
  have low := PartnerWord.low_lt h
  have check := crc16_lt (leBytes 6 w.low)
  rw [PartnerWord.word_eq]
  omega

theorem PartnerWord.word_low : w.word % 2 ^ 48 = w.low := by
  rw [PartnerWord.word_eq, Nat.add_mul_mod_self_right, Nat.mod_eq_of_lt (PartnerWord.low_lt h)]

theorem PartnerWord.word_check : w.word / 2 ^ 48 % 2 ^ 16 = crc16 (leBytes 6 w.low) := by
  rw [PartnerWord.word_eq, Nat.add_mul_div_right _ _ (by decide), Nat.div_eq_of_lt (PartnerWord.low_lt h), Nat.zero_add,
    Nat.mod_eq_of_lt (crc16_lt _)]

/-- Every field lies below the check, each in its own bits. -/
theorem PartnerWord.word_fields :
    w.word / 2 ^ 0 % 2 ^ 4 = 9 ∧ w.word / 2 ^ 4 % 2 ^ 1 = w.id ∧ w.word / 2 ^ 5 % 2 ^ 2 = w.role ∧
      w.word / 2 ^ 7 % 2 = boolNat w.holdover ∧ w.word / 2 ^ 8 % 2 ^ 32 = w.value ∧
      w.word / 2 ^ 40 % 2 = boolNat w.handover ∧ w.word / 2 ^ 41 % 2 = boolNat w.health := by
  obtain ⟨hid, hrole, hvalue⟩ := h
  have holdover := boolNat_le_one w.holdover
  have handover := boolNat_le_one w.handover
  have health := boolNat_le_one w.health
  rw [PartnerWord.word_eq]
  generalize crc16 (leBytes 6 w.low) = check
  unfold PartnerWord.low
  refine ⟨?_, ?_, ?_, ?_, ?_, ?_, ?_⟩ <;> omega

theorem PartnerWord.ofWord_word : ofWord w.word = some w := by
  obtain ⟨marker, id, role, holdover, value, handover, health⟩ := PartnerWord.word_fields h
  have valid : bits w.word 3 0 = 9 ∧ bits w.word 63 48 = crc16 (leBytes 6 (w.word % 2 ^ 48)) := by
    rw [bits_eq, bits_eq, PartnerWord.word_low h]
    exact ⟨marker, PartnerWord.word_check h⟩
  rw [ofWord, if_pos valid, bits_eq, bits_eq, bits_eq, bit_eq_of_boolNat holdover, bit_eq_of_boolNat handover,
    bit_eq_of_boolNat health]
  exact congrArg some (by rw [id, role, value])

end

/-- Settles O7: the fields lie apart, and the check covers them all. -/
theorem leaseWordsReadBack : Obligations.LeaseWordsReadBack := by
  unfold Obligations.LeaseWordsReadBack
  refine ⟨fun w hid hrole hvalue => ⟨PartnerWord.word_lt ⟨hid, hrole, hvalue⟩, PartnerWord.ofWord_word ⟨hid, hrole, hvalue⟩⟩,
    fun v hmarker => ?_⟩
  exact if_neg fun valid => hmarker valid.1

/-! The frame -/

/-- The flag byte of a frame (R428, Table 4). -/
def PartnerWord.flags (w : PartnerWord) : Nat :=
  w.id + 2 * w.role + 8 * boolNat w.holdover + 16 * boolNat w.handover + 32 * boolNat w.health

/-- A frame without its check. -/
def PartnerWord.body (w : PartnerWord) (tick : Nat) : Bytes := u32 w.value ++ u8 w.flags ++ u8 tick

theorem PartnerWord.frame_eq (w : PartnerWord) (tick : Nat) : w.frame tick = w.body tick ++ u16 (crc16 (w.body tick)) := rfl

theorem PartnerWord.body_length (w : PartnerWord) (tick : Nat) : (w.body tick).length = 6 := by
  simp [PartnerWord.body, u32, u8]

theorem PartnerWord.frame_length (w : PartnerWord) (tick : Nat) : (w.frame tick).length = 8 := by
  rw [PartnerWord.frame_eq, List.length_append, PartnerWord.body_length, u16, leBytes_length]

theorem PartnerWord.frame_body (w : PartnerWord) (tick : Nat) : (w.frame tick).take 6 = w.body tick :=
  List.take_left' (w.body_length tick)

theorem PartnerWord.frame_check (w : PartnerWord) (tick : Nat) : field (w.frame tick) 6 2 = crc16 (w.body tick) := by
  have read := field_leBytes (w.body tick) [] 2 (crc16 (w.body tick))
  rw [List.append_nil, w.body_length] at read
  exact read.trans (Nat.mod_eq_of_lt (crc16_lt _))

theorem PartnerWord.frame_value (w : PartnerWord) (tick : Nat) : field (w.frame tick) 0 4 = w.value % 2 ^ 32 := by
  simp [PartnerWord.frame_eq, PartnerWord.body, field, u8, u32, leBytes, ofLe]
  omega

theorem PartnerWord.frame_flags (w : PartnerWord) (tick : Nat) : field (w.frame tick) 4 1 = w.flags % 256 := by
  simp [PartnerWord.frame_eq, PartnerWord.body, field, u8, u32, leBytes, ofLe]

theorem PartnerWord.frame_tick (w : PartnerWord) (tick : Nat) : field (w.frame tick) 5 1 = tick % 256 := by
  simp [PartnerWord.frame_eq, PartnerWord.body, field, u8, u32, leBytes, ofLe]

section
variable {w : PartnerWord} (h : w.Fits)
include h

/-- Every flag stands in its own bits of the flag byte. -/
theorem PartnerWord.flags_fields :
    w.flags < 256 ∧ w.flags % 2 = w.id ∧ w.flags / 2 ^ 1 % 2 ^ 2 = w.role ∧ w.flags / 2 ^ 3 % 2 = boolNat w.holdover ∧
      w.flags / 2 ^ 4 % 2 = boolNat w.handover ∧ w.flags / 2 ^ 5 % 2 = boolNat w.health := by
  obtain ⟨hid, hrole, _⟩ := h
  have holdover := boolNat_le_one w.holdover
  have handover := boolNat_le_one w.handover
  have health := boolNat_le_one w.health
  unfold PartnerWord.flags
  refine ⟨?_, ?_, ?_, ?_, ?_, ?_⟩ <;> omega

theorem PartnerWord.ofFrame_frame (tick : Nat) : ofFrame (w.frame tick) = some (w, tick % 256) := by
  obtain ⟨inByte, id, role, holdover, handover, health⟩ := PartnerWord.flags_fields h
  have valid : (w.frame tick).length = 8 ∧ field (w.frame tick) 6 2 = crc16 ((w.frame tick).take 6) :=
    ⟨w.frame_length tick, by rw [w.frame_check, w.frame_body]⟩
  rw [ofFrame, if_pos valid, w.frame_value, w.frame_flags, w.frame_tick, Nat.mod_eq_of_lt inByte, Nat.mod_eq_of_lt h.value]
  dsimp only
  rw [bits_eq, bit_eq_of_boolNat holdover, bit_eq_of_boolNat handover, bit_eq_of_boolNat health]
  exact congrArg (fun word => some (word, tick % 256)) (by rw [id, role])

end

/-- Settles O8: the fields of the frame stand at their bytes, the flags in their bits. -/
theorem leaseFramesReadBack : Obligations.LeaseFramesReadBack := by
  unfold Obligations.LeaseFramesReadBack
  refine ⟨fun w tick hid hrole hvalue => ⟨w.frame_length tick, PartnerWord.ofFrame_frame ⟨hid, hrole, hvalue⟩ tick⟩,
    fun b hlen => ?_⟩
  exact if_neg fun valid => hlen valid.1

end Sys2Proof.Machine
end

section
/-! The rows of the lease of a pair (R425–R430, R432, R433). -/

namespace Sys2Proof.Machine

theorem exec_pairJoinTimeout_of_due {s : State} (hrun : s.running = true) (hstate : s.pair.state = 1)
    (hdue : s.pair.quiet + (if s.get Obj.PAIR_ID = 0 then 400 else 800) ≤ s.k) :
    exec .pairJoinTimeout s =
      .next (State.takeToken { s with pair := { s.pair with operTicks := 0 } }).unitsStart := if_pos ⟨hrun, hstate, hdue⟩

/-! The words of the partner -/

theorem exec_leaseWordSend_of_pair {s : State} (hrun : s.running = true) (hpair : s.pair.state ≠ 0) :
    exec .leaseWordSend s = .next (s.send (.lease s.ownWord.word)) := if_pos ⟨hrun, hpair⟩

/-- A word comes in at a receiver, unless the receiver test listens to the other one (R449). -/
def State.receiverCut (s : State) (receiver : Bool) : Bool :=
  match s.pair.rxTest with
  | some (serve, _) => serve != boolNat receiver
  | none => false

theorem State.receiverCut_of_listens {s : State} {receiver : Bool}
    (hlistens : (s.pair.rxTest.all fun t => t.1 == boolNat receiver) = true) : s.receiverCut receiver = false := by
  unfold State.receiverCut
  split
  next serve _ htest =>
    rw [htest, Option.all_some] at hlistens
    rw [bne, hlistens, Bool.not_true]
  next => rfl

section
variable {receiver : Bool} {w : PartnerWord} {word : Nat} {s : State} (hword : ofWord word = some w)
  (hlistens : (s.pair.rxTest.all fun t => t.1 == boolNat receiver) = true)
include hword hlistens

theorem exec_leaseWordRx_of_listens :
    exec (.leaseWordRx receiver word) s =
      if s.running ∧ s.pair.inForce then .next (s.seePartner 0 w)
      else if s.pair.hold.isSome ∧ w.role = 2 then .next { s with pair := { s.pair with holdEnd := true } }
      else .next s := by
  have notCut : ¬ s.receiverCut receiver = true := Bool.eq_false_iff.mp (State.receiverCut_of_listens hlistens)
  change execLeaseWordRx receiver word s = _
  rw [execLeaseWordRx, hword]
  exact if_neg notCut

theorem exec_leaseWordRx_of_running (hrun : s.running = true) (hforce : s.pair.inForce = true) :
    exec (.leaseWordRx receiver word) s = .next (s.seePartner 0 w) := by
  rw [exec_leaseWordRx_of_listens hword hlistens, if_pos ⟨hrun, hforce⟩]

theorem exec_leaseWordRx_of_hold (hrun : s.running = false) (hhold : s.pair.hold.isSome = true) (hrole : w.role = 2) :
    exec (.leaseWordRx receiver word) s = .next { s with pair := { s.pair with holdEnd := true } } := by
  have notRunning : ¬ (s.running = true ∧ s.pair.inForce = true) := fun h => Bool.false_ne_true (hrun.symm.trans h.1)
  rw [exec_leaseWordRx_of_listens hword hlistens, if_neg notRunning, if_pos ⟨hhold, hrole⟩]

end

/-! The frames of the partner -/

theorem exec_leaseFrameSend_of_due {s : State} (hrun : s.running = true) (hforce : s.pair.inForce = true)
    (hcan : s.pair.canUsed = true) (htick : s.k % 4 = if s.pair.state = 4 then 1 else 3) :
    exec .leaseFrameSend s = .next (s.stateFrame s.pair.can {
      ext := true, ident := s.pair.canId - s.pair.canId % 2 + s.get Obj.PAIR_ID % 2, data := s.frameWord.frame s.k }) :=
  if_pos ⟨hrun, hforce, hcan, htick⟩

/-- A frame of the partner, that came late or not (R428). -/
theorem exec_leaseFrameRx_of_partner {c : Fin 8} {ident tick : Nat} {data : Bytes} {w : PartnerWord} {s : State}
    (hframe : ofFrame data = some (w, tick)) (hrun : s.running = true) (hforce : s.pair.inForce = true)
    (hcan : s.pair.canUsed = true) (hctrl : c.val = s.pair.can)
    (hident : ident = s.pair.canId - s.pair.canId % 2 + (1 - s.get Obj.PAIR_ID % 2)) :
    exec (.leaseFrameRx c ident data) s = .next (
      let t := s.seePartner 2 w
      if t.pair.lease - 3 < (t.k + 256 - tick) % 256 then (t.count Obj.PAIR_CAN_LATE 1).pairBit 9 true else t) := by
  change execLeaseFrameRx c ident data s = _
  rw [execLeaseFrameRx, hframe]
  exact if_pos ⟨hrun, hforce, hcan, hctrl, hident⟩

/-! Hold and takeover -/

theorem exec_pairHoldBegin_of_lapsed {s : State} (hrun : s.running = true) (hlapsed : s.lapsedAt s.k = true) :
    exec .pairHoldBegin s = .next (s.holdBegin.resetNext 4 0) := if_pos ⟨hrun, hlapsed⟩

theorem exec_pairHoldEnd_of_due {since : Nat} {s : State} (hhold : s.pair.hold = some since)
    (hdue : s.pair.holdEnd = true ∨ since + s.pair.holdLimit ≤ s.k) : exec .pairHoldEnd s = .next s.holdDone := by
  change execPairHoldEnd s = _
  rw [execPairHoldEnd, hhold]
  exact if_pos hdue

theorem State.lapsedAt_of_promise {s : State} {k : Nat} (hforce : s.pair.inForce = true) (hstate : s.pair.state = 4)
    (hpromise : s.pair.promise < k) (hrelease : s.pair.releaseAt = none) (hhold : s.pair.hold = none) :
    s.lapsedAt k = true := by
  rw [State.lapsedAt, hforce, hstate, hrelease, hhold, decide_eq_true hpromise]
  rfl

/-- The guard time that the event of a takeover carries is that of the state before. -/
theorem exec_takeover_of_due {s : State} (hdue : s.takeoverDue = true) :
    exec .takeover s = .next (
      let t := (((s.count Obj.PAIR_TAKEOVERS 1).set Obj.PAIR_LAST_GAP (min (s.k + 1 - s.pair.lastApplied) 65535)).event 0 0x7000
        (u16 (s.k + 1 - s.pair.lastApplied) ++ u8 (s.get Obj.PAIR_GUARD_NOW))).becomeActive
      let u := if s.pair.state = 2 then t.unitsIncomplete else t.gapSamples
      if u.heartbeatMissed then u.buildHeartbeat else u) := by
  have guard : ((s.count Obj.PAIR_TAKEOVERS 1).set Obj.PAIR_LAST_GAP (min (s.k + 1 - s.pair.lastApplied) 65535)).get
      Obj.PAIR_GUARD_NOW = s.get Obj.PAIR_GUARD_NOW := by
    rw [State.get_set_of_ne _ _ (by decide), State.get_count_of_ne _ _ (by decide)]
  change execTakeover s = _
  rw [execTakeover, if_pos hdue]
  dsimp only
  rw [guard]
  simp only [beq_iff_eq]

/-- Settles O52: one row lemma for each clause; the two frames of the partner by how late they come. -/
theorem leaseRowsTakeEffect : Obligations.LeaseRowsTakeEffect := by
  unfold Obligations.LeaseRowsTakeEffect
  refine ⟨?join, ?wordSend, ?wordRx, ?wordHold, ?frameSend, ?frameRx, ?frameLate, ?holdBegin, ?takeover, ?holdEnd⟩
  case join => exact fun _ hrun hstate hdue => exec_pairJoinTimeout_of_due hrun hstate hdue
  case wordSend => exact fun _ hrun hpair => exec_leaseWordSend_of_pair hrun hpair
  case wordRx => exact fun _ _ _ _ hword hlistens hrun hforce => exec_leaseWordRx_of_running hword hlistens hrun hforce
  case wordHold =>
    exact fun _ _ _ _ hword hlistens hrun hhold hrole => exec_leaseWordRx_of_hold hword hlistens hrun hhold hrole
  case frameSend => exact fun _ hrun hforce hcan htick => exec_leaseFrameSend_of_due hrun hforce hcan htick
  case frameRx =>
    intro c ident tick data w s hframe hrun hforce hcan hctrl hident htimely
    rw [exec_leaseFrameRx_of_partner hframe hrun hforce hcan hctrl hident]
    exact congrArg _ (if_neg (Nat.not_lt.mpr htimely))
  case frameLate =>
    intro c ident tick data w s hframe hrun hforce hcan hctrl hident hlate
    rw [exec_leaseFrameRx_of_partner hframe hrun hforce hcan hctrl hident]
    exact congrArg _ (if_pos hlate)
  case holdBegin =>
    exact fun _ hrun hforce hstate hpromise hrelease hhold =>
      exec_pairHoldBegin_of_lapsed hrun (State.lapsedAt_of_promise hforce hstate hpromise hrelease hhold)
  case takeover => exact fun _ hdue => exec_takeover_of_due hdue
  case holdEnd => exact fun _ _ hhold hdue => exec_pairHoldEnd_of_due hhold hdue

end Sys2Proof.Machine
end

section
/-! The rows of the mirror and of the planned switchovers (R435, R437, R438, R441–R444). -/

namespace Sys2Proof.Machine

/-! What comes on P -/

section
variable {m : Mirror} (align : Int) {s : State} (hrun : s.running = true) (hforce : s.pair.inForce = true)
  (hport : s.portUp 4 = true)
include hrun hforce hport

theorem exec_mirrorComplete_of_active (hactive : m.role = 2) (hrole : s.pair.state = 1 ∨ s.standby = true) :
    exec (.mirrorComplete m align) s = .next (s.takeMirror m align) :=
  (if_pos ⟨hrun, hforce, hport⟩).trans (if_pos ⟨hactive, hrole⟩)

/-- A header alone shows the partner (log entry 33). -/
theorem exec_mirrorComplete_of_header (hother : m.role ≠ 2 ∨ (s.pair.state ≠ 1 ∧ s.standby = false)) :
    exec (.mirrorComplete m align) s = .next (s.seeHeader m) := by
  have notTaken : ¬ (m.role = 2 ∧ (s.pair.state = 1 ∨ s.standby = true)) := by
    rintro ⟨hactive, hrole⟩
    rcases hother with notActive | ⟨notJoining, notStandby⟩
    · exact notActive hactive
    · exact hrole.elim notJoining fun h => Bool.false_ne_true (notStandby.symm.trans h)
  exact (if_pos ⟨hrun, hforce, hport⟩).trans (if_neg notTaken)

end

theorem exec_mirrorLate_of_standby {s : State} (hrun : s.running = true) (hrole : s.standby = true)
    (hnone : s.pair.lastMirror ≠ some s.k) : exec .mirrorLate s = .next s.mirrorLate := if_pos ⟨hrun, hrole, hnone⟩

/-- Where the ledger of the active does not run, no check code is waited for (log entry 88). -/
theorem exec_refillComplete_of_whole {r : Refill} {s : State} (hrun : s.running = true) (hfills : s.pair.state = 2) :
    exec (.refillComplete r true) s =
      .next (if (s.takeRefill r).ledgerOn then s.takeRefill r else (s.takeRefill r).ready) := if_pos ⟨hrun, hfills, rfl⟩

theorem exec_refillComplete_of_not_whole (r : Refill) (s : State) : exec (.refillComplete r false) s = .next s :=
  if_neg fun h => Bool.false_ne_true h.2.2

/-- Settles O53: what comes on P by its role and the module's; a whole refill by whether the ledger runs. -/
theorem mirrorRowsTakeEffect : Obligations.MirrorRowsTakeEffect := by
  unfold Obligations.MirrorRowsTakeEffect
  refine ⟨?taken, ?late, ?header, ?refill, ?ready, ?notWhole⟩
  case taken =>
    exact fun _ align _ hrun hforce hport hactive hrole => exec_mirrorComplete_of_active align hrun hforce hport hactive hrole
  case late => exact fun _ hrun hrole hnone => exec_mirrorLate_of_standby hrun hrole hnone
  case header => exact fun _ align _ hrun hforce hport hother => exec_mirrorComplete_of_header align hrun hforce hport hother
  case refill =>
    intro r s hrun hfills hledger
    rw [exec_refillComplete_of_whole hrun hfills, if_pos hledger]
  case ready =>
    intro r s hrun hfills hledger
    rw [exec_refillComplete_of_whole hrun hfills, if_neg (Bool.eq_false_iff.mp hledger)]
  case notWhole => exact fun r s => exec_refillComplete_of_not_whole r s

/-! Planned switchovers -/

/-- What PAIR_SWAP_NOW adds to the dictionary's checks, that the standby is ready (R441), is met. -/
theorem exec_pairSwapNow_of_ready {q : Req} {x : Session} {s : State} (h : s.acceptsSet q x Obj.PAIR_SWAP_NOW 1 = true)
    (hready : s.swapReady = true) :
    exec (.pairSwapNow q) s = .next (s.wroteSet q x Obj.PAIR_SWAP_NOW 1 fun s => s.beginSwap) := by
  have mayServe : (s.servedBy q x).swapReady = true := by rwa [State.servedBy_swapReady]
  exact congrArg _ (State.serveSet_of_accepts h (congrArg (fun b => ({ state := b } : Extra)) mayServe) _ _)

theorem exec_plannedRelease_of_due {at_ : Nat} {s : State} (hat : s.pair.releaseAt = some at_) (hdue : at_ ≤ s.k) :
    exec .plannedRelease s = .next { s.swOff.valveOff with pair := { s.pair with releaseAt := none } } := by
  change execPlannedRelease s = _
  rw [execPlannedRelease, hat]
  exact if_pos hdue

theorem exec_swapOverdue_of_due {s : State} (hrun : s.running = true) (hactive : s.pair.state = 4)
    (hdue : 2 * s.swapInterval ≤ s.pair.operTicks) (honce : s.pair.overdue = false) :
    exec .swapOverdue s =
      .next (({ s with pair := { s.pair with overdue := true } }.pairBit 6 true).event 0 0x7006 []) :=
  have notReported : (!s.pair.overdue) = true := by rw [honce, Bool.not_false]
  if_pos ⟨hrun, hactive, hdue, notReported⟩

section
variable {s : State} (hready : s.swapReady = true) (hsound : s.pair.health = false)
include hready hsound

theorem exec_periodicSwap_of_due (hdue : s.swapInterval ≤ s.pair.operTicks)
    (hwindow : s.confFlag Obj.PAIR_SWAP_WINDOW = true) : exec .periodicSwap s = .next s.beginSwap :=
  have standbySound : (!s.pair.health) = true := by rw [hsound, Bool.not_false]
  if_pos ⟨hready, hdue, hwindow, standbySound⟩

theorem exec_healthSwap_of_fault (hfault : s.healthFault = true) : exec .healthSwap s = .next s.beginSwap :=
  have standbySound : (!s.pair.health) = true := by rw [hsound, Bool.not_false]
  if_pos ⟨hready, hfault, standbySound⟩

end

theorem exec_partnerAbsent_of_due {s : State} (hrun : s.running = true) (hactive : s.pair.state = 4)
    (hdue : s.pair.seen.getD s.pair.quiet + 40 ≤ s.k) : exec .partnerAbsent s = .next (s.pairBit 0 true) :=
  if_pos ⟨hrun, hactive, hdue⟩

/-- Settles O54: one row lemma for each clause. -/
theorem switchoverRowsTakeEffect : Obligations.SwitchoverRowsTakeEffect := by
  unfold Obligations.SwitchoverRowsTakeEffect
  refine ⟨?now, ?release, ?periodic, ?overdue, ?health, ?absent⟩
  case now => exact fun _ _ _ h hready => exec_pairSwapNow_of_ready h hready
  case release => exact fun _ _ hat hdue => exec_plannedRelease_of_due hat hdue
  case periodic => exact fun _ hready hdue hwindow hsound => exec_periodicSwap_of_due hready hsound hdue hwindow
  case overdue => exact fun _ hrun hactive hdue honce => exec_swapOverdue_of_due hrun hactive hdue honce
  case health => exact fun _ hready hfault hsound => exec_healthSwap_of_fault hready hsound hfault
  case absent => exact fun _ hrun hactive hdue => exec_partnerAbsent_of_due hrun hactive hdue

end Sys2Proof.Machine
end

section
/-! The rows of the hidden faults of a pair (R440, R445, R446, R449). -/

namespace Sys2Proof.Machine

/-! The paths -/

theorem exec_pairPathFault_of_silent {path : Fin 3} {s : State} (hrun : s.running = true) (hforce : s.pair.inForce = true)
    (hpath : s.leasePaths.contains path.val = true) (hsound : (s.leasePath path).fault = false)
    (hsilent : (s.leasePath path).word.getD s.pair.quiet + 40 ≤ s.k)
    (hshown : (s.leasePaths.any fun i => i != path.val && s.shows i) = true) :
    exec (.pairPathFault path) s = .next ((((s.setPath path { s.leasePath path with
      fault := true, okSince := none }).pairBit (2 + path) true).count Obj.PAIR_PATH_FAULTS 1).event 0 0x7007 (u8 path)) :=
  have notFaulted : (!(s.leasePath path).fault) = true := by rw [hsound, Bool.not_false]
  if_pos ⟨hrun, hforce, hpath, notFaulted, hsilent, hshown⟩

theorem exec_pairPathFaultClear_of_due {path : Fin 3} {since word : Nat} {s : State}
    (hsince : (s.leasePath path).okSince = some since) (hword : (s.leasePath path).word = some word)
    (hrun : s.running = true) (hfault : (s.leasePath path).fault = true) (hdue : since + 4000 ≤ s.k)
    (hnow : s.k ≤ word + 40) :
    exec (.pairPathFaultClear path) s =
      .next ((s.setPath path { s.leasePath path with fault := false }).pairBit (2 + path) false) := by
  change execPairPathFaultClear path s = _
  rw [execPairPathFaultClear]
  dsimp only
  rw [hsince, hword]
  exact if_pos ⟨hrun, hfault, hdue, hnow⟩

/-! Two actives -/

theorem exec_twoActives_of_due (serial : Bytes) {s : State} (hrun : s.running = true) (hactive : s.pair.state = 4)
    (hticks : 4 ≤ s.pair.actives) (hnow : s.pair.activeAt = some s.k) :
    exec (.twoActives serial) s = .next (
      let own := if s.get Obj.PAIR_ID = s.pair.partnerId then (if higherSerial (s.getBlob Obj.ID_SERIAL) serial then 7 else 4)
        else if s.get Obj.PAIR_ID = 1 then 2 else 4
      { ((s.count Obj.PAIR_SPLITS 1).pairBit 7 true).event 0 0x7008 (u8 own) with pair := { s.pair with
        actives := 0, next := if own = 4 then none else some own } }) := if_pos ⟨hrun, hactive, hticks, hnow⟩

/-! The receiver test -/

/-- What PAIR_RX_TEST adds to the dictionary's checks, that the test may begin (R449), is met. -/
theorem exec_pairRxTest_of_ok {q : Req} {x : Session} {i : Fin 2} {s : State}
    (h : s.acceptsSet q x Obj.PAIR_RX_TEST (i + 1) = true) (hok : s.rxTestOk = true) :
    exec (.pairRxTest q i) s = .next (s.wroteSet q x Obj.PAIR_RX_TEST (i + 1) fun s => s.rxTestBegin (i + 1)) := by
  have mayServe : (s.servedBy q x).rxTestOk = true := by rwa [State.servedBy_rxTestOk]
  exact congrArg _ (State.serveSet_of_accepts h (congrArg (fun b => ({ state := b } : Extra)) mayServe) _ _)

section
variable {serve since : Nat} {s : State} (htest : s.pair.rxTest = some (serve, since)) (hrun : s.running = true)
include htest hrun

/-- The test has ended: no receiver is served alone. -/
theorem exec_rxTestEnd_of_running :
    exec .rxTestEnd s =
      if !s.shows 0 then .next ((({ s with pair := { s.pair with rxTest := none } }).set Obj.PAIR_RX_RESULT (3 + serve)).event
        0 0x7009 (u8 serve))
      else if since + 4000 ≤ s.k then .next (({ s with pair := { s.pair with rxTest := none } }).set Obj.PAIR_RX_RESULT 2)
      else .next s := by
  have notStopped : ¬ (!s.running) = true := by rw [hrun]; exact Bool.false_ne_true
  change execRxTestEnd s = _
  rw [execRxTestEnd, htest]
  exact if_neg notStopped

theorem exec_rxTestEnd_of_silent (hsilent : s.shows 0 = false) :
    exec .rxTestEnd s = .next ((({ s with pair := { s.pair with rxTest := none } }).set Obj.PAIR_RX_RESULT (3 + serve)).event
      0 0x7009 (u8 serve)) := by
  rw [exec_rxTestEnd_of_running htest hrun, hsilent]
  rfl

theorem exec_rxTestEnd_of_due (hshown : s.shows 0 = true) (hdue : since + 4000 ≤ s.k) :
    exec .rxTestEnd s = .next (({ s with pair := { s.pair with rxTest := none } }).set Obj.PAIR_RX_RESULT 2) := by
  rw [exec_rxTestEnd_of_running htest hrun, hshown, if_pos hdue]
  rfl

end

theorem exec_timeDisagreement_of_due {since : Nat} {s : State} (hoff : s.pair.timeOff = some since)
    (hrun : s.running = true) (hrole : s.standby = true) (hdue : since + 4000 ≤ s.k) (honce : s.pair.timeSeen = false) :
    exec .timeDisagreement s = .next ((({ s with pair := { s.pair with timeSeen := true } }).pairBit 5 true).event 0 0x7005
      (u32 (({ s with pair := { s.pair with timeSeen := true } }.pairBit 5 true).get Obj.PAIR_TIME_DIFF))) := by
  have notReported : (!s.pair.timeSeen) = true := by rw [honce, Bool.not_false]
  have sameDiff : ({ s with pair := { s.pair with timeSeen := true } }.pairBit 5 true).get Obj.PAIR_TIME_DIFF =
      s.get Obj.PAIR_TIME_DIFF := State.get_set_of_ne _ _ (by decide)
  change execTimeDisagreement s = _
  rw [execTimeDisagreement, hoff, sameDiff]
  exact if_pos ⟨hrun, hrole, hdue, notReported⟩

/-- Settles O55: one row lemma for each clause; the end of a test by whether the line shows the partner. -/
theorem pairHealthRowsTakeEffect : Obligations.PairHealthRowsTakeEffect := by
  unfold Obligations.PairHealthRowsTakeEffect
  refine ⟨?pathFault, ?pathClear, ?actives, ?test, ?silent, ?tested, ?time⟩
  case pathFault =>
    exact fun _ _ hrun hforce hpath hsound hsilent hshown =>
      exec_pairPathFault_of_silent hrun hforce hpath hsound hsilent hshown
  case pathClear =>
    exact fun _ _ _ _ hsince hword hrun hfault hdue hnow =>
      exec_pairPathFaultClear_of_due hsince hword hrun hfault hdue hnow
  case actives => exact fun serial _ hrun hactive hticks hnow => exec_twoActives_of_due serial hrun hactive hticks hnow
  case test => exact fun _ _ _ _ h hok => exec_pairRxTest_of_ok h hok
  case silent => exact fun _ _ _ htest hrun hsilent => exec_rxTestEnd_of_silent htest hrun hsilent
  case tested => exact fun _ _ _ htest hrun hshown hdue => exec_rxTestEnd_of_due htest hrun hshown hdue
  case time => exact fun _ _ hoff hrun hrole hdue honce => exec_timeDisagreement_of_due hoff hrun hrole hdue honce

end Sys2Proof.Machine
end

section
/-! The rows of the power domains and of the supply (R455–R473). -/

namespace Sys2Proof.Machine

/-- A domain that begins to move notes its goal; nothing is pending and no part of the way is timed. -/
def State.domGoal (s : State) (d : Fin 15) (a : Nat) : State :=
  { s.set (Obj.DOM_PENDING d) 0xFF with pwr := { s.pwr with
    goal := Sparse.put (fun _ => 0) s.pwr.goal d a, part := Sparse.put (fun _ => 0) s.pwr.part d 0 } }

/-- The begin of a transition, by the state `st` in which the domain rested and its allowed state `a`. -/
theorem exec_domainTransitionBegin_of_rested {d : Fin 15} {st a : Nat} {s : State} (hrun : s.running = true)
    (hmoves : 2 ≤ d.val) (hstate : s.get (Obj.DOM_STATE d) = st) (hallowed : s.get (Obj.DOM_ALLOWED d) = a) (hrests : st ≤ 2)
    (hother : a ≠ st) (hsettled : Sparse.find (fun _ => 0) s.pwr.settled d ≤ s.k) :
    exec (.domainTransitionBegin d) s =
      let woken := if a = 2 then (s.domGoal d a).wakeRecord d a else s.domGoal d a
      let down := if st = 2 then woken.domDown d else woken
      .next (down.set (Obj.DOM_STATE d) (if st = 0 then 7 else if a = 2 then 5 else if a = 1 then 4 else 6)) := by
  subst hstate hallowed
  exact if_pos ⟨hrun, hmoves, hrests, hother, hsettled⟩

/-- A domain that is on ends its work before it leaves for retention or off. -/
theorem exec_domainTransitionBegin_of_on {d : Fin 15} {a : Nat} {s : State} (hrun : s.running = true) (hmoves : 2 ≤ d.val)
    (hstate : s.get (Obj.DOM_STATE d) = 2) (hallowed : s.get (Obj.DOM_ALLOWED d) = a) (hother : a ≠ 2)
    (hsettled : Sparse.find (fun _ => 0) s.pwr.settled d ≤ s.k) :
    exec (.domainTransitionBegin d) s =
      .next (((s.domGoal d a).domDown d).set (Obj.DOM_STATE d) (if a = 1 then 4 else 6)) := by
  rw [exec_domainTransitionBegin_of_rested hrun hmoves hstate hallowed (Nat.le_refl 2) hother hsettled]
  dsimp only
  rw [if_neg hother, if_pos rfl, if_neg (by decide), if_neg hother]

section
variable {d : Fin 15} {us : Nat} {s : State} (lost : List Nat)

theorem exec_domainTransitionEnd_of_wake (hstate : s.get (Obj.DOM_STATE d) = 5) (htime : us ≤ 20) :
    exec (.domainTransitionEnd d us lost) s =
      .next (if s.pwr.codes.contains d.val then (s.domReach d 2 us).retLost d lost else s.domReach d 2 us) :=
  if_pos ⟨hstate, htime⟩

/-- From another state than 05h the transition is no exit from retention. -/
theorem exec_domainTransitionEnd_of_ne_wake {st : Nat} (hstate : s.get (Obj.DOM_STATE d) = st) (hne : st ≠ 5) :
    exec (.domainTransitionEnd d us lost) s =
      if st = 7 ∧ us ≤ onTime d then
        if Sparse.find (fun _ => 0) s.pwr.goal d = 1 then
          .next (State.set (State.domUp { s with pwr := { s.pwr with part := Sparse.put (fun _ => 0) s.pwr.part d us } } d)
            (Obj.DOM_STATE d) 4)
        else .next ((s.domReach d 2 us).domUp d)
      else if st = 4 ∧ us ≤ 40 then .next (s.domReach d 1 (Sparse.find (fun _ => 0) s.pwr.part d + us))
      else if st = 6 ∧ us ≤ 40 then .next (s.domReach d 0 us)
      else .next s := by
  subst hstate
  exact if_neg fun h => hne h.1

theorem exec_domainTransitionEnd_of_on (hstate : s.get (Obj.DOM_STATE d) = 7) (htime : us ≤ onTime d)
    (hgoal : Sparse.find (fun _ => 0) s.pwr.goal d ≠ 1) :
    exec (.domainTransitionEnd d us lost) s = .next ((s.domReach d 2 us).domUp d) := by
  rw [exec_domainTransitionEnd_of_ne_wake lost hstate (by decide), if_pos ⟨rfl, htime⟩, if_neg hgoal]

theorem exec_domainTransitionEnd_of_on_to_retention (hstate : s.get (Obj.DOM_STATE d) = 7) (htime : us ≤ onTime d)
    (hgoal : Sparse.find (fun _ => 0) s.pwr.goal d = 1) :
    exec (.domainTransitionEnd d us lost) s =
      .next (State.set (State.domUp { s with pwr := { s.pwr with part := Sparse.put (fun _ => 0) s.pwr.part d us } } d)
        (Obj.DOM_STATE d) 4) := by
  rw [exec_domainTransitionEnd_of_ne_wake lost hstate (by decide), if_pos ⟨rfl, htime⟩, if_pos hgoal]

theorem exec_domainTransitionEnd_of_retention (hstate : s.get (Obj.DOM_STATE d) = 4) (htime : us ≤ 40) :
    exec (.domainTransitionEnd d us lost) s = .next (s.domReach d 1 (Sparse.find (fun _ => 0) s.pwr.part d + us)) := by
  rw [exec_domainTransitionEnd_of_ne_wake lost hstate (by decide), if_neg (fun h => absurd h.1 (by decide)),
    if_pos ⟨rfl, htime⟩]

theorem exec_domainTransitionEnd_of_off (hstate : s.get (Obj.DOM_STATE d) = 6) (htime : us ≤ 40) :
    exec (.domainTransitionEnd d us lost) s = .next (s.domReach d 0 us) := by
  rw [exec_domainTransitionEnd_of_ne_wake lost hstate (by decide), if_neg (fun h => absurd h.1 (by decide)),
    if_neg (fun h => absurd h.1 (by decide)), if_pos ⟨rfl, htime⟩]

end

/-! Votes of access and wake -/

theorem exec_accessWake_of_new {c : Fin 10} {d : Fin 15} {s : State} (hrun : s.running = true)
    (hnew : s.accessVote c d = false) (hoff : s.domOn d = false) :
    exec (.accessWake c d) s = .next { s with pwr := { s.pwr with access := s.pwr.access ++ [⟨c, d, s.k⟩] } } :=
  calc exec (.accessWake c d) s
    _ = _ := if_pos hrun
    _ = _ := if_neg (Bool.not_eq_true _ ▸ hnew)
    _ = _ := if_neg (Bool.not_eq_true _ ▸ hoff)

theorem exec_accessWake_of_voted {c : Fin 10} {d : Fin 15} {s : State} (hrun : s.running = true)
    (hvoted : s.accessVote c d = true) :
    exec (.accessWake c d) s = .next { s with pwr := { s.pwr with access := s.pwr.access.map fun a =>
      if a.client = c.val ∧ a.dom = d.val then { a with last := s.k } else a } } :=
  (if_pos hrun).trans (if_pos hvoted)

/-- The vote `a` of the client for the domain has run out. -/
def State.voteExpired (s : State) (c : Fin 10) (d : Fin 15) (a : AccessVote) : Bool :=
  a.client == c.val && a.dom == d.val && decide (a.last + s.conf Obj.PWR_ACCESS_HOLD ≤ s.k)

theorem State.not_voteExpired_iff (s : State) (c : Fin 10) (d : Fin 15) (a : AccessVote) :
    (!s.voteExpired c d a) = true ↔
      a.client ≠ c.val ∨ a.dom ≠ d.val ∨ s.k < a.last + s.conf Obj.PWR_ACCESS_HOLD := by
  rw [State.voteExpired, Bool.not_and, Bool.not_and, Bool.or_eq_true, Bool.or_eq_true, or_assoc, ← decide_not,
    decide_eq_true_iff, Nat.not_le]
  exact or_congr bne_iff_ne (or_congr bne_iff_ne Iff.rfl)

theorem exec_accessVoteExpiry {s : State} (c : Fin 10) (d : Fin 15) (hrun : s.running = true) :
    exec (.accessVoteExpiry c d) s =
      .next { s with pwr := { s.pwr with access := s.pwr.access.filter fun a => !s.voteExpired c d a } } := if_pos hrun

theorem exec_wakeChange_of_ne {level : Bool} {s : State} (hnew : s.pwr.wake ≠ level) :
    exec (.wakeChange level) s = .next { s.set Obj.PWR_WAKE_IN (boolNat level) with pwr := { s.pwr with
      wake := level, wakeVote := level || s.pwr.wakeVote, wakeLow := if level then none else some (s.k + 1) } } :=
  if_neg hnew

theorem exec_wakeHoldExpiry_of_due {since : Nat} {s : State} (hlow : s.pwr.wakeLow = some since)
    (hdue : since + s.conf Obj.PWR_EXT_HOLD ≤ s.k) :
    exec .wakeHoldExpiry s = .next { s with pwr := { s.pwr with wakeVote := false, wakeLow := none } } := by
  change execWakeHoldExpiry s = _
  rw [execWakeHoldExpiry, hlow]
  exact if_pos hdue

/-- Settles O56: two lemmas for the begin of a transition, from on and from a lower state; one row lemma for each state in
which a transition ends, and one for each vote. -/
theorem powerDomainRowsTakeEffect : Obligations.PowerDomainRowsTakeEffect := by
  unfold Obligations.PowerDomainRowsTakeEffect
  refine ⟨?offRet, ?offOn, ?retOn, ?retOff, ?onRet, ?onOff, ?endOff, ?endRet, ?endWake, ?endOn, ?endOnRet, ?wake, ?renew,
    ?expiry, ?level, ?hold, ?ack⟩
  case offRet =>
    exact fun _ _ hrun hd hst ha hrest =>
      exec_domainTransitionBegin_of_rested hrun hd hst ha (by decide) (by decide) hrest
  case offOn =>
    exact fun _ _ hrun hd hst ha hrest =>
      exec_domainTransitionBegin_of_rested hrun hd hst ha (by decide) (by decide) hrest
  case retOn =>
    exact fun _ _ hrun hd hst ha hrest =>
      exec_domainTransitionBegin_of_rested hrun hd hst ha (by decide) (by decide) hrest
  case retOff =>
    exact fun _ _ hrun hd hst ha hrest =>
      exec_domainTransitionBegin_of_rested hrun hd hst ha (by decide) (by decide) hrest
  case onRet => exact fun _ _ hrun hd hst ha hrest => exec_domainTransitionBegin_of_on hrun hd hst ha (by decide) hrest
  case onOff => exact fun _ _ hrun hd hst ha hrest => exec_domainTransitionBegin_of_on hrun hd hst ha (by decide) hrest
  case endOff => exact fun _ _ lost _ hst htime => exec_domainTransitionEnd_of_off lost hst htime
  case endRet => exact fun _ _ lost _ hst htime => exec_domainTransitionEnd_of_retention lost hst htime
  case endWake => exact fun _ _ lost _ hst htime => exec_domainTransitionEnd_of_wake lost hst htime
  case endOn => exact fun _ _ lost _ hst htime hgoal => exec_domainTransitionEnd_of_on lost hst htime hgoal
  case endOnRet =>
    exact fun _ _ lost _ hst htime hgoal => exec_domainTransitionEnd_of_on_to_retention lost hst htime hgoal
  case wake => exact fun _ _ _ hrun hnew hoff => exec_accessWake_of_new hrun hnew hoff
  case renew => exact fun _ _ _ hrun hvoted => exec_accessWake_of_voted hrun hvoted
  case expiry =>
    intro c d s hrun
    refine ⟨_, exec_accessVoteExpiry c d hrun, rfl, fun a => ?_⟩
    rw [List.mem_filter, State.not_voteExpired_iff]
  case level => exact fun _ _ hnew => exec_wakeChange_of_ne hnew
  case hold => exact fun _ _ hlow hdue => exec_wakeHoldExpiry_of_due hlow hdue
  case ack => exact fun _ _ _ _ h => congrArg Host.Outcome.next (State.serveSet_of_accepts h rfl _ _)

end Sys2Proof.Machine
end

section
/-! The rows of the supply supervision (R470–R473). -/

namespace Sys2Proof.Machine

theorem exec_dipBegin_of_low {s : State} (hrun : s.running = true) (hseen : s.supplySeen = true)
    (hstate : s.get Obj.SUPPLY_STATE = 0) (hlow : f32lt (s.get Obj.SUPPLY_V_MIN) s.warnLevel = true) :
    exec .dipBegin s =
      .next ({ s with pwr := { s.pwr with dip := some (s.k, s.get Obj.SUPPLY_V_MIN) } }.set Obj.SUPPLY_STATE 1) :=
  if_pos ⟨hrun, hseen, hstate, hlow⟩

section
variable {since low : Nat} {s : State} (hdip : s.pwr.dip = some (since, low)) (hrun : s.running = true)
include hdip hrun

theorem exec_dipShedding_of_due (hstate : s.get Obj.SUPPLY_STATE = 1) (hdue : since + 200 ≤ s.k) :
    exec .dipShedding s = .next ({ s with sw := { s.sw with dipReported := some s.k } }.set Obj.SUPPLY_STATE 2) := by
  change execDipShedding s = _
  rw [execDipShedding, hdip]
  exact if_pos ⟨hrun, hstate, hdue⟩

theorem exec_dipEnd_of_released (hseen : s.supplySeen = true)
    (hover : f32rat s.warnLevel + 1 / 2 ≤ f32rat (s.get Obj.SUPPLY_V_MIN)) :
    exec .dipEnd s = .next (((State.setAll { s with
        pwr := { s.pwr with dip := none }, sw := { s.sw with dipReported := none } }
      [(Obj.SUPPLY_STATE, 0), (Obj.SUPPLY_DIP_MIN, low), (Obj.SUPPLY_DIP_TICKS, (s.k - since) % 2 ^ 32)]).count
        Obj.SUPPLY_DIPS 1).event 0xF 0x2001 (u32 low ++ u32 (s.k - since))) := by
  change execDipEnd s = _
  rw [execDipEnd, hdip]
  exact if_pos ⟨hrun, hseen, hover⟩

end

/-- A supply below 5.5 V resets the module; one that is up records it and ends its store in the hold-up first. -/
theorem exec_supplyReset_of_low {mv : Nat} (reached : Nat) (s : State) (hlow : mv < 5500) :
    exec (.supplyReset mv reached) s =
      .next ((if s.alive then (s.supplyRecord mv).storeInHoldup reached else s).resetAt 2 mv) := if_pos hlow

theorem exec_feedLow_of_one {feed : Fin 2} {s : State} (hrun : s.running = true)
    (hlow : bit (s.get Obj.SUPPLY_FEED_FLAGS) feed = true) (hother : bit (s.get Obj.SUPPLY_FEED_FLAGS) (1 - feed.val) = false)
    (honce : bit s.pwr.feedLow feed = false) :
    exec (.feedLow feed) s = .next ({ s with pwr := { s.pwr with feedLow := setBit s.pwr.feedLow feed true } }.event
      0xF 0x2003 (u8 feed)) := if_pos ⟨hrun, hlow, hother, honce⟩

/-- Settles O57: one row lemma for each clause; the two of the reset by whether the module is up. -/
theorem supplyRowsTakeEffect : Obligations.SupplyRowsTakeEffect := by
  unfold Obligations.SupplyRowsTakeEffect
  refine ⟨?dip, ?shedding, ?released, ?resetUp, ?resetDown, ?feed⟩
  case dip => exact fun _ hrun hseen hstate hlow => exec_dipBegin_of_low hrun hseen hstate hlow
  case shedding => exact fun _ _ _ hdip hrun hstate hdue => exec_dipShedding_of_due hdip hrun hstate hdue
  case released => exact fun _ _ _ hdip hrun hseen hover => exec_dipEnd_of_released hdip hrun hseen hover
  case resetUp =>
    intro mv reached s hlow halive
    rw [exec_supplyReset_of_low reached s hlow, if_pos halive]
  case resetDown =>
    intro mv reached s hlow hdown
    rw [exec_supplyReset_of_low reached s hlow, if_neg (Bool.not_eq_true _ ▸ hdown)]
  case feed => exact fun _ _ hrun hlow hother honce => exec_feedLow_of_one hrun hlow hother honce

end Sys2Proof.Machine
end

section
/-! The rows of the event recorder (R479, R480, R485, R487, R489, R491). -/

namespace Sys2Proof.Machine

/-- The flood windows without the one of the source and code. -/
def State.floodEnded (s : State) (src code : Nat) : State :=
  { s with recd := { s.recd with floods := s.recd.floods.filter fun g => !(g.src == src && g.code == code) } }

/-- A window of 4000 ticks ends; one record tells how many it suppressed, if any. -/
theorem exec_floodWindowEnd_of_due {src code : Nat} {f : Flood} {s : State} (hflood : s.flood src code = some f)
    (hrun : s.running = true) (hdue : f.began + 4000 ≤ s.k) :
    exec (.floodWindowEnd src code) s =
      .next (if f.suppressed = 0 then s.floodEnded src code
        else (s.floodEnded src code).event 0 2 (u8 src ++ u16 code ++ u32 f.suppressed)) := by
  change execFloodWindowEnd src code s = _
  rw [execFloodWindowEnd, hflood]
  exact if_pos ⟨hrun, hdue⟩

theorem exec_timeMark_of_due {s : State} (hrun : s.running = true) (htick : s.k % 4000 = 0)
    (hdue : s.recd.opSeconds % s.conf Obj.REC_MARK_SECONDS = 0) (honce : s.recd.markAt ≠ some s.k) :
    exec .timeMark s = .next { s.timeMark with recd := { s.timeMark.recd with markAt := some s.k } } :=
  if_pos ⟨hrun, htick, hdue, honce⟩

theorem State.not_startPhaseOver (s : State) :
    (!s.startPhaseOver) = (s.recd.startPhase && !(s.running && decide (s.k % 4000 = 0 ∧ 0 < s.start.up))) := by
  rw [State.startPhaseOver, Bool.not_or, Bool.not_not]

theorem exec_startupPhaseEnd (s : State) :
    exec .startupPhaseEnd s = .next { s with recd := { s.recd with startPhase := !s.startPhaseOver } } := rfl

theorem State.recoveryOver_of_due {since : Nat} {s : State} (hsince : s.recd.recoverySince = some since)
    (hrun : s.running = true) (hdue : since + 240000 ≤ s.k) : s.recoveryOver = true := by
  rw [State.recoveryOver, hsince]
  exact Bool.and_eq_true_iff.mpr ⟨hrun, decide_eq_true hdue⟩

theorem exec_recoveryPhaseEnd_of_over {s : State} (hover : s.recoveryOver = true) :
    exec .recoveryPhaseEnd s = .next { s with recd := { s.recd with recoverySince := none } } :=
  congrArg Host.Outcome.next (if_pos hover)

section
variable {q : Req} {x : Session} {s : State}

/-- A clearing that is not under way keeps no clearing busy. -/
theorem State.clearExtra_of_not_clearing (hfree : s.clearing = false) :
    ({ busy := (s.servedBy q x).clearing } : Extra) = {} := by
  rw [State.servedBy_clearing, hfree]

theorem exec_recClearCirc_of_free (h : s.acceptsSet q x Obj.REC_CLEAR_CIRC 1 = true) (hfree : s.clearing = false) :
    exec (.recClearCirc q) s =
      .next (s.wroteSet q x Obj.REC_CLEAR_CIRC 1 fun s => s.event 0 4 (u8 (s.reqLevel q) ++ u16 q.session)) :=
  congrArg _ (State.serveSet_of_accepts h (State.clearExtra_of_not_clearing hfree) _ _)

theorem exec_recClearKept_of_free (h : s.acceptsSet q x Obj.REC_CLEAR_KEPT 1 = true) (hfree : s.clearing = false) :
    exec (.recClearKept q) s =
      .next (s.wroteSet q x Obj.REC_CLEAR_KEPT 1 fun s => s.event 0 3 (u8 (s.reqLevel q) ++ u16 q.session)) :=
  congrArg _ (State.serveSet_of_accepts h (State.clearExtra_of_not_clearing hfree) _ _)

theorem exec_recAppEvent_of_ok {b : Bytes} (h : s.accepts q x Obj.REC_APP_EVENT (tyOf Obj.REC_APP_EVENT) b = true)
    (hok : appEventOk b = true) :
    exec (.recAppEvent q b) s = .next (s.wrote q x Obj.REC_APP_EVENT b fun s => s.appEvent b) :=
  congrArg _ (State.serveWrite_of_accepts h (congrArg (fun b => ({ range := b } : Extra)) hok) _ _)

theorem exec_recWindow_of_admits {maxLen : Nat} (h : s.admits q x = true) (hlength : 32 ≤ maxLen) :
    exec (.recWindow q 0 maxLen) s = .next (State.finish q 3 ⟨.ok, readReply 0xB
      ((s.servedBy q x).recWindow (min maxLen 1256)).length ((s.servedBy q x).recWindow (min maxLen 1256)),
      s.servedBy q x, false⟩) := by
  have inRange : ¬ ((0 : Nat) ≠ 0 ∨ maxLen < 32) := by omega
  refine congrArg _ ((State.serve_of_admits h 3 _ _).trans (congrArg _ ?answered))
  case answered => exact if_neg inRange

end

/-- Settles O58: one row lemma for each clause; the window's end by whether it suppressed any. -/
theorem recorderRowsTakeEffect : Obligations.RecorderRowsTakeEffect := by
  unfold Obligations.RecorderRowsTakeEffect
  refine ⟨?suppressed, ?quiet, ?mark, ?startup, ?recovery, ?circ, ?kept, ?app, ?window⟩
  case suppressed =>
    intro src code f s hflood hrun hdue hany
    rw [exec_floodWindowEnd_of_due hflood hrun hdue, if_neg hany, State.floodEnded]
  case quiet =>
    intro src code f s hflood hrun hdue hnone
    rw [exec_floodWindowEnd_of_due hflood hrun hdue, if_pos hnone, State.floodEnded]
  case mark => exact fun _ hrun htick hdue honce => exec_timeMark_of_due hrun htick hdue honce
  case startup =>
    intro s
    rw [exec_startupPhaseEnd, State.not_startPhaseOver]
  case recovery =>
    exact fun _ _ hsince hrun hdue => exec_recoveryPhaseEnd_of_over (State.recoveryOver_of_due hsince hrun hdue)
  case circ => exact fun _ _ _ h hfree => exec_recClearCirc_of_free h hfree
  case kept => exact fun _ _ _ h hfree => exec_recClearKept_of_free h hfree
  case app => exact fun _ _ _ _ h hok => exec_recAppEvent_of_ok h hok
  case window => exact fun _ _ _ _ h hlength => exec_recWindow_of_admits h hlength

end Sys2Proof.Machine
end

section
/-! The rows of the field update (R499, R503–R505, R511–R513, R516). -/

namespace Sys2Proof.Machine

section
variable {q : Req} {x : Session} {s : State}

theorem exec_updWafer_of_ok {b : Bytes} (h : s.accepts q x Obj.UPD_WAFER (tyOf Obj.UPD_WAFER) b = true)
    (hrange : (s.servedBy q x).waferRange b = true) (hstate : (s.servedBy q x).waferState (waferOf b) = true) :
    exec (.updWafer q b) s = .next (s.wrote q x Obj.UPD_WAFER b fun s => s.takeWafer b) := by
  have mayTake :
      ({ range := (s.servedBy q x).waferRange b, state := (s.servedBy q x).waferState (waferOf b) } : Extra) = {} := by
    rw [hrange, hstate]
  exact congrArg _ (State.serveWrite_of_accepts h mayTake _ _)

end

/-! Verification -/

/-- The groups whose hash does not match the manifest. -/
def State.badGroups (s : State) (m : Manifest) : List Nat := (List.range m.hashes.length).filter fun g => !s.groupOk m g

theorem State.badGroups_ne_nil {m : Manifest} {s : State} (hbad : ∃ g < m.hashes.length, s.groupOk m g = false) :
    s.badGroups m ≠ [] := by
  obtain ⟨g, hg, hfails⟩ := hbad
  exact List.ne_nil_of_mem (List.mem_filter.mpr ⟨List.mem_range.mpr hg, by rw [hfails, Bool.not_false]⟩)

theorem State.badGroups_eq_nil {m : Manifest} {s : State} (hgood : ∀ g < m.hashes.length, s.groupOk m g = true) :
    s.badGroups m = [] :=
  List.filter_eq_nil_iff.mpr fun g hg => by
    rw [hgood g (List.mem_range.mp hg), Bool.not_true]
    exact Bool.false_ne_true

/-- The state in which a verification decides: its progress is a free value of at most 100. -/
def State.verifying (s : State) : State := s.draw.2.set Obj.UPD_PROGRESS (s.draw.1.toNat % 101)

/-- The image of the package in the slot that does not run. -/
def State.imageCopied (s : State) (m : Manifest) : UpdSt :=
  if s.upd.sel then { s.upd with slotA := s.imageOf m } else { s.upd with slotB := s.imageOf m }

section
variable {m : Manifest} {s : State} (hmanifest : s.upd.manifest = some m)
include hmanifest

section
variable (ok : Bool) (rb : List Bool) (hfree : s.upd.verify = none) (hrun : s.running = true)
  (hstate : s.upd.rec_.state = 2) (hshown : s.conf Obj.UPD_STATE = 2)
include hfree hrun hstate hshown

/-- What a verification in 02h decides, by the groups that fail, the signature and the read-back. -/
theorem exec_verification_of_held :
    exec (.verification ok rb) s =
      if s.badGroups m ≠ [] then .next { s.verifying with upd := { s.upd with verify := some (.receiving (s.badGroups m)) } }
      else if ok = false then .next { s.verifying with upd := { s.upd with verify := some (.rejected 6) } }
      else .next { s.verifying with upd := { s.imageCopied m with
        verify := some (if rb.getD 0 true || rb.getD 1 true then .ready else .rejected 7) } } := by
  change execVerification ok rb s = _
  rw [execVerification, hmanifest, hfree]
  exact if_pos ⟨hrun, hstate, hshown⟩

theorem exec_verification_of_bad (hbad : ∃ g < m.hashes.length, s.groupOk m g = false) :
    exec (.verification ok rb) s =
      .next { s.verifying with upd := { s.upd with verify := some (.receiving (s.badGroups m)) } } := by
  rw [exec_verification_of_held hmanifest ok rb hfree hrun hstate hshown, if_pos (State.badGroups_ne_nil hbad)]

theorem exec_verification_of_unsigned (hok : ok = false) (hgood : ∀ g < m.hashes.length, s.groupOk m g = true) :
    exec (.verification ok rb) s = .next { s.verifying with upd := { s.upd with verify := some (.rejected 6) } } := by
  rw [exec_verification_of_held hmanifest ok rb hfree hrun hstate hshown,
    if_neg (not_not_intro (State.badGroups_eq_nil hgood)), if_pos hok]

theorem exec_verification_of_signed (hok : ok = true) (hgood : ∀ g < m.hashes.length, s.groupOk m g = true) :
    exec (.verification ok rb) s = .next { s.verifying with upd := { s.imageCopied m with
      verify := some (if rb.getD 0 true || rb.getD 1 true then .ready else .rejected 7) } } := by
  rw [exec_verification_of_held hmanifest ok rb hfree hrun hstate hshown,
    if_neg (not_not_intro (State.badGroups_eq_nil hgood)), if_neg (by rw [hok]; decide)]

end

/-- The state in which a verification's end is carried out: no verification is under way any more. -/
def State.verified (s : State) : State := { s with upd := { s.upd with verify := none } }

section
variable (hrun : s.running = true)
include hrun

theorem exec_verificationComplete_of_ready (hend : s.upd.verify = some .ready) :
    exec .verificationComplete s =
      let t := s.verified.putUpd { s.upd.rec_ with state := 3, newSlot := !s.upd.sel }
      .next ((t.set Obj.UPD_PROGRESS 100).event 0 0x8004 (u32 t.upd.rec_.package ++ u8 (boolNat (!s.upd.sel)))) := by
  change execVerificationComplete s = _
  rw [execVerificationComplete, hmanifest, hend]
  dsimp only
  rw [if_pos hrun, State.set_upd]
  rfl

theorem exec_verificationComplete_of_receiving {bad : List Nat} (hend : s.upd.verify = some (.receiving bad)) :
    exec .verificationComplete s =
      let t := bad.foldl (fun s g => s.groupFail m g 2) s.verified
      .next (t.putUpd { t.upd.rec_ with state := 1 }) := by
  change execVerificationComplete s = _
  rw [execVerificationComplete, hmanifest, hend]
  exact if_pos hrun

theorem exec_verificationComplete_of_rejected {code : Nat} (hend : s.upd.verify = some (.rejected code)) :
    exec .verificationComplete s = .next (s.verified.rejectUpd code) := by
  change execVerificationComplete s = _
  rw [execVerificationComplete, hmanifest, hend]
  exact if_pos hrun

end

end

/-! Activation -/

section
variable {q : Req} {x : Session} {s : State}

theorem exec_updActivate_of_ok {tick : Nat} (h : s.acceptsSet q x Obj.UPD_ACTIVATE tick = true)
    (hok : (s.servedBy q x).activateExtra tick = {}) :
    exec (.updActivate q tick) s = .next (s.wroteSet q x Obj.UPD_ACTIVATE tick fun s => s.activate tick) :=
  congrArg _ (State.serveSet_of_accepts h hok _ _)

/-- A schedule may be removed while one is in force and parking is wired. -/
theorem State.activateExtra_removeTick (hstate : s.upd.rec_.state = 4) (hparked : s.get Obj.UPD_PARKED_SRC ≠ 0) :
    s.activateExtra removeTick = {} := by
  have inRange : (removeTick == 0 || removeTick == removeTick ||
      decide (s.k + 400 ≤ removeTick ∧ removeTick ≤ s.k + 345600000)) = true := by
    rw [beq_self_eq_true, Bool.or_true, Bool.true_or]
  have scheduled : ((s.upd.rec_.state == 4 || (s.upd.rec_.state == 3 && removeTick != removeTick)) &&
      s.get Obj.UPD_PARKED_SRC != 0) = true := by
    rw [hstate, bne_iff_ne.mpr hparked]
    rfl
  rw [State.activateExtra, inRange, scheduled]

theorem State.activate_removeTick (s : State) :
    s.activate removeTick = s.putUpd { s.upd.rec_ with state := 3, actTick := 0 } := by
  rw [State.activate, if_pos rfl]

theorem exec_updActivateRemove_of_scheduled (h : s.acceptsSet q x Obj.UPD_ACTIVATE removeTick = true)
    (hstate : s.upd.rec_.state = 4) (hparked : s.get Obj.UPD_PARKED_SRC ≠ 0) :
    exec (.updActivateRemove q) s = .next (s.wroteSet q x Obj.UPD_ACTIVATE removeTick fun s =>
      s.putUpd { s.upd.rec_ with state := 3, actTick := 0 }) := by
  have mayRemove : (s.servedBy q x).activateExtra removeTick = {} :=
    (State.servedBy_activateExtra s q x removeTick).trans (State.activateExtra_removeTick hstate hparked)
  change Host.Outcome.next (s.serveSet q Obj.UPD_ACTIVATE removeTick _ _) = _
  rw [State.serveSet_of_accepts h mayRemove, funext State.activate_removeTick]

section
variable (hrun : s.running = true) (hstate : s.upd.rec_.state = 4) (hdue : s.upd.rec_.actTick = s.k + 1)
include hrun hstate hdue

theorem exec_activationInterlock_of_fails (hfails : s.interlock = false) :
    exec .activationInterlock s = .next ((s.putUpd { s.upd.rec_ with state := 3, result := 9, actTick := 0 }).event 0 0x8005
      (u8 9 ++ u64 s.upd.rec_.actTick)) :=
  (if_pos ⟨hrun, hstate, hdue⟩).trans (if_neg (Bool.not_eq_true _ ▸ hfails))

theorem exec_activationInterlock_of_holds (hholds : s.interlock = true) :
    exec .activationInterlock s =
      let t := (s.putUpd { s.upd.rec_ with
        state := 5, newArea := (match s.store.inForce with | some b => !b | none => false),
        oldRelease := s.selSlot.release }).putSel s.upd.rec_.newSlot
      .next (State.resetNext { t with upd := { t.upd with noOld := t.store.inForce.isNone } } 6 1) :=
  (if_pos ⟨hrun, hstate, hdue⟩).trans (if_pos hholds)

end

/-! Cancelling, proofing and the keys -/

theorem exec_updCancel_of_open (h : s.acceptsSet q x Obj.UPD_CANCEL 1 = true)
    (hopen : s.upd.rec_.state = 1 ∨ s.upd.rec_.state = 3 ∨ s.upd.rec_.state = 4) :
    exec (.updCancel q) s = .next (s.wroteSet q x Obj.UPD_CANCEL 1 fun s => s.cancelUpd) := by
  have mayCancel : ((s.servedBy q x).upd.rec_.state == 1 || (s.servedBy q x).upd.rec_.state == 3 ||
      (s.servedBy q x).upd.rec_.state == 4) = true := by
    rw [State.servedBy_upd, Bool.or_eq_true, Bool.or_eq_true, beq_iff_eq, beq_iff_eq, beq_iff_eq, or_assoc]
    exact hopen
  exact congrArg _ (State.serveSet_of_accepts h (congrArg (fun b => ({ state := b } : Extra)) mayCancel) _ _)

theorem exec_updConfirm_of_proven (h : s.acceptsSet q x Obj.UPD_CONFIRM 1 = true) (hstate : s.upd.rec_.state = 7)
    (hproven : s.proven = true) (hmode : s.conf Obj.UPD_CONFIRM_MODE = 1) :
    exec (.updConfirm q) s = .next (s.wroteSet q x Obj.UPD_CONFIRM 1 fun s => s.confirm) := by
  have mayConfirm : ((s.servedBy q x).upd.rec_.state == 7 && (s.servedBy q x).proven &&
      (s.servedBy q x).conf Obj.UPD_CONFIRM_MODE == 1) = true := by
    rw [State.servedBy_upd, State.servedBy_proven, State.servedBy_conf, hstate, hproven, hmode]
    rfl
  exact congrArg _ (State.serveSet_of_accepts h (congrArg (fun b => ({ state := b } : Extra)) mayConfirm) _ _)

theorem exec_autoConfirm_of_proven (hrun : s.running = true) (hstate : s.upd.rec_.state = 7)
    (hmode : s.conf Obj.UPD_CONFIRM_MODE = 0) (htick : s.k % 4000 = 0) (hproven : s.proven = true) :
    exec .autoConfirm s = .next s.confirm := if_pos ⟨hrun, hstate, hmode, htick, hproven⟩

theorem exec_proofSecond_of_due (hrun : s.running = true) (hstate : s.upd.rec_.state = 7) (htick : s.k % 4000 = 0)
    (honce : s.upd.secondAt ≠ some s.k) :
    exec .proofSecond s = .next (({ s with upd := { s.upd with secondAt := some s.k } }).putUpd { s.upd.rec_ with
      proofSeconds := satAdd 32 s.upd.rec_.proofSeconds 1 }) := if_pos ⟨hrun, hstate, htick, honce⟩

theorem exec_updReject_of_proofing (h : s.acceptsSet q x Obj.UPD_REJECT 1 = true) (hstate : s.upd.rec_.state = 7) :
    exec (.updReject q) s = .next (s.wroteSet q x Obj.UPD_REJECT 1 fun s => (s.fallback 3).resetNext 6 2) := by
  have mayReject : ((s.servedBy q x).upd.rec_.state == 7) = true := by
    rw [State.servedBy_upd, hstate, beq_self_eq_true]
  exact congrArg _ (State.serveSet_of_accepts h (congrArg (fun b => ({ state := b } : Extra)) mayReject) _ _)

theorem exec_updKeyWrite_of_empty {i : Fin 3} {b : Bytes}
    (h : s.accepts q x (Obj.UPD_KEY i) (tyOf (Obj.UPD_KEY i)) b = true) (hempty : s.keyOf (i + 1) = none) :
    exec (.updKeyWrite q i b) s = .next (s.wrote q x (Obj.UPD_KEY i) b fun s => s.putKey (i + 1) b) := by
  have mayWrite : ((s.servedBy q x).keyOf (i + 1)).isNone = true := by
    rw [State.servedBy_keyOf, hempty, Option.isNone_none]
  exact congrArg _ (State.serveWrite_of_accepts h (congrArg (fun b => ({ state := b } : Extra)) mayWrite) _ _)

theorem exec_updKeyClear_of_accepts {i : Fin 3} (h : s.acceptsSet q x Obj.UPD_KEY_CLEAR (i + 1) = true) :
    exec (.updKeyClear q i) s = .next (s.wroteSet q x Obj.UPD_KEY_CLEAR (i + 1) fun s => s.putKey (i + 1) []) :=
  congrArg _ (State.serveSet_of_accepts h rfl _ _)

end

/-- Settles O59: one row lemma for each clause; a verification by what fails first, its end by how it ended. -/
theorem updateRowsTakeEffect : Obligations.UpdateRowsTakeEffect := by
  unfold Obligations.UpdateRowsTakeEffect
  refine ⟨?wafer, ?bad, ?unsigned, ?signed, ?ready, ?receiving, ?rejected, ?activate, ?remove, ?fails, ?holds, ?cancel,
    ?confirm, ?auto, ?second, ?reject, ?keyWrite, ?keyClear⟩
  case wafer => exact fun _ _ _ _ h hrange hstate => exec_updWafer_of_ok h hrange hstate
  case bad =>
    exact fun ok rb _ _ hmanifest hfree hrun hstate hshown hbad =>
      exec_verification_of_bad hmanifest ok rb hfree hrun hstate hshown hbad
  case unsigned =>
    exact fun ok rb _ _ hmanifest hfree hrun hstate hshown hok hgood =>
      exec_verification_of_unsigned hmanifest ok rb hfree hrun hstate hshown hok hgood
  case signed =>
    exact fun ok rb _ _ hmanifest hfree hrun hstate hshown hok hgood =>
      exec_verification_of_signed hmanifest ok rb hfree hrun hstate hshown hok hgood
  case ready => exact fun _ _ hmanifest hend hrun => exec_verificationComplete_of_ready hmanifest hrun hend
  case receiving => exact fun _ _ _ hmanifest hend hrun => exec_verificationComplete_of_receiving hmanifest hrun hend
  case rejected => exact fun _ _ _ hmanifest hend hrun => exec_verificationComplete_of_rejected hmanifest hrun hend
  case activate => exact fun _ _ _ _ h hok => exec_updActivate_of_ok h hok
  case remove => exact fun _ _ _ h hstate hparked => exec_updActivateRemove_of_scheduled h hstate hparked
  case fails => exact fun _ hrun hstate hdue hfails => exec_activationInterlock_of_fails hrun hstate hdue hfails
  case holds => exact fun _ hrun hstate hdue hholds => exec_activationInterlock_of_holds hrun hstate hdue hholds
  case cancel => exact fun _ _ _ h hopen => exec_updCancel_of_open h hopen
  case confirm => exact fun _ _ _ h hstate hproven hmode => exec_updConfirm_of_proven h hstate hproven hmode
  case auto => exact fun _ hrun hstate hmode htick hproven => exec_autoConfirm_of_proven hrun hstate hmode htick hproven
  case second => exact fun _ hrun hstate htick honce => exec_proofSecond_of_due hrun hstate htick honce
  case reject => exact fun _ _ _ h hstate => exec_updReject_of_proofing h hstate
  case keyWrite => exact fun _ _ _ _ _ h hempty => exec_updKeyWrite_of_empty h hempty
  case keyClear => exact fun _ _ _ _ h => exec_updKeyClear_of_accepts h

end Sys2Proof.Machine
end

section
/-! The rows of reset and start (R518, R520–R522, R524). -/

namespace Sys2Proof.Machine

section
variable {s : State}

theorem exec_powerLoss (s : State) : exec .powerLoss s = .next (s.resetAt 1 0) := rfl

theorem exec_supervisorMismatch_of_alive (addr : Nat) (halive : s.alive = true) :
    exec (.supervisorMismatch addr) s = .next (s.resetAt 3 (addr % 2 ^ 32)) := if_pos halive

theorem exec_watchdogExpiry_of_unserved (halive : s.alive = true) (hunserved : 8 ≤ s.start.watchdog) :
    exec .watchdogExpiry s = .next (s.resetAt 5 0) := if_pos ⟨halive, hunserved⟩

theorem exec_memoryError_of_alive (addr : Nat) (halive : s.alive = true) :
    exec (.memoryError addr) s = .next (s.resetAt 8 (addr % 2 ^ 32)) := if_pos halive

theorem exec_resetEntry_of_due {d : ResetDue} (hreset : s.start.due = some d) (hdue : d.at_ ≤ s.k) :
    exec .resetEntry s = .next (s.enterReset d) := by
  change execResetEntry s = _
  rw [execResetEntry, hreset]
  exact if_pos hdue

/-- Steps 2 to 4 of the start, after the update's part has left the state `t` and allowed them. -/
def State.startOn (t : State) (inp : StartIn) : State :=
  match t.imageCheck inp.slotAOk inp.slotBOk with
  | none => { t with phase := .noImage }
  | some w =>
    let u : State := { w with upd := { w.upd with run := w.upd.sel } }
    let v := ((u.settingsStart inp.migrateOk).1.recorderStart inp.holdupOk).enqueueAll
    if (u.settingsStart inp.migrateOk).2 then v.partnerCheck inp.partnerRelease else v

/-- A release that is due begins the start; the update's part says whether it goes on. -/
theorem exec_resetRelease_of_due (inp : StartIn) (hdue : s.releaseDue = true) :
    exec (.resetRelease inp) s =
      if (s.releaseBegin inp).updateStart.2 then .next ((s.releaseBegin inp).updateStart.1.startOn inp)
      else .next (((s.releaseBegin inp).updateStart.1.recorderStart inp.holdupOk).enqueueAll) := by
  change execResetRelease inp s = _
  rw [execResetRelease, if_pos hdue]
  generalize (s.releaseBegin inp).updateStart = begun
  obtain ⟨t, go⟩ := begun
  cases go
  case false => rfl
  case true =>
    change (match t.imageCheck inp.slotAOk inp.slotBOk with | none => _ | some w => _) = Host.Outcome.next (t.startOn inp)
    rw [State.startOn]
    cases t.imageCheck inp.slotAOk inp.slotBOk <;> rfl

end

/-- Settles O60: one row lemma for each cause; the release by whether the update's part lets the start go on. -/
theorem resetRowsTakeEffect : Obligations.ResetRowsTakeEffect := by
  unfold Obligations.ResetRowsTakeEffect
  refine ⟨?power, ?supervisor, ?watchdog, ?memory, ?command, ?entry, ?goesOn, ?stops⟩
  case power => exact exec_powerLoss
  case supervisor => exact fun addr _ halive => exec_supervisorMismatch_of_alive addr halive
  case watchdog => exact fun _ halive hunserved => exec_watchdogExpiry_of_unserved halive hunserved
  case memory => exact fun addr _ halive => exec_memoryError_of_alive addr halive
  case command => exact fun _ _ _ h hextra => congrArg Host.Outcome.next (State.serveSet_of_accepts h hextra _ _)
  case entry => exact fun _ _ hreset hdue => exec_resetEntry_of_due hreset hdue
  case goesOn =>
    intro inp s hdue hgo
    rw [exec_resetRelease_of_due inp hdue, if_pos hgo]
    rfl
  case stops =>
    intro inp s hdue hstop
    rw [exec_resetRelease_of_due inp hdue, if_neg (Bool.not_eq_true _ ▸ hstop)]

end Sys2Proof.Machine
end

section
/-! No update of the state touches the queue of the commands that wait (log entry 1). One lemma for each update, in the order in
which the model defines them. -/

namespace Sys2Proof.Machine

/-- An update that leaves the queue of commands as it was, whatever it runs over. -/
def KeepsPending {α : Type} (f : State → α → State) : Prop := ∀ s a, (f s a).pending = s.pending

@[simp] theorem keepsPending_iff {α : Type} (f : State → α → State) :
    KeepsPending f ↔ ∀ s a, (f s a).pending = s.pending := Iff.rfl

@[simp] theorem foldl_pending {α : Type} (f : State → α → State) (h : KeepsPending f) (l : List α) (s : State) :
    (l.foldl f s).pending = s.pending := by
  induction l generalizing s with
  | nil => rfl
  | cons a l ih => rw [List.foldl_cons, ih, h]

/-- A next state, where there is one, has the queue of the state before. -/
def KeepsPendingIfSome (s : State) (o : Option State) : Prop := ∀ t, o = some t → t.pending = s.pending

@[simp] theorem keepsPendingIfSome_none (s : State) : KeepsPendingIfSome s none :=
  fun _ h => (Option.some_ne_none _ h.symm).elim
@[simp] theorem keepsPendingIfSome_some (s t : State) : KeepsPendingIfSome s (some t) ↔ t.pending = s.pending :=
  ⟨fun h => h t rfl, fun h _ ht => Option.some.inj ht ▸ h⟩
@[simp] theorem keepsPendingIfSome_ite (s : State) (c : Prop) [Decidable c] (o p : Option State) :
    KeepsPendingIfSome s (if c then o else p) ↔ if c then KeepsPendingIfSome s o else KeepsPendingIfSome s p := by
  split <;> rfl

/-- Which of two states a condition picks decides whose queue is read. -/
@[simp] theorem State.ite_pending (c : Prop) [Decidable c] (s t : State) :
    (if c then s else t).pending = if c then s.pending else t.pending := apply_ite State.pending c s t

variable (s : State)

/-! The values, the entries and the events -/

@[simp] theorem State.setAll_pending (l : List (Nat × Nat)) : (s.setAll l).pending = s.pending := by simp [State.setAll]
@[simp] theorem State.draw_pending : s.draw.2.pending = s.pending := rfl
@[simp] theorem State.countOut_pending (key n : Nat) : (s.countOut key n).pending = s.pending := rfl
@[simp] theorem State.setNow_pending (key v : Nat) : (s.setNow key v).pending = s.pending := rfl
@[simp] theorem State.modeEnter_pending (key : Nat) : (s.modeEnter key).pending = s.pending := by simp [State.modeEnter]
@[simp] theorem State.modeCount_pending (key : Nat) (a2 : RunKind) : (s.modeCount key a2).pending = s.pending := by
  unfold State.modeCount
  split <;> simp
@[simp] theorem State.writeMode_pending (key v : Nat) : (s.writeMode key v).pending = s.pending := rfl
@[simp] theorem State.fallBack_pending (key : Nat) : (s.fallBack key).pending = s.pending := by simp [State.fallBack]
@[simp] theorem State.assistFault_pending (key : Nat) : (s.assistFault key).pending = s.pending := by simp [State.assistFault]

/-! The dictionary server -/

@[simp] theorem State.setTable_pending (l : List Session) : (s.setTable l).pending = s.pending := rfl
@[simp] theorem State.openSession_pending (q : Req) (lvl : Nat) : (s.openSession q lvl).1.pending = s.pending := by
  unfold State.openSession
  split <;> simp
@[simp] theorem State.openAnswered_pending (q : Req) (level len : Nat) (code : Bytes) :
    (s.openAnswered q level len code).pending = s.pending := by
  unfold State.openAnswered
  split
  · exact s.openSession_pending q level
  · rfl
  · rfl
@[simp] theorem State.answerLater_pending (q : Req) (st : Status) : (s.answerLater q st).pending = s.pending := by
  unfold State.answerLater
  split <;> simp

/-! The recorder -/

@[simp] theorem State.endPhases_pending : s.endPhases.pending = s.pending := rfl
@[simp] theorem State.enterQueue_pending (e : Event) : (s.enterQueue e).pending = s.pending := rfl
@[simp] theorem State.meetQueue_pending (e : Event) : (s.meetQueue e).pending = s.pending := by simp [State.meetQueue]
@[simp] theorem State.putFlood_pending (f : Flood) : (s.putFlood f).pending = s.pending := rfl
@[simp] theorem State.floodNow_pending (src code : Nat) : (s.floodNow src code).2.pending = s.pending := by
  unfold State.floodNow
  (repeat' split) <;> simp
@[simp] theorem State.enqueue_pending (e : Event) : (s.enqueue e).pending = s.pending := by simp [State.enqueue]
@[simp] theorem State.enqueueAll_pending : s.enqueueAll.pending = s.pending := by
  unfold State.enqueueAll
  split <;> simp
@[simp] theorem State.putRecord_pending (slot : Nat) (b : Bytes) : (s.putRecord slot b).pending = s.pending := rfl
@[simp] theorem State.putCirc_pending (b : Bytes) : (s.putCirc b).pending = s.pending := rfl
@[simp] theorem State.writeRecord_pending (r : Queued) : (s.writeRecord r).pending = s.pending := by
  simp -implicitDefEqProofs [State.writeRecord]
@[simp] theorem State.writeRecords_pending : s.writeRecords.pending = s.pending := by simp [State.writeRecords]
@[simp] theorem State.timeMark_pending : s.timeMark.pending = s.pending := rfl
@[simp] theorem State.setTimeState_pending (v : Nat) : (s.setTimeState v).pending = s.pending := by simp [State.setTimeState]
@[simp] theorem State.scan_pending (d0Lost : Bool) : (s.scan d0Lost).pending = s.pending := by
  unfold State.scan
  extract_lets _ _ _ _ _ newest
  generalize newest = found
  cases found
  · dsimp only
    split <;> rfl
  · rfl
@[simp] theorem State.appEvent_pending (b : Bytes) : (s.appEvent b).pending = s.pending := rfl

/-! The loops -/

@[simp] theorem State.linkMembers_pending : s.linkMembers.pending = s.pending := by simp [State.linkMembers]
@[simp] theorem State.setFl_pending (n : Nat) (x : FlSt) : (s.setFl n x).pending = s.pending := rfl
@[simp] theorem State.setAsm_pending (a : Nat) (x : AsSt) : (s.setAsm a x).pending = s.pending := rfl
@[simp] theorem State.touchUnit_pending (u : Nat) : (s.touchUnit u).pending = s.pending := by simp [State.touchUnit]
@[simp] theorem State.publishSlot_pending (n : Nat) : (s.publishSlot n).pending = s.pending := rfl
@[simp] theorem State.evalAssemblies_pending : s.evalAssemblies.pending = s.pending := by simp [State.evalAssemblies]
@[simp] theorem State.publishSlots_pending : s.publishSlots.pending = s.pending := by simp [State.publishSlots]
@[simp] theorem State.emitSlot_pending (n u : Nat) : (s.emitSlot n u).pending = s.pending := by simp [State.emitSlot]
@[simp] theorem State.clearSlot_pending (n : Nat) : (s.clearSlot n).pending = s.pending := by simp [State.clearSlot]
@[simp] theorem State.orOpen_pending (now last : Option Nat) : (s.orOpen now last).2.pending = s.pending := by
  unfold State.orOpen
  split <;> simp
@[simp] theorem State.slotLaw_pending (n us : Nat) : (s.slotLaw n us).pending = s.pending := by
  dsimp only [State.slotLaw]
  simp only [↓State.write_pending]
  split
  · simp only [↓State.clearSlot_pending, ↓State.setFl_pending, ↓State.orOpen_pending, ↓State.modeCount_pending,
      ↓State.modeEnter_pending]
  · simp only [↓State.ite_pending, ↓State.emitSlot_pending, ↓State.setFl_pending, ↓State.orOpen_pending,
      ↓State.modeCount_pending,
      ↓State.modeEnter_pending, ite_self]
  · simp only [↓State.emitSlot_pending, ↓State.setFl_pending, ↓State.orOpen_pending, ↓State.modeCount_pending,
      ↓State.modeEnter_pending]
@[simp] theorem State.inTime_pending (u : Nat) : (s.inTime u).pending = s.pending := rfl
@[simp] theorem State.ranUnit_pending (u : Nat) : (s.ranUnit u).pending = s.pending := rfl
@[simp] theorem State.slotStopped_pending (n : Nat) : (s.slotStopped n).pending = s.pending := by simp [State.slotStopped]
@[simp] theorem State.faultSlot_pending (n code : Nat) : (s.faultSlot n code).pending = s.pending := by simp [State.faultSlot]
@[simp] theorem State.dropTerm_pending (n w : Nat) : (s.dropTerm n w).pending = s.pending := rfl
@[simp] theorem State.discardRuns_pending (us : List Nat) : (s.discardRuns us).pending = s.pending := by
  simp [State.discardRuns]
@[simp] theorem State.closeWindow_pending : s.closeWindow.pending = s.pending := rfl
@[simp] theorem State.enableHeld_pending (key : Nat) : (s.enableHeld key).pending = s.pending := by simp [State.enableHeld]
@[simp] theorem State.enableUnit_pending (u : Nat) : (s.enableUnit u).pending = s.pending := by simp [State.enableUnit]
@[simp] theorem State.stopSlot_pending (wasOn : Bool) (n : Nat) : (s.stopSlot wasOn n).pending = s.pending := by
  simp [State.stopSlot]
@[simp] theorem State.publishUnits_pending (us : List Nat) : (s.publishUnits us).pending = s.pending := by
  simp [State.publishUnits]
@[simp] theorem State.disableUnit_pending (u : Nat) : (s.disableUnit u).pending = s.pending := by simp [State.disableUnit]
@[simp] theorem State.resetUnit_pending (u : Nat) : (s.resetUnit u).pending = s.pending := by simp [State.resetUnit]
@[simp] theorem State.setMember_pending (a i v : Nat) : (s.setMember a i v).pending = s.pending := by simp [State.setMember]

/-! The ledger -/

@[simp] theorem State.setPiece_pending (i : Nat) (p : Piece) : (s.setPiece i p).pending = s.pending := rfl
@[simp] theorem State.freePiece_pending (i : Nat) : (s.freePiece i).pending = s.pending := rfl
@[simp] theorem State.setOrigin_pending (c : Nat) (o : Option Origin) : (s.setOrigin c o).pending = s.pending := rfl
@[simp] theorem State.onOrigin_pending (c : Nat) (f : Origin → Origin) : (s.onOrigin c f).pending = s.pending := by
  unfold State.onOrigin
  split <;> simp
@[simp] theorem State.credit_pending (p : Piece) (f : Origin → Rat → Origin) : (s.credit p f).pending = s.pending := by
  simp [State.credit]
@[simp] theorem State.addOut_pending (key : Nat) (q : Rat) : (s.addOut key q).pending = s.pending := rfl
@[simp] theorem State.setYs_pending (y : YieldSt) : (s.setYs y).pending = s.pending := rfl
@[simp] theorem State.sealPage_pending : s.sealPage.pending = s.pending := rfl
@[simp] theorem State.showYs_pending : s.showYs.pending = s.pending := by simp [State.showYs]
@[simp] theorem State.addYield_pending (rec_ : Bytes) : (s.addYield rec_).pending = s.pending := by simp [State.addYield]
@[simp] theorem State.closeCrumb_pending (c flags : Nat) : (s.closeCrumb c flags).pending = s.pending := by
  unfold State.closeCrumb
  split <;> simp
@[simp] theorem State.retirePiece_pending (i extra : Nat) : (s.retirePiece i extra).pending = s.pending := by
  simp [State.retirePiece]
@[simp] theorem State.retireUnmeasured_pending (i extra : Nat) : (s.retireUnmeasured i extra).pending = s.pending := by
  simp [State.retireUnmeasured]
@[simp] theorem State.freeAll_pending : s.freeAll.pending = s.pending := by simp [State.freeAll]
@[simp] theorem State.closeAll_pending : s.closeAll.pending = s.pending := by simp [State.closeAll]
@[simp] theorem State.mergeRecords_pending (i j : Nat) (t : Rat) : (s.mergeRecords i j t).pending = s.pending := rfl
@[simp] theorem State.mergeTwo_pending (i j : Nat) (t : Rat) : (s.mergeTwo i j t).pending = s.pending := rfl
@[simp] theorem State.traceShare_pending (p : Piece) : (s.traceShare p).pending = s.pending := by simp [State.traceShare]
@[simp] theorem State.capacityMerge_pending (model : List StageRun) : (s.capacityMerge model).pending = s.pending := by
  dsimp only [State.capacityMerge]
  (repeat' split) <;> simp
@[simp] theorem State.takeRecord_pending (model : List StageRun) : (s.takeRecord model).1.pending = s.pending := by
  unfold State.takeRecord
  split <;> simp
@[simp] theorem State.touch_pending (i : Nat) : (s.touch i).pending = s.pending := rfl
@[simp] theorem State.standAt_pending (i : Nat) (p : Piece) (x : Nat) : (s.standAt i p x).pending = s.pending := rfl
theorem State.enterStage_pending (model : List StageRun) {next : State → Nat → Piece → Nat → State}
    (hnext : ∀ s j q x, (next s j q x).pending = s.pending) (tau : Rat) (s : State) (j : Nat) (q : Piece) (st : Nat) :
    (State.enterStage model next tau s j q st).pending = s.pending := by
  simp [State.enterStage, hnext]
theorem State.splitPiece_pending (model : List StageRun) {go : State → Nat → Piece → Nat → State}
    (hgo : ∀ s j q st, (go s j q st).pending = s.pending) (s : State) (i : Nat) (p : Piece) (g : StageRun) :
    (State.splitPiece model go s i p g).pending = s.pending := by
  dsimp only [State.splitPiece]
  rw [foldl_pending]
  · simp [hgo]
  · intro s o
    dsimp only
    split
    · rfl
    split
    · simp
    split <;> simp [hgo]
theorem State.moveOn_pending (model : List StageRun) {next : State → Nat → Piece → Nat → State}
    (hnext : ∀ s j q x, (next s j q x).pending = s.pending) (s : State) (i : Nat) (p : Piece) (x : Nat) :
    (State.moveOn model next s i p x).pending = s.pending := by
  have enters := State.enterStage_pending model hnext
  simp [State.moveOn, enters, State.splitPiece_pending model (enters _)]
@[simp] theorem State.place_pending (model : List StageRun) (fuel : Nat) (s : State) (i : Nat) (p : Piece) (x : Nat) :
    (State.place_ model fuel s i p x).pending = s.pending := by
  induction fuel generalizing s i p x with
  | zero => exact State.standAt_pending s i p x
  | succ fuel ih => exact State.moveOn_pending model ih s i p x
@[simp] theorem State.advancePiece_pending (model : List StageRun) (s : State) (i : Nat) :
    (s.advancePiece model i).pending = s.pending := by
  simp [State.advancePiece]
@[simp] theorem State.advanceAll_pending (model : List StageRun) : (s.advanceAll model).pending = s.pending := by
  simp [State.advanceAll]
@[simp] theorem State.mergeAll_pending (model : List StageRun) : (s.mergeAll model).pending = s.pending := by
  simp [State.mergeAll]
@[simp] theorem State.noteFix_pending : s.noteFix.pending = s.pending := by
  unfold State.noteFix
  split <;> simp
@[simp] theorem State.ringReuse_pending : s.ringReuse.pending = s.pending := by
  unfold State.ringReuse
  split <;> simp
@[simp] theorem State.createCrumb_pending (model : List StageRun) : (s.createCrumb model).pending = s.pending := by
  dsimp only [State.createCrumb]
  (repeat' split) <;> simp
@[simp] theorem State.setSlots_pending (m : Nat) (l : List Slot) : (s.setSlots m l).pending = s.pending := rfl
@[simp] theorem State.closeSlots_pending : s.closeSlots.pending = s.pending := by
  unfold State.closeSlots
  rw [foldl_pending]
  intro s m
  dsimp only
  split
  · rfl
  · split <;> simp
@[simp] theorem State.attributeDue_pending : s.attributeDue.pending = s.pending := by
  unfold State.attributeDue
  extract_lets p d now isDue t
  have t_pending : t.pending = s.pending := by
    refine foldl_pending _ (fun s m => ?_) _ _
    dsimp only
    split
    · exact State.setSlots_pending _ _ _
    · refine (foldl_pending _ (fun s sl => ?_) _ _).trans (State.setSlots_pending _ _ _)
      change (@ite State _ _ _ _).pending = _
      simp
  clear_value t
  split <;> exact t_pending
@[simp] theorem State.retireAndClose_pending : s.retireAndClose.pending = s.pending := by simp [State.retireAndClose]
@[simp] theorem State.clearForecast_pending (st : Nat) : (s.clearForecast st).pending = s.pending := rfl
@[simp] theorem State.dropBins_pending (st : Nat) : (s.dropBins st).pending = s.pending := by simp [State.dropBins]
@[simp] theorem State.forecastAll_pending (model : List StageRun) : (s.forecastAll model).pending = s.pending := by
  simp [State.forecastAll]
@[simp] theorem State.ledgerOut_pending (model : List StageRun) : (s.ledgerOut model).pending = s.pending := by
  simp [State.ledgerOut]
@[simp] theorem State.restoreLedger_pending : s.restoreLedger.pending = s.pending := by
  dsimp only [State.restoreLedger]
  (repeat' split) <;> simp
@[simp] theorem State.firstLedgerRun_pending : s.firstLedgerRun.pending = s.pending := by simp [State.firstLedgerRun]
@[simp] theorem State.beginCkpt_pending : s.beginCkpt.pending = s.pending := by simp [State.beginCkpt]
@[simp] theorem State.applyModel_pending (model : List StageRun) : (s.applyModel model).pending = s.pending := rfl
@[simp] theorem State.renewRatio_pending : s.renewRatio.pending = s.pending := by
  unfold State.renewRatio
  split <;> simp
@[simp] theorem State.openRun_pending : s.openRun.pending = s.pending := by simp [State.openRun]
@[simp] theorem State.ledgerStep_pending : s.ledgerStep.pending = s.pending := by simp [State.ledgerStep]
@[simp] theorem State.inSlot_pending (m k : Nat) (f : Slot → Slot) : (s.inSlot m k f).pending = s.pending := rfl
@[simp] theorem State.gapTick_pending (m k : Nat) : (s.gapTick m k).pending = s.pending := rfl
@[simp] theorem State.invalidTick_pending (k : Nat) : (s.invalidTick k).pending = s.pending := by simp [State.invalidTick]
@[simp] theorem State.sampleLedger_pending : s.sampleLedger.pending = s.pending := by simp [State.sampleLedger]
@[simp] theorem State.clearLedger_pending : s.clearLedger.pending = s.pending := by simp [State.clearLedger]
@[simp] theorem State.voidWindow_pending : s.voidWindow.pending = s.pending := rfl
@[simp] theorem State.supLosesLedger_pending : s.supLosesLedger.pending = s.pending := rfl
@[simp] theorem State.stopLedger_pending (st : Nat) : (s.stopLedger st).pending = s.pending := by simp [State.stopLedger]
@[simp] theorem State.ledgerRestart_pending : s.ledgerRestart.pending = s.pending := by simp [State.ledgerRestart]
@[simp] theorem State.enableLedger_pending : s.enableLedger.pending = s.pending := by simp [State.enableLedger]
@[simp] theorem State.disableLedger_pending : s.disableLedger.pending = s.pending := by simp [State.disableLedger]
@[simp] theorem State.sealOpen_pending : s.sealOpen.pending = s.pending := by simp [State.sealOpen]
@[simp] theorem State.putMark_pending (seq : Nat) : (s.putMark seq).pending = s.pending := by simp [State.putMark]
@[simp] theorem State.ratioWritten_pending : s.ratioWritten.pending = s.pending := rfl

/-! The supervisor, the path element and the builder -/

@[simp] theorem State.slotDefaults_pending (n : Nat) : (s.slotDefaults n).pending = s.pending := by simp [State.slotDefaults]
@[simp] theorem State.buildTemplate_pending (num : Nat) (t : Tpl) : (s.buildTemplate num t).pending = s.pending := by
  unfold State.buildTemplate
  split <;> simp
@[simp] theorem State.templateStart_pending : s.templateStart.pending = s.pending := by
  unfold State.templateStart
  rw [foldl_pending]
  intro s p
  dsimp only
  split <;> simp
@[simp] theorem State.removeTemplate_pending (a : Nat) : (s.removeTemplate a).pending = s.pending := rfl
@[simp] theorem State.pathLeave_pending (c next num : Nat) : (s.pathLeave c next num).pending = s.pending := by
  simp [State.pathLeave]
@[simp] theorem State.pathShow_pending (a1 : Option PathRun) : (s.pathShow a1).pending = s.pending := by
  unfold State.pathShow
  split <;> simp
@[simp] theorem State.pathAngle_pending (angle : Option Nat) : (s.pathAngle angle).pending = s.pending := by
  unfold State.pathAngle
  split <;> simp
@[simp] theorem State.pathStamp_pending : s.pathStamp.pending = s.pending := by simp [State.pathStamp]
@[simp] theorem State.pathOff_pending : s.pathOff.pending = s.pending := by simp [State.pathOff]
@[simp] theorem State.runPath_pending (fix : Option Fix) : (s.runPath fix).pending = s.pending := by simp [State.runPath]
@[simp] theorem State.toSup_pending (v : Nat) : (s.toSup v).pending = s.pending := rfl
@[simp] theorem State.setTarget_pending (t v : Nat) : (s.setTarget t v).pending = s.pending := rfl
@[simp] theorem State.revert_pending : s.revert.pending = s.pending := by
  unfold State.revert
  split <;> simp
@[simp] theorem State.settleToBaseline_pending : s.settleToBaseline.pending = s.pending := rfl
@[simp] theorem State.writeSymptoms_pending (obj : Nat → Nat) (r : WindowResult) :
    (s.writeSymptoms obj r).pending = s.pending := by
  simp [State.writeSymptoms]
@[simp] theorem State.takeBaseline_pending (r : WindowResult) : (s.takeBaseline r).pending = s.pending := by
  simp [State.takeBaseline]
@[simp] theorem State.makeMove_pending : s.makeMove.pending = s.pending := by
  unfold State.makeMove
  (repeat' split) <;> simp
@[simp] theorem State.judgeBaseline_pending (r : WindowResult) : (s.judgeBaseline r).pending = s.pending := by
  simp -implicitDefEqProofs [State.judgeBaseline]
@[simp] theorem State.voidTrial_pending : s.voidTrial.pending = s.pending := by simp [State.voidTrial]
@[simp] theorem State.judgeTrial_pending (r : WindowResult) : (s.judgeTrial r).pending = s.pending := by
  unfold State.judgeTrial
  split <;> simp -implicitDefEqProofs
@[simp] theorem State.supMachine_pending : s.supMachine.pending = s.pending := by
  unfold State.supMachine
  (repeat' split) <;> simp
@[simp] theorem State.supCollect_pending : s.supCollect.pending = s.pending := by
  dsimp only [State.supCollect]
  (repeat' split) <;> simp -implicitDefEqProofs
@[simp] theorem State.supApply_pending : s.supApply.pending = s.pending := by simp [State.supApply]
@[simp] theorem State.supActions_pending : s.supActions.pending = s.pending := by
  dsimp only [State.supActions]
  (repeat' split) <;> simp
@[simp] theorem State.supOut_pending : s.supOut.pending = s.pending := rfl
theorem State.withSup_pending (x : SupSt) : State.pending { s with sup := x } = s.pending := rfl
@[simp] theorem State.supStep_pending : s.supStep.pending = s.pending := by
  unfold State.supStep
  extract_lets mode entered kind counted rewrite_ stopped off offSup settled ledger settledSup judged applied chosen shown
  have counted_pending : counted.pending = s.pending := (State.modeCount_pending _ _ _).trans (State.modeEnter_pending _ _)
  have off_pending : off.pending = s.pending := by
    rw [State.toSup_pending, foldl_pending _ fun s t => State.write_pending _ _ _ _, counted_pending]
  have settled_pending : settled.pending = s.pending := by
    rw [State.supActions_pending, State.ite_pending, foldl_pending _ fun s t => State.write_pending _ _ _ _, ite_self,
      counted_pending]
  have applied_pending : applied.pending = s.pending := by
    rw [State.ite_pending, State.supApply_pending, State.withSup_pending, ite_self, settled_pending]
  clear_value applied off kind
  have chosen_pending : chosen.pending = s.pending := by
    dsimp only [chosen]
    split
    · rw [State.withSup_pending, off_pending]
    split
    · rw [State.toSup_pending, applied_pending]
    split
    · rw [State.toSup_pending, State.revert_pending, applied_pending]
    · cases kind <;> simp -implicitDefEqProofs [applied_pending]
  rw [State.supOut_pending, State.ite_pending, foldl_pending _ fun s t => State.invalidate_pending _ _, ite_self,
    chosen_pending]
@[simp] theorem State.voidIfDue_pending : s.voidIfDue.pending = s.pending := by
  unfold State.voidIfDue
  split <;> simp
@[simp] theorem State.settleIfDue_pending : s.settleIfDue.pending = s.pending := by simp [State.settleIfDue]
@[simp] theorem State.restIfDue_pending : s.restIfDue.pending = s.pending := by simp [State.restIfDue]
@[simp] theorem State.writeBase_pending (t v : Nat) : (s.writeBase t v).pending = s.pending := rfl
@[simp] theorem State.adopt_pending : s.adopt.pending = s.pending := by simp [State.adopt]
@[simp] theorem State.sampleTail_pending : s.sampleTail.pending = s.pending := by
  unfold State.sampleTail
  split <;> simp

/-! Satellite navigation -/

@[simp] theorem State.setAnt_pending (a : Nat) (x : AntSt) : (s.setAnt a x).pending = s.pending := rfl
@[simp] theorem State.antTick_pending (a : Nat) (x : Option AntSample) : (s.antTick a x).pending = s.pending := by
  dsimp only [State.antTick]
  (repeat' split) <;> simp
@[simp] theorem State.takeIntCfg_pending : s.takeIntCfg.pending = s.pending := rfl
@[simp] theorem State.noteEpochTime_pending : s.noteEpochTime.pending = s.pending := rfl
@[simp] theorem State.epochBoundary_pending : s.epochBoundary.pending = s.pending := by simp [State.epochBoundary]
@[simp] theorem State.agcTick_pending (a b raw : Nat) : (s.agcTick a b raw).pending = s.pending := by
  dsimp only [State.agcTick]
  (repeat' split) <;> simp
@[simp] theorem State.agcStop_pending : s.agcStop.pending = s.pending := rfl
@[simp] theorem State.antennas_pending (xs : List AntSample) : (s.antennas xs).pending = s.pending := by simp [State.antennas]
@[simp] theorem State.drawBytes_pending (n : Nat) (s : State) : (State.drawBytes n s).2.pending = s.pending := by
  induction n generalizing s with
  | zero => rfl
  | succ n ih => exact (ih _).trans rfl
@[simp] theorem State.slotBytes_pending (slot : Nat) : (s.slotBytes slot).2.pending = s.pending := by
  unfold State.slotBytes
  split <;> simp
@[simp] theorem State.putGnssRecord_pending (mk : Nat → Bytes) : (s.putGnssRecord mk).pending = s.pending := by
  simp [State.putGnssRecord]
@[simp] theorem State.writePos_pending (r : PosResult) : (s.writePos r).pending = s.pending := by simp [State.writePos]
@[simp] theorem State.noBaseline_pending : s.noBaseline.pending = s.pending := by simp [State.noBaseline]
@[simp] theorem State.movingBaseline_pending (mb : List MbEst) (heading : Option Rat) (epoch : Nat) :
    (s.movingBaseline mb heading epoch).pending = s.pending := by
  unfold State.movingBaseline
  (repeat' split) <;> simp
@[simp] theorem State.isoOffsets_pending (e : PosEst) : (s.isoOffsets e).pending = s.pending := by simp [State.isoOffsets]
@[simp] theorem State.intState_pending (epoch : Nat) : (s.intState epoch).pending = s.pending := by simp [State.intState]
@[simp] theorem State.signalChecks_pending (epoch : Nat) : (s.signalChecks epoch).1.pending = s.pending := rfl
@[simp] theorem State.integrity_pending (outs : List CheckOut) (e : Option Int) (epoch : Nat) :
    (s.integrity outs e epoch).pending = s.pending := by
  simp [State.integrity]
@[simp] theorem State.posRun_pending (e : PosEst) : (s.posRun e).pending = s.pending := by
  dsimp only [State.posRun]
  rw [State.ite_pending, State.runPath_pending, ite_self, State.isoOffsets_pending, State.movingBaseline_pending]
  split <;> simp -implicitDefEqProofs only [↓State.invalidate_pending, ↓State.write_pending, ↓State.writePos_pending,
    ↓State.integrity_pending, ↓State.signalChecks_pending, ↓State.modeCount_pending, ↓State.modeEnter_pending]
@[simp] theorem State.posStart_pending : s.posStart.pending = s.pending := by simp [State.posStart]
@[simp] theorem State.steerStart_pending : s.steerStart.pending = s.pending := rfl
theorem State.resumeUnit_pending (u : Nat) (start : State → State) (h : ∀ s, (start s).pending = s.pending) :
    (s.resumeUnit u start).pending = s.pending := by
  simp [State.resumeUnit, h]
@[simp] theorem State.gnssEnable_pending : s.gnssEnable.pending = s.pending := by
  unfold State.gnssEnable
  exact (State.resumeUnit_pending _ _ _ State.steerStart_pending).trans (State.resumeUnit_pending _ _ _ State.posStart_pending)
@[simp] theorem State.applyMasks_pending : s.applyMasks.pending = s.pending := by simp [State.applyMasks]
@[simp] theorem State.takeCorrection_pending (i : Nat) : (s.takeCorrection i).pending = s.pending := by
  dsimp only [State.takeCorrection]
  (repeat' split) <;> simp
@[simp] theorem State.gnssCapture_pending : s.gnssCapture.pending = s.pending := by
  simp -implicitDefEqProofs [State.gnssCapture]
@[simp] theorem State.applyTm_pending : s.applyTm.pending = s.pending := by simp [State.applyTm]

/-! Imaging -/

@[simp] theorem State.setStream_pending (n : Nat) (x : StreamSt) : (s.setStream n x).pending = s.pending := rfl
@[simp] theorem State.streamState_pending (n : Nat) : (s.streamState n).pending = s.pending := by simp [State.streamState]
@[simp] theorem State.streamStates_pending : s.streamStates.pending = s.pending := by simp [State.streamStates]
@[simp] theorem State.closeFrame_pending (n t how : Nat) : (s.closeFrame n t how).pending = s.pending := by
  unfold State.closeFrame
  extract_lets
  split <;> simp
@[simp] theorem State.commit_pending (n : Nat) : (s.commit n).pending = s.pending := rfl
@[simp] theorem State.focusBegin_pending (n : Nat) : (s.focusBegin n).pending = s.pending := rfl
@[simp] theorem State.streamOn_pending (n : Nat) : (s.streamOn n).pending = s.pending := by simp [State.streamOn]
@[simp] theorem State.strEnable_pending (n : Nat) : (s.strEnable n).pending = s.pending := by simp [State.strEnable]
@[simp] theorem State.strDisable_pending (n : Nat) : (s.strDisable n).pending = s.pending := rfl
@[simp] theorem State.closePort_pending (p t : Nat) : (s.closePort p t).pending = s.pending := by simp [State.closePort]
@[simp] theorem State.setTried_pending (p : Nat) : (s.setTried p).pending = s.pending := rfl
@[simp] theorem State.portTries_pending (p : Nat) : (s.portTries p).pending = s.pending := rfl
@[simp] theorem State.portRests_pending (p : Nat) : (s.portRests p).pending = s.pending := rfl
@[simp] theorem State.portOn_pending (p : Nat) : (s.portOn p).pending = s.pending := by simp [State.portOn]
@[simp] theorem State.imgJoin_pending (was : Sparse Nat) : (s.imgJoin was).pending = s.pending := by simp [State.imgJoin]
@[simp] theorem State.imgDown_pending : s.imgDown.pending = s.pending := by simp [State.imgDown]
@[simp] theorem State.imgStart_pending : s.imgStart.pending = s.pending := by simp [State.imgStart]
@[simp] theorem State.applyCommit_pending (n t : Nat) : (s.applyCommit n t).pending = s.pending := by
  unfold State.applyCommit
  extract_lets
  split <;> simp
@[simp] theorem State.camWrites_pending (n : Nat) (acks : List Bool) : (s.camWrites n acks).pending = s.pending := by
  dsimp only [State.camWrites]
  (repeat' split) <;> simp
@[simp] theorem State.openFrame_pending (n t csi : Nat) (acks : List Bool) :
    (s.openFrame n t csi acks).pending = s.pending := by
  simp [State.openFrame]
@[simp] theorem State.badHeader_pending (p : Nat) : (s.badHeader p).pending = s.pending := by simp [State.badHeader]
@[simp] theorem State.takeLine_pending (n : Nat) (l : CamLine) : (s.takeLine n l).pending = s.pending := by
  unfold State.takeLine
  extract_lets
  split <;> simp
@[simp] theorem State.askExposure_pending (n : Nat) (b : Bytes) : (s.askExposure n b).pending = s.pending := rfl
@[simp] theorem State.focusTo_pending (n p : Nat) : (s.focusTo n p).pending = s.pending := by simp [State.focusTo]
@[simp] theorem State.climb_pending (n : Nat) (r : FocusRec) : (s.climb n r).pending = s.pending := by simp [State.climb]
@[simp] theorem State.climbUnapplied_pending (n : Nat) (r : FocusRec) : (s.climbUnapplied n r).pending = s.pending := by
  simp [State.climbUnapplied]
@[simp] theorem State.focusStep_pending (n : Nat) : (s.focusStep n).pending = s.pending := by
  dsimp only [State.focusStep]
  (repeat' split) <;> simp
@[simp] theorem State.takeUnused_pending (n : Nat) : (s.takeUnused n).pending = s.pending := by simp [State.takeUnused]
@[simp] theorem State.takeHold_pending (n : Nat) : (s.takeHold n).pending = s.pending := by simp [State.takeHold]
@[simp] theorem State.pendRequest_pending (n : Nat) (r : Nat × Nat × Nat) : (s.pendRequest n r).pending = s.pending := by
  simp [State.pendRequest]
@[simp] theorem State.takeExposure_pending (n : Nat) : (s.takeExposure n).pending = s.pending := by simp [State.takeExposure]
@[simp] theorem State.streamCapture_pending (n : Nat) : (s.streamCapture n).pending = s.pending := by
  dsimp only [State.streamCapture]
  (repeat' split) <;> simp
@[simp] theorem State.imgCapture_pending : s.imgCapture.pending = s.pending := by simp [State.imgCapture]
theorem State.imgWrite_keepsPending (key v : Nat) (b : Bytes) : KeepsPendingIfSome s (s.imgWrite key v b) := by
  simp [State.imgWrite]

/-! The CAN controllers -/

@[simp] theorem State.setCan_pending (c : Nat) (x : CanSt) : (s.setCan c x).pending = s.pending := rfl
@[simp] theorem State.canRates_pending (c : Nat) : (s.canRates c).pending = s.pending := rfl
@[simp] theorem State.rxOld_pending (c i : Nat) : (s.rxOld c i).2.pending = s.pending := by
  unfold State.rxOld
  extract_lets
  split <;> simp
@[simp] theorem State.ringWrite_pending (c : Nat) (f : CanFrame) (sof : Nat) (own : Bool) :
    (s.ringWrite c f sof own).pending = s.pending := by
  simp [State.ringWrite]
@[simp] theorem State.drain_pending (c : Nat) : (s.drain c).pending = s.pending := by simp [State.drain]
@[simp] theorem State.receive_pending (c : Nat) (f : CanFrame) (sof : Nat) (own dram : Bool) :
    (s.receive c f sof own dram).pending = s.pending := by
  simp [State.receive]
@[simp] theorem State.setIso_pending (f : IsoSt → IsoSt) : (s.setIso f).pending = s.pending := rfl
@[simp] theorem State.isoResult_pending (n v : Nat) : (s.isoResult n v).pending = s.pending := by simp [State.isoResult]
@[simp] theorem State.slotFrame_pending (slot : Option Nat) (sent : Bool) : (s.slotFrame slot sent).pending = s.pending := by
  unfold State.slotFrame
  split <;> simp
@[simp] theorem State.feed_pending (c : Nat) : (s.feed c).pending = s.pending := rfl
@[simp] theorem State.stateFrame_pending (c : Nat) (f : CanFrame) : (s.stateFrame c f).pending = s.pending := by
  simp [State.stateFrame]
@[simp] theorem State.seqFrame_pending (c : Nat) (f : CanFrame) (slot : optParam (Option Nat) none) :
    (s.seqFrame c f slot).pending = s.pending := by
  simp [State.seqFrame]
@[simp] theorem State.setBuf_pending (c b : Nat) (f : TxBuf → TxBuf) : (s.setBuf c b f).pending = s.pending := by
  simp [State.setBuf]
@[simp] theorem State.endBuf_pending (c b result stamp : Nat) : (s.endBuf c b result stamp).pending = s.pending := by
  simp [State.endBuf]
@[simp] theorem State.leaveBus_pending (c : Nat) : (s.leaveBus c).pending = s.pending := by simp [State.leaveBus]
@[simp] theorem State.leaveIfDue_pending (c : Nat) : (s.leaveIfDue c).pending = s.pending := by simp [State.leaveIfDue]
@[simp] theorem State.tdcMeasured_pending (c : Nat) (f : CanFrame) (delay : Nat) :
    (s.tdcMeasured c f delay).pending = s.pending := by
  simp [State.tdcMeasured]
@[simp] theorem State.askRecover_pending (c : Nat) : (s.askRecover c).pending = s.pending := rfl
@[simp] theorem State.canOn_pending (c : Nat) : (s.canOn c).pending = s.pending := rfl
@[simp] theorem State.canOff_pending (c : Nat) : (s.canOff c).pending = s.pending := rfl
@[simp] theorem State.canFollow_pending (was : List (Nat × Bool)) : (s.canFollow was).pending = s.pending := by
  simp [State.canFollow]
@[simp] theorem State.drainMaybe_pending (c : Nat) : (s.drainMaybe c).pending = s.pending := by simp [State.drainMaybe]
@[simp] theorem State.canBoundary_pending (c : Nat) : (s.canBoundary c).pending = s.pending := by simp [State.canBoundary]
@[simp] theorem State.canDown_pending (c : Nat) : (s.canDown c).pending = s.pending := by simp [State.canDown]
@[simp] theorem State.canCapture_pending (c : Nat) : (s.canCapture c).pending = s.pending := by simp [State.canCapture]
theorem State.canWrite_keepsPending (key v : Nat) : KeepsPendingIfSome s (s.canWrite key v) := by simp [State.canWrite]

/-! ISO nodes and Ethernet -/

@[simp] theorem State.stage_pending (x : Staged) : (s.stage x).pending = s.pending := rfl
@[simp] theorem State.stageUdp_pending (ports dest : Nat) (data : Bytes) :
    (s.stageUdp ports dest data).pending = s.pending := by
  simp [State.stageUdp]
@[simp] theorem State.flushStaged_pending : s.flushStaged.pending = s.pending := by
  unfold State.flushStaged
  rw [foldl_pending]
  intro s x
  dsimp only
  split <;> simp
@[simp] theorem State.buildHeartbeat_pending : s.buildHeartbeat.pending = s.pending := by simp [State.buildHeartbeat]
@[simp] theorem State.applyHb_pending : s.applyHb.pending = s.pending := by simp [State.applyHb]
@[simp] theorem State.buildTimeMessage_pending : s.buildTimeMessage.pending = s.pending := by simp [State.buildTimeMessage]
@[simp] theorem State.isoStateFrame_pending (f : CanFrame) : (s.isoStateFrame f).pending = s.pending := by
  unfold State.isoStateFrame
  split <;> simp
@[simp] theorem State.isoSeqFrame_pending (f : CanFrame) (slot : optParam (Option Nat) none) :
    (s.isoSeqFrame f slot).pending = s.pending := by
  unfold State.isoSeqFrame
  split <;> simp
@[simp] theorem State.sendClaim_pending (addr : Nat) : (s.sendClaim addr).pending = s.pending := by simp [State.sendClaim]
@[simp] theorem State.claim_pending (addr : Nat) : (s.claim addr).pending = s.pending := by simp [State.claim]
@[simp] theorem State.addrLost_pending (addr : Nat) : (s.addrLost addr).pending = s.pending := by simp [State.addrLost]
@[simp] theorem State.isoOff_pending : s.isoOff.pending = s.pending := rfl
@[simp] theorem State.setTx_pending (n : Nat) (x : Option TpTx) : (s.setTx n x).pending = s.pending := rfl
@[simp] theorem State.cm_pending (ext : Bool) (dest : Nat) (b : Bytes) : (s.cm ext dest b).pending = s.pending := by
  simp [State.cm]
@[simp] theorem State.tpAbort_pending (ext : Bool) (dest pgn reason : Nat) :
    (s.tpAbort ext dest pgn reason).pending = s.pending := by
  simp [State.tpAbort]
@[simp] theorem State.isoSend_pending (n prio dest pgn : Nat) (data : Bytes) :
    (s.isoSend n prio dest pgn data).pending = s.pending := by
  simp [State.isoSend]
@[simp] theorem State.bamStep_pending (n : Nat) : (s.bamStep n).pending = s.pending := by
  unfold State.bamStep
  (repeat' split) <;> simp
@[simp] theorem State.sendBlock_pending (x : TpTx) (first n : Nat) : (s.sendBlock x first n).pending = s.pending := by
  simp [State.sendBlock]
@[simp] theorem State.tpCts_pending (x : TpRx) : (s.tpCts x).1.pending = s.pending := by simp [State.tpCts]
@[simp] theorem State.isoRecord_pending (x : TpRx) (t : Nat) : (s.isoRecord x t).pending = s.pending := by
  simp [State.isoRecord]
@[simp] theorem State.markIso_pending : s.markIso.pending = s.pending := by simp [State.markIso]
@[simp] theorem State.tpData_pending (x : TpRx) (rest : List TpRx) (data : Bytes) (t : Nat) :
    (s.tpData x rest data t).pending = s.pending := by
  simp [State.tpData]
@[simp] theorem State.tpOpen_pending (x : TpRx) : (s.tpOpen x).pending = s.pending := by simp [State.tpOpen]
@[simp] theorem State.tpControl_pending (ext : Bool) (src dest prio : Nat) (d : Bytes) :
    (s.tpControl ext src dest prio d).pending = s.pending := by
  unfold State.tpControl
  extract_lets
  split <;> simp
@[simp] theorem State.isoTakeover_pending : s.isoTakeover.pending = s.pending := by simp [State.isoTakeover]
@[simp] theorem State.noteDtcs_pending (l : List Nat) : (s.noteDtcs l).pending = s.pending := by
  simp -implicitDefEqProofs [State.noteDtcs]
@[simp] theorem State.sendDm1_pending (b : Bytes) : (s.sendDm1 b).pending = s.pending := by simp [State.sendDm1]
@[simp] theorem State.dm1Run_pending : s.dm1Run.pending = s.pending := by
  dsimp only [State.dm1Run]
  (repeat' split) <;> simp
@[simp] theorem State.mdpArrive_pending (m : MdpMsg) : (s.mdpArrive m).pending = s.pending := by
  unfold State.mdpArrive
  split <;> simp
@[simp] theorem State.segmentAnswer_pending (o : Out) : (s.segmentAnswer o).pending = s.pending := by
  unfold State.segmentAnswer
  split <;> simp
@[simp] theorem State.segmentAnswers_pending : s.segmentAnswers.pending = s.pending := by simp [State.segmentAnswers]
@[simp] theorem State.countSent_pending : s.countSent.pending = s.pending := by
  unfold State.countSent
  rw [foldl_pending]
  intro s o
  dsimp only
  split <;> simp
@[simp] theorem State.gptpForeign_pending : s.gptpForeign.pending = s.pending := by simp [State.gptpForeign]
@[simp] theorem State.ethPower_pending (p : Nat) (on : Bool) : (s.ethPower p on).pending = s.pending := by simp [State.ethPower]
@[simp] theorem State.ethApply_pending (rd : Nat → Nat) (s : State) (p : Nat) : (s.ethApply rd p).pending = s.pending := by
  simp [State.ethApply]
@[simp] theorem State.ethDown_pending : s.ethDown.pending = s.pending := by simp [State.ethDown]
@[simp] theorem State.isoBoundary_pending : s.isoBoundary.pending = s.pending := by simp [State.isoBoundary]
@[simp] theorem State.netCapture_pending : s.netCapture.pending = s.pending := by simp [State.netCapture]
@[simp] theorem State.netStart_pending : s.netStart.pending = s.pending := by simp [State.netStart]
theorem State.netWrite_keepsPending (key v : Nat) : KeepsPendingIfSome s (s.netWrite key v) := by simp [State.netWrite]

/-! Module time -/

@[simp] theorem State.landArea_pending (key : Nat) (a : AppArea) : (s.landArea key a).pending = s.pending := by
  simp [State.landArea]
@[simp] theorem State.blockWrite_pending (core : Fin 4) (offset : Nat) : (s.blockWrite core offset).pending = s.pending := rfl
@[simp] theorem State.blockArea_pending (core : Fin 4) (key : Nat) : (s.blockArea core key).pending = s.pending := by
  simp [State.blockArea]
@[simp] theorem State.appWrite_pending (core : Fin 4) (key : Nat) (a : AppArea) :
    (s.appWrite core key a).pending = s.pending := by
  simp [State.appWrite]
@[simp] theorem State.addOverruns_pending (e n : Nat) : (s.addOverruns e n).pending = s.pending := rfl
@[simp] theorem State.engineDeadline_pending (e : Nat) (late : Bool) : (s.engineDeadline e late).pending = s.pending := by
  unfold State.engineDeadline
  split <;> simp
@[simp] theorem State.supInit_pending : s.supInit.pending = s.pending := by simp -implicitDefEqProofs [State.supInit]
@[simp] theorem State.pathInit_pending : s.pathInit.pending = s.pending := rfl
@[simp] theorem State.faultUnit_pending (u code : Nat) : (s.faultUnit u code).pending = s.pending := by simp [State.faultUnit]
@[simp] theorem State.restartEngine_pending (e : Nat) : (s.restartEngine e).pending = s.pending := rfl
@[simp] theorem State.engineStart_pending (e : Nat) : (s.engineStart e).pending = s.pending := by simp [State.engineStart]
@[simp] theorem State.holdover_pending : s.holdover.pending = s.pending := by simp [State.holdover]
@[simp] theorem State.setOffset_pending (e : Int) : (s.setOffset e).pending = s.pending := by simp [State.setOffset]
@[simp] theorem State.toOffset_pending : s.toOffset.pending = s.pending := by simp [State.toOffset]
@[simp] theorem State.track_pending (e : Int) : (s.track e).pending = s.pending := by simp [State.track]
@[simp] theorem State.measured_pending (e : Int) : (s.measured e).pending = s.pending := rfl
@[simp] theorem State.steer_pending (e : Int) : (s.steer e).pending = s.pending := by simp [State.steer]
@[simp] theorem State.unsteered_pending (excluded : Bool) : (s.unsteered excluded).pending = s.pending := by
  simp [State.unsteered]
@[simp] theorem State.followTimeState_pending (v : Nat) : (s.followTimeState v).pending = s.pending := by
  simp [State.followTimeState]
@[simp] theorem State.timeTick_pending : s.timeTick.pending = s.pending := by simp [State.timeTick]
@[simp] theorem State.gptpPortsWritten_pending (v : Nat) : (s.gptpPortsWritten v).pending = s.pending := rfl
@[simp] theorem State.gptpApply_pending : s.gptpApply.pending = s.pending := rfl

/-! Sensing -/

@[simp] theorem State.setLs_pending (n : Nat) (x : LsSt) : (s.setLs n x).pending = s.pending := rfl
@[simp] theorem State.setUi_pending (n : Nat) (x : UiSt) : (s.setUi n x).pending = s.pending := rfl
@[simp] theorem State.setSs_pending (n : Nat) (x : SsSt) : (s.setSs n x).pending = s.pending := rfl
@[simp] theorem State.lsTake_pending (n : Nat) (r : LsSt × List LsEvent) : (s.lsTake n r).pending = s.pending := rfl
@[simp] theorem State.lsRestart_pending (n : Nat) : (s.lsRestart n).pending = s.pending := by simp [State.lsRestart]
@[simp] theorem State.lsRestartDue_pending (n : Nat) : (s.lsRestartDue n).pending = s.pending := by
  unfold State.lsRestartDue
  split <;> simp
@[simp] theorem State.lateTick_pending : s.lateTick.pending = s.pending := by simp [State.lateTick]
@[simp] theorem State.lsLate_pending (n : Nat) : (s.lsLate n).pending = s.pending := by simp [State.lsLate]
@[simp] theorem State.lsCapture_pending (inp : List LsSample) (n : Nat) : (s.lsCapture inp n).pending = s.pending := by
  unfold State.lsCapture
  (repeat' split) <;> simp
@[simp] theorem State.uiWrite_pending (n eng st : Nat) : (s.uiWrite n eng st).pending = s.pending := rfl
@[simp] theorem State.uiCountBad_pending (n : Nat) : (s.uiCountBad n).pending = s.pending := by simp [State.uiCountBad]
@[simp] theorem State.uiRewrite_pending (n eng st : Nat) : (s.uiRewrite n eng st).pending = s.pending := by
  simp [State.uiRewrite]
@[simp] theorem State.uiLate_pending (n : Nat) : (s.uiLate n).pending = s.pending := by simp [State.uiLate]
@[simp] theorem State.uiQuadMissing_pending (n : Nat) : (s.uiQuadMissing n).pending = s.pending := by simp [State.uiQuadMissing]
@[simp] theorem State.uiAnalogueIn_pending (n : Nat) (a : UiSample) : (s.uiAnalogueIn n a).pending = s.pending := by
  simp [State.uiAnalogueIn]
@[simp] theorem State.uiDigitalIn_pending (n : Nat) (a : UiSample) : (s.uiDigitalIn n a).pending = s.pending := by
  simp [State.uiDigitalIn]
@[simp] theorem State.uiFrequencyIn_pending (n : Nat) (a : UiSample) : (s.uiFrequencyIn n a).pending = s.pending := by
  simp [State.uiFrequencyIn]
@[simp] theorem State.uiQuadIn_pending (n : Nat) (a b : UiSample) : (s.uiQuadIn n a b).pending = s.pending := by
  simp [State.uiQuadIn]
theorem State.uiWindow_keepsPending (inp : List UiSample) (n : Nat) : KeepsPendingIfSome s (s.uiWindow inp n) := by
  unfold State.uiWindow
  extract_lets at_ m
  split
  · split
    · simp
    · split <;> simp
  · split <;> simp
@[simp] theorem State.uiEntry_pending (inp : List UiSample) (n : Nat) (restarts : Bool) :
    (s.uiEntry inp n restarts).pending = s.pending := by
  unfold State.uiEntry
  split
  · simp
  split
  next t ht => rw [State.uiCountBad_pending, s.uiWindow_keepsPending inp n t ht]
  next => simp
@[simp] theorem State.uiCapture_pending (inp : List UiSample) (n : Nat) : (s.uiCapture inp n).pending = s.pending := by
  simp [State.uiCapture]
@[simp] theorem State.uiRestart_pending (n : Nat) : (s.uiRestart n).pending = s.pending := rfl
@[simp] theorem State.uiMode_pending (n m : Nat) : (s.uiMode n m).pending = s.pending := by simp [State.uiMode]
@[simp] theorem State.uiSetCount_pending (n : Nat) (v : Int) : (s.uiSetCount n v).pending = s.pending := rfl
@[simp] theorem State.ssCapture_pending (inp : List SsSample) (n : Nat) : (s.ssCapture inp n).pending = s.pending := by
  unfold State.ssCapture
  (repeat' split) <;> simp
@[simp] theorem State.ssRearm_pending (n : Nat) : (s.ssRearm n).pending = s.pending := rfl
@[simp] theorem State.xvCapture_pending (n : Nat) : (s.xvCapture n).pending = s.pending := by simp [State.xvCapture]
@[simp] theorem State.senseCapture_pending (inp : TickIn) : (s.senseCapture inp).pending = s.pending := by
  simp [State.senseCapture]
@[simp] theorem State.senseStart_pending : s.senseStart.pending = s.pending := by simp [State.senseStart]
@[simp] theorem State.senseDown_pending : s.senseDown.pending = s.pending := by simp [State.senseDown]
theorem State.senseWrite_keepsPending (key v : Nat) : KeepsPendingIfSome s (s.senseWrite key v) := by simp [State.senseWrite]

/-! The switches -/

@[simp] theorem State.setCh_pending (n : Nat) (x : ChSt) : (s.setCh n x).pending = s.pending := rfl
@[simp] theorem State.setBank_pending (b : Nat) (x : BankSt) : (s.setBank b x).pending = s.pending := rfl
@[simp] theorem State.putOn_pending (n : Nat) (on : Bool) : (s.putOn n on).pending = s.pending := rfl
@[simp] theorem State.chBit_pending (n i : Nat) (b : Bool) : (s.chBit n i b).pending = s.pending := rfl
@[simp] theorem State.bankBit_pending (b i : Nat) (v : Bool) : (s.bankBit b i v).pending = s.pending := rfl
@[simp] theorem State.wireUpdate_pending (n : Nat) : (s.wireUpdate n).pending = s.pending := rfl
@[simp] theorem State.chMeasured_pending (n : Nat) (a : ChSample) : (s.chMeasured n a).pending = s.pending := rfl
@[simp] theorem State.chFields_pending (n : Nat) (limit : Bool) : (s.chFields n limit).pending = s.pending := rfl
@[simp] theorem State.chCapture_pending (inp : List ChSample) (s : State) (n : Nat) :
    (s.chCapture inp n).pending = s.pending := by
  unfold State.chCapture
  split <;> simp
@[simp] theorem State.chUnseen_pending (n : Nat) : (s.chUnseen n).pending = s.pending := by simp [State.chUnseen]
@[simp] theorem State.bankSag_pending (inp : TickIn) (s : State) (b : Nat) : (s.bankSag inp b).pending = s.pending := by
  simp [State.bankSag]
@[simp] theorem State.bankCapture_pending (inp : TickIn) (s : State) (b : Nat) :
    (State.bankCapture inp s b).pending = s.pending := by
  dsimp only [State.bankCapture]
  generalize (inp.bank.find? fun a => a.b == b) = sample
  cases sample
  · simp only [↓State.clearInput_pending, ↓State.lateTick_pending, ↓State.setBank_pending]
  · simp only [↓State.capture_pending, ↓State.setAll_pending, ↓State.setBank_pending]
@[simp] theorem State.bankEntry_pending (inp : TickIn) (s : State) (b : Nat) : (s.bankEntry inp b).pending = s.pending := by
  simp [State.bankEntry]
@[simp] theorem State.swCapture_pending (inp : TickIn) : (s.swCapture inp).pending = s.pending := by simp [State.swCapture]
@[simp] theorem State.shedBit_pending (n : Nat) (v : Bool) : (s.shedBit n v).pending = s.pending := rfl
@[simp] theorem State.enterCh_pending (n st : Nat) : (s.enterCh n st).pending = s.pending := by simp [State.enterCh]
@[simp] theorem State.shedNoted_pending (b : Nat) : (s.shedNoted b).pending = s.pending := rfl
@[simp] theorem State.switchOn_pending (n : Nat) : (s.switchOn n).pending = s.pending := by simp [State.switchOn]
@[simp] theorem State.zeroRules_pending (n : Nat) : (s.zeroRules n).pending = s.pending := by simp [State.zeroRules]
@[simp] theorem State.tripRecord_pending (n cause : Nat) : (s.tripRecord n cause).pending = s.pending := rfl
@[simp] theorem State.trip_pending (n cause : Nat) : (s.trip n cause).pending = s.pending := by simp [State.trip]
@[simp] theorem State.holdTrip_pending (n : Nat) : (s.holdTrip n).pending = s.pending := by
  unfold State.holdTrip
  split <;> simp
@[simp] theorem State.rearmDo_pending (n : Nat) : (s.rearmDo n).pending = s.pending := by simp [State.rearmDo]
@[simp] theorem State.chTrips_pending (n : Nat) (d : Nat × Bool) : (s.chTrips n d).pending = s.pending := by
  unfold State.chTrips
  (repeat' split) <;> simp
@[simp] theorem State.shed_pending (n : Nat) : (s.shed n).pending = s.pending := by simp [State.shed]
@[simp] theorem State.bankShed_pending (b : Nat) : (s.bankShed b).pending = s.pending := by
  unfold State.bankShed
  split <;> simp
@[simp] theorem State.chByDemand_pending (n : Nat) : (s.chByDemand n).pending = s.pending := by simp [State.chByDemand]
@[simp] theorem State.olOn_pending (n : Nat) : (s.olOn n).pending = s.pending := by simp [State.olOn]
@[simp] theorem State.olLearn_pending (n : Nat) : (s.olLearn n).pending = s.pending := by
  unfold State.olLearn
  split <;> simp
@[simp] theorem State.olOff_pending (n : Nat) : (s.olOff n).pending = s.pending := by simp [State.olOff]
@[simp] theorem State.fuseRun_pending (b : Nat) : (s.fuseRun b).1.pending = s.pending := by
  dsimp only [State.fuseRun]
  (repeat' split) <;> simp
@[simp] theorem State.assistedTrip_pending (b : Nat) : (s.assistedTrip b).pending = s.pending := by simp [State.assistedTrip]
@[simp] theorem State.chTake_pending (n : Nat) : (s.chTake n).pending = s.pending := rfl
@[simp] theorem State.bankEval_pending (b : Nat) : (s.bankEval b).pending = s.pending := by simp [State.bankEval]
@[simp] theorem State.swEnd_pending : s.swEnd.pending = s.pending := by simp [State.swEnd]
@[simp] theorem State.chNotes_pending (held : Bool) (n : Nat) : (s.chNotes held n).pending = s.pending := rfl
@[simp] theorem State.chApply_pending (k : Nat) (s : State) (n : Nat) : (s.chApply k n).pending = s.pending := by
  simp [State.chApply]
@[simp] theorem State.swBoundary_pending (k : Nat) : (s.swBoundary k).pending = s.pending := by simp [State.swBoundary]
@[simp] theorem State.swOff_pending : s.swOff.pending = s.pending := by simp [State.swOff]
@[simp] theorem State.chStart_pending (n : Nat) : (s.chStart n).pending = s.pending := by simp [State.chStart]
@[simp] theorem State.swStart_pending : s.swStart.pending = s.pending := by simp [State.swStart]
@[simp] theorem State.swStartHeld_pending : s.swStartHeld.pending = s.pending := by simp [State.swStartHeld]
@[simp] theorem State.swHold_pending : s.swHold.pending = s.pending := by simp [State.swHold]
@[simp] theorem State.rearmCh_pending (n : Nat) : (s.rearmCh n).pending = s.pending := rfl
@[simp] theorem State.energy_pending (n : Nat) (i : Rat) : (s.energy n i).2.pending = s.pending := by
  unfold State.energy
  split <;> simp
@[simp] theorem State.pwmBegin_pending (n duty : Nat) : (s.pwmBegin n duty).pending = s.pending := by simp [State.pwmBegin]
@[simp] theorem State.pwmRefuse_pending (n e : Nat) : (s.pwmRefuse n e).pending = s.pending := by simp [State.pwmRefuse]
@[simp] theorem State.learnCh_pending (n : Nat) : (s.learnCh n).pending = s.pending := rfl
theorem State.swWrite_keepsPending (key v : Nat) : KeepsPendingIfSome s (s.swWrite key v) := by simp [State.swWrite]

/-! The valve drives -/

@[simp] theorem State.setVd_pending (n : Nat) (x : VdSt) : (s.setVd n x).pending = s.pending := rfl
@[simp] theorem State.groupOn_pending (g : Nat) : (s.groupOn g).pending = s.pending := by simp [State.groupOn]
@[simp] theorem State.beginBoost_pending (n t : Nat) : (s.beginBoost n t).pending = s.pending := by simp [State.beginBoost]
@[simp] theorem State.releaseBoost_pending (n t : Nat) : (s.releaseBoost n t).pending = s.pending := by
  simp [State.releaseBoost]
@[simp] theorem State.toHold_pending (n t : Nat) : (s.toHold n t).pending = s.pending := by simp [State.toHold]
@[simp] theorem State.toTransition_pending (n : Nat) : (s.toTransition n).pending = s.pending := rfl
@[simp] theorem State.afterPeak_pending (n t : Nat) (bare : Bool) : (s.afterPeak n t bare).pending = s.pending := by
  simp [State.afterPeak]
@[simp] theorem State.afterBoost_pending (n t : Nat) : (s.afterBoost n t).pending = s.pending := by simp [State.afterBoost]
@[simp] theorem State.startProfile_pending (n t : Nat) (len : Option Nat) : (s.startProfile n t len).pending = s.pending := by
  simp [State.startProfile]
@[simp] theorem State.stageOff_pending (n t : Nat) : (s.stageOff n t).pending = s.pending := by simp [State.stageOff]
@[simp] theorem State.vdOff_pending (n t : Nat) : (s.vdOff n t).pending = s.pending := by simp [State.vdOff]
@[simp] theorem State.vdFault_pending (n f t : Nat) : (s.vdFault n f t).pending = s.pending := by simp [State.vdFault]
@[simp] theorem State.vdFaultEvent_pending (n f : Nat) : (s.vdFaultEvent n f).pending = s.pending := rfl
@[simp] theorem State.vdCommandOff_pending (n t : Nat) : (s.vdCommandOff n t).pending = s.pending := by
  simp [State.vdCommandOff]
@[simp] theorem State.vdTake_pending (t n : Nat) : (s.vdTake t n).pending = s.pending := by
  unfold State.vdTake
  extract_lets x y u
  split
  · simp
  split
  · simp [u]
  split
  · split <;> simp [u]
  · rw [State.ite_pending, State.ite_pending, State.vdCommandOff_pending, State.toTransition_pending, ite_self, ite_self,
      State.setVd_pending, State.setVd_pending]
@[simp] theorem State.groupBoundary_pending (g : Nat) : (s.groupBoundary g).pending = s.pending := rfl
@[simp] theorem State.boostSettle_pending (t : Nat) (s : State) (g : Nat) : (s.boostSettle t g).pending = s.pending := by
  simp [State.boostSettle]
@[simp] theorem State.vdClear_pending (n : Nat) : (s.vdClear n).pending = s.pending := rfl
@[simp] theorem State.vdDisabled_pending (n : Nat) : (s.vdDisabled n).pending = s.pending := by simp [State.vdDisabled]
@[simp] theorem State.vdRearmed_pending (n : Nat) : (s.vdRearmed n).pending = s.pending := by simp [State.vdRearmed]
@[simp] theorem State.hgRearmed_pending (g : Nat) : (s.hgRearmed g).pending = s.pending := by simp [State.hgRearmed]
@[simp] theorem State.vdNotes_pending (n : Nat) : (s.vdNotes n).pending = s.pending := rfl
@[simp] theorem State.vdApply_pending (t : Nat) : (s.vdApply t).pending = s.pending := by simp [State.vdApply]
@[simp] theorem State.rearmsPast_pending : s.rearmsPast.pending = s.pending := by simp [State.rearmsPast]
@[simp] theorem State.vdEnd_pending (t : Nat) : (s.vdEnd t).pending = s.pending := by simp [State.vdEnd]
@[simp] theorem State.feedMissed_pending : s.feedMissed.pending = s.pending := rfl
@[simp] theorem State.bstCapture_pending (b : Option BstSample) : (s.bstCapture b).pending = s.pending := by
  unfold State.bstCapture
  split <;> simp -implicitDefEqProofs
@[simp] theorem State.coilLimits_pending (n : Nat) : (s.coilLimits n).pending = s.pending := by simp [State.coilLimits]
@[simp] theorem State.coilUpdate_pending (n : Nat) (r : Option Nat) : (s.coilUpdate n r).pending = s.pending := by
  simp [State.coilUpdate]
@[simp] theorem State.oddEntry_pending (n : Nat) : (s.oddEntry n).pending = s.pending := by
  simp -implicitDefEqProofs [State.oddEntry]
@[simp] theorem State.vdCapture_pending (inp : List VdSample) (s : State) (n : Nat) :
    (s.vdCapture inp n).pending = s.pending := by
  unfold State.vdCapture
  (repeat' split) <;> simp
@[simp] theorem State.valveCapture_pending (inp : TickIn) : (s.valveCapture inp).pending = s.pending := by
  dsimp only [State.valveCapture]
  split
  · rw [foldl_pending _ fun s n => s.vdCapture_pending inp.vd n, foldl_pending, State.bstCapture_pending]
    intro s g
    dsimp only
    split <;> simp
  · simp
@[simp] theorem State.coilStart_pending (t0 n : Nat) : (s.coilStart t0 n).pending = s.pending := rfl
@[simp] theorem State.valveStart_pending : s.valveStart.pending = s.pending := by simp [State.valveStart]
@[simp] theorem State.valveStartHeld_pending : s.valveStartHeld.pending = s.pending := by simp [State.valveStartHeld]
@[simp] theorem State.valveOff_pending : s.valveOff.pending = s.pending := by simp [State.valveOff]
@[simp] theorem State.vdRetrigger_pending (n : Nat) : (s.vdRetrigger n).pending = s.pending := rfl
@[simp] theorem State.groupFault_pending (g : Nat) (f : Nat → Nat) : (s.groupFault g f).pending = s.pending := by
  simp [State.groupFault]
@[simp] theorem State.vdRearm_pending (n : Nat) : (s.vdRearm n).pending = s.pending := rfl
@[simp] theorem State.hgRearm_pending (g : Nat) : (s.hgRearm g).pending = s.pending := rfl
theorem State.valveWrite_keepsPending (key v : Nat) : KeepsPendingIfSome s (s.valveWrite key v) := by simp [State.valveWrite]

/-! Power domains and the supply -/

@[simp] theorem State.bias_pending (d st : Nat) : (s.bias d st).pending = s.pending := by simp [State.bias]
@[simp] theorem State.wakeRecord_pending (d goal : Nat) : (s.wakeRecord d goal).pending = s.pending := by
  simp [State.wakeRecord]
@[simp] theorem State.domDown_pending (d : Nat) : (s.domDown d).pending = s.pending := by simp [State.domDown]
@[simp] theorem State.enginesStart_pending (l : List Nat) : (s.enginesStart l).pending = s.pending := by
  simp [State.enginesStart]
@[simp] theorem State.retLost_pending (d : Nat) (lost : List Nat) : (s.retLost d lost).pending = s.pending := by
  simp [State.retLost]
@[simp] theorem State.domUp_pending (d : Nat) : (s.domUp d).pending = s.pending := by simp [State.domUp]
@[simp] theorem State.domReach_pending (d st us : Nat) : (s.domReach d st us).pending = s.pending := by simp [State.domReach]
@[simp] theorem State.powerStart_pending : s.powerStart.pending = s.pending := by
  refine foldl_pending _ (fun s d => ?_) _ _
  dsimp only
  split
  · split
    · rw [State.wakeRecord_pending, State.set_pending, State.draw_pending, State.bias_pending, State.setAll_pending]
    · rw [State.set_pending, State.draw_pending, State.bias_pending, State.setAll_pending]
  · rw [State.bias_pending, State.setAll_pending]
@[simp] theorem State.supplyCapture_pending (inp : TickIn) : (s.supplyCapture inp).pending = s.pending := by
  unfold State.supplyCapture
  split <;> simp -implicitDefEqProofs
@[simp] theorem State.thermCapture_pending (b : Option (Nat × Nat)) : (s.thermCapture b).pending = s.pending := by
  unfold State.thermCapture
  split <;> simp -implicitDefEqProofs
theorem State.powerWrite_keepsPending (key : Nat) : KeepsPendingIfSome s (s.powerWrite key) := by simp [State.powerWrite]

/-! Updates -/

@[simp] theorem State.showUpd_pending : s.showUpd.pending = s.pending := by simp [State.showUpd]
@[simp] theorem State.putUpd_pending (r : UpdRec) : (s.putUpd r).pending = s.pending := by simp [State.putUpd]
@[simp] theorem State.putSel_pending (b : Bool) : (s.putSel b).pending = s.pending := rfl
@[simp] theorem State.readRegion_pending : s.readRegion.pending = s.pending := rfl
@[simp] theorem State.rejectUpd_pending (code : Nat) : (s.rejectUpd code).pending = s.pending := by
  simp -implicitDefEqProofs [State.rejectUpd]
@[simp] theorem State.checkManifest_pending : s.checkManifest.pending = s.pending := by
  dsimp only [State.checkManifest]
  (repeat' split) <;> simp -implicitDefEqProofs
@[simp] theorem State.groupFail_pending (m : Manifest) (g way : Nat) : (s.groupFail m g way).pending = s.pending := rfl
@[simp] theorem State.hashGroup_pending (i : Nat) : (s.hashGroup i).pending = s.pending := by
  unfold State.hashGroup
  split <;> simp
@[simp] theorem State.allHeld_pending : s.allHeld.pending = s.pending := by
  unfold State.allHeld
  split <;> simp
@[simp] theorem State.takeWafer_pending (b : Bytes) : (s.takeWafer b).pending = s.pending := by
  simp -implicitDefEqProofs [State.takeWafer]
@[simp] theorem State.activate_pending (v : Nat) : (s.activate v).pending = s.pending := by simp [State.activate]
@[simp] theorem State.countParked_pending : s.countParked.pending = s.pending := rfl
@[simp] theorem State.resetNext_pending (cause detail : Nat) : (s.resetNext cause detail).pending = s.pending := by
  unfold State.resetNext
  split <;> simp
@[simp] theorem State.cancelUpd_pending : s.cancelUpd.pending = s.pending := by simp [State.cancelUpd]
@[simp] theorem State.confirm_pending : s.confirm.pending = s.pending := by simp -implicitDefEqProofs [State.confirm]
@[simp] theorem State.zeroHeader_pending (area : Bool) : (s.zeroHeader area).pending = s.pending := by simp [State.zeroHeader]
@[simp] theorem State.fallback_pending (cause : Nat) : (s.fallback cause).pending = s.pending := by simp [State.fallback]
@[simp] theorem State.putKey_pending (i : Nat) (key : Bytes) : (s.putKey i key).pending = s.pending := rfl
theorem State.updWrite_keepsPending (key : Nat) (b : Bytes) : KeepsPendingIfSome s (s.updWrite key b) := by
  simp [State.updWrite]

/-! The lease of a pair -/

@[simp] theorem State.setPath_pending (i : Nat) (x : PathSt) : (s.setPath i x).pending = s.pending := by simp [State.setPath]
@[simp] theorem State.pairBit_pending (i : Nat) (b : Bool) : (s.pairBit i b).pending = s.pending := rfl
@[simp] theorem State.fill_pending : s.fill.pending = s.pending := rfl
@[simp] theorem State.seePartner_pending (i : Nat) (w : PartnerWord) : (s.seePartner i w).pending = s.pending := by
  simp [State.seePartner]
@[simp] theorem State.takeToken_pending : s.takeToken.pending = s.pending := rfl
@[simp] theorem State.ledgerAnew_pending : s.ledgerAnew.pending = s.pending := rfl
@[simp] theorem State.unitsStart_pending : s.unitsStart.pending = s.pending := by simp [State.unitsStart]
@[simp] theorem State.holdBegin_pending : s.holdBegin.pending = s.pending := by simp [State.holdBegin]
@[simp] theorem State.holdDone_pending : s.holdDone.pending = s.pending := by simp [State.holdDone]
@[simp] theorem State.beginSwap_pending : s.beginSwap.pending = s.pending := rfl
@[simp] theorem State.rxTestBegin_pending (v : Nat) : (s.rxTestBegin v).pending = s.pending := rfl
@[simp] theorem State.timeDiff_pending : s.timeDiff.pending = s.pending := by
  unfold State.timeDiff
  split <;> simp
@[simp] theorem State.countSwap_pending : s.countSwap.pending = s.pending := by
  unfold State.countSwap
  split <;> simp
@[simp] theorem State.pairTick_pending (served : Bool) : (s.pairTick served).pending = s.pending := by simp [State.pairTick]
theorem State.pairWrite_keepsPending (key v : Nat) : KeepsPendingIfSome s (s.pairWrite key v) := by simp [State.pairWrite]

/-! Writes and the store -/

@[simp] theorem State.dropReasm_pending (c : Nat) : (s.dropReasm c).pending = s.pending := rfl
@[simp] theorem State.discardReasm_pending (c : Nat) : (s.discardReasm c).pending = s.pending := by
  unfold State.discardReasm
  split <;> simp
@[simp] theorem State.reassembled_pending (c : Nat) (b : Bytes) : (s.reassembled c b).pending = s.pending := by
  simp [State.reassembled]
@[simp] theorem State.closeOthers_pending (q : Req) : (s.closeOthers q).pending = s.pending := rfl
@[simp] theorem State.putCred_pending (lvl : Nat) (code : Bytes) : (s.putCred lvl code).pending = s.pending := by
  dsimp only [State.putCred]
  (repeat' split) <;> simp
@[simp] theorem State.setArea_pending (b : Bool) (x : SetArea) : (s.setArea b x).pending = s.pending := by cases b <;> rfl
@[simp] theorem State.beginStore_pending (group : Nat) (req : Option Req) : (s.beginStore group req).pending = s.pending := by
  simp [State.beginStore]
@[simp] theorem State.askStore_pending (group : Nat) (req : Option Req) : (s.askStore group req).pending = s.pending := by
  simp [State.askStore]
@[simp] theorem State.storeAnswer_pending (r : StoreRun) (st : Status) : (s.storeAnswer r st).pending = s.pending := by
  unfold State.storeAnswer
  split <;> simp
@[simp] theorem State.completeStore_pending (r : StoreRun) : (s.completeStore r).pending = s.pending := by
  simp [State.completeStore]
theorem State.ledgerWrite_keepsPending (key v : Nat) : KeepsPendingIfSome s (s.ledgerWrite key v) := by simp [State.ledgerWrite]
theorem State.unitWrite_keepsPending (u sub v : Nat) : KeepsPendingIfSome s (s.unitWrite u sub v) := by simp [State.unitWrite]
theorem State.functionWrite_keepsPending (key v : Nat) : KeepsPendingIfSome s (s.functionWrite key v) := by
  unfold State.functionWrite
  split
  · cases templateOf (s.get Obj.TPL_NUMBER) <;> simp
  · simp
theorem State.chapterWrite_keepsPending (q : Option Req) (key : Nat) (b : Bytes) :
    KeepsPendingIfSome s (s.chapterWrite q key b) := by
  unfold State.chapterWrite
  generalize unitOf key = unit
  cases q <;> cases unit <;> simp [s.powerWrite_keepsPending _, s.updWrite_keepsPending _ _,
    s.pairWrite_keepsPending _ _, s.swWrite_keepsPending _ _, s.valveWrite_keepsPending _ _,
    s.senseWrite_keepsPending _ _, s.ledgerWrite_keepsPending _ _, s.unitWrite_keepsPending _ _ _,
    s.functionWrite_keepsPending _ _, s.imgWrite_keepsPending _ _ _, s.canWrite_keepsPending _ _,
    s.netWrite_keepsPending _ _]
@[simp] theorem State.applyWrite_pending (q : Option Req) (key : Nat) (b : Bytes) :
    (s.applyWrite q key b).pending = s.pending := by
  unfold State.applyWrite
  split
  · rfl
  split
  next t ht => exact s.chapterWrite_keepsPending q key b t ht
  next => split <;> rfl
@[simp] theorem State.writeRefused_pending (key : Nat) (b : Bytes) (st : Status) :
    (s.writeRefused key b st).pending = s.pending := by
  unfold State.writeRefused
  (repeat' split) <;> simp
@[simp] theorem State.storeDefaults_pending (q : Option Req) : (s.storeDefaults q).pending = s.pending := by
  simp [State.storeDefaults]
@[simp] theorem State.applyMirrored_pending (key : Nat) (b : Bytes) : (s.applyMirrored key b).pending = s.pending := by
  unfold State.applyMirrored
  split <;> simp
@[simp] theorem State.registerOem_pending (l : Option (List Nat)) : (s.registerOem l).pending = s.pending := by
  unfold State.registerOem
  split <;> simp

/-! The pair -/

@[simp] theorem State.sendRefill_pending : s.sendRefill.1.pending = s.pending := by
  unfold State.sendRefill
  split <;> simp
@[simp] theorem State.sendMirror_pending : s.sendMirror.pending = s.pending := by
  unfold State.sendMirror
  split
  · have kept : s.sendRefill.1.pending = s.pending := State.sendRefill_pending s
    dsimp only
    split
    next h => rw [h] at kept; exact kept
    next h => rw [h] at kept; exact kept
  · rfl
@[simp] theorem State.putVal_pending (v : MirrorVal) : (s.putVal v).pending = s.pending := rfl
@[simp] theorem State.ready_pending : s.ready.pending = s.pending := by
  unfold State.ready
  split <;> simp
@[simp] theorem State.replayMirror_pending (m : Mirror) : (s.replayMirror m).pending = s.pending := by
  unfold State.replayMirror
  (repeat' split) <;> simp
@[simp] theorem State.replayList_pending (l : List Mirror) : (s.replayList l).pending = s.pending := by
  unfold State.replayList
  rw [foldl_pending]
  intro s m
  dsimp only
  split <;> simp
@[simp] theorem State.replayAll_pending : s.replayAll.pending = s.pending := by
  unfold State.replayAll
  split <;> simp
@[simp] theorem State.mirrorCh_pending (c : MirrorCh) : (s.mirrorCh c).pending = s.pending := by simp [State.mirrorCh]
@[simp] theorem State.mirrorBank_pending (b : MirrorBank) : (s.mirrorBank b).pending = s.pending := by simp [State.mirrorBank]
@[simp] theorem State.mirrorVd_pending (v : MirrorVd) : (s.mirrorVd v).pending = s.pending := by simp [State.mirrorVd]
@[simp] theorem State.takeSlices_pending (m : Mirror) : (s.takeSlices m).pending = s.pending := by simp [State.takeSlices]
@[simp] theorem State.seeHeader_pending (m : Mirror) : (s.seeHeader m).pending = s.pending := by simp [State.seeHeader]
@[simp] theorem State.takeMirror_pending (m : Mirror) (align : Int) : (s.takeMirror m align).pending = s.pending := by
  unfold State.takeMirror
  split <;> simp -implicitDefEqProofs
@[simp] theorem State.mirrorLate_pending : s.mirrorLate.pending = s.pending := by simp -implicitDefEqProofs [State.mirrorLate]
@[simp] theorem State.takePages_pending : s.takePages.pending = s.pending := by simp [State.takePages]
@[simp] theorem State.takeRefill_pending (r : Refill) : (s.takeRefill r).pending = s.pending := by simp [State.takeRefill]
@[simp] theorem State.gapSamples_pending : s.gapSamples.pending = s.pending := by
  unfold State.gapSamples
  split <;> simp
@[simp] theorem State.becomeActive_pending : s.becomeActive.pending = s.pending := by simp [State.becomeActive]
@[simp] theorem State.unitsIncomplete_pending : s.unitsIncomplete.pending = s.pending := by simp [State.unitsIncomplete]
@[simp] theorem State.announce_pending : s.announce.pending = s.pending := by simp [State.announce]

/-! Reset and the start -/

@[simp] theorem State.resetAt_pending (cause detail : Nat) : (s.resetAt cause detail).pending = s.pending := by
  unfold State.resetAt
  split <;> simp
@[simp] theorem State.supplyRecord_pending (mv : Nat) : (s.supplyRecord mv).pending = s.pending := by simp [State.supplyRecord]
@[simp] theorem State.storeInHoldup_pending (reached : Nat) : (s.storeInHoldup reached).pending = s.pending := by
  unfold State.storeInHoldup
  split <;> simp
@[simp] theorem State.restart_pending (cause : Nat) (hold : Bool) : (s.restart cause hold).pending = s.pending := rfl
@[simp] theorem State.enterReset_pending (d : ResetDue) : (s.enterReset d).pending = s.pending := by simp [State.enterReset]
@[simp] theorem State.updateStart_pending : s.updateStart.1.pending = s.pending := by
  simp -implicitDefEqProofs [State.updateStart, apply_ite Prod.fst]
theorem State.imageCheck_keepsPending (a b : Bool) : KeepsPendingIfSome s (s.imageCheck a b) := by
  simp -implicitDefEqProofs [State.imageCheck]
@[simp] theorem State.putInForce_pending (b : Option Bool) : (s.putInForce b).pending = s.pending := by
  unfold State.putInForce
  split <;> simp
@[simp] theorem State.noteArea_pending (b : Bool) : (s.noteArea b).pending = s.pending := by simp [State.noteArea]
@[simp] theorem State.chooseArea_pending : s.chooseArea.pending = s.pending := by simp [State.chooseArea]
theorem State.migrate_keepsPending (ok : Bool) : KeepsPendingIfSome s (s.migrate ok) := by
  dsimp only [State.migrate]
  split
  · exact keepsPendingIfSome_none s
  rw [keepsPendingIfSome_some]
  simp -implicitDefEqProofs only [↓State.ite_pending, ↓State.putUpd_pending, ↓State.event_pending, ↓State.putInForce_pending,
    ↓State.setArea_pending, ite_self]
  rw [foldl_pending _ fun s p => s.event_pending _ _ _, State.zeroHeader_pending]
@[simp] theorem State.settingsStart_pending (ok : Bool) : (s.settingsStart ok).1.pending = s.pending := by
  unfold State.settingsStart
  split
  · split
    next t ht => exact State.migrate_keepsPending s ok t ht
    next => simp
  · simp
@[simp] theorem State.partnerCheck_pending (rel : Option Nat) : (s.partnerCheck rel).pending = s.pending := by
  unfold State.partnerCheck
  split <;> simp
@[simp] theorem State.recorderStart_pending (holdupOk : Bool) : (s.recorderStart holdupOk).pending = s.pending := by
  simp [State.recorderStart]
@[simp] theorem State.releaseBegin_pending (inp : StartIn) : (s.releaseBegin inp).pending = s.pending := rfl
@[simp] theorem State.loadSettings_pending : s.loadSettings.pending = s.pending := by simp [State.loadSettings]
@[simp] theorem State.startUnit_pending (u : Nat) : (s.startUnit u).pending = s.pending := by
  unfold State.startUnit
  (repeat' split) <;> simp
@[simp] theorem State.startEnables_pending : s.startEnables.pending = s.pending := by simp [State.startEnables]
@[simp] theorem State.pairStart_pending : s.pairStart.pending = s.pending := by simp [State.pairStart]
@[simp] theorem State.canPathStart_pending : s.canPathStart.pending = s.pending := by
  unfold State.canPathStart
  (repeat' split) <;> simp
@[simp] theorem State.settingsInForce_pending : s.settingsInForce.pending = s.pending := rfl
@[simp] theorem State.fallbackDone_pending : s.fallbackDone.pending = s.pending := by
  simp -implicitDefEqProofs [State.fallbackDone]
@[simp] theorem State.tickMissed_pending : s.tickMissed.pending = s.pending := by simp -implicitDefEqProofs [State.tickMissed]
@[simp] theorem State.opSecond_pending : s.opSecond.pending = s.pending := by simp [State.opSecond]
@[simp] theorem State.secondTick_pending : s.secondTick.pending = s.pending := by simp [State.secondTick]
@[simp] theorem State.firstClock_pending : s.firstClock.pending = s.pending := rfl
@[simp] theorem State.firstTargets_pending : s.firstTargets.pending = s.pending := by
  simp -implicitDefEqProofs [State.firstTargets]
@[simp] theorem State.firstTick_pending (ms : Nat) : (s.firstTick ms).pending = s.pending := by
  simp -implicitDefEqProofs [State.firstTick]

/-! The tick -/

@[simp] theorem State.lsFinish_pending (inp : List LsSample) (n : Nat) : (s.lsFinish inp n).pending = s.pending := by
  unfold State.lsFinish
  dsimp only
  split
  · rw [State.setLs_pending, State.lsTake_pending, State.lsRestartDue_pending]
  · rfl
@[simp] theorem State.appVotes_pending : s.appVotes.pending = s.pending := by simp [State.appVotes]
@[simp] theorem State.domAllow_pending (d : Nat) : (s.domAllow d).pending = s.pending := by simp [State.domAllow]
@[simp] theorem State.arraySupply_pending (l : List (Nat × Nat)) : (s.arraySupply l).pending = s.pending := by
  simp [State.arraySupply]
@[simp] theorem State.powerBoundary_pending (inp : TickIn) : (s.powerBoundary inp).pending = s.pending := by
  simp [State.powerBoundary]
@[simp] theorem State.foldOne_pending (p : Nat × Option Written) : (s.foldOne p).pending = s.pending := by
  unfold State.foldOne
  split <;> rfl
@[simp] theorem State.fold_pending : s.fold.pending = s.pending := foldl_pending _ State.foldOne_pending _ s
@[simp] theorem State.moveObj_pending (d : Int) (key : Nat) : (s.moveObj d key).pending = s.pending := by simp [State.moveObj]
@[simp] theorem State.moveWake_pending (d : Int) (dom : Nat) : (s.moveWake d dom).pending = s.pending := by
  simp [State.moveWake]
@[simp] theorem State.moveImage_pending (d : Int) : (s.moveImage d).pending = s.pending := rfl
@[simp] theorem State.moveService_pending (d : Int) : (s.moveService d).pending = s.pending := rfl
@[simp] theorem State.moveFunctions_pending (d : Int) : (s.moveFunctions d).pending = s.pending := rfl
@[simp] theorem State.moveUnits_pending (d : Int) : (s.moveUnits d).pending = s.pending := rfl
@[simp] theorem State.moveDrives_pending (d : Int) : (s.moveDrives d).pending = s.pending := rfl
@[simp] theorem State.moveOutputs_pending (d : Int) : (s.moveOutputs d).pending = s.pending := rfl
@[simp] theorem State.shift_pending (d : Int) : (s.shift d).pending = s.pending := by
  unfold State.shift
  dsimp only
  rw [foldl_pending _ fun s key => s.moveObj_pending _ key, foldl_pending _ fun s dom => s.moveWake_pending d dom,
    foldl_pending _ fun s key => s.moveObj_pending d key]
  simp only [↓State.moveOutputs_pending, ↓State.moveDrives_pending, ↓State.moveUnits_pending, ↓State.moveFunctions_pending,
    ↓State.moveService_pending, ↓State.moveImage_pending]
@[simp] theorem State.nextIndex_pending : s.nextIndex.pending = s.pending := by
  unfold State.nextIndex
  split <;> simp -implicitDefEqProofs
@[simp] theorem State.yieldRole_pending : s.yieldRole.pending = s.pending := rfl
theorem State.withPair_pending (p : PairSt) : State.pending { s with pair := p } = s.pending := rfl
@[simp] theorem State.enterRole_pending : s.enterRole.pending = s.pending := by
  unfold State.enterRole
  dsimp only
  split
  · rw [State.becomeActive_pending, State.withPair_pending]
  · rw [State.fill_pending, State.valveOff_pending, State.swOff_pending, State.yieldRole_pending, State.withPair_pending]
  · rw [State.withPair_pending, State.valveOff_pending, State.swOff_pending, State.yieldRole_pending, State.withPair_pending]
  · rw [State.withPair_pending, State.yieldRole_pending, State.withPair_pending]
  · rfl
@[simp] theorem State.releaseHeld_pending : s.releaseHeld.pending = s.pending := by simp [State.releaseHeld]
@[simp] theorem State.portOff_pending (p : Nat) : (s.portOff p).pending = s.pending := by simp [State.portOff]
@[simp] theorem State.streamOff_pending (n : Nat) : (s.streamOff n).pending = s.pending := by simp [State.streamOff]
@[simp] theorem State.imgLeave_pending : s.imgLeave.pending = s.pending := by simp [State.imgLeave]
@[simp] theorem State.beginTick_pending : s.beginTick.pending = s.pending := rfl
@[simp] theorem State.watch_pending (served : Bool) : (s.watch served).pending = s.pending := rfl
@[simp] theorem State.boundary_pending (inp : TickIn) : (s.boundary inp).pending = s.pending := by simp [State.boundary]
@[simp] theorem State.partnerEntry_pending : s.partnerEntry.pending = s.pending := by
  unfold State.partnerEntry
  split <;> simp
@[simp] theorem State.captures_pending (inp : TickIn) : (s.captures inp).pending = s.pending := by simp [State.captures]
@[simp] theorem State.uncapture_pending (e : Nat) : (s.uncapture e).pending = s.pending := by simp [State.uncapture]
@[simp] theorem State.lateEntry_pending (e : Nat) : (s.lateEntry e).pending = s.pending := by simp [State.lateEntry]
@[simp] theorem State.appWrites_pending (l : List AppWrite) : (s.appWrites l).pending = s.pending := by simp [State.appWrites]
@[simp] theorem State.idleBegin_pending (inp : TickIn) : (s.idleBegin inp).pending = s.pending := by simp [State.idleBegin]
@[simp] theorem State.idleTick_pending (inp : TickIn) : (s.idleTick inp).pending = s.pending := by simp [State.idleTick]

end Sys2Proof.Machine
end

section
/-! The commands that carry no request leave the queue of the commands that wait as it is (log entry 1): one lemma for each. -/

namespace Sys2Proof.Machine

/-- A next state, where a command answers one, has the queue of the state before. -/
def KeepsPendingIfNext (s : State) (o : Host.Outcome State Fault Refusal) : Prop :=
  ∀ t, o = .next t → t.pending = s.pending

@[simp] theorem keepsPendingIfNext_next (s t : State) : KeepsPendingIfNext s (.next t) ↔ t.pending = s.pending :=
  ⟨fun h => h t rfl, fun h _ ht => Host.Outcome.next.inj ht ▸ h⟩
@[simp] theorem keepsPendingIfNext_fault (s : State) (f : Fault) : KeepsPendingIfNext s (.fault f) := fun _ h => nomatch h
@[simp] theorem keepsPendingIfNext_ite (s : State) (c : Prop) [Decidable c] (o p : Host.Outcome State Fault Refusal) :
    KeepsPendingIfNext s (if c then o else p) ↔ if c then KeepsPendingIfNext s o else KeepsPendingIfNext s p := by
  split <;> rfl

/-! The recorder -/

theorem execFloodWindowEnd_keepsPending (src code : Nat) (s : State) :
    KeepsPendingIfNext s (execFloodWindowEnd src code s) := by
  unfold execFloodWindowEnd
  split <;> simp
theorem execTimeMark_keepsPending (s : State) : KeepsPendingIfNext s (execTimeMark s) := by simp [execTimeMark]
theorem execStartupPhaseEnd_keepsPending (s : State) : KeepsPendingIfNext s (execStartupPhaseEnd s) := by
  simp [execStartupPhaseEnd]
theorem execRecoveryPhaseEnd_keepsPending (s : State) : KeepsPendingIfNext s (execRecoveryPhaseEnd s) := by
  simp [execRecoveryPhaseEnd]

/-! The loops -/

theorem execSlotRun_keepsPending (n : Fin 48) (us : Nat) (s : State) : KeepsPendingIfNext s (execSlotRun n us s) := by
  simp [execSlotRun]
theorem execPvTimeoutFault_keepsPending (n : Fin 48) (s : State) : KeepsPendingIfNext s (execPvTimeoutFault n s) := by
  simp [execPvTimeoutFault]
theorem execFfTermDrop_keepsPending (n : Fin 48) (term : Fin 2) (s : State) :
    KeepsPendingIfNext s (execFfTermDrop n term s) := by
  simp [execFfTermDrop]

/-! The ledger -/

theorem execLedgerRun_keepsPending (fails : List Nat) (s : State) : KeepsPendingIfNext s (execLedgerRun fails s) := by
  simp [execLedgerRun]
theorem execCheckpointComplete_keepsPending (s : State) : KeepsPendingIfNext s (execCheckpointComplete s) := by
  unfold execCheckpointComplete
  (repeat' split) <;> simp
theorem execCrbReducedEnd_keepsPending (s : State) : KeepsPendingIfNext s (execCrbReducedEnd s) := by
  unfold execCrbReducedEnd
  split <;> simp

/-! The supervisor, the path element and the builder -/

theorem execSupervisorStep_keepsPending (s : State) : KeepsPendingIfNext s (execSupervisorStep s) := by
  simp [execSupervisorStep]
theorem execWindowVoid_keepsPending (s : State) : KeepsPendingIfNext s (execWindowVoid s) := by simp [execWindowVoid]
theorem execSettleEnd_keepsPending (s : State) : KeepsPendingIfNext s (execSettleEnd s) := by simp [execSettleEnd]
theorem execRestEnd_keepsPending (s : State) : KeepsPendingIfNext s (execRestEnd s) := by simp [execRestEnd]

/-! Satellite navigation -/

theorem execAntShort_keepsPending (a : Fin 2) (s : State) : KeepsPendingIfNext s (execAntShort a s) := by simp [execAntShort]
theorem execAntRetry_keepsPending (a : Fin 2) (s : State) : KeepsPendingIfNext s (execAntRetry a s) := by
  unfold execAntRetry
  split <;> simp
theorem execAntOpen_keepsPending (a : Fin 2) (s : State) : KeepsPendingIfNext s (execAntOpen a s) := by simp [execAntOpen]
theorem execMeasurementEpoch_keepsPending (meas : List RawMeas) (unserved : Nat) (s : State) :
    KeepsPendingIfNext s (execMeasurementEpoch meas unserved s) := by
  simp [execMeasurementEpoch]
theorem execNavRecordWrite_keepsPending (u : NavUnit) (s : State) : KeepsPendingIfNext s (execNavRecordWrite u s) := by
  simp [execNavRecordWrite]
theorem execIntegrityClear_keepsPending (s : State) : KeepsPendingIfNext s (execIntegrityClear s) := by
  unfold execIntegrityClear
  split <;> simp
theorem execPositionSolutionRun_keepsPending (est : PosEst) (s : State) :
    KeepsPendingIfNext s (execPositionSolutionRun est s) := by
  simp [execPositionSolutionRun]
theorem execSignalMaskApply_keepsPending (s : State) : KeepsPendingIfNext s (execSignalMaskApply s) := by
  simp [execSignalMaskApply]
theorem execPosRateApply_keepsPending (s : State) : KeepsPendingIfNext s (execPosRateApply s) := by simp [execPosRateApply]
theorem execTpulse_keepsPending (s : State) : KeepsPendingIfNext s (execTpulse s) := by simp [execTpulse]

/-! Imaging -/

theorem execPortTrained_keepsPending (p : Fin 2) (s : State) : KeepsPendingIfNext s (execPortTrained p s) := by
  simp [execPortTrained]
theorem execLinkDrop_keepsPending (p : Fin 2) (ns : Nat) (s : State) : KeepsPendingIfNext s (execLinkDrop p ns s) := by
  simp [execLinkDrop]
theorem execPortRetry_keepsPending (p : Fin 2) (s : State) : KeepsPendingIfNext s (execPortRetry p s) := by simp [execPortRetry]
theorem execFrameStart_keepsPending (n : Fin 8) (ns : Nat) (number : Option Nat) (acks : List Bool) (s : State) :
    KeepsPendingIfNext s (execFrameStart n ns number acks s) := by
  unfold execFrameStart
  split <;> simp
theorem execLinePacket_keepsPending (n : Fin 8) (l : CamLine) (s : State) : KeepsPendingIfNext s (execLinePacket n l s) := by
  simp [execLinePacket]
theorem execFrameEnd_keepsPending (n : Fin 8) (ns : Option Nat) (s : State) : KeepsPendingIfNext s (execFrameEnd n ns s) := by
  unfold execFrameEnd
  split <;> simp
theorem execFrameTimeout_keepsPending (n : Fin 8) (s : State) : KeepsPendingIfNext s (execFrameTimeout n s) := by
  simp [execFrameTimeout]
theorem execCommitComplete_keepsPending (n : Fin 8) (s : State) : KeepsPendingIfNext s (execCommitComplete n s) := by
  unfold execCommitComplete
  extract_lets
  split <;> simp
theorem execFocusRun_keepsPending (n : Fin 8) (s : State) : KeepsPendingIfNext s (execFocusRun n s) := by simp [execFocusRun]

/-! The CAN controllers -/

theorem execTxLoad_keepsPending (c : Fin 8) (b : Fin 3) (s : State) : KeepsPendingIfNext s (execTxLoad c b s) := by
  unfold execTxLoad
  split <;> simp
theorem execTxCancel_keepsPending (c : Fin 8) (b : Fin 3) (s : State) : KeepsPendingIfNext s (execTxCancel c b s) := by
  unfold execTxCancel
  split <;> simp
theorem execArbitration_keepsPending (c : Fin 8) (s : State) : KeepsPendingIfNext s (execArbitration c s) := by
  unfold execArbitration
  split <;> simp
theorem execTxAttemptFail_keepsPending (c : Fin 8) (err : Option (Nat × Bool × Option (Fin 256))) (s : State) :
    KeepsPendingIfNext s (execTxAttemptFail c err s) := by
  dsimp only [execTxAttemptFail]
  (repeat' split) <;> simp
theorem execCanFrameSent_keepsPending (c : Fin 8) (sof : Nat × Bool) (delay : Fin 256) (s : State) :
    KeepsPendingIfNext s (execCanFrameSent c sof delay s) := by
  dsimp only [execCanFrameSent]
  (repeat' split) <;> simp
theorem execCanFrameRx_keepsPending (c : Fin 8) (f : CanFrame) (sof : Nat) (dram : Bool) (s : State) :
    KeepsPendingIfNext s (execCanFrameRx c f sof dram s) := by
  simp [execCanFrameRx]
theorem execCanBusError_keepsPending (c : Fin 8) (lec : Nat) (eight : Bool) (s : State) :
    KeepsPendingIfNext s (execCanBusError c lec eight s) := by
  simp [execCanBusError]
theorem execBusOff_keepsPending (c : Fin 8) (s : State) : KeepsPendingIfNext s (execBusOff c s) := by simp [execBusOff]
theorem execBusOffRecoveryEnd_keepsPending (c : Fin 8) (s : State) : KeepsPendingIfNext s (execBusOffRecoveryEnd c s) := by
  simp [execBusOffRecoveryEnd]
theorem execCanBusJoin_keepsPending (c : Fin 8) (s : State) : KeepsPendingIfNext s (execCanBusJoin c s) := by
  simp [execCanBusJoin]

/-! ISO nodes and Ethernet -/

theorem execHeartbeat_keepsPending (s : State) : KeepsPendingIfNext s (execHeartbeat s) := by simp [execHeartbeat]
theorem execTimeMessage_keepsPending (s : State) : KeepsPendingIfNext s (execTimeMessage s) := by simp [execTimeMessage]
theorem execAddressClaimStart_keepsPending (s : State) : KeepsPendingIfNext s (execAddressClaimStart s) := by
  simp [execAddressClaimStart]
theorem execCompetingClaimRx_keepsPending (addr : Fin 256) (name : Nat) (s : State) :
    KeepsPendingIfNext s (execCompetingClaimRx addr name s) := by
  dsimp only [execCompetingClaimRx]
  (repeat' split) <;> simp
theorem execClaimRequestRx_keepsPending (s : State) : KeepsPendingIfNext s (execClaimRequestRx s) := by
  simp [execClaimRequestRx]
theorem execAddressHeld_keepsPending (s : State) : KeepsPendingIfNext s (execAddressHeld s) := by simp [execAddressHeld]
theorem execIsoSendSlot_keepsPending (n : Fin 8) (data : Bytes) (s : State) :
    KeepsPendingIfNext s (execIsoSendSlot n data s) := by
  simp [execIsoSendSlot]
theorem execTpRx_keepsPending (f : CanFrame) (time : Nat) (s : State) : KeepsPendingIfNext s (execTpRx f time s) := by
  dsimp only [execTpRx]
  (repeat' split) <;> simp
theorem execIsoTpTimeout_keepsPending (send : Bool) (n : Fin 8) (s : State) :
    KeepsPendingIfNext s (execIsoTpTimeout send n s) := by
  unfold execIsoTpTimeout
  (repeat' split) <;> simp
theorem execDm1Send_keepsPending (s : State) : KeepsPendingIfNext s (execDm1Send s) := by simp [execDm1Send]
theorem execEthFrameRx_keepsPending (p : Fin 4) (fcsOk : Bool) (data : Bytes) (s : State) :
    KeepsPendingIfNext s (execEthFrameRx p fcsOk data s) := by
  dsimp only [execEthFrameRx]
  (repeat' split) <;> simp
theorem execEthConfigApply_keepsPending (s : State) : KeepsPendingIfNext s (execEthConfigApply s) := by
  simp [execEthConfigApply]

/-! Module time -/

theorem execAppWriteStall_keepsPending (w : AppWrite) (s : State) : KeepsPendingIfNext s (execAppWriteStall w s) := by
  simp [execAppWriteStall]
theorem execStalledWriteLand_keepsPending (s : State) : KeepsPendingIfNext s (execStalledWriteLand s) := by
  simp [execStalledWriteLand]
theorem execAppWriteBlocked_keepsPending (core : Fin 4) (offset : Nat) (s : State) :
    KeepsPendingIfNext s (execAppWriteBlocked core offset s) := by
  simp [execAppWriteBlocked]
theorem execComputeDeadline_keepsPending (done : List Nat) (s : State) : KeepsPendingIfNext s (execComputeDeadline done s) := by
  simp [execComputeDeadline]
theorem execUnitOverrunFault_keepsPending (unit : Nat) (s : State) : KeepsPendingIfNext s (execUnitOverrunFault unit s) := by
  simp [execUnitOverrunFault]
theorem execEngineOverrunFault_keepsPending (eng : Fin 6) (s : State) :
    KeepsPendingIfNext s (execEngineOverrunFault eng s) := by
  simp [execEngineOverrunFault]
theorem execSupervisorDeadlineFault_keepsPending (offset : Nat) (s : State) :
    KeepsPendingIfNext s (execSupervisorDeadlineFault offset s) := by
  simp [execSupervisorDeadlineFault]
theorem execEngineRestartStart_keepsPending (eng : Fin 6) (s : State) :
    KeepsPendingIfNext s (execEngineRestartStart eng s) := by
  simp [execEngineRestartStart]
theorem execTimeSteeringRun_keepsPending (s : State) : KeepsPendingIfNext s (execTimeSteeringRun s) := by
  unfold execTimeSteeringRun
  (repeat' split) <;> simp
theorem execLockCountComplete_keepsPending (s : State) : KeepsPendingIfNext s (execLockCountComplete s) := by
  unfold execLockCountComplete
  split <;> simp
theorem execHoldoverTimeout_keepsPending (s : State) : KeepsPendingIfNext s (execHoldoverTimeout s) := by
  simp [execHoldoverTimeout]
theorem execHoldoverEnd_keepsPending (s : State) : KeepsPendingIfNext s (execHoldoverEnd s) := by
  unfold execHoldoverEnd
  split <;> simp
theorem execStepWindowClose_keepsPending (s : State) : KeepsPendingIfNext s (execStepWindowClose s) := by
  unfold execStepWindowClose
  split <;> simp
theorem execGptpSync_keepsPending (port : Fin 3) (sub : Nat) (s : State) : KeepsPendingIfNext s (execGptpSync port sub s) := by
  simp [execGptpSync]
theorem execGptpAnnounce_keepsPending (port : Fin 3) (s : State) : KeepsPendingIfNext s (execGptpAnnounce port s) := by
  simp [execGptpAnnounce]
theorem execGptpForeignRx_keepsPending (port : Fin 3) (s : State) : KeepsPendingIfNext s (execGptpForeignRx port s) := by
  simp [execGptpForeignRx]
theorem execGptpConfigApply_keepsPending (s : State) : KeepsPendingIfNext s (execGptpConfigApply s) := by
  simp [execGptpConfigApply]

/-! Sensing -/

theorem execImpactStart_keepsPending (n : Fin 16) (us : Nat) (samples : List Int) (last : Int) (s : State) :
    KeepsPendingIfNext s (execImpactStart n us samples last s) := by
  simp [execImpactStart]
theorem execImpactEnd_keepsPending (n : Fin 16) (us : Nat) (samples : List Int) (last : Int) (s : State) :
    KeepsPendingIfNext s (execImpactEnd n us samples last s) := by
  simp [execImpactEnd]
theorem execImpactMaxLen_keepsPending (n : Fin 16) (us : Nat) (samples : List Int) (s : State) :
    KeepsPendingIfNext s (execImpactMaxLen n us samples s) := by
  simp [execImpactMaxLen]
theorem execLsDetectorRestart_keepsPending (n : Fin 16) (s : State) : KeepsPendingIfNext s (execLsDetectorRestart n s) := by
  simp [execLsDetectorRestart]
theorem execUiSettleEnd_keepsPending (n : Fin 48) (s : State) : KeepsPendingIfNext s (execUiSettleEnd n s) := by
  unfold execUiSettleEnd
  extract_lets
  split <;> simp
theorem execShuntDisconnect_keepsPending (n : Fin 48) (s : State) : KeepsPendingIfNext s (execShuntDisconnect n s) := by
  simp [execShuntDisconnect]
theorem execShuntReconnect_keepsPending (n : Fin 48) (s : State) : KeepsPendingIfNext s (execShuntReconnect n s) := by
  unfold execShuntReconnect
  extract_lets
  split <;> simp
theorem execUiDebounceChange_keepsPending (n : Fin 48) (s : State) : KeepsPendingIfNext s (execUiDebounceChange n s) := by
  simp [execUiDebounceChange]
theorem execSsLimitTrip_keepsPending (n : Fin 4) (s : State) : KeepsPendingIfNext s (execSsLimitTrip n s) := by
  simp [execSsLimitTrip]
theorem execSsRetry_keepsPending (n : Fin 4) (s : State) : KeepsPendingIfNext s (execSsRetry n s) := by simp [execSsRetry]

/-! The switches -/

theorem execCurrentLimitTurnoff_keepsPending (n : Fin 128) (us : Nat) (s : State) :
    KeepsPendingIfNext s (execCurrentLimitTurnoff n us s) := by
  simp [execCurrentLimitTurnoff]
theorem execThermalLatchSet_keepsPending (n : Fin 128) (temp : Rat) (s : State) :
    KeepsPendingIfNext s (execThermalLatchSet n temp s) := by
  simp [execThermalLatchSet]
theorem execThermalLatchClear_keepsPending (n : Fin 128) (temp : Rat) (s : State) :
    KeepsPendingIfNext s (execThermalLatchClear n temp s) := by
  simp [execThermalLatchClear]
theorem execChannelRestart_keepsPending (n : Fin 128) (s : State) : KeepsPendingIfNext s (execChannelRestart n s) := by
  simp [execChannelRestart]
theorem execRetryRestore_keepsPending (n : Fin 128) (s : State) : KeepsPendingIfNext s (execRetryRestore n s) := by
  simp [execRetryRestore]
theorem execAssistedFuseTrip_keepsPending (b : Fin 8) (s : State) : KeepsPendingIfNext s (execAssistedFuseTrip b s) := by
  simp [execAssistedFuseTrip]
theorem execPwmPeriodStart_keepsPending (n : Fin 128) (s : State) : KeepsPendingIfNext s (execPwmPeriodStart n s) := by
  simp [execPwmPeriodStart]
theorem execSwitchOffEdge_keepsPending (n : Fin 128) (current ton : Nat) (s : State) :
    KeepsPendingIfNext s (execSwitchOffEdge n current ton s) := by
  simp [execSwitchOffEdge]
theorem execOlLearnComplete_keepsPending (n : Fin 128) (s : State) : KeepsPendingIfNext s (execOlLearnComplete n s) := by
  unfold execOlLearnComplete
  extract_lets
  split <;> simp
theorem execBankUndervoltage_keepsPending (b : Fin 8) (s : State) : KeepsPendingIfNext s (execBankUndervoltage b s) := by
  simp [execBankUndervoltage]
theorem execChannelRestore_keepsPending (b : Fin 8) (n : Fin 128) (s : State) :
    KeepsPendingIfNext s (execChannelRestore b n s) := by
  simp [execChannelRestore]
theorem execDipShed_keepsPending (s : State) : KeepsPendingIfNext s (execDipShed s) := by
  unfold execDipShed
  split <;> simp

/-! The valve drives -/

theorem execValveEvent_keepsPending (n : Fin 48) (s : State) : KeepsPendingIfNext s (execValveEvent n s) := by
  dsimp only [execValveEvent]
  (repeat' split) <;> simp
theorem execBoostEnd_keepsPending (n : Fin 48) (us : Nat) (current : Rat) (s : State) :
    KeepsPendingIfNext s (execBoostEnd n us current s) := by
  simp [execBoostEnd]
theorem execPeakEnd_keepsPending (n : Fin 48) (us : Nat) (s : State) : KeepsPendingIfNext s (execPeakEnd n us s) := by
  simp [execPeakEnd]
theorem execTransitionEnd_keepsPending (n : Fin 48) (us : Nat) (current : Rat) (s : State) :
    KeepsPendingIfNext s (execTransitionEnd n us current s) := by
  simp [execTransitionEnd]
theorem execInjectorEventEnd_keepsPending (n : Fin 48) (us : Nat) (s : State) :
    KeepsPendingIfNext s (execInjectorEventEnd n us s) := by
  unfold execInjectorEventEnd
  extract_lets
  split <;> simp
theorem execSwitchOffComplete_keepsPending (n : Fin 48) (current : Rat) (s : State) :
    KeepsPendingIfNext s (execSwitchOffComplete n current s) := by
  simp [execSwitchOffComplete]
theorem execPairMinOffEnd_keepsPending (n : Fin 48) (us : Nat) (s : State) :
    KeepsPendingIfNext s (execPairMinOffEnd n us s) := by
  dsimp only [execPairMinOffEnd]
  (repeat' split) <;> simp
theorem execStageOvercurrent_keepsPending (n : Fin 48) (current : Rat) (s : State) :
    KeepsPendingIfNext s (execStageOvercurrent n current s) := by
  simp [execStageOvercurrent]
theorem execGroupOvercurrent_keepsPending (g : Fin 12) (us : Nat × Rat) (s : State) :
    KeepsPendingIfNext s (execGroupOvercurrent g us s) := by
  simp [execGroupOvercurrent]
theorem execLowPinCheck_keepsPending (n : Fin 48) (s : State) : KeepsPendingIfNext s (execLowPinCheck n s) := by
  simp [execLowPinCheck]
theorem execHoldOpenCoil_keepsPending (n : Fin 48) (s : State) : KeepsPendingIfNext s (execHoldOpenCoil n s) := by
  simp [execHoldOpenCoil]
theorem execBoostStartFail_keepsPending (s : State) : KeepsPendingIfNext s (execBoostStartFail s) := by
  unfold execBoostStartFail
  split <;> simp
theorem execBoostRetry_keepsPending (s : State) : KeepsPendingIfNext s (execBoostRetry s) := by
  unfold execBoostRetry
  split <;> simp

/-! Power domains and the supply -/

theorem execDomainTransitionBegin_keepsPending (d : Fin 15) (s : State) :
    KeepsPendingIfNext s (execDomainTransitionBegin d s) := by
  simp [execDomainTransitionBegin]
theorem execDomainTransitionEnd_keepsPending (d : Fin 15) (us : Nat) (lost : List Nat) (s : State) :
    KeepsPendingIfNext s (execDomainTransitionEnd d us lost s) := by
  simp [execDomainTransitionEnd]
theorem execAccessWake_keepsPending (client : Fin 10) (d : Fin 15) (s : State) :
    KeepsPendingIfNext s (execAccessWake client d s) := by
  simp [execAccessWake]
theorem execAccessVoteExpiry_keepsPending (client : Fin 10) (d : Fin 15) (s : State) :
    KeepsPendingIfNext s (execAccessVoteExpiry client d s) := by
  simp [execAccessVoteExpiry]
theorem execWakeChange_keepsPending (level : Bool) (s : State) : KeepsPendingIfNext s (execWakeChange level s) := by
  simp [execWakeChange]
theorem execWakeHoldExpiry_keepsPending (s : State) : KeepsPendingIfNext s (execWakeHoldExpiry s) := by
  unfold execWakeHoldExpiry
  split <;> simp
theorem execDipBegin_keepsPending (s : State) : KeepsPendingIfNext s (execDipBegin s) := by simp [execDipBegin]
theorem execDipShedding_keepsPending (s : State) : KeepsPendingIfNext s (execDipShedding s) := by
  unfold execDipShedding
  split <;> simp
theorem execDipEnd_keepsPending (s : State) : KeepsPendingIfNext s (execDipEnd s) := by
  unfold execDipEnd
  split <;> simp -implicitDefEqProofs
theorem execFeedLow_keepsPending (feed : Fin 2) (s : State) : KeepsPendingIfNext s (execFeedLow feed s) := by simp [execFeedLow]

/-! Updates -/

theorem execVerification_keepsPending (fwSigOk : Bool) (readback : List Bool) (s : State) :
    KeepsPendingIfNext s (execVerification fwSigOk readback s) := by
  unfold execVerification
  split <;> simp
theorem execVerificationComplete_keepsPending (s : State) : KeepsPendingIfNext s (execVerificationComplete s) := by
  dsimp only [execVerificationComplete]
  (repeat' split) <;> simp -implicitDefEqProofs
theorem execActivationInterlock_keepsPending (s : State) : KeepsPendingIfNext s (execActivationInterlock s) := by
  simp -implicitDefEqProofs [execActivationInterlock]
theorem execAutoConfirm_keepsPending (s : State) : KeepsPendingIfNext s (execAutoConfirm s) := by simp [execAutoConfirm]
theorem execProofSecond_keepsPending (s : State) : KeepsPendingIfNext s (execProofSecond s) := by simp [execProofSecond]

/-! The lease of a pair -/

theorem execLeaseWordSend_keepsPending (s : State) : KeepsPendingIfNext s (execLeaseWordSend s) := by simp [execLeaseWordSend]
theorem execLeaseWordRx_keepsPending (receiver : Bool) (word : Nat) (s : State) :
    KeepsPendingIfNext s (execLeaseWordRx receiver word s) := by
  unfold execLeaseWordRx
  split <;> simp
theorem execLeaseFrameSend_keepsPending (s : State) : KeepsPendingIfNext s (execLeaseFrameSend s) := by
  simp [execLeaseFrameSend]
theorem execLeaseFrameRx_keepsPending (ctrl : Fin 8) (ident : Nat) (data : Bytes) (s : State) :
    KeepsPendingIfNext s (execLeaseFrameRx ctrl ident data s) := by
  unfold execLeaseFrameRx
  split <;> simp
theorem execPairJoinTimeout_keepsPending (s : State) : KeepsPendingIfNext s (execPairJoinTimeout s) := by
  simp [execPairJoinTimeout]
theorem execPairHoldBegin_keepsPending (s : State) : KeepsPendingIfNext s (execPairHoldBegin s) := by simp [execPairHoldBegin]
theorem execPairHoldEnd_keepsPending (s : State) : KeepsPendingIfNext s (execPairHoldEnd s) := by
  unfold execPairHoldEnd
  split <;> simp
theorem execPlannedRelease_keepsPending (s : State) : KeepsPendingIfNext s (execPlannedRelease s) := by
  unfold execPlannedRelease
  split <;> simp
theorem execPeriodicSwap_keepsPending (s : State) : KeepsPendingIfNext s (execPeriodicSwap s) := by simp [execPeriodicSwap]
theorem execSwapOverdue_keepsPending (s : State) : KeepsPendingIfNext s (execSwapOverdue s) := by simp [execSwapOverdue]
theorem execHealthSwap_keepsPending (s : State) : KeepsPendingIfNext s (execHealthSwap s) := by simp [execHealthSwap]
theorem execPartnerAbsent_keepsPending (s : State) : KeepsPendingIfNext s (execPartnerAbsent s) := by simp [execPartnerAbsent]
theorem execPairPathFault_keepsPending (path : Fin 3) (s : State) : KeepsPendingIfNext s (execPairPathFault path s) := by
  simp [execPairPathFault]
theorem execPairPathFaultClear_keepsPending (path : Fin 3) (s : State) :
    KeepsPendingIfNext s (execPairPathFaultClear path s) := by
  unfold execPairPathFaultClear
  extract_lets
  split <;> simp
theorem execTwoActives_keepsPending (serial : Bytes) (s : State) : KeepsPendingIfNext s (execTwoActives serial s) := by
  simp [execTwoActives]
theorem execRxTestEnd_keepsPending (s : State) : KeepsPendingIfNext s (execRxTestEnd s) := by
  unfold execRxTestEnd
  split <;> simp
theorem execTimeDisagreement_keepsPending (s : State) : KeepsPendingIfNext s (execTimeDisagreement s) := by
  unfold execTimeDisagreement
  split <;> simp

/-! Messages, credentials and the store -/

theorem execMdpMessageRx_keepsPending (m : MdpMsg) (s : State) : KeepsPendingIfNext s (execMdpMessageRx m s) := by
  simp [execMdpMessageRx]
theorem execMdpSegmentRx_keepsPending (ctrl : Fin 8) (ident : Nat) (fd : Bool) (data : Bytes) (s : State) :
    KeepsPendingIfNext s (execMdpSegmentRx ctrl ident fd data s) := by
  dsimp only [execMdpSegmentRx]
  (repeat' split) <;> simp
theorem execMdpSegTimeout_keepsPending (client : Fin 32) (s : State) : KeepsPendingIfNext s (execMdpSegTimeout client s) := by
  simp [execMdpSegTimeout]
theorem execMdpTransportApply_keepsPending (s : State) : KeepsPendingIfNext s (execMdpTransportApply s) := by
  simp [execMdpTransportApply]
theorem execSessionTimeout_keepsPending (num : Nat) (s : State) : KeepsPendingIfNext s (execSessionTimeout num s) := by
  simp [execSessionTimeout]
theorem execCredentialLockout_keepsPending (s : State) : KeepsPendingIfNext s (execCredentialLockout s) := by
  simp [execCredentialLockout]
theorem execLockoutEnd_keepsPending (s : State) : KeepsPendingIfNext s (execLockoutEnd s) := by
  unfold execLockoutEnd
  split <;> simp
theorem execStoreComplete_keepsPending (bad : Option (Fin 2)) (s : State) : KeepsPendingIfNext s (execStoreComplete bad s) := by
  dsimp only [execStoreComplete]
  (repeat' split) <;> simp
theorem execStoreDeferredBegin_keepsPending (s : State) : KeepsPendingIfNext s (execStoreDeferredBegin s) := by
  unfold execStoreDeferredBegin
  split <;> simp
theorem execAssistedFallback_keepsPending (key : Nat) (s : State) : KeepsPendingIfNext s (execAssistedFallback key s) := by
  simp [execAssistedFallback]
theorem execAssistedFault_keepsPending (key : Nat) (s : State) : KeepsPendingIfNext s (execAssistedFault key s) := by
  simp [execAssistedFault]

/-! The pair -/

theorem execMirrorComplete_keepsPending (m : Mirror) (align : Int) (s : State) :
    KeepsPendingIfNext s (execMirrorComplete m align s) := by
  simp [execMirrorComplete]
theorem execMirrorLate_keepsPending (s : State) : KeepsPendingIfNext s (execMirrorLate s) := by simp [execMirrorLate]
theorem execRefillComplete_keepsPending (r : Refill) (whole : Bool) (s : State) :
    KeepsPendingIfNext s (execRefillComplete r whole s) := by
  simp [execRefillComplete]
theorem execTakeover_keepsPending (s : State) : KeepsPendingIfNext s (execTakeover s) := by simp [execTakeover]
theorem execEthLinkLoss_keepsPending (p : Fin 5) (s : State) : KeepsPendingIfNext s (execEthLinkLoss p s) := by
  simp -implicitDefEqProofs [execEthLinkLoss]
theorem execEthLinkUp_keepsPending (p : Fin 5) (sqi : Nat) (s : State) : KeepsPendingIfNext s (execEthLinkUp p sqi s) := by
  simp [execEthLinkUp]

/-! Reset and the start -/

theorem execPowerLoss_keepsPending (s : State) : KeepsPendingIfNext s (execPowerLoss s) := by simp [execPowerLoss]
theorem execSupervisorMismatch_keepsPending (addr : Nat) (s : State) :
    KeepsPendingIfNext s (execSupervisorMismatch addr s) := by
  simp [execSupervisorMismatch]
theorem execWatchdogExpiry_keepsPending (s : State) : KeepsPendingIfNext s (execWatchdogExpiry s) := by
  simp [execWatchdogExpiry]
theorem execMemoryError_keepsPending (addr : Nat) (s : State) : KeepsPendingIfNext s (execMemoryError addr s) := by
  simp [execMemoryError]
theorem execSupplyReset_keepsPending (mv reached : Nat) (s : State) : KeepsPendingIfNext s (execSupplyReset mv reached s) := by
  simp [execSupplyReset]

/-! The tick -/

theorem execCaptureLate_keepsPending (inputs : List Nat) (s : State) : KeepsPendingIfNext s (execCaptureLate inputs s) := by
  simp [execCaptureLate]
theorem execFirstTick_keepsPending (ms : Nat) (inp : TickIn) (s : State) : KeepsPendingIfNext s (execFirstTick ms inp s) := by
  simp [execFirstTick]

end Sys2Proof.Machine
end

section
/-! No command touches the queue of the commands that wait (log entry 1): the requests, the tick and the start, then every
command. -/

namespace Sys2Proof.Machine

/-! The requests -/

theorem keptByServing_pending : KeptByServing fun s t => t.pending = s.pending where
  refl _ := rfl
  trans hst htu := htu.trans hst
  takeUp _ := rfl
  send _ _ := rfl
  putSession _ _ := rfl
  cached _ := rfl
  stale _ := rfl

@[simp] theorem State.serveFormless_pending (s : State) (fuel : Nat) : (s.serveFormless fuel).pending = s.pending :=
  keptByServing_pending.serveFormless fuel s

@[simp] theorem State.slice_pending (s : State) (key : Nat) (b : Bytes) : (s.slice key b).pending = s.pending := by
  unfold State.slice
  split <;> rfl

section
variable {s : State} {q : Req} {key : Nat} {extra : State → Extra} {eff : State → State} {ref : State → Status → State}

theorem keepsPending_serve (svc : Nat) (tail : Bytes) (form : Bool) {body : State → Nat → Reply}
    (hbody : ∀ t lvl, (body t lvl).s.pending = t.pending) : KeepsPendingIfNext s (.next (s.serve q svc tail form body)) :=
  (keepsPendingIfNext_next s _).mpr (keptByServing_pending.serve hbody s q svc tail form)

theorem keepsPending_serveWriteWith {ty : Nat} {b : Bytes} (heff : ∀ t, (eff t).pending = t.pending)
    (href : ∀ t st, (ref t st).pending = t.pending) :
    KeepsPendingIfNext s (.next (s.serveWrite q key ty b extra eff ref)) := by
  refine keepsPending_serve 4 _ true fun t lvl => ?_
  split
  · rw [heff, State.slice_pending]
  · exact href t _

theorem keepsPending_serveWrite {ty : Nat} {b : Bytes} (heff : ∀ t, (eff t).pending = t.pending) :
    KeepsPendingIfNext s (.next (s.serveWrite q key ty b extra eff)) := keepsPending_serveWriteWith heff fun _ _ => rfl

theorem keepsPending_serveStore (q : Req) (key group : Nat) (b : Bytes) (ty : Nat) :
    KeepsPendingIfNext s (.next (s.serveStore q key group b ty)) := by
  refine keepsPending_serve 4 _ true fun t lvl => ?_
  dsimp only
  split
  · split <;> rw [State.askStore_pending, State.slice_pending]
  · rfl

end

theorem execOpen_keepsPending (q : Req) (level len : Nat) (code : Bytes) (s : State) :
    KeepsPendingIfNext s (execOpen q level len code s) := by
  change KeepsPendingIfNext s (exec (.open_ q level len code) s)
  rw [exec_open, keepsPendingIfNext_next]
  split
  next => exact (State.openAnswered_pending _ q level len code).trans (s.serveFormless_pending 4)
  next => exact s.serveFormless_pending 4

theorem execClose_keepsPending (q : Req) (extra : Bytes) (s : State) : KeepsPendingIfNext s (execClose q extra s) := by
  refine keepsPending_serve 2 extra _ fun t _ => ?_
  dsimp only
  split <;> rfl

theorem execRecWindow_keepsPending (q : Req) (offset maxLen : Nat) (s : State) :
    KeepsPendingIfNext s (execRecWindow q offset maxLen s) := by
  refine keepsPending_serve 3 _ true fun t _ => ?_
  dsimp only
  split <;> rfl

theorem execRead_keepsPending (q : Req) (ix sub offset maxLen : Nat) (s : State) :
    KeepsPendingIfNext s (execRead q ix sub offset maxLen s) := by
  unfold execRead
  dsimp only
  split
  · exact execRecWindow_keepsPending q offset maxLen s
  split
  · exact keepsPending_serve 3 _ true fun t _ => congrArg State.pending (t.oemReply_s q false)
  · exact keepsPending_serve 3 _ true (body := fun t _ => t.readAnswer q ix sub offset maxLen) fun t _ =>
      congrArg State.pending (t.readAnswer_s q ix sub offset maxLen)

theorem execWrite_keepsPending (q : Req) (ix sub ty len : Nat) (b : Bytes) (s : State) :
    KeepsPendingIfNext s (execWrite q ix sub ty len b s) := by
  unfold execWrite
  dsimp only
  split
  · exact keepsPending_serve 4 _ false fun _ _ => rfl
  split
  · exact keepsPending_serve 4 _ true fun t _ => congrArg State.pending (t.oemReply_s q true)
  split
  · exact keepsPending_serveStore q _ 0 b ty
  split
  · exact keepsPending_serveStore q _ (ofLe b) b ty
  split
  · exact keepsPending_serveWrite fun t => t.storeDefaults_pending _
  · exact keepsPending_serveWriteWith (fun t => t.applyWrite_pending _ _ _) fun t st => t.writeRefused_pending _ b st

theorem execModeWrite_keepsPending (q : Req) (key v : Nat) (s : State) : KeepsPendingIfNext s (execModeWrite q key v s) := by
  unfold execModeWrite
  split
  · exact keepsPending_serveWrite fun _ => rfl
  · simp

/-- Every command that carries a request is served, or waits. -/
theorem exec_request_keepsPending {i : Instr} {q : Req} (h : i.request? = some q) (s : State) :
    KeepsPendingIfNext s (exec i s) := by
  cases i
  case open_ q level len code => exact execOpen_keepsPending q level len code s
  case close_ q extra => exact execClose_keepsPending q extra s
  case read q index sub offset maxLen => exact execRead_keepsPending q index sub offset maxLen s
  case write q index sub type_ len value => exact execWrite_keepsPending q index sub type_ len value s
  case keepalive q extra => exact keepsPending_serve 5 extra _ fun _ _ => rfl
  case storeAll q => exact keepsPending_serveStore q Obj.STORE_ALL 0 (u16 1) 3
  case storeGroup q group => exact keepsPending_serveStore q Obj.STORE_GROUP group (u8 group) 2
  case modeWrite q key value => exact execModeWrite_keepsPending q key value s
  case crbEnable => exact keepsPending_serveWriteWith (by simp) fun t st => by cases st <;> simp
  case unitEnable => exact keepsPending_serveWriteWith (by simp) fun t st => by (repeat' split) <;> rfl
  case tplBuild => exact keepsPending_serveWriteWith (fun t => by split <;> simp) fun t st => by cases st <;> simp
  case canEnable => exact keepsPending_serveWriteWith (by simp) fun t st => by simp
  case recWindow q offset maxLen => exact execRecWindow_keepsPending q offset maxLen s
  case updWafer => exact keepsPending_serveWriteWith (by simp) fun t st => by simp
  case tickEngineRestart | sessCloseAll | storeDefaults | crbDisable | crbClear | ysSeal | ysSetMark | unitDisable |
      unitReset | templateRemove | tgtBaseWrite | supLockWrite | supEnableOff | supAdopt | uiModeWrite | uiCountSet |
      ssRearm | chRearm | bankRearm | chOlLearn | vdRetrigger | vdRearm | hgRearm | gnssEnable | portEnable | strEnable |
      strDisable | shCommit | canDisable | canRecover | pairSwapNow | pairRxTest | domRetAck | recClearCirc |
      recClearKept | updActivate | updActivateRemove | updCancel | updConfirm | updReject | updKeyClear | rstCommand |
      credentialWrite | expRequest | recAppEvent | updKeyWrite =>
    exact keepsPending_serveWrite (by simp)
  all_goals exact absurd h nofun

/-! The tick and the start -/

@[simp] theorem State.endTick_pending (s : State) : s.endTick.pending = s.pending := by
  unfold State.endTick
  dsimp only
  rw [State.writeRecords_pending, State.enqueueAll_pending, State.endPhases_pending, State.countSent_pending,
    State.segmentAnswers_pending, State.sendMirror_pending, State.serveFormless_pending, State.countParked_pending,
    State.vdEnd_pending, State.swEnd_pending, State.publishSlots_pending, State.evalAssemblies_pending]
  split
  · rw [State.sampleTail_pending, State.sampleLedger_pending]
  · exact s.replayAll_pending

theorem execTickBoundary_keepsPending (inp : TickIn) (s : State) : KeepsPendingIfNext s (execTickBoundary inp s) := by
  unfold execTickBoundary
  dsimp only
  (repeat' split) <;> simp

theorem execResetEntry_keepsPending (s : State) : KeepsPendingIfNext s (execResetEntry s) := by
  unfold execResetEntry
  split <;> simp

theorem execResetRelease_keepsPending (inp : StartIn) (s : State) : KeepsPendingIfNext s (execResetRelease inp s) := by
  unfold execResetRelease
  split
  next =>
    have begun : (s.releaseBegin inp).updateStart.1.pending = s.pending := by simp
    generalize (s.releaseBegin inp).updateStart = started at begun
    obtain ⟨u, go⟩ := started
    dsimp only at begun ⊢
    split
    · split
      next => simp [begun]
      next v image => simp [u.imageCheck_keepsPending _ _ v image, begun]
    · simp [begun]
  next => simp

/-- Every command, in the order in which `exec` dispatches them. -/
theorem exec_keepsPending (i : Instr) (s : State) : KeepsPendingIfNext s (exec i s) :=
  match i with
  | .tickBoundary inp => execTickBoundary_keepsPending inp s
  | .captureLate inputs => execCaptureLate_keepsPending inputs s
  | .computeDeadline done => execComputeDeadline_keepsPending done s
  | .unitOverrunFault unit => execUnitOverrunFault_keepsPending unit s
  | .engineOverrunFault eng => execEngineOverrunFault_keepsPending eng s
  | .supervisorDeadlineFault offset => execSupervisorDeadlineFault_keepsPending offset s
  | .appWriteStall w => execAppWriteStall_keepsPending w s
  | .stalledWriteLand => execStalledWriteLand_keepsPending s
  | .appWriteBlocked core offset => execAppWriteBlocked_keepsPending core offset s
  | .engineRestartStart eng => execEngineRestartStart_keepsPending eng s
  | .timeSteeringRun => execTimeSteeringRun_keepsPending s
  | .lockCountComplete => execLockCountComplete_keepsPending s
  | .holdoverTimeout => execHoldoverTimeout_keepsPending s
  | .holdoverEnd => execHoldoverEnd_keepsPending s
  | .stepWindowClose => execStepWindowClose_keepsPending s
  | .gptpSync port sub => execGptpSync_keepsPending port sub s
  | .gptpAnnounce port => execGptpAnnounce_keepsPending port s
  | .gptpForeignRx port => execGptpForeignRx_keepsPending port s
  | .gptpConfigApply => execGptpConfigApply_keepsPending s
  | .mdpMessageRx m => execMdpMessageRx_keepsPending m s
  | .mdpSegmentRx ctrl ident fd data => execMdpSegmentRx_keepsPending ctrl ident fd data s
  | .mdpSegTimeout client => execMdpSegTimeout_keepsPending client s
  | .sessionTimeout num => execSessionTimeout_keepsPending num s
  | .credentialLockout => execCredentialLockout_keepsPending s
  | .lockoutEnd => execLockoutEnd_keepsPending s
  | .mdpTransportApply => execMdpTransportApply_keepsPending s
  | .storeComplete bad => execStoreComplete_keepsPending bad s
  | .storeDeferredBegin => execStoreDeferredBegin_keepsPending s
  | .assistedFallback key => execAssistedFallback_keepsPending key s
  | .assistedFault key => execAssistedFault_keepsPending key s
  | .ledgerRun fails => execLedgerRun_keepsPending fails s
  | .checkpointComplete => execCheckpointComplete_keepsPending s
  | .crbReducedEnd => execCrbReducedEnd_keepsPending s
  | .slotRun n us => execSlotRun_keepsPending n us s
  | .ffTermDrop n term => execFfTermDrop_keepsPending n term s
  | .pvTimeoutFault n => execPvTimeoutFault_keepsPending n s
  | .supervisorStep => execSupervisorStep_keepsPending s
  | .windowVoid => execWindowVoid_keepsPending s
  | .settleEnd => execSettleEnd_keepsPending s
  | .restEnd => execRestEnd_keepsPending s
  | .impactStart n us samples last => execImpactStart_keepsPending n us samples last s
  | .impactEnd n us samples last => execImpactEnd_keepsPending n us samples last s
  | .impactMaxLen n us samples => execImpactMaxLen_keepsPending n us samples s
  | .lsDetectorRestart n => execLsDetectorRestart_keepsPending n s
  | .uiSettleEnd n => execUiSettleEnd_keepsPending n s
  | .shuntDisconnect n => execShuntDisconnect_keepsPending n s
  | .shuntReconnect n => execShuntReconnect_keepsPending n s
  | .uiDebounceChange n => execUiDebounceChange_keepsPending n s
  | .ssLimitTrip n => execSsLimitTrip_keepsPending n s
  | .ssRetry n => execSsRetry_keepsPending n s
  | .currentLimitTurnoff n us => execCurrentLimitTurnoff_keepsPending n us s
  | .thermalLatchSet n temp => execThermalLatchSet_keepsPending n temp s
  | .thermalLatchClear n temp => execThermalLatchClear_keepsPending n temp s
  | .channelRestart n => execChannelRestart_keepsPending n s
  | .retryRestore n => execRetryRestore_keepsPending n s
  | .assistedFuseTrip b => execAssistedFuseTrip_keepsPending b s
  | .pwmPeriodStart n => execPwmPeriodStart_keepsPending n s
  | .switchOffEdge n current ton => execSwitchOffEdge_keepsPending n current ton s
  | .olLearnComplete n => execOlLearnComplete_keepsPending n s
  | .bankUndervoltage b => execBankUndervoltage_keepsPending b s
  | .channelRestore b n => execChannelRestore_keepsPending b n s
  | .dipShed => execDipShed_keepsPending s
  | .valveEvent n => execValveEvent_keepsPending n s
  | .boostEnd n us current => execBoostEnd_keepsPending n us current s
  | .peakEnd n us => execPeakEnd_keepsPending n us s
  | .transitionEnd n us current => execTransitionEnd_keepsPending n us current s
  | .injectorEventEnd n us => execInjectorEventEnd_keepsPending n us s
  | .switchOffComplete n current => execSwitchOffComplete_keepsPending n current s
  | .pairMinOffEnd n us => execPairMinOffEnd_keepsPending n us s
  | .stageOvercurrent n current => execStageOvercurrent_keepsPending n current s
  | .groupOvercurrent g us => execGroupOvercurrent_keepsPending g us s
  | .lowPinCheck n => execLowPinCheck_keepsPending n s
  | .holdOpenCoil n => execHoldOpenCoil_keepsPending n s
  | .boostStartFail => execBoostStartFail_keepsPending s
  | .boostRetry => execBoostRetry_keepsPending s
  | .antShort a => execAntShort_keepsPending a s
  | .antRetry a => execAntRetry_keepsPending a s
  | .antOpen a => execAntOpen_keepsPending a s
  | .measurementEpoch meas unserved => execMeasurementEpoch_keepsPending meas unserved s
  | .navRecordWrite u => execNavRecordWrite_keepsPending u s
  | .positionSolutionRun est => execPositionSolutionRun_keepsPending est s
  | .integrityClear => execIntegrityClear_keepsPending s
  | .tpulse => execTpulse_keepsPending s
  | .timeMessage => execTimeMessage_keepsPending s
  | .signalMaskApply => execSignalMaskApply_keepsPending s
  | .posRateApply => execPosRateApply_keepsPending s
  | .portTrained p => execPortTrained_keepsPending p s
  | .linkDrop p ns => execLinkDrop_keepsPending p ns s
  | .portRetry p => execPortRetry_keepsPending p s
  | .frameStart n ns number acks => execFrameStart_keepsPending n ns number acks s
  | .linePacket n l => execLinePacket_keepsPending n l s
  | .frameEnd n ns => execFrameEnd_keepsPending n ns s
  | .frameTimeout n => execFrameTimeout_keepsPending n s
  | .commitComplete n => execCommitComplete_keepsPending n s
  | .focusRun n => execFocusRun_keepsPending n s
  | .canBusJoin c => execCanBusJoin_keepsPending c s
  | .canFrameRx c f sof dram => execCanFrameRx_keepsPending c f sof dram s
  | .txLoad c b => execTxLoad_keepsPending c b s
  | .txCancel c b => execTxCancel_keepsPending c b s
  | .arbitration c => execArbitration_keepsPending c s
  | .txAttemptFail c err => execTxAttemptFail_keepsPending c err s
  | .canFrameSent c sof delay => execCanFrameSent_keepsPending c sof delay s
  | .busOff c => execBusOff_keepsPending c s
  | .busOffRecoveryEnd c => execBusOffRecoveryEnd_keepsPending c s
  | .heartbeat => execHeartbeat_keepsPending s
  | .addressClaimStart => execAddressClaimStart_keepsPending s
  | .competingClaimRx addr name => execCompetingClaimRx_keepsPending addr name s
  | .claimRequestRx => execClaimRequestRx_keepsPending s
  | .addressHeld => execAddressHeld_keepsPending s
  | .isoSendSlot n data => execIsoSendSlot_keepsPending n data s
  | .tpRx f time => execTpRx_keepsPending f time s
  | .dm1Send => execDm1Send_keepsPending s
  | .ethFrameRx p fcsOk data => execEthFrameRx_keepsPending p fcsOk data s
  | .ethConfigApply => execEthConfigApply_keepsPending s
  | .pairJoinTimeout => execPairJoinTimeout_keepsPending s
  | .leaseWordSend => execLeaseWordSend_keepsPending s
  | .leaseWordRx receiver word => execLeaseWordRx_keepsPending receiver word s
  | .leaseFrameSend => execLeaseFrameSend_keepsPending s
  | .leaseFrameRx ctrl ident data => execLeaseFrameRx_keepsPending ctrl ident data s
  | .pairHoldBegin => execPairHoldBegin_keepsPending s
  | .takeover => execTakeover_keepsPending s
  | .pairHoldEnd => execPairHoldEnd_keepsPending s
  | .mirrorComplete m align => execMirrorComplete_keepsPending m align s
  | .mirrorLate => execMirrorLate_keepsPending s
  | .refillComplete r checkOk => execRefillComplete_keepsPending r checkOk s
  | .plannedRelease => execPlannedRelease_keepsPending s
  | .periodicSwap => execPeriodicSwap_keepsPending s
  | .swapOverdue => execSwapOverdue_keepsPending s
  | .healthSwap => execHealthSwap_keepsPending s
  | .partnerAbsent => execPartnerAbsent_keepsPending s
  | .pairPathFault path => execPairPathFault_keepsPending path s
  | .pairPathFaultClear path => execPairPathFaultClear_keepsPending path s
  | .twoActives serial => execTwoActives_keepsPending serial s
  | .rxTestEnd => execRxTestEnd_keepsPending s
  | .timeDisagreement => execTimeDisagreement_keepsPending s
  | .domainTransitionBegin d => execDomainTransitionBegin_keepsPending d s
  | .domainTransitionEnd d us lost => execDomainTransitionEnd_keepsPending d us lost s
  | .accessWake client d => execAccessWake_keepsPending client d s
  | .accessVoteExpiry client d => execAccessVoteExpiry_keepsPending client d s
  | .wakeChange level => execWakeChange_keepsPending level s
  | .wakeHoldExpiry => execWakeHoldExpiry_keepsPending s
  | .dipBegin => execDipBegin_keepsPending s
  | .dipShedding => execDipShedding_keepsPending s
  | .dipEnd => execDipEnd_keepsPending s
  | .supplyReset mv reached => execSupplyReset_keepsPending mv reached s
  | .feedLow feed => execFeedLow_keepsPending feed s
  | .floodWindowEnd src code => execFloodWindowEnd_keepsPending src code s
  | .timeMark => execTimeMark_keepsPending s
  | .startupPhaseEnd => execStartupPhaseEnd_keepsPending s
  | .recoveryPhaseEnd => execRecoveryPhaseEnd_keepsPending s
  | .verification fwSigOk readback => execVerification_keepsPending fwSigOk readback s
  | .verificationComplete => execVerificationComplete_keepsPending s
  | .activationInterlock => execActivationInterlock_keepsPending s
  | .autoConfirm => execAutoConfirm_keepsPending s
  | .proofSecond => execProofSecond_keepsPending s
  | .powerLoss => execPowerLoss_keepsPending s
  | .supervisorMismatch addr => execSupervisorMismatch_keepsPending addr s
  | .watchdogExpiry => execWatchdogExpiry_keepsPending s
  | .memoryError addr => execMemoryError_keepsPending addr s
  | .resetEntry => execResetEntry_keepsPending s
  | .resetRelease inp => execResetRelease_keepsPending inp s
  | .firstTick ms inp => execFirstTick_keepsPending ms inp s
  | .ethLinkLoss p => execEthLinkLoss_keepsPending p s
  | .ethLinkUp p sqi => execEthLinkUp_keepsPending p sqi s
  | .canBusError c lec eight => execCanBusError_keepsPending c lec eight s
  | .isoTpTimeout send n => execIsoTpTimeout_keepsPending send n s
  | .tickEngineRestart _ _ | .open_ _ _ _ _ | .close_ _ _ | .read _ _ _ _ _ | .write _ _ _ _ _ _ | .keepalive _ _
  | .credentialWrite _ _ _ | .sessCloseAll _ | .storeAll _ | .storeGroup _ _ | .storeDefaults _ | .modeWrite _ _ _
  | .crbEnable _ | .crbDisable _ _ | .crbClear _ _ | .ysSeal _ _ | .ysSetMark _ _ | .unitEnable _ _ | .unitDisable _ _
  | .unitReset _ _ | .tplBuild _ | .templateRemove _ _ | .tgtBaseWrite _ _ _ | .supLockWrite _ _ | .supEnableOff _
  | .supAdopt _ | .uiModeWrite _ _ _ | .uiCountSet _ _ _ | .ssRearm _ _ | .chRearm _ _ | .bankRearm _ _ | .chOlLearn _ _
  | .vdRetrigger _ _ | .vdRearm _ _ | .hgRearm _ _ | .gnssEnable _ | .portEnable _ _ | .strEnable _ _ | .strDisable _ _
  | .shCommit _ _ | .expRequest _ _ _ | .canEnable _ _ | .canDisable _ _ | .canRecover _ _ | .pairSwapNow _ | .pairRxTest _ _
  | .domRetAck _ _ | .recClearCirc _ | .recClearKept _ | .recAppEvent _ _ | .recWindow _ _ _ | .updWafer _ _
  | .updActivate _ _ | .updActivateRemove _ | .updCancel _ | .updConfirm _ | .updReject _ | .updKeyWrite _ _ _
  | .updKeyClear _ _ | .rstCommand _ => exec_request_keepsPending rfl s

/-! A step -/

theorem step_of_front {c : Instr} {rest : List Instr} {s : State} (hfront : s.pending = c :: rest) :
    step s = exec c { s with pending := rest } := by rw [step, hfront]

theorem step_of_empty {s : State} (hempty : s.pending = []) : step s = .next s := by rw [step, hempty]

/-- Settles O1: a step by whether a command waits. -/
theorem stepRunsTheFrontCommand : Obligations.StepRunsTheFrontCommand := by
  unfold Obligations.StepRunsTheFrontCommand
  exact ⟨fun _ _ _ hfront => step_of_front hfront, fun _ hempty => step_of_empty hempty⟩

/-- Settles O2: the front command leaves the queue, and no command changes what is left of it. -/
theorem everyStepKeepsTheRestOfTheQueue : Obligations.EveryStepKeepsTheRestOfTheQueue := by
  unfold Obligations.EveryStepKeepsTheRestOfTheQueue
  intro s t hstep
  cases hqueue : s.pending with
  | nil =>
    rw [step_of_empty hqueue] at hstep
    rw [← Host.Outcome.next.inj hstep, hqueue, List.tail_nil]
  | cons c rest =>
    rw [step_of_front hqueue] at hstep
    rw [exec_keepsPending c { s with pending := rest } t hstep, List.tail_cons]

end Sys2Proof.Machine
end
